-- ==== Sys2Proof/Word.lean ====
section
/-! DEFINITION. The word types of the PX410 (spec/00 Bits, registers and signals; R5): words of 32 bits, bytes, and angles,
which are 32-bit values that wrap modulo one turn. -/

namespace Sys2Proof

/-- A 32-bit word: a register, a bus beat. -/
abbrev Word := BitVec 32

/-- A byte. -/
abbrev Byte := BitVec 8

/-- An angle in bearing units: one turn is 2^32 (R5). -/
abbrev Ang := BitVec 32

end Sys2Proof
end

