-- ==== Sys2Proof/Syntax.lean ====
section
/-! DEFINITION. The commands of the PX410 block: one constructor per row of the spec's table of operations and events
(opcode_table.json; spec/95). The table gives its rows no bits and no fields, so a constructor's operands are what the rule of
the row says the step depends on beyond the state: the master and the value of an access, the unit an event happens to, and
what comes in from outside the chip (a frame, a sample, a pin level). The rows with operands stand first, each group in the table's
order. -/

namespace Sys2Proof

/-- Who makes an access: the master's identity (R50, R290) and its context number (0xFF where it has none, R290). -/
structure Who where
  master : BitVec 8
  ctx : BitVec 8
  deriving DecidableEq, Repr


/-- What reaches the modulator side of a conversion channel (R100 to R104). -/
inductive Stream where
  /-- the modulator bits of an output's filter window and of the 63 clocks before it, the oldest in bit 0 -/
  | bits (b : Nat)
  /-- the changes of an SDD pin, oldest first: the tick of each, and the level from it on -/
  | line (edges : List (Nat × Bool))
  /-- the voltage of an AIN pin against VREFN over the filter window, in microvolts -/
  | pin (uV : Nat)
  deriving DecidableEq, Repr

/-- A level at an input pin, and for how many ticks the pin has stood at it. -/
structure PinLevel where
  level : Bool
  held : Nat
  deriving DecidableEq, Repr

/-- Transitions have resumed on a conversion channel: whether STUCK returns to 0, and whether CLKLOSS does (R105). -/
structure Resumed where
  ch : Fin 18
  stuck : Bool
  clk : Bool
  deriving DecidableEq, Repr

/-- One command or event of the table of operations and events. -/
inductive Instr where
  /-- REGISTER_WRITE (R33): A master's write to a register that has no row of its own is judged, stored field by field or refused, and counted in PG_SEQ if accepted. -/
  | registerWrite (who : Who) (addr : Nat) (val : Word)
  /-- PAGE_ENABLE (R42): A write to PG_CTRL.EN starts or stops the block's units, subject to ARMED refusals. -/
  | pageEnable (who : Who) (page : Fin 64) (val : Word)
  /-- SOFT_RESET (R43): A write of 1 to PG_CTRL.SRST resets the block's logic and registers, or is refused where the page forbids it. -/
  | softReset (who : Who) (page : Fin 64) (val : Word)
  /-- SOFT_RESET_DONE (R43): The soft reset completes within 64 ticks, BUSY clears and block registers are served again. -/
  | softResetDone (page : Fin 64)
  /-- UNIT_QUARANTINE (R47): A write of 1 to a unit's QUAR field places an enabled unit in quarantine or restarts its test. -/
  | unitQuarantine (who : Who) (page : Fin 64) (unit : Nat) (val : Word)
  /-- PAGE_QUARANTINE (R47): A write of 1 to PG_CTRL.QUAR places every enabled unit of the page in quarantine. -/
  | pageQuarantine (who : Who) (page : Fin 64) (val : Word)
  /-- HOST_CLEAR (R50): A write of 0 to a unit's QUAR or to PG_CTRL bit 2 ends quarantine and writes a host-clear record. -/
  | hostClear (who : Who) (page : Fin 64) (unit : Option Nat) (val : Word)
  /-- EVENT_SET (R46): A write to PG_EVT_SET acts as an occurrence of the event for notification without changing block state. -/
  | eventSet (who : Who) (page : Fin 64) (val : Word)
  /-- QUALIFICATION_WINDOW_END (R49): A unit's qualification window ends without a pass, QFAIL increments and the test restarts or a fault is raised. -/
  | qualificationWindowEnd (page : Fin 64) (unit : Nat)
  /-- WAYPOINT_FIRE (R77): An armed waypoint fires in the tick the bearing crosses its angle forward. -/
  | waypointFire (n : Fin 64)
  /-- CHT_WP_ANGLE_WRITE (R80): A write to an armed waypoint's angle judges it at once for a late firing. -/
  | chtWpAngleWrite (who : Who) (n : Fin 64) (val : Word)
  /-- CHT_WP_REP_WRITE (R80): A write that arms a waypoint judges it at once for a late firing. -/
  | chtWpRepWrite (who : Who) (n : Fin 64) (val : Word)
  /-- CNTCLR (R97): A write of 1 to CHT_CFG.CNTCLR clears the late and skip counters. -/
  | cntclr (who : Who) (val : Word)
  /-- LEAD_FRAME_SEND (R87): The lead sends its frame in the lead slot at 2.8125°. -/
  | leadFrameSend (other : Option (Fin 8))
  /-- LEAD_FRAME_RECEIVE (R87): A follower receives a lead frame, checks its CRC and takes rate, shares, ping and delay. -/
  | leadFrameReceive (bytes : List Byte)
  /-- FOLLOWER_FRAME_RECEIVE (R87): A unit receives a follower frame and updates its per-rank view. -/
  | followerFrameReceive (bytes : List Byte)
  /-- ECHO_RECEIVE (R88): The lead measures the echo's falling edge and computes the one-way delay. -/
  | echoReceive (m : Nat)
  /-- ADC_C_OUTPUT (R106): A channel's C-path delivers an output, which is written, tapped and judged as step sample or fix. -/
  | adcCOutput (ch : Fin 18) (x : Stream)
  /-- ADC_M_SAMPLE (R111): The M-path resampler produces sample k of the cycle at its fixed bearing angle. The ones-density of the
  band-limited input there is `whole` and `part` / 2^40. -/
  | adcMSample (ch : Fin 18) (whole : Int) (part : Fin 1099511627776)
  /-- ADC_SWTRIG (R107): A write of 1 to ADCx_TRIG[g].SWTRIG triggers group g on both pages. -/
  | adcSwtrig (who : Who) (isolated : Bool) (g : Fin 4) (val : Word)
  /-- ADC_RESULT_READ (R113): A served read of a result register by its designated consumer clears NEW. -/
  | adcResultRead (who : Who) (addr : Nat)
  /-- ADC_STUCK (R105): 64 modulator clocks without a transition set STUCK and mark results UNS. -/
  | adcStuck (ch : Fin 18)
  /-- ADC_CLKLOSS (R105): No valid Manchester mid-bit transition for 4 bit periods sets CLKLOSS. -/
  | adcClkloss (ch : Fin 18)
  /-- ADC_STUCK_CLEAR (R105): Transitions resume, STUCK and CLKLOSS return to 0 and the channel enters quarantine. -/
  | adcStuckClear (r : Resumed)
  /-- ADC_CH_CTRL_WRITE (R116): A write to ADCx_CH_CTRL enables a channel or changes its ratios, placing it in settling or quarantine. -/
  | adcChCtrlWrite (who : Who) (ch : Fin 18) (val : Word)
  /-- ADCX_CLK_CFG_WRITE (R116): A change of SDCK rate or delay applies at a low clock phase and quarantines running channels. -/
  | adcxClkCfgWrite (who : Who) (val : Word)
  /-- CTL_SWTRIG (R124): A write of 1 to CTL_CFG.SWTRIG triggers a step input. -/
  | ctlSwtrig (who : Who) (input : Fin 4) (val : Word)
  /-- CTL_BEARTUNE_SET (R133): A write setting BEARTUNE takes the slot's words into engine ownership and starts a retune. -/
  | ctlBeartuneSet (who : Who) (slot : Fin 32) (val : Word)
  /-- CTL_SCLR (R131): A write of 1 to SCLR sets the slot's states to 0 between steps. -/
  | ctlSclr (who : Who) (slot : Fin 32) (val : Word)
  /-- CTL_LATMAX_CLR (R144): A write of 1 to CTL_LATMAX.CLR sets MAX to 0. -/
  | ctlLatmaxClr (who : Who) (val : Word)
  /-- SUBST_END (R163): A write of 1 to a SUBST bit ends substitution and returns the channel to LEARN. -/
  | substEnd (who : Who) (channels : BitVec 8)
  /-- FIXLOST_RELEASE (R152): A write of 1 to a FIXLOST bit releases the channel's hold. -/
  | fixlostRelease (who : Who) (channels : BitVec 8)
  /-- SPEC_TRIP_CLEAR (R164): A write of 1 to SPEC_SUBST.TRIP clears TRIP and TRIPCAUSE. -/
  | specTripClear (who : Who)
  /-- SPEC_BAND_WRITE (R148): A write to SPEC_BAND changes the band, or on a ROLE or SRC change returns the channel to LEARN with c = 0. -/
  | specBandWrite (who : Who) (n : Fin 8) (val : Word)
  /-- MODE_REQ_WRITE (R172): A write to MODE_REQ stores the requested mode or starts a switch. -/
  | modeReqWrite (who : Who) (val : Word)
  /-- PWM_COMPARE_EDGE (R197): A counter passes a leg's active compare and the leg command changes. -/
  | pwmCompareEdge (leg : Fin 7)
  /-- PWM_LOAD_ALL (R203): A LOAD_ALL strobe copies shadows to actives at once or sets a pending boundary load. -/
  | pwmLoadAll (who : Who)
  /-- LATE_EDGE_FIRE (R207): A late edge moved by MIN_PULSE fires at its delayed time and is counted. -/
  | lateEdgeFire (leg : Fin 7)
  /-- REFRESH_END (R209): A refresh ends, the command returns to 1 and any waiting load completes for that leg. -/
  | refreshEnd (leg : Fin 7)
  /-- PWM_CFG_WRITE (R205): A PWM_CFG write stores its fields, keeping the OWNER and enable fields locked while ARMED. -/
  | pwmCfgWrite (who : Who) (val : Word)
  /-- FAULT_INPUT (R220): A filtered FLT edge attributes the fault, latches the blamed switch, logs and starts the hold timer.
  The pin has stood at its level for `held` ticks: the filter takes it from FILT + 2 on (R219). -/
  | faultInput (input : Fin 6) (pin : PinLevel)
  /-- FAULT_HOLD_EXPIRY (R222): An input's hold timer expires and its GD_FPOL policy is applied. -/
  | faultHoldExpiry (input : Fin 6)
  /-- SWSD (R224): A write of 1 to GD_CFG.SWSD starts a bridge shutdown with cause 3. -/
  | swsd (who : Who) (val : Word)
  /-- ESTOP (R226): ESTOP_N low sets the ESTOP latch and forces every gate and relay pin off. -/
  | estop (low : Bool)
  /-- ESTOPCLR (R226): A write of 1 to ESTOPCLR clears the ESTOP latch while ESTOP_N reads high. -/
  | estopclr (who : Who) (val : Word)
  /-- RELEASE (R227): A write of 1 to RELEASE clears a leg's latches and, while ARMED, starts re-admission. -/
  | release (who : Who) (leg : Fin 7) (val : Word)
  /-- DEAD_TIME_END (R214): A dead time expires and the opposite switch turns on if the command still calls for it. -/
  | deadTimeEnd (leg : Fin 7)
  /-- GMIN_END (R216): A gate's minimum on-time ends and a delayed turn-off is applied. -/
  | gminEnd (leg : Fin 7)
  /-- ELC_INPUT (R217): A filtered ELC pin level changes a leg command under OWNER = ELC. The pin has stood
  at its level for `held` ticks: it is taken from FILT + 3 on. -/
  | elcInput (leg : Fin 3) (pin : PinLevel)
  /-- CMP_OCCURRENCE (R237): A comparator's synchronised output edge pulses its event, sets PG_EVT and captures. -/
  | cmpOccurrence (n : Fin 16) (uV : Nat)
  /-- FAST_LANE_ASSERT (R246): A comparator output drives a fast-lane destination D0–D7 combinationally. -/
  | fastLaneAssert (n : Fin 16) (uV : Nat)
  /-- CMP_QUALIFY (R241): A comparator's output has been quiet for T_Q since entry and it leaves settling or quarantine. -/
  | cmpQualify (n : Fin 16)
  /-- CMP_CTRL_WRITE (R241): A CMP_CTRL write changing MODE, INSEL, HYST or WIN quarantines the comparator. -/
  | cmpCtrlWrite (who : Who) (n : Fin 16) (val : Word)
  /-- ROUTER_OUTPUT_PULSE_END (R248): A pulse-mode router output returns to 0 after 64 ticks. -/
  | routerOutputPulseEnd (out : Fin 4)
  /-- EVR_SWEVT (R249): A write of 1 to EVR_SWEVT pulses EV60–EV63. -/
  | evrSwevt (who : Who) (val : Word)
  /-- PROFILE_LOAD (R255): A write of 1 to PROT_PROFILE.LOAD copies the active profile into the registers with logging. -/
  | profileLoad (who : Who) (val : Word)
  /-- SAFETY_WRITE (R283): A write to a safety-group register is accepted and logged or refused with LOCKED. -/
  | safetyWrite (who : Who) (addr : Nat) (val : Word)
  /-- UNLOCK (R287): A write of 1 to SAFE_UNLOCK.UNLOCK compares the key and opens the window or counts a failure. -/
  | unlock (who : Who)
  /-- LOCK (R288): A write of 1 to SAFE_UNLOCK.LOCK closes the unlock window. -/
  | lock (who : Who)
  /-- NEWKEY (R289): A write of 1 to NEWKEY with the window open programs a new key record. -/
  | newkey (who : Who)
  /-- SEAL_SAMPLE (R284): D0 AON samples the seal ladders once a second and compares with the latched code. -/
  | sealSample (ra rb : Nat)
  /-- RLY_FB_SAMPLE (R293): Every 100 µs RLY samples each feedback pin and establishes levels. -/
  | rlyFbSample (l1 l2 : Fin 3)
  /-- CLOSE (R296): A write of 1 to RLY_CTRL.CLOSE starts the close sequence or is refused. -/
  | closeRelays (who : Who)
  /-- OPEN (R298): A write of 1 to RLY_CTRL.OPEN opens both relays and cancels any sequence. -/
  | openRelays (who : Who)
  /-- WELDTEST (R299): A write of 1 to RLY_CTRL.WELDTEST starts the weld test. -/
  | weldtest (who : Who)
  /-- HSW_ENABLE (R305): HSW_CTRL.EN going from 0 to 1 starts a channel in PRECHECK. -/
  | hswEnable (who : Who) (n : Fin 2) (val : Word)
  /-- HSW_SAMPLE (R304): Every 10 µs a channel samples VSENSE and VGATE and advances its state. -/
  | hswSample (n : Fin 2) (vsense vgate : Nat)
  /-- HSW_GATE_TIMEOUT (R307): The gate has not passed 4.5 V by T_GATE and GATE_FAIL latches. -/
  | hswGateTimeout (n : Fin 2)
  /-- HSW_LIMIT_CHANGE (R308): The limit loop engages or releases and the fault timer starts or clears. -/
  | hswLimitChange (n : Fin 2) (on : Bool)
  /-- HSW_FAULT_TIMER (R308): The fault timer reaches T_FLT and OCTIMER turns the gate off. -/
  | hswFaultTimer (n : Fin 2)
  /-- HSW_SHORT (R308): Shunt voltage at 2 × V_ILIM for 1 µs sets SHORT and pulls the gate off. -/
  | hswShort (n : Fin 2)
  /-- HSW_RETRY (R311): TRETRY expires and the channel restarts from PRECHECK. -/
  | hswRetry (n : Fin 2)
  /-- HSW_ATTEMPTS_CLEAR (R311): PG held for 10 s returns ATTEMPTS to 0. -/
  | hswAttemptsClear (n : Fin 2)
  /-- HSW_QUALIFY (R312): PG held for QTIME ends the channel's quarantine. -/
  | hswQualify (n : Fin 2)
  /-- ECLR (R321): A write of 1 to MET_CFG.ECLR clears every accumulator and logs 0x1C02. -/
  | eclr (who : Who) (val : Word)
  /-- UART_TRANSACTION_START (R335): A UART sends a request after the idle gap, driving DE. -/
  | uartTransactionStart (uart : Fin 2)
  /-- UART_RESPONSE (R337): A complete response is received and checked. -/
  | uartResponse (uart : Fin 2) (bytes : List Byte) (delay : Nat) (bad : Bool)
  /-- UART_RESPONSE_TIMEOUT (R337): No complete response by RESPTMO and the transaction fails or repeats. -/
  | uartResponseTimeout (uart : Fin 2)
  /-- TENANT_SLOT_WRITE (R340): A W0 write changing ADDR or PROTO clears the slot's ledger fields. -/
  | tenantSlotWrite (who : Who) (slot : Fin 256) (val : Word)
  /-- GO (R358): A write of 1 to DMA_CH_CTRL.GO starts a channel at START. -/
  | go (who : Who) (ch : Fin 16) (val : Word)
  /-- CONT (R358): A write of 1 to CONT resumes a channel at its present PC. -/
  | cont (who : Who) (ch : Fin 16) (val : Word)
  /-- STOP (R359): A write of 1 to STOP ends a channel after its granted beats. -/
  | stop (who : Who) (ch : Fin 16) (val : Word)
  /-- DMA_STOP_DONE (R359): A stopping channel's last granted beat completes and it enters IDLE. -/
  | dmaStopDone (ch : Fin 16)
  /-- RING (R367): A write of 1 to RING increments the channel's doorbell count. -/
  | ring (who : Who) (ch : Fin 16) (val : Word)
  /-- NOP (R360): NOP executes with no effect. -/
  | nop (ch : Fin 16)
  /-- MOVE_WORD (R364): MOVE WORD copies aligned words with one read and one write beat each. -/
  | moveWord (ch : Fin 16)
  /-- MOVE_ROUND (R364): MOVE ROUND copies bytes with widened reads and masked writes outside the register region. -/
  | moveRound (ch : Fin 16)
  /-- MOVE_FUNNEL (R364): MOVE FUNNEL copies only in-range bytes with narrow head and tail accesses. -/
  | moveFunnel (ch : Fin 16)
  /-- LOOP (R362): LOOP counts passes and jumps to TARGET. -/
  | loop (ch : Fin 16)
  /-- WAIT (R366): WAIT holds the channel for its condition with an optional timeout. -/
  | wait (ch : Fin 16)
  /-- WAIT_PASS (R366): A held WAIT's condition holds and the channel continues. -/
  | waitPass (ch : Fin 16)
  /-- WAIT_TIMEOUT (R368): A WAIT's timeout reaches its limit and the channel jumps or halts. -/
  | waitTimeout (ch : Fin 16)
  /-- SIGNAL_EVENT (R370): SIGNAL EVENT pulses a DMA signal line EV52–EV55. -/
  | signalEvent (ch : Fin 16)
  /-- SIGNAL_IRQ (R370): SIGNAL IRQ writes a source to IRQC_DOORBELL. -/
  | signalIrq (ch : Fin 16)
  /-- SIGNAL_CONTEXT (R370): SIGNAL CONTEXT rings a context's submission doorbell. -/
  | signalContext (ch : Fin 16)
  /-- SIGNAL_CHANNEL (R370): SIGNAL CHANNEL starts or rings another channel. -/
  | signalChannel (ch : Fin 16)
  /-- SETPTR_SET (R363): SETPTR SET loads a pointer with IMM. -/
  | setptrSet (ch : Fin 16)
  /-- SETPTR_ADD (R363): SETPTR ADD adds a signed offset to a pointer. -/
  | setptrAdd (ch : Fin 16)
  /-- SETPTR_LOAD (R363): SETPTR LOAD reads a pointer value from memory. -/
  | setptrLoad (ch : Fin 16)
  /-- SETPTR_COPY (R363): SETPTR COPY sets a pointer from another plus an offset. -/
  | setptrCopy (ch : Fin 16)
  /-- WRITE (R363): WRITE stores VALUE at a pointer in one beat. -/
  | write (ch : Fin 16)
  /-- DMA_END (R363): END raises DONE if set and loops back or enters IDLE. -/
  | dmaEnd (ch : Fin 16)
  /-- DMA_ILLEGAL (R360): An ILLEGAL instruction reaching execution halts the channel. -/
  | dmaIllegal (ch : Fin 16)
  /-- DMA_RESUME (R374): A paused channel's target is on and ready and it issues its withheld beat. -/
  | dmaResume (ch : Fin 16)
  /-- IRQC_DOORBELL (R385): A write to IRQC_DOORBELL sets a MSG source pending or is dropped and counted. -/
  | irqcDoorbell (who : Who) (val : Word)
  /-- IRQC_PEND_SET (R386): A write to IRQC_PEND_SET sets pending bits whatever their sense. -/
  | irqcPendSet (who : Who) (k : Fin 4) (val : Word)
  /-- IRQC_PEND_CLEAR (R387): A W1C write to IRQC_PEND clears pending bits unless a new pulse arrives in that tick. -/
  | irqcPendClear (who : Who) (k : Fin 4) (val : Word)
  /-- SQ_TAIL_DOORBELL (R401): A write to SQ_TAIL is accepted or dropped with a cause. -/
  | sqTailDoorbell (who : Who) (ctx : Fin 256) (val : Word)
  /-- CONTEXT_CONFIG_WRITE (R399): A write to a context's RW* field is accepted only while EN = 0 or in quarantine and resets the ring pointers. -/
  | contextConfigWrite (who : Who) (ctx : Fin 256) (offset : Fin 64) (val : Word)
  /-- CQ_HEAD_WRITE (R402): A write to CQ_HEAD frees completion entries and lets pending completions be written. -/
  | cqHeadWrite (who : Who) (ctx : Fin 256) (val : Word)
  /-- CTX_QUALIFY (R419): A quarantined context with nothing in flight, valid config and drained CQ leaves quarantine. -/
  | ctxQualify (ctx : Fin 256)
  /-- GEN_A_FRAME (R426): A Gen-A SPI frame reads or writes one register word. -/
  | genAFrame (bytes : List Byte) (early : Bool)
  /-- GEN_B_FRAME (R429): A Gen-B SPI frame performs a checked burst read or write and replies. -/
  | genBFrame (bytes : List Byte) (tail : Nat)
  /-- SPI_IGNORED_FRAME (R425): A frame with an unknown or disabled first byte is ignored and counted. -/
  | spiIgnoredFrame (bytes : List Byte)
  /-- SPI_RESERVED_FRAME (R425): A frame with first-byte bits 11 is answered with NAK bytes. -/
  | spiReservedFrame (bytes : List Byte)
  /-- LNK_READ (R440): A received READ packet reads words and queues a reply. -/
  | lnkRead (bytes : List Byte)
  /-- LNK_WRITE (R440): A received WRITE packet writes words and queues a reply. -/
  | lnkWrite (bytes : List Byte)
  /-- LNK_CMD (R440): A received CMD packet writes an SQ entry and rings the context. -/
  | lnkCmd (bytes : List Byte)
  /-- LNK_PING (R439): A received PING is answered and advances training or rate change. -/
  | lnkPing (bytes : List Byte)
  /-- LNK_CREDIT (R438): A received CREDIT packet returns host credits. -/
  | lnkCredit (bytes : List Byte)
  /-- LNK_DOWN (R435): Code errors, alignment loss or disable take the link DOWN and discard pending traffic. -/
  | lnkDown (invalid : Nat) (aligned : Bool)
  /-- SB_ADDRESS_MATCH (R441): The sideband comparator ACKs its address and signals a wake. -/
  | sbAddressMatch (addr : BitVec 7) (read : Bool)
  /-- SB_WRITE (R443): A sideband write transaction sets the pointer and writes map bytes. -/
  | sbWrite (bytes : List Byte)
  /-- SB_READ (R443): A sideband read transaction returns map bytes from the pointer. -/
  | sbRead (n : Nat)
  /-- PWR_STATE_REQ (R451): A write to PWR_STATE_REQ requests a power state, judged and run or refused. -/
  | pwrStateReq (who : Who) (val : Word)
  /-- PWR_DOMAIN_EN (R451): A write to PWR_DOMAIN_EN requests a new RUN mask. -/
  | pwrDomainEn (who : Who) (val : Word)
  /-- DOMAIN_POWER_DOWN (R453): A domain is drained, isolated and cut as part of a transition. -/
  | domainPowerDown (d : Fin 12)
  /-- DOMAIN_READY (R454): A domain's power-up sequence and restore end and its pages become ready. -/
  | domainReady (d : Fin 12)
  /-- WAKE (R457): A counted wake condition starts the wake sequence from a sleep state. -/
  | wake (lnk : Bool)
  /-- POR (R459): VKEEP below 2.00 V holds the device in power-on reset. -/
  | por (low : Bool)
  /-- BOR (R459): VIO or VDDA below 2.75 V holds the device in brownout reset. -/
  | bor (low : Bool)
  /-- NRST (R459): NRST low for 5 µs or more resets the device. -/
  | nrst (low : Bool)
  /-- SWRESET (R459): A write of the key to SYS_SWRESET opens the relays, disarms and schedules a reset. -/
  | swreset (who : Who) (val : Word)
  /-- RESET_RELEASE (R459): All reset causes have been inactive for 32 LPO ticks and the first second starts. -/
  | resetRelease (ra rb : Nat)
  /-- XIN_SELECT (R464): After 32 LPO ticks the XIN frequency is selected or XINFAIL is set. -/
  | xinSelect (hz : Nat)
  /-- MUSTER_END_WRITE (R463): A write to SYS_MUSTER_END sets the window end or ends it at once. -/
  | musterEndWrite (who : Who) (val : Word)
  /-- LPO_CAL_START (R466): A START write or the AUTO interval begins an LPO measurement. -/
  | lpoCalStart (who : Option Who) (val : Word)
  /-- LPO_CAL_DONE (R466): 1,024 LPO ticks are measured and INC is updated. -/
  | lpoCalDone (meas : Nat)
  /-- WDT_KICK (R469): A write of 0x4B1C to SYS_WDT_KICK restarts the watchdog count. -/
  | wdtKick (who : Who) (val : Word)
  /-- TEMP_SAMPLE (R471): Every 1 ms the die temperature is judged against WARN. -/
  | tempSample (raw : Int)
  /-- SUPPLY_WARNING (R471): VIO or VDDA falls below the warning threshold. -/
  | supplyWarning (vio vdda : Nat)
  /-- VKEEP_CHECK (R471): Once per LPO second VKEEP is judged against LOW. -/
  | vkeepCheck (mv : Nat)
  /-- NVM_OP_DONE (R480): A program or erase completes and verifies. -/
  | nvmOpDone (ticks : Nat)
  /-- NVM_READ (R479): A read-window access is served with ECC correction or refused for a busy sector. -/
  | nvmRead (who : Who) (addr width : Nat) (ecc : Fin 3)
  /-- LOG_FLUSH (R542): A write of 1 to LOG_CFG.FLUSH asks for a program of whatever is staged. -/
  | logFlush (who : Who) (val : Word)
  /-- PINS_FUNC_WRITE (R497): A PINS_FUNC write changes a pin's function or is refused for bitstream pins while ARMED. -/
  | pinsFuncWrite (who : Who) (k : Fin 23) (val : Word)
  /-- GPIO_EDGE (R495): A selected edge of GPIO0–GPIO2 pulses EV57–EV59. -/
  | gpioEdge (pin : Fin 3) (level : Bool)
  /-- EXTEST (R512): The TAP instruction EXTEST drives pins from the boundary register, or acts as BYPASS while ARMED. -/
  | extest (cells : Option (List Bool))
  /-- SAMPLE_PRELOAD (R512): The TAP instruction SAMPLE/PRELOAD captures and loads boundary cells. -/
  | samplePreload (cells : Option (List Bool))
  /-- CHANNEL_OVERLOAD (R104): The count of ones over a channel's last 64 modulator clocks enters or leaves the overload margin, changing the live OVR flag and raising ADC_OVR on a rise. -/
  | channelOverload (ch : Fin 18) (ones : Nat)
  /-- PRECHARGE_PULSE_END (R210): BSR_WIDTH after a precharge or re-admission pulse began, GD turns the leg's low side off again. -/
  | prechargePulseEnd (leg : Fin 7)
  /-- CPS_UPDATE (R57): Every 10 µs the Compass runs its synchroniser on the latest VA–VC results and updates its loop, rate and status. -/
  | cpsUpdate
  /-- BEAR_CYCLE_INCREMENT (R55): The bearing crosses 0° forward and BEAR_CYCLE increments, opening a new cycle for every cycle-counted function. -/
  | bearCycleIncrement
  /-- BEARING_TICK (R56): The bearing crosses a carrier-tick boundary forward and a bearing tick occurs. -/
  | bearingTick
  /-- BLEND_END (R71): A source blend closes its remaining offset in its final tick and BLEND clears. -/
  | blendEnd
  /-- FOLLOWER_FRAME_SEND (R87): A unit sends its follower frame in its rank's slot. -/
  | followerFrameSend
  /-- BSYNC_EDGE (R89): A follower timestamps a BSYNC falling edge, sets its target and updates QDL_ALIGN. -/
  | bsyncEdge
  /-- ECHO_SEND (R88): The pinged follower sends its echo pulse 5.000 µs after the last lead-frame bit. -/
  | echoSend
  /-- ECHO_TIMEOUT (R88): No echo arrives by 9.000 µs and the rank's previous delay stays in force. -/
  | echoTimeout
  /-- LEAD_MISSING (R94): A follower with neither BSYNC nor a good lead frame judges the lead missing at 22.5° and the successor takes over. -/
  | leadMissing
  /-- QDL_LISTEN_TIMEOUT (R90): No valid lead frame for 8 cycles sends a LEADOK unit into CLAIM. -/
  | qdlListenTimeout
  /-- CLAIM_LEAD (R90): After 2 × rank cycles in CLAIM with no lead heard, the unit becomes LEAD at its next 0° crossing. -/
  | claimLead
  /-- QDL_LEADLOST (R93): A follower without valid lead bearing for 2 cycles leaves FORMED for LISTEN. -/
  | qdlLeadlost
  /-- ADC_REF_READY (R102): The ADCI reference settles and REFRDY goes to 1. -/
  | adcRefReady
  /-- CTL_STEP_START (R124): The engine, free, starts a step for a triggered or pending input, saving a checkpoint and computing V16–V19. -/
  | ctlStepStart
  /-- CTL_FETCH (R128): FETCH loads predictions, fixes or C-path results into V(DST) onward. -/
  | ctlFetch
  /-- CTL_SLOT (R130): SLOT runs a compensator slot on V(A) - V(B) and writes or adds its clamped output. -/
  | ctlSlot
  /-- CTL_XFORM (R134): XFORM runs a Clarke, Park, inverse Park or inverse Clarke transform. -/
  | ctlXform
  /-- CTL_MODU (R135): MODU converts three phase references into duties with limiting to M_MAX. -/
  | ctlModu
  /-- CTL_PWMW (R137): PWMW writes a duty as a compare to a PWM shadow. -/
  | ctlPwmw
  /-- CTL_LOAD (R137): LOAD writes PWM_LOAD.LOAD_ALL and latency is recorded. -/
  | ctlLoad
  /-- CTL_RATE (R136): RATE moves a rate limiter's output toward its input by at most L. -/
  | ctlRate
  /-- CTL_RAMP (R136): RAMP moves a ramp's output toward its input at rate r. -/
  | ctlRamp
  /-- CTL_MOV (R127): MOV copies V(A) to V(DST). -/
  | ctlMov
  /-- CTL_ADD (R127): ADD writes V(A) + V(B). -/
  | ctlAdd
  /-- CTL_SUB (R127): SUB writes V(A) - V(B). -/
  | ctlSub
  /-- CTL_MUL (R127): MUL writes V(A) × V(B). -/
  | ctlMul
  /-- CTL_FMA (R127): FMA writes V(A) × V(B) + V(DST), rounded once. -/
  | ctlFma
  /-- CTL_CLAMP (R127): CLAMP bounds V(A) by ±|V(B)|. -/
  | ctlClamp
  /-- CTL_KONST (R127): KONST loads a binary16 constant into V(DST). -/
  | ctlKonst
  /-- CTL_END (R125): END ends the step; a fixed-only step commits in the next tick. -/
  | ctlEnd
  /-- CTL_ILLEGAL_ENTRY (R125): An illegal entry acts as END and sets LISTERR. -/
  | ctlIllegalEntry
  /-- CTL_FETCH_RESUME (R128): The last awaited fix becomes visible and a waiting FETCH continues. -/
  | ctlFetchResume
  /-- CTL_FIX_TIMEOUT (R129): An awaited fix misses SPEC_FIXTMO and the step aborts with its checkpoint restored. -/
  | ctlFixTimeout
  /-- CTL_RECOMPUTE (R140): The engine reruns a retracted step from its checkpoint on fixed values before the horizon, writing PWM. -/
  | ctlRecompute
  /-- CTL_REPLAY (R140): The engine reruns a retracted step after the horizon with its PWM writes suppressed. -/
  | ctlReplay
  /-- STEP_WITHDRAW (R151): At the TB0 ZERO or PERIOD after UNFIXED the engine restores the checkpoint and reloads the previous compares. -/
  | stepWithdraw
  /-- BEARTUNE_PLACE (R133): The finished coefficient sets are placed together in the first tick with no step running. -/
  | beartunePlace
  /-- SPEC_FIX_DEADLINE (R151): A used channel's fix deadline passes and the step is declared UNFIXED. -/
  | specFixDeadline
  /-- CONTROLLED_TRIP_SHUTDOWN (R164): At the next TB0 ZERO after a controlled trip request Gate Drive performs a bridge shutdown with cause 5. -/
  | controlledTripShutdown
  /-- DR_CALIBRATE (R165): The command fits SPEC_L from consecutive reckoned steps over its cycles. -/
  | drCalibrate
  /-- MODE_UPDATE_END (R170): The update ends and its new reference channels become visible together. -/
  | modeUpdateEnd
  /-- MODE_SET (R172): The MODE_SET command writes MODE_REQ and completes when the handover ends or the request is stored. -/
  | modeSet
  /-- MPPT_PERIOD_END (R187): At the end of a tracker period the tracker compares with the previous period and moves Vref. -/
  | mpptPeriodEnd
  /-- MPPT_SWEEP (R189): The MPPT_SWEEP command sweeps the masked strings and restarts trackers at the best point. -/
  | mpptSweep
  /-- MPPT_SWEEP_TIMER (R189): Every SWEEP × 5 minutes a periodic sweep is entered in the device queue. -/
  | mpptSweepTimer
  /-- TB0_PERIOD (R196): The TB0 counter reaches HP0 and the PERIOD point occurs. -/
  | tb0Period
  /-- TB1_ZERO (R202): TB1 reaches its ZERO point and starts a period. -/
  | tb1Zero
  /-- TB1_PERIOD (R196): The TB1 counter reaches HP1 and the PERIOD point occurs. -/
  | tb1Period
  /-- SHUTDOWN_LOW_OFF (R224): SDDLY after a shutdown or leg trip the low sides turn off. -/
  | shutdownLowOff
  /-- PROT_STAGE_EXPIRY (R259): A stage's persistence count reaches L without recovery and the stage trips. -/
  | protStageExpiry
  /-- PROT_FALLBACK_TICK (R260): While unlocked, persistence timers advance once every P_nom SYSCLK ticks. -/
  | protFallbackTick
  /-- FRT_EXIT (R271): Every measure within the band for POST cycles ends ride-through. -/
  | frtExit
  /-- RECON_READY (R275): The reconnection count reaches RECON_WAIT × CAR_N and RECONOK is set. -/
  | reconReady
  /-- RECON_RAMP_END (R276): The RECON limit reaches 1.0 pu after RAMP × 0.1 s. -/
  | reconRampEnd
  /-- UNLOCK_WINDOW_END (R288): The 600 s unlock window runs out and closes. -/
  | unlockWindowEnd
  /-- LOCKOUT_END (R288): Lockout expires after 3,600 s of LPO time and FAIL returns to 0. -/
  | lockoutEnd
  /-- SAFE_CHANGE (R292): The command applies up to 16 safety pairs in one batch and optionally stores the profile. -/
  | safeChange
  /-- LOG_ARCHIVE (R291): The command proves a held change-log entry and erases acknowledged sectors. -/
  | logArchive
  /-- PROOF_STEP_END (R295): A proof step's T_STEP ends and its level is judged. -/
  | proofStepEnd
  /-- PICKUP_TIMEOUT (R295): M is not established within T_PICKUP and PICKUP is recorded. -/
  | pickupTimeout
  /-- DROPOUT_TIMEOUT (R298): L is not established within T_DROPOUT and DROPOUT is recorded. -/
  | dropoutTimeout
  /-- PERMIT_TIMEOUT (R297): No permit within PERMTMO cycles ends the sequence with PERMIT. -/
  | permitTimeout
  /-- WELD_TEST_START (R299): With WELDPEND and its conditions holding, the weld test starts by itself. -/
  | weldTestStart
  /-- RELAY_PROOF (R295): The command runs proof steps, an open and the weld test on each masked relay. -/
  | relayProof
  /-- MET_CYCLE_CLOSE (R317): The Sextant closes a metering cycle and computes rms, powers and phasors. -/
  | metCycleClose
  /-- HRM_WINDOW_PLACE (R325): The harmonic results of a window are placed together and MET_HARM is raised. -/
  | hrmWindowPlace
  /-- METER_ANGLE_TURN (R330): With D3 NAV off the meter angle completes a turn and corrects its rate. -/
  | meterAngleTurn
  /-- HARM_SURVEY (R411): The command copies the next window's harmonics of all channels into B5. -/
  | harmSurvey
  /-- WAVE_CAPTURE (R411): The command captures M-path samples of selected channels over whole cycles into B5. -/
  | waveCapture
  /-- LEDGER_POLL (R342): The command sweeps every configured tenant slot with one READ each. -/
  | ledgerPoll
  /-- AUTOSWEEP_TIMER (R342): Every SWEEP minutes a ledger sweep is entered in the device queue. -/
  | autosweepTimer
  /-- LEDGER_CLOSE (R344): The command closes a ledger interval in its grant tick. -/
  | ledgerClose
  /-- LEDGER_INTERVAL_CLOSE (R344): The RTC reaches a multiple of LEN minutes and the interval closes and reconciles. -/
  | ledgerIntervalClose
  /-- SHED (R346): The command raises LEVEL and sends SHED transactions to newly shed ranks. -/
  | shed
  /-- RESTORE (R346): The command lowers LEVEL and sends RESTORE transactions to newly restored ranks. -/
  | restore
  /-- SHED_HOLD_EXPIRY (R347): A low or recovered margin held for HOLD seconds enters an automatic shed step. -/
  | shedHoldExpiry
  /-- PLANT_BUS_UPDATE_START (R349): Every PERIOD × 10 ms a plant-bus update starts or is skipped as OVERRUN. -/
  | plantBusUpdateStart
  /-- PLANT_BUS_UPDATE (R349): An update ends and genset and BMS values change together. -/
  | plantBusUpdate
  /-- IRQ_PACKET_SEND (R393): The link forms one IRQ packet with IRQC_TOP_LNK once it has a credit and a slot. -/
  | irqPacketSend
  /-- CMD_FETCH (R404): The engine fetches a submission entry from a context in turn. -/
  | cmdFetch
  /-- CMD_SLICE (R406): The engine chooses and runs the next slice of a ready command. -/
  | cmdSlice
  /-- CMD_DEADLINE (R408): A command's deadline is reached and it completes with TIMEOUT. -/
  | cmdDeadline
  /-- ABORT (R409): The command aborts every command of its context with the named tag. -/
  | abort
  /-- READ_BLOCK (R410): The command copies words from any address into SRAM. -/
  | readBlock
  /-- WRITE_BLOCK (R410): The command copies words from SRAM into registers, windows or SRAM. -/
  | writeBlock
  /-- ATOMIC_RMW (R410): The command reads, masks and conditionally writes one word atomically. -/
  | atomicRmw
  /-- NVM_WRITE (R410): The command programs the reel-library or user region. -/
  | nvmWrite
  /-- NVM_ERASE (R410): The command erases sectors of the reel-library or user region. -/
  | nvmErase
  /-- NVM_VERIFY (R410): The command computes a CRC over NVM and compares it. -/
  | nvmVerify
  /-- CONFIG_COMMIT (R484): The command captures the configuration and programs it into image A or B. -/
  | configCommit
  /-- CONFIG_LOAD (R486): The command applies an image's entries at run time. -/
  | configLoad
  /-- ISO_TEST (R412): The command measures PV insulation with a switched reference resistor. -/
  | isoTest
  /-- ISO_TEST_SETTLE (R412): An insulation-test state's SETTLE wait ends and its averaging begins. -/
  | isoTestSettle
  /-- SELF_TEST (R413): The command runs the March, CRC and comparator self-tests. -/
  | selfTest
  /-- ARM (R414): The command judges the arming conditions and starts precharge or completes NOT_READY. -/
  | arm
  /-- ARM_COMPLETE (R414): Precharge ends, the bridge is ARMED and ARM completes OK. -/
  | armComplete
  /-- DISARM (R414): The command starts a bridge shutdown with cause 6. -/
  | disarm
  /-- IDENT_REPORT (R410): The command returns the serial number and optionally copies identity. -/
  | identReport
  /-- LNK_REPLY_SEND (R438): A pending reply or WAKE packet is sent once a host credit is held. -/
  | lnkReplySend
  /-- CREDIT_PACKET_SEND (R438): A CREDIT packet is sent when credits are owed and nothing else waits. -/
  | creditPacketSend
  /-- LNK_ALIGNED (R434): Three commas at one alignment take the link from SYNC to TRAIN. -/
  | lnkAligned
  /-- LNK_TRAIN_PING (R434): In TRAIN the PX410 sends a PING every 10 µs. -/
  | lnkTrainPing
  /-- LNK_DOWN_END (R434): After 1 ms in DOWN the link returns to SYNC. -/
  | lnkDownEnd
  /-- LNK_KEEPALIVE (R435): No packet for KA ms sends a PING with ACKREQ. -/
  | lnkKeepalive
  /-- LNK_ACK_TIMEOUT (R435): No PING within ACKTMO loses the link. -/
  | lnkAckTimeout
  /-- LNK_RATE_PROPOSE (R436): With no reply pending and buffers free the PX410 proposes a higher rate. -/
  | lnkRatePropose
  /-- LNK_RATE_FAIL (R436): No PING at the new rate within 1 ms returns the link to 25 Mbaud and marks the rate failed. -/
  | lnkRateFail
  /-- SB_HOLD_RELEASE (R442): The sideband engine releases SB_SCL once its word has moved or readiness is reached. -/
  | sbHoldRelease
  /-- SB_STOP (R444): The STOP of a matched transaction pulses SB_ADDR. -/
  | sbStop
  /-- TRANSITION_END (R455): A transition ends, PWR_DOMAIN pulses and any held request is judged. -/
  | transitionEnd
  /-- WDT_EXPIRY (R470): The watchdog count reaches TMO or a kick is early, and a reset is scheduled. -/
  | wdtExpiry
  /-- RESET_BEGIN (R459): 33 LPO ticks after a WDT or SW cause the reset begins. -/
  | resetBegin
  /-- PLL_LOCK (R527): SYSPLL locks and D1 CORE can come up. -/
  | pllLock
  /-- PLL_LOSS (R465): SYSPLL loses lock, the relays open, the bridge disarms and the loss is logged. -/
  | pllLoss
  /-- MUSTER_END (R463): The muster window ends and every page of a ready domain becomes ready. -/
  | musterEnd
  /-- RTC_SECOND (R466): The RTC fraction carries and SYS_RTC_SEC increments. -/
  | rtcSecond
  /-- WDT_WARN (R469): The watchdog count reaches three quarters of TMO. -/
  | wdtWarn
  /-- IDENT_LOADED (R475): The serial number is read into IDENT and its check computed. -/
  | identLoaded
  /-- NVM_OP_START (R481): The NVM controller starts the next queued program or erase, suspending an erase for a log program. -/
  | nvmOpStart
  /-- NVM_OP_TIMEOUT (R480): An operation is not verified by its maximum time and fails. -/
  | nvmOpTimeout
  /-- LOG_SCAN_DONE (R543): The ring scan finds head and tail and the LOG page becomes ready. -/
  | logScanDone
  /-- LOG_READ (R544): The command copies event-log records, programmed or staged, into SRAM. -/
  | logRead
  /-- BYPASS (R512): The TAP instruction BYPASS selects the one-bit bypass register. -/
  | bypass
  /-- LNK_TRAINING_START (R434): 25 ms after reset release, with LNKEN = 1 and D11 LINK on, the link leaves OFF for SYNC at 25 Mbaud and starts driving its transmit pair. -/
  | lnkTrainingStart
  /-- LNK_RATE_SWITCH (R436): After RATEGO and 16 idle ordered sets, both sides switch their transmitters to the new rate and start re-acquiring alignment. -/
  | lnkRateSwitch
  deriving DecidableEq, Repr

end Sys2Proof
end

