-- ==== Sys2Proof/Decode.lean ====
section
/-! DEFINITION. Words of the table of operations. The table gives none of its rows bits (the PX410 is a block: its commands are
accesses, events and frames, and none of them is a word of an instruction memory), so no word spells a command. The encodings
the spec does give to programs the block runs are read where they run: step-list entries in Machine/Ctl.lean, reel instructions
in Machine/Reel.lean, submission entries in Machine/Ctx.lean and Machine/Cmd.lean. -/

namespace Sys2Proof

/-- The command a word of the table spells: none, since no row has bits. -/
def decodeTableWord (_nbits _w : Nat) : Option Instr := none

end Sys2Proof
end

