-- ==== Sys2Proof/Config.lean ====
section
/-! DEFINITION. What the spec leaves open (each docstring names its entry of the assumption log): constants with no body, so that
nothing can be proved about their values. -/

namespace Sys2Proof.Config

/-- The n-th free word: a value the spec does not state (log entry 3). -/
opaque freeWord : Nat → Word

/-- The n-th free number with a fraction (log entry 3). -/
opaque freeRat : Nat → Rat

/-- The serial number of this device (R475): every device has its own (log entry 12). -/
opaque serial : BitVec 64

/-- How far a function that the spec names, and states to no bit, may lie off its exact value (R57, R132, R134 and the metering
formulas): Machine/Trig.lean takes each within a bound (log entry 10). -/
opaque sinErr : Rat → Rat
opaque cosErr : Rat → Rat
opaque atan2Err : Rat → Rat → Rat
opaque tanErr : Rat → Rat
opaque sqrtErr : Rat → Rat

/-- The error of entry n of the control engine's sine table, which Machine/Trig.lean takes within a bound (R134; log entry 10). -/
opaque tableErr : Nat → Rat

/-- a / 0 in a formula that states no result for it (log entry 11). -/
opaque overZero : Rat → Rat

/-- The coefficient of MODE's first-order filter with a time constant of 2 cycles, by CAR_N (R170): the spec gives the time
constant and no discrete form, and Machine/Mode.lean holds it within the forms' bounds (log entry 48). -/
opaque filterGain : Nat → Rat

/-- The erases of sector n made before shipment (R482): at most 16, and no figure is stated (log entry 12). -/
opaque factoryWear : Nat → Fin 17

/-- The ticks a restore adds to the power-up of domain d (R454): at most 200 us, and no figure is stated (log entry 12). -/
opaque restoreTicks : Nat → Fin 80001

/-- The ticks VREF takes to settle once it is driven (R102): at most 500 us, and no figure is stated (log entry 12). -/
opaque refTicks : Fin 200001

end Sys2Proof.Config
end

