-- ==== Sys2Proof/Machine/Bits.lean ====
section
/-! DEFINITION. Bit-field helpers: reading and writing the bits of a word, signs, saturation and byte order
(spec/00 Bits, registers and signals: bit 0 is the least significant, multi-byte values travel least significant byte
first). -/

namespace Sys2Proof.Machine

/-- The field of `len` bits from bit `lo` of `w`, as a number. -/
def wbits (w : Word) (lo len : Nat) : Nat := (w.toNat >>> lo) % 2 ^ len

/-- Bit `b` of `w`. -/
def wbit (w : Word) (b : Nat) : Bool := w.getLsbD b

/-- The mask of `len` ones from bit `lo`. -/
def wmask (lo len : Nat) : Word := BitVec.ofNat 32 ((2 ^ len - 1) <<< lo)

/-- `w` with `v` (its low `len` bits) in the field of `len` bits from bit `lo`. -/
def wput (w : Word) (lo len v : Nat) : Word :=
  (w &&& ~~~ wmask lo len) ||| (BitVec.ofNat 32 ((v % 2 ^ len) <<< lo) &&& wmask lo len)

/-- `w` with bit `b` set to `v`. -/
def wputBit (w : Word) (b : Nat) (v : Bool) : Word := wput w b 1 v.toNat

/-- `n` held down to at most `m`. -/
def satTo (m n : Nat) : Nat := if n ≤ m then n else m

/-- The integer held between `lo` and `hi`. -/
def clampInt (lo hi x : Int) : Int := if x < lo then lo else if hi < x then hi else x

/-- The `len`-bit number `n` read as two's complement. -/
def signed (len n : Nat) : Int := if n < 2 ^ (len - 1) then (n : Int) else (n : Int) - (2 ^ len : Nat)

/-- The integer `x` written in `len` bits of two's complement, wrapping. -/
def wrapBits (len : Nat) (x : Int) : Nat := (x % ((2 ^ len : Nat) : Int)).toNat

/-- An exact number rounded to the nearest integer, one half away from zero upwards (R7). -/
def roundHalfUp (q : Rat) : Int := (q + 1 / 2).floor

/-- The bits of a square root, from bit `b - 1` down, added to `r`. -/
def isqrtAux : Nat → Nat → Nat → Nat
  | 0, _, r => r
  | b + 1, n, r => if (r + 2 ^ b) * (r + 2 ^ b) ≤ n then isqrtAux b n (r + 2 ^ b) else isqrtAux b n r

/-- The largest integer whose square is at most `n`. -/
def isqrt (n : Nat) : Nat := isqrtAux (n.log2 / 2 + 1) n 0

/-- The square root of an exact number that is not negative, rounded to the nearest integer. -/
def sqrtRound (q : Rat) : Nat :=
  if q ≤ 0 then 0 else (isqrt (4 * q.num.toNat / q.den) + 1) / 2

/-- The four bytes of a word, least significant first. -/
def wbytes (w : Word) : List Byte :=
  [w.extractLsb' 0 8, w.extractLsb' 8 8, w.extractLsb' 16 8, w.extractLsb' 24 8]

/-- The number that a list of bytes spells, least significant first. -/
def bytesNat : List Byte → Nat
  | [] => 0
  | b :: bs => b.toNat + 256 * bytesNat bs

/-- Whether bit `i` of the number `n` is set. -/
def natBit (n i : Nat) : Bool := n.testBit i

/-- The number of ones among the low `len` bits of `n`. -/
def popCount : Nat → Nat → Nat
  | 0, _ => 0
  | len + 1, n => n % 2 + popCount len (n / 2)

end Sys2Proof.Machine
end

