-- ==== Sys2Proof/Machine/F32.lean ====
section
/-! DEFINITION. Binary32 arithmetic (spec/06 R121, R122; spec/03 R57; spec/07 R147): every operation is the exact result
rounded once to the nearest binary32, ties to even. -/

namespace Sys2Proof.Machine

/-- A binary32 number, as its 32 bits. -/
abbrev F32 := BitVec 32

def F32.sign (x : F32) : Bool := x.msb
def F32.expo (x : F32) : Nat := (x.toNat >>> 23) % 256
def F32.frac (x : F32) : Nat := x.toNat % 2 ^ 23

/-- Neither infinite nor NaN. -/
def F32.finite (x : F32) : Bool := decide (x.expo < 255)
def F32.isNaN (x : F32) : Bool := decide (x.expo = 255) && decide (x.frac ≠ 0)
def F32.isInf (x : F32) : Bool := decide (x.expo = 255) && decide (x.frac = 0)

/-- Two to an integer power, exactly. -/
def pow2 (e : Int) : Rat :=
  match e with
  | .ofNat n => ((2 ^ n : Nat) : Rat)
  | .negSucc n => 1 / ((2 ^ (n + 1) : Nat) : Rat)

/-- The value of a finite number (0 for infinities and NaN, which no caller asks for). -/
def F32.toRat (x : F32) : Rat :=
  let m : Rat :=
    if x.expo = 255 then 0
    else if x.expo = 0 then (x.frac : Rat) * pow2 (-149)
    else ((2 ^ 23 + x.frac : Nat) : Rat) * pow2 ((x.expo : Int) - 150)
  if x.sign then -m else m

/-- The nearest integer to a number that is not negative, ties to even. -/
def roundHalfEven (q : Rat) : Nat :=
  let f := q.floor.toNat
  let r := q - (f : Rat)
  if r < 1 / 2 then f else if 1 / 2 < r then f + 1 else if f % 2 = 0 then f else f + 1

/-- The exponent of the leading bit of a positive number. -/
def ratExp (a : Rat) : Int :=
  let e : Int := (a.num.toNat.log2 : Int) - (a.den.log2 : Int)
  if pow2 e ≤ a then e else e - 1

def F32.posInf : F32 := 0x7F800000#32
def F32.negInf : F32 := 0xFF800000#32
/-- The quiet NaN a NaN result takes. -/
def F32.qNaN : F32 := 0x7FC00000#32

/-- The magnitude bits of the binary32 nearest to the positive number `a`; past the largest finite number, infinity. -/
def F32.roundMag (a : Rat) : Nat :=
  let e := max (ratExp a) (-126)
  let m := roundHalfEven (a / pow2 (e - 23))
  min ((e + 126).toNat * 2 ^ 23 + m) 0x7F800000

/-- The binary32 nearest to `q`; an exact zero takes the sign `neg`. -/
def F32.ofRatS (neg : Bool) (q : Rat) : F32 :=
  if q = 0 then (if neg then 0x80000000#32 else 0#32)
  else if q < 0 then BitVec.ofNat 32 (2 ^ 31 + F32.roundMag (-q))
  else BitVec.ofNat 32 (F32.roundMag q)

def F32.ofRat (q : Rat) : F32 := F32.ofRatS false q

def F32.neg (x : F32) : F32 := x ^^^ 0x80000000#32
def F32.abs (x : F32) : F32 := x &&& 0x7FFFFFFF#32

/-- Sum, rounded once. -/
def F32.add (x y : F32) : F32 :=
  if x.isNaN || y.isNaN then F32.qNaN
  else if x.isInf then (if y.isInf && (x.sign != y.sign) then F32.qNaN else x)
  else if y.isInf then y
  else F32.ofRatS (x.sign && y.sign) (x.toRat + y.toRat)

def F32.sub (x y : F32) : F32 := if y.isNaN then F32.qNaN else F32.add x (F32.neg y)

/-- Product, rounded once. -/
def F32.mul (x y : F32) : F32 :=
  let neg := x.sign != y.sign
  if x.isNaN || y.isNaN then F32.qNaN
  else if x.isInf || y.isInf then
    (if (x.finite && decide (x.toRat = 0)) || (y.finite && decide (y.toRat = 0)) then F32.qNaN
     else if neg then F32.negInf else F32.posInf)
  else F32.ofRatS neg (x.toRat * y.toRat)

/-- x × y + z, rounded once. -/
def F32.fma (x y z : F32) : F32 :=
  if x.finite && y.finite && z.finite then
    F32.ofRatS (((x.sign != y.sign) && z.sign) ) (x.toRat * y.toRat + z.toRat)
  else F32.add (F32.mul x y) z

/-- Quotient, rounded once. -/
def F32.div (x y : F32) : F32 :=
  let neg := x.sign != y.sign
  if x.isNaN || y.isNaN then F32.qNaN
  else if x.isInf then (if y.isInf then F32.qNaN else if neg then F32.negInf else F32.posInf)
  else if y.isInf then F32.ofRatS neg 0
  else if y.toRat = 0 then (if x.toRat = 0 then F32.qNaN else if neg then F32.negInf else F32.posInf)
  else F32.ofRatS neg (x.toRat / y.toRat)

/-- Square root, rounded once: 2^100 times the root is taken as an integer, and what is left of it decides a tie. -/
def F32.sqrt (x : F32) : F32 :=
  if x.isNaN then F32.qNaN
  else if x.toRat = 0 ∧ x.finite then x
  else if x.sign then F32.qNaN
  else if x.isInf then x
  else
    let n := (x.toRat * pow2 200).floor.toNat
    let r := isqrt n
    F32.ofRat (((2 * r + (if r * r = n then 0 else 1) : Nat) : Rat) * pow2 (-101))

/-- x < y as numbers; false where either is a NaN. -/
def F32.lt (x y : F32) : Bool :=
  if x.isNaN || y.isNaN then false
  else if x = F32.negInf then !(y = F32.negInf)
  else if y = F32.posInf then !(x = F32.posInf)
  else if x = F32.posInf || y = F32.negInf then false
  else decide (x.toRat < y.toRat)

/-- The value of a binary16 number as a binary32 (R127 KONST); binary16 widens exactly. -/
def F32.ofHalf (h : Nat) : F32 :=
  let s : Nat := h / 2 ^ 15 % 2
  let e : Nat := h / 2 ^ 10 % 32
  let f : Nat := h % 2 ^ 10
  if e = 31 then BitVec.ofNat 32 (s * 2 ^ 31 + 0x7F800000 + f * 2 ^ 13)
  else
    let m : Rat := if e = 0 then (f : Rat) * pow2 (-24) else ((2 ^ 10 + f : Nat) : Rat) * pow2 ((e : Int) - 25)
    F32.ofRatS (decide (s = 1)) (if s = 1 then -m else m)

/-- NaN becomes +0, an infinity the largest finite number of its sign. -/
def F32.tame (x : F32) : F32 :=
  if x.isNaN then 0#32 else if x.isInf then (if x.sign then 0xFF7FFFFF#32 else 0x7F7FFFFF#32) else x

end Sys2Proof.Machine
end

