-- ==== Sys2Proof/Machine/RegNames.lean ====
section
/-! DEFINITION. The names of the registers and of their fields: `Reg.X` is the address of register X, `F.X_Y` the place of
field X.Y (spec/02 register index and the field tables of the block chapters). Registers that are replicated take their
index as an argument. -/

namespace Sys2Proof.Machine

/-- A field of a register: the register's address, the field's lowest bit and its width. -/
structure Field where
  addr : Nat
  lo : Nat
  len : Nat
  deriving DecidableEq, Repr

abbrev Reg.CPS_CFG : Nat := 0x0C040
abbrev Reg.CPS_STAT : Nat := 0x0C044
abbrev Reg.CPS_BEARING : Nat := 0x0C048
abbrev Reg.CPS_BEAR_CYCLE : Nat := 0x0C04C
abbrev Reg.CPS_BEAR_RATE : Nat := 0x0C050
abbrev Reg.CPS_FREQ : Nat := 0x0C054
abbrev Reg.CPS_MAG : Nat := 0x0C058
abbrev Reg.CPS_PHERR : Nat := 0x0C05C
abbrev Reg.CPS_SRC : Nat := 0x0C060
abbrev Reg.CPS_JUMP_THR : Nat := 0x0C064
abbrev Reg.CPS_JUMP_LAST : Nat := 0x0C068
abbrev Reg.CPS_VIRT_RATE : Nat := 0x0C06C
abbrev Reg.CPS_DROOP : Nat := 0x0C070
abbrev Reg.CPS_LOOP_KP : Nat := 0x0C074
abbrev Reg.CPS_LOOP_KI : Nat := 0x0C078
abbrev Reg.CHT_CFG : Nat := 0x0D040
abbrev Reg.CHT_LATEWIN : Nat := 0x0D044
abbrev Reg.CHT_WP_ANGLE (n : Nat) : Nat := 0x0D080 + 4 * n
abbrev Reg.CHT_WP_ACT (n : Nat) : Nat := 0x0D180 + 4 * n
abbrev Reg.CHT_WP_REP (n : Nat) : Nat := 0x0D280 + 4 * n
abbrev Reg.CHT_FIRED (n : Nat) : Nat := 0x0D380 + 4 * n
abbrev Reg.CHT_LATECNT : Nat := 0x0D388
abbrev Reg.CHT_SKIPCNT : Nat := 0x0D38C
abbrev Reg.QDL_CFG : Nat := 0x0E040
abbrev Reg.QDL_RANK : Nat := 0x0E044
abbrev Reg.QDL_ROLE : Nat := 0x0E048
abbrev Reg.QDL_STAT : Nat := 0x0E04C
abbrev Reg.QDL_DELAY : Nat := 0x0E050
abbrev Reg.QDL_ALIGN : Nat := 0x0E054
abbrev Reg.QDL_UNIT (n : Nat) : Nat := 0x0E058 + 4 * n
abbrev Reg.QDL_SHARE : Nat := 0x0E078
abbrev Reg.QDL_SHARE_RAMP : Nat := 0x0E07C
abbrev Reg.QDL_ERRCNT : Nat := 0x0E080
abbrev Reg.ADCX_CLK_CFG : Nat := 0x10040
abbrev Reg.ADCI_CFG : Nat := 0x11040
abbrev Reg.ADCX_CH_CTRL (n : Nat) : Nat := 0x10080 + 4 * n
abbrev Reg.ADCI_CH_CTRL (n : Nat) : Nat := 0x11080 + 4 * n
abbrev Reg.ADCX_CH_STAT (n : Nat) : Nat := 0x100C0 + 4 * n
abbrev Reg.ADCI_CH_STAT (n : Nat) : Nat := 0x110C0 + 4 * n
abbrev Reg.ADCX_C_RES (n : Nat) : Nat := 0x10100 + 4 * n
abbrev Reg.ADCI_C_RES (n : Nat) : Nat := 0x11100 + 4 * n
abbrev Reg.ADCX_M_RES (n : Nat) : Nat := 0x10140 + 4 * n
abbrev Reg.ADCI_M_RES (n : Nat) : Nat := 0x11140 + 4 * n
abbrev Reg.ADCX_GAIN (n : Nat) : Nat := 0x10180 + 4 * n
abbrev Reg.ADCI_GAIN (n : Nat) : Nat := 0x11180 + 4 * n
abbrev Reg.ADCX_OFFS (n : Nat) : Nat := 0x101C0 + 4 * n
abbrev Reg.ADCI_OFFS (n : Nat) : Nat := 0x111C0 + 4 * n
abbrev Reg.ADCX_TRIG (n : Nat) : Nat := 0x10200 + 4 * n
abbrev Reg.ADCI_TRIG (n : Nat) : Nat := 0x11200 + 4 * n
abbrev Reg.CTL_CFG : Nat := 0x14040
abbrev Reg.CTL_STAT : Nat := 0x14044
abbrev Reg.CTL_LAT : Nat := 0x14048
abbrev Reg.CTL_LATMAX : Nat := 0x1404C
abbrev Reg.CTL_STEPLIST (n : Nat) : Nat := 0x14100 + 4 * n
abbrev Reg.CTL_SLOT_CFG (n : Nat) : Nat := 0x14200 + 4 * n
abbrev Reg.CTL_SLOT_COEF (n k : Nat) : Nat := 0x14400 + 0x20 * n + 4 * k
abbrev Reg.CTL_SLOT_STATE (n k : Nat) : Nat := 0x14800 + 0x10 * n + 4 * k
abbrev Reg.CTL_SLOT_CLAMP (n k : Nat) : Nat := 0x14A00 + 0x8 * n + 4 * k
abbrev Reg.CTL_RATELIM (n : Nat) : Nat := 0x14B00 + 4 * n
abbrev Reg.CTL_RAMP (n : Nat) : Nat := 0x14B20 + 4 * n
abbrev Reg.CTL_OUT (n : Nat) : Nat := 0x14B40 + 4 * n
abbrev Reg.SPEC_CFG : Nat := 0x15040
abbrev Reg.SPEC_STAT : Nat := 0x15044
abbrev Reg.SPEC_QUALN : Nat := 0x15048
abbrev Reg.SPEC_RETRACTMAX : Nat := 0x1504C
abbrev Reg.SPEC_FIXTMO : Nat := 0x15050
abbrev Reg.SPEC_SUBST : Nat := 0x15054
abbrev Reg.SPEC_DERATE : Nat := 0x15058
abbrev Reg.SPEC_RETRACTCNT : Nat := 0x1505C
abbrev Reg.SPEC_BAND (n : Nat) : Nat := 0x15080 + 4 * n
abbrev Reg.SPEC_L (n : Nat) : Nat := 0x150A0 + 4 * n
abbrev Reg.SPEC_PRED (n : Nat) : Nat := 0x150C0 + 4 * n
abbrev Reg.SPEC_RESID (n : Nat) : Nat := 0x150E0 + 4 * n
abbrev Reg.MODE_CFG : Nat := 0x16040
abbrev Reg.MODE_REQ : Nat := 0x16044
abbrev Reg.MODE_STAT : Nat := 0x16048
abbrev Reg.MODE_P_SET : Nat := 0x1604C
abbrev Reg.MODE_Q_SET : Nat := 0x16050
abbrev Reg.MODE_DROOP_P : Nat := 0x16054
abbrev Reg.MODE_DROOP_Q : Nat := 0x16058
abbrev Reg.MODE_VIMP : Nat := 0x1605C
abbrev Reg.MODE_HANDOVER_TOL : Nat := 0x16060
abbrev Reg.MODE_HANDOVER_ABORT : Nat := 0x16064
abbrev Reg.MODE_HANDOVER_RAMP : Nat := 0x16068
abbrev Reg.MODE_M_MAX : Nat := 0x1606C
abbrev Reg.MODE_HEADROOM_POL : Nat := 0x16070
abbrev Reg.MODE_MPPT_CFG : Nat := 0x16074
abbrev Reg.MODE_MPPT_STAT (n : Nat) : Nat := 0x16078 + 4 * n
abbrev Reg.MODE_CURTAIL : Nat := 0x16080
abbrev Reg.MODE_GEN_MINLOAD : Nat := 0x16084
abbrev Reg.PWM_CFG : Nat := 0x18040
abbrev Reg.PWM_LOAD : Nat := 0x18044
abbrev Reg.PWM_CAR_N : Nat := 0x18048
abbrev Reg.PWM_TB1_PER : Nat := 0x1804C
abbrev Reg.PWM_TB_STAT (n : Nat) : Nat := 0x18050 + 4 * n
abbrev Reg.PWM_SH_CMP (n : Nat) : Nat := 0x18080 + 4 * n
abbrev Reg.PWM_ACT_CMP (n : Nat) : Nat := 0x180A0 + 4 * n
abbrev Reg.PWM_EVT_PRESC : Nat := 0x180C0
abbrev Reg.PWM_MIN_PULSE : Nat := 0x180C4
abbrev Reg.PWM_BSR_CFG : Nat := 0x180C8
abbrev Reg.PWM_LATECNT : Nat := 0x180CC
abbrev Reg.GD_CFG : Nat := 0x1A040
abbrev Reg.GD_FPOL : Nat := 0x1A044
abbrev Reg.GD_DT_RISE (n : Nat) : Nat := 0x1A048 + 4 * n
abbrev Reg.GD_DT_FALL (n : Nat) : Nat := 0x1A064 + 4 * n
abbrev Reg.GD_FLT_FILT : Nat := 0x1A080
abbrev Reg.GD_FLT_HOLD : Nat := 0x1A084
abbrev Reg.GD_FLT_STAT : Nat := 0x1A088
abbrev Reg.GD_ATTRIB : Nat := 0x1A08C
abbrev Reg.GD_LEG_CTRL (n : Nat) : Nat := 0x1A090 + 4 * n
abbrev Reg.GD_ELC_CFG : Nat := 0x1A0AC
abbrev Reg.CMP_CTRL (n : Nat) : Nat := 0x12040 + 4 * n
abbrev Reg.CMP_THR (n : Nat) : Nat := 0x12080 + 4 * n
abbrev Reg.CMP_STAT : Nat := 0x120C0
abbrev Reg.CMP_CAPT_BEAR (n : Nat) : Nat := 0x12100 + 4 * n
abbrev Reg.CMP_CAPT_CYCLE (n : Nat) : Nat := 0x12140 + 4 * n
abbrev Reg.CMP_CAPT_TIME (n : Nat) : Nat := 0x12180 + 4 * n
abbrev Reg.EVR_DEST (n : Nat) : Nat := 0x07040 + 4 * n
abbrev Reg.EVR_SWEVT : Nat := 0x070C0
abbrev Reg.EVR_FAST_EN : Nat := 0x070C4
abbrev Reg.EVR_STAT : Nat := 0x070C8
abbrev Reg.PROT_PROFILE : Nat := 0x20040
abbrev Reg.PROT_OV (n : Nat) : Nat := 0x20044 + 4 * n
abbrev Reg.PROT_UV (n : Nat) : Nat := 0x20054 + 4 * n
abbrev Reg.PROT_OF (n : Nat) : Nat := 0x20064 + 4 * n
abbrev Reg.PROT_UF (n : Nat) : Nat := 0x2006C + 4 * n
abbrev Reg.PROT_ROCOF : Nat := 0x20074
abbrev Reg.PROT_VSHIFT : Nat := 0x20078
abbrev Reg.PROT_AI_CFG : Nat := 0x2007C
abbrev Reg.PROT_FRT_LV (n : Nat) : Nat := 0x20080 + 4 * n
abbrev Reg.PROT_FRT_HV (n : Nat) : Nat := 0x200A0 + 4 * n
abbrev Reg.PROT_FRT_K : Nat := 0x200C0
abbrev Reg.PROT_FRT_VMC : Nat := 0x200C4
abbrev Reg.PROT_RECON_WAIT : Nat := 0x200C8
abbrev Reg.PROT_RECON_WIN : Nat := 0x200CC
abbrev Reg.PROT_RECON_RAMP : Nat := 0x200D0
abbrev Reg.PROT_STAT : Nat := 0x200D4
abbrev Reg.PROT_TRIP_CAUSE : Nat := 0x200D8
abbrev Reg.SAFE_KEY0 : Nat := 0x21040
abbrev Reg.SAFE_KEY1 : Nat := 0x21044
abbrev Reg.SAFE_UNLOCK : Nat := 0x21048
abbrev Reg.SAFE_STAT : Nat := 0x2104C
abbrev Reg.SAFE_SEAL : Nat := 0x21050
abbrev Reg.SAFE_FAILCNT : Nat := 0x21054
abbrev Reg.SAFE_LOG_STAT : Nat := 0x21058
abbrev Reg.RLY_POLICY : Nat := 0x22040
abbrev Reg.RLY_PICKUP : Nat := 0x22044
abbrev Reg.RLY_SYNC : Nat := 0x22048
abbrev Reg.RLY_CTRL : Nat := 0x2204C
abbrev Reg.RLY_STAT : Nat := 0x22050
abbrev Reg.RLY_PROOF : Nat := 0x22054
abbrev Reg.RLY_WELD : Nat := 0x22058
abbrev Reg.HSW_CTRL (n : Nat) : Nat := 0x24040 + 4 * n
abbrev Reg.HSW_STAT (n : Nat) : Nat := 0x24048 + 4 * n
abbrev Reg.HSW_ILIM (n : Nat) : Nat := 0x24050 + 4 * n
abbrev Reg.HSW_SLEW (n : Nat) : Nat := 0x24058 + 4 * n
abbrev Reg.HSW_TGATE (n : Nat) : Nat := 0x24060 + 4 * n
abbrev Reg.HSW_I2T (n : Nat) : Nat := 0x24068 + 4 * n
abbrev Reg.HSW_MEAS (n : Nat) : Nat := 0x24070 + 4 * n
abbrev Reg.MET_CFG : Nat := 0x1C040
abbrev Reg.MET_STAT : Nat := 0x1C044
abbrev Reg.MET_VRMS (n : Nat) : Nat := 0x1C080 + 4 * n
abbrev Reg.MET_IRMS (n : Nat) : Nat := 0x1C090 + 4 * n
abbrev Reg.MET_P (n : Nat) : Nat := 0x1C0A0 + 4 * n
abbrev Reg.MET_Q (n : Nat) : Nat := 0x1C0B0 + 4 * n
abbrev Reg.MET_S (n : Nat) : Nat := 0x1C0C0 + 4 * n
abbrev Reg.MET_PF (n : Nat) : Nat := 0x1C0D0 + 4 * n
abbrev Reg.MET_FREQ : Nat := 0x1C0E0
abbrev Reg.MET_ENERGY (n k : Nat) : Nat := 0x1C100 + 0x20 * n + 4 * k
abbrev Reg.MET_INTERVAL : Nat := 0x1C180
abbrev Reg.HRM_CFG : Nat := 0x1D040
abbrev Reg.HRM_STAT : Nat := 0x1D044
abbrev Reg.HRM_SEL : Nat := 0x1D048
abbrev Reg.HRM_MAG (n : Nat) : Nat := 0x1D100 + 4 * n
abbrev Reg.HRM_PHASE (n : Nat) : Nat := 0x1D200 + 4 * n
abbrev Reg.HRM_THD (n : Nat) : Nat := 0x1D300 + 4 * n
abbrev Reg.HRM_TDD (n : Nat) : Nat := 0x1D320 + 4 * n
abbrev Reg.LDG_CFG : Nat := 0x1E040
abbrev Reg.LDG_STAT : Nat := 0x1E044
abbrev Reg.LDG_INTERVAL : Nat := 0x1E048
abbrev Reg.LDG_LOSS : Nat := 0x1E04C
abbrev Reg.LDG_TOL : Nat := 0x1E050
abbrev Reg.LDG_RECON (n : Nat) : Nat := 0x1E054 + 4 * n
abbrev Reg.LDG_TENANT_SEL : Nat := 0x1E060
abbrev Reg.LDG_TENANT_WIN (n : Nat) : Nat := 0x1E080 + 4 * n
abbrev Reg.LDG_SHED_STAT : Nat := 0x1E0A0
abbrev Reg.BUS_U1_CFG : Nat := 0x1F040
abbrev Reg.BUS_U1_STAT : Nat := 0x1F044
abbrev Reg.BUS_U2_CFG : Nat := 0x1F048
abbrev Reg.BUS_U2_STAT : Nat := 0x1F04C
abbrev Reg.BUS_PLANT_MAP (n : Nat) : Nat := 0x1F080 + 4 * n
abbrev Reg.BUS_GEN_LOAD (n : Nat) : Nat := 0x1F0C0 + 4 * n
abbrev Reg.BUS_BMS (n : Nat) : Nat := 0x1F0E0 + 4 * n
abbrev Reg.BUS_ERRCNT (n : Nat) : Nat := 0x1F100 + 4 * n
abbrev Reg.DMA_CFG : Nat := 0x08040
abbrev Reg.DMA_STAT : Nat := 0x08044
abbrev Reg.DMA_ERR : Nat := 0x08048
abbrev Reg.DMA_CH_CTRL (n : Nat) : Nat := 0x08100 + 0x80 * n
abbrev Reg.DMA_CH_STAT (n : Nat) : Nat := 0x08104 + 0x80 * n
abbrev Reg.DMA_CH_PC (n : Nat) : Nat := 0x08108 + 0x80 * n
abbrev Reg.DMA_CH_PTR (n k : Nat) : Nat := 0x08110 + 0x80 * n + 4 * k
abbrev Reg.DMA_CH_PRIO (n : Nat) : Nat := 0x08120 + 0x80 * n
abbrev Reg.DMA_CH_LOOP (n : Nat) : Nat := 0x08124 + 0x80 * n
abbrev Reg.DMA_CH_WAITTMO (n : Nat) : Nat := 0x08128 + 0x80 * n
abbrev Reg.DMA_CH_ERR (n : Nat) : Nat := 0x0812C + 0x80 * n
abbrev Reg.IRQC_PEND (n : Nat) : Nat := 0x06040 + 4 * n
abbrev Reg.IRQC_PEND_SET (n : Nat) : Nat := 0x06050 + 4 * n
abbrev Reg.IRQC_EN (n : Nat) : Nat := 0x06060 + 4 * n
abbrev Reg.IRQC_SENSE (n : Nat) : Nat := 0x06070 + 4 * n
abbrev Reg.IRQC_TARGET (n : Nat) : Nat := 0x06080 + 4 * n
abbrev Reg.IRQC_PRIO (n : Nat) : Nat := 0x060A0 + 4 * n
abbrev Reg.IRQC_TOP_A : Nat := 0x060E0
abbrev Reg.IRQC_TOP_B : Nat := 0x060E4
abbrev Reg.IRQC_TOP_LNK : Nat := 0x060E8
abbrev Reg.IRQC_TOP_REEL : Nat := 0x060EC
abbrev Reg.IRQC_DOORBELL : Nat := 0x060F0
abbrev Reg.CTX_CFG : Nat := 0x05040
abbrev Reg.CTX_SLICE_US : Nat := 0x05044
abbrev Reg.CTX_STAT : Nat := 0x05048
abbrev Reg.CTX_INFLIGHT : Nat := 0x0504C
abbrev Reg.CTX_QUAR (n : Nat) : Nat := 0x05050 + 4 * n
abbrev Reg.CTX_CLASS_STAT : Nat := 0x05070
abbrev Reg.CTX_ERRCTX : Nat := 0x05074
abbrev Reg.HOST_CFG : Nat := 0x04040
abbrev Reg.HOST_ERR : Nat := 0x04044
abbrev Reg.HOST_GENA_BANK : Nat := 0x04048
abbrev Reg.HOST_GENB_CFG : Nat := 0x0404C
abbrev Reg.HOST_GENB_STAT : Nat := 0x04050
abbrev Reg.HOST_LNK_CFG : Nat := 0x04054
abbrev Reg.HOST_LNK_STAT : Nat := 0x04058
abbrev Reg.HOST_LNK_RATE : Nat := 0x0405C
abbrev Reg.HOST_LNK_WAKESEL : Nat := 0x04060
abbrev Reg.HOST_LNK_CREDIT : Nat := 0x04064
abbrev Reg.HOST_LNK_ERRCNT : Nat := 0x04068
abbrev Reg.HOST_SB_ADDR : Nat := 0x0406C
abbrev Reg.HOST_SB_STAT : Nat := 0x04070
abbrev Reg.HOST_MBOX_STAT : Nat := 0x04074
abbrev Reg.SYS_RESET_CAUSE : Nat := 0x01040
abbrev Reg.SYS_SWRESET : Nat := 0x01044
abbrev Reg.SYS_CLK_CFG : Nat := 0x01048
abbrev Reg.SYS_PLL_STAT : Nat := 0x0104C
abbrev Reg.SYS_LPO_CAL : Nat := 0x01050
abbrev Reg.SYS_WDT_CFG : Nat := 0x01054
abbrev Reg.SYS_WDT_KICK : Nat := 0x01058
abbrev Reg.SYS_WDT_STAT : Nat := 0x0105C
abbrev Reg.SYS_RTC_SEC : Nat := 0x01060
abbrev Reg.SYS_RTC_SUB : Nat := 0x01064
abbrev Reg.SYS_RTC_ALARM : Nat := 0x01068
abbrev Reg.SYS_MUSTER_END : Nat := 0x0106C
abbrev Reg.SYS_MUSTER_STAT : Nat := 0x01070
abbrev Reg.SYS_TEMP : Nat := 0x01074
abbrev Reg.PWR_STATE_REQ : Nat := 0x02040
abbrev Reg.PWR_STATE : Nat := 0x02044
abbrev Reg.PWR_DOMAIN_EN : Nat := 0x02048
abbrev Reg.PWR_DOMAIN_STAT : Nat := 0x0204C
abbrev Reg.PWR_RETAIN : Nat := 0x02050
abbrev Reg.PWR_DOWN_POLICY : Nat := 0x02054
abbrev Reg.PWR_WAKE_EN : Nat := 0x02058
abbrev Reg.PWR_WAKE_CAUSE : Nat := 0x0205C
abbrev Reg.PWR_BOR_CFG : Nat := 0x02060
abbrev Reg.PWR_VKEEP : Nat := 0x02064
abbrev Reg.PWR_MBOX (n : Nat) : Nat := 0x02080 + 4 * n
abbrev Reg.IDENT_PART : Nat := 0x00040
abbrev Reg.IDENT_FAMILY : Nat := 0x00044
abbrev Reg.IDENT_STEP : Nat := 0x00048
abbrev Reg.IDENT_SERIAL_LO : Nat := 0x0004C
abbrev Reg.IDENT_SERIAL_HI : Nat := 0x00050
abbrev Reg.IDENT_CHECK : Nat := 0x00054
abbrev Reg.NVM_CFG : Nat := 0x28040
abbrev Reg.NVM_STAT : Nat := 0x28044
abbrev Reg.NVM_IMAGE : Nat := 0x28048
abbrev Reg.NVM_ERRADDR : Nat := 0x2804C
abbrev Reg.NVM_ECCCNT : Nat := 0x28050
abbrev Reg.NVM_WEAR (n : Nat) : Nat := 0x28058 + 4 * n
abbrev Reg.PINS_FUNC (n : Nat) : Nat := 0x03040 + 4 * n
abbrev Reg.PINS_GPIO_DIR : Nat := 0x030C0
abbrev Reg.PINS_GPIO_OUT : Nat := 0x030C4
abbrev Reg.PINS_GPIO_IN : Nat := 0x030C8
abbrev Reg.PINS_GPIO_IRQ : Nat := 0x030CC
abbrev Reg.PINS_DRIVE : Nat := 0x030D0
abbrev Reg.LOG_CFG : Nat := 0x30040
abbrev Reg.LOG_STAT : Nat := 0x30044
abbrev Reg.LOG_HEAD : Nat := 0x30048
abbrev Reg.LOG_TAIL : Nat := 0x3004C
abbrev Reg.LOG_LAST_CODE : Nat := 0x30050
abbrev Reg.LOG_LAST_DATA (n : Nat) : Nat := 0x30054 + 4 * n

abbrev F.CPS_CFG_SEQSWAP : Field := ⟨Reg.CPS_CFG, 0, 1⟩
abbrev F.CPS_CFG_VHOLD : Field := ⟨Reg.CPS_CFG, 1, 1⟩
abbrev F.CPS_CFG_NOMF : Field := ⟨Reg.CPS_CFG, 2, 2⟩
abbrev F.CPS_CFG_SLEW : Field := ⟨Reg.CPS_CFG, 4, 4⟩
abbrev F.CPS_CFG_FLLG : Field := ⟨Reg.CPS_CFG, 8, 4⟩
abbrev F.CPS_CFG_VMIN : Field := ⟨Reg.CPS_CFG, 16, 8⟩
abbrev F.CPS_CFG_JUMPEN : Field := ⟨Reg.CPS_CFG, 24, 1⟩
abbrev F.CPS_CFG_MPCHK : Field := ⟨Reg.CPS_CFG, 25, 1⟩
abbrev F.CPS_STAT_LOCKED : Field := ⟨Reg.CPS_STAT, 0, 1⟩
abbrev F.CPS_STAT_SEQ_WRONG : Field := ⟨Reg.CPS_STAT, 1, 1⟩
abbrev F.CPS_STAT_SWAPPED : Field := ⟨Reg.CPS_STAT, 2, 1⟩
abbrev F.CPS_STAT_MAG_LOW : Field := ⟨Reg.CPS_STAT, 3, 1⟩
abbrev F.CPS_STAT_CLAMP : Field := ⟨Reg.CPS_STAT, 4, 1⟩
abbrev F.CPS_STAT_JUMP_APPLIED : Field := ⟨Reg.CPS_STAT, 5, 1⟩
abbrev F.CPS_STAT_GAINERR : Field := ⟨Reg.CPS_STAT, 6, 1⟩
abbrev F.CPS_STAT_MPATH_OK : Field := ⟨Reg.CPS_STAT, 7, 1⟩
abbrev F.CPS_STAT_LOCKCNT : Field := ⟨Reg.CPS_STAT, 8, 3⟩
abbrev F.CPS_STAT_UNLOCK_CAUSE : Field := ⟨Reg.CPS_STAT, 12, 3⟩
abbrev F.CPS_MAG_UNBAL : Field := ⟨Reg.CPS_MAG, 24, 8⟩
abbrev F.CPS_SRC_REQ : Field := ⟨Reg.CPS_SRC, 0, 2⟩
abbrev F.CPS_SRC_ACTIVE : Field := ⟨Reg.CPS_SRC, 4, 2⟩
abbrev F.CPS_SRC_BLEND : Field := ⟨Reg.CPS_SRC, 8, 1⟩
abbrev F.CHT_CFG_CNTCLR : Field := ⟨Reg.CHT_CFG, 0, 1⟩
abbrev F.CHT_CFG_FORCECTL : Field := ⟨Reg.CHT_CFG, 1, 1⟩
abbrev F.CHT_CFG_LASTLATE : Field := ⟨Reg.CHT_CFG, 8, 6⟩
abbrev F.CHT_CFG_LASTSKIP : Field := ⟨Reg.CHT_CFG, 16, 6⟩
abbrev F.CHT_WP_ACT_EVT (n : Nat) : Field := ⟨Reg.CHT_WP_ACT n, 0, 1⟩
abbrev F.CHT_WP_ACT_EVLINE (n : Nat) : Field := ⟨Reg.CHT_WP_ACT n, 1, 3⟩
abbrev F.CHT_WP_ACT_REEL (n : Nat) : Field := ⟨Reg.CHT_WP_ACT n, 4, 1⟩
abbrev F.CHT_WP_ACT_REELCH (n : Nat) : Field := ⟨Reg.CHT_WP_ACT n, 5, 4⟩
abbrev F.CHT_WP_ACT_ADC (n : Nat) : Field := ⟨Reg.CHT_WP_ACT n, 9, 1⟩
abbrev F.CHT_WP_ACT_ADCGRP (n : Nat) : Field := ⟨Reg.CHT_WP_ACT n, 10, 2⟩
abbrev F.CHT_WP_ACT_LOAD (n : Nat) : Field := ⟨Reg.CHT_WP_ACT n, 12, 1⟩
abbrev F.CHT_WP_ACT_STEP (n : Nat) : Field := ⟨Reg.CHT_WP_ACT n, 13, 1⟩
abbrev F.CHT_WP_ACT_STEPLINE (n : Nat) : Field := ⟨Reg.CHT_WP_ACT n, 14, 2⟩
abbrev F.CHT_WP_ACT_IRQ (n : Nat) : Field := ⟨Reg.CHT_WP_ACT n, 16, 1⟩
abbrev F.CHT_WP_ACT_IRQLINE (n : Nat) : Field := ⟨Reg.CHT_WP_ACT n, 17, 2⟩
abbrev F.CHT_WP_REP_MODE (n : Nat) : Field := ⟨Reg.CHT_WP_REP n, 0, 2⟩
abbrev F.CHT_WP_REP_N (n : Nat) : Field := ⟨Reg.CHT_WP_REP n, 16, 16⟩
abbrev F.QDL_CFG_LEADOK : Field := ⟨Reg.QDL_CFG, 0, 1⟩
abbrev F.QDL_CFG_SHAREEN : Field := ⟨Reg.QDL_CFG, 1, 1⟩
abbrev F.QDL_CFG_QUALWIN : Field := ⟨Reg.QDL_CFG, 16, 8⟩
abbrev F.QDL_ROLE_ROLE : Field := ⟨Reg.QDL_ROLE, 0, 2⟩
abbrev F.QDL_ROLE_QUAR : Field := ⟨Reg.QDL_ROLE, 4, 1⟩
abbrev F.QDL_ROLE_LEADRANK : Field := ⟨Reg.QDL_ROLE, 8, 3⟩
abbrev F.QDL_ROLE_LEADVALID : Field := ⟨Reg.QDL_ROLE, 11, 1⟩
abbrev F.QDL_STAT_IN_FORMATION : Field := ⟨Reg.QDL_STAT, 0, 1⟩
abbrev F.QDL_STAT_LINKOK : Field := ⟨Reg.QDL_STAT, 1, 1⟩
abbrev F.QDL_STAT_DELAYOK : Field := ⟨Reg.QDL_STAT, 2, 1⟩
abbrev F.QDL_STAT_CAUSE : Field := ⟨Reg.QDL_STAT, 8, 3⟩
abbrev F.QDL_STAT_QFAIL : Field := ⟨Reg.QDL_STAT, 12, 3⟩
abbrev F.QDL_STAT_HOLDCNT : Field := ⟨Reg.QDL_STAT, 16, 5⟩
abbrev F.QDL_DELAY_VALID : Field := ⟨Reg.QDL_DELAY, 31, 1⟩
abbrev F.QDL_UNIT_SEEN (n : Nat) : Field := ⟨Reg.QDL_UNIT n, 0, 1⟩
abbrev F.QDL_UNIT_INFORM (n : Nat) : Field := ⟨Reg.QDL_UNIT n, 1, 1⟩
abbrev F.QDL_UNIT_RQUAR (n : Nat) : Field := ⟨Reg.QDL_UNIT n, 2, 1⟩
abbrev F.QDL_UNIT_WEIGHT (n : Nat) : Field := ⟨Reg.QDL_UNIT n, 8, 8⟩
abbrev F.QDL_ERRCNT_CRC : Field := ⟨Reg.QDL_ERRCNT, 0, 16⟩
abbrev F.ADCX_CLK_CFG_CK0RATE : Field := ⟨Reg.ADCX_CLK_CFG, 0, 2⟩
abbrev F.ADCX_CLK_CFG_CK1RATE : Field := ⟨Reg.ADCX_CLK_CFG, 4, 2⟩
abbrev F.ADCX_CLK_CFG_CK0EN : Field := ⟨Reg.ADCX_CLK_CFG, 8, 1⟩
abbrev F.ADCX_CLK_CFG_CK1EN : Field := ⟨Reg.ADCX_CLK_CFG, 9, 1⟩
abbrev F.ADCX_CLK_CFG_CK0DLY : Field := ⟨Reg.ADCX_CLK_CFG, 16, 5⟩
abbrev F.ADCX_CLK_CFG_CK1DLY : Field := ⟨Reg.ADCX_CLK_CFG, 24, 5⟩
abbrev F.ADCI_CFG_REFEN : Field := ⟨Reg.ADCI_CFG, 0, 1⟩
abbrev F.ADCI_CFG_REFRDY : Field := ⟨Reg.ADCI_CFG, 1, 1⟩
abbrev F.ADCX_CH_CTRL_EN (n : Nat) : Field := ⟨Reg.ADCX_CH_CTRL n, 0, 1⟩
abbrev F.ADCX_CH_CTRL_QUAR (n : Nat) : Field := ⟨Reg.ADCX_CH_CTRL n, 1, 1⟩
abbrev F.ADCX_CH_CTRL_MAN (n : Nat) : Field := ⟨Reg.ADCX_CH_CTRL n, 2, 1⟩
abbrev F.ADCX_CH_CTRL_MEN (n : Nat) : Field := ⟨Reg.ADCX_CH_CTRL n, 3, 1⟩
abbrev F.ADCX_CH_CTRL_COSR (n : Nat) : Field := ⟨Reg.ADCX_CH_CTRL n, 4, 3⟩
abbrev F.ADCX_CH_CTRL_CWR (n : Nat) : Field := ⟨Reg.ADCX_CH_CTRL n, 7, 1⟩
abbrev F.ADCX_CH_CTRL_MOSR (n : Nat) : Field := ⟨Reg.ADCX_CH_CTRL n, 8, 2⟩
abbrev F.ADCX_CH_CTRL_CCONS (n : Nat) : Field := ⟨Reg.ADCX_CH_CTRL n, 10, 2⟩
abbrev F.ADCX_CH_CTRL_MCONS (n : Nat) : Field := ⟨Reg.ADCX_CH_CTRL n, 12, 2⟩
abbrev F.ADCX_CH_CTRL_OVRM (n : Nat) : Field := ⟨Reg.ADCX_CH_CTRL n, 16, 5⟩
abbrev F.ADCI_CH_CTRL_EN (n : Nat) : Field := ⟨Reg.ADCI_CH_CTRL n, 0, 1⟩
abbrev F.ADCI_CH_CTRL_QUAR (n : Nat) : Field := ⟨Reg.ADCI_CH_CTRL n, 1, 1⟩
abbrev F.ADCI_CH_CTRL_MAN (n : Nat) : Field := ⟨Reg.ADCI_CH_CTRL n, 2, 1⟩
abbrev F.ADCI_CH_CTRL_MEN (n : Nat) : Field := ⟨Reg.ADCI_CH_CTRL n, 3, 1⟩
abbrev F.ADCI_CH_CTRL_COSR (n : Nat) : Field := ⟨Reg.ADCI_CH_CTRL n, 4, 3⟩
abbrev F.ADCI_CH_CTRL_CWR (n : Nat) : Field := ⟨Reg.ADCI_CH_CTRL n, 7, 1⟩
abbrev F.ADCI_CH_CTRL_MOSR (n : Nat) : Field := ⟨Reg.ADCI_CH_CTRL n, 8, 2⟩
abbrev F.ADCI_CH_CTRL_CCONS (n : Nat) : Field := ⟨Reg.ADCI_CH_CTRL n, 10, 2⟩
abbrev F.ADCI_CH_CTRL_MCONS (n : Nat) : Field := ⟨Reg.ADCI_CH_CTRL n, 12, 2⟩
abbrev F.ADCI_CH_CTRL_OVRM (n : Nat) : Field := ⟨Reg.ADCI_CH_CTRL n, 16, 5⟩
abbrev F.ADCX_CH_STAT_NEWC (n : Nat) : Field := ⟨Reg.ADCX_CH_STAT n, 0, 1⟩
abbrev F.ADCX_CH_STAT_NEWM (n : Nat) : Field := ⟨Reg.ADCX_CH_STAT n, 1, 1⟩
abbrev F.ADCX_CH_STAT_OVERRUNC (n : Nat) : Field := ⟨Reg.ADCX_CH_STAT n, 2, 1⟩
abbrev F.ADCX_CH_STAT_OVERRUNM (n : Nat) : Field := ⟨Reg.ADCX_CH_STAT n, 3, 1⟩
abbrev F.ADCX_CH_STAT_OVR (n : Nat) : Field := ⟨Reg.ADCX_CH_STAT n, 4, 1⟩
abbrev F.ADCX_CH_STAT_STUCK (n : Nat) : Field := ⟨Reg.ADCX_CH_STAT n, 5, 1⟩
abbrev F.ADCX_CH_STAT_CLKLOSS (n : Nat) : Field := ⟨Reg.ADCX_CH_STAT n, 6, 1⟩
abbrev F.ADCX_CH_STAT_UNSC (n : Nat) : Field := ⟨Reg.ADCX_CH_STAT n, 7, 1⟩
abbrev F.ADCX_CH_STAT_UNSM (n : Nat) : Field := ⟨Reg.ADCX_CH_STAT n, 8, 1⟩
abbrev F.ADCX_CH_STAT_OVRL (n : Nat) : Field := ⟨Reg.ADCX_CH_STAT n, 9, 1⟩
abbrev F.ADCX_CH_STAT_STUCKL (n : Nat) : Field := ⟨Reg.ADCX_CH_STAT n, 10, 1⟩
abbrev F.ADCX_CH_STAT_QFAIL (n : Nat) : Field := ⟨Reg.ADCX_CH_STAT n, 12, 4⟩
abbrev F.ADCX_CH_STAT_MIDX (n : Nat) : Field := ⟨Reg.ADCX_CH_STAT n, 16, 8⟩
abbrev F.ADCX_CH_STAT_TRIGDROP (n : Nat) : Field := ⟨Reg.ADCX_CH_STAT n, 24, 8⟩
abbrev F.ADCI_CH_STAT_NEWC (n : Nat) : Field := ⟨Reg.ADCI_CH_STAT n, 0, 1⟩
abbrev F.ADCI_CH_STAT_NEWM (n : Nat) : Field := ⟨Reg.ADCI_CH_STAT n, 1, 1⟩
abbrev F.ADCI_CH_STAT_OVERRUNC (n : Nat) : Field := ⟨Reg.ADCI_CH_STAT n, 2, 1⟩
abbrev F.ADCI_CH_STAT_OVERRUNM (n : Nat) : Field := ⟨Reg.ADCI_CH_STAT n, 3, 1⟩
abbrev F.ADCI_CH_STAT_OVR (n : Nat) : Field := ⟨Reg.ADCI_CH_STAT n, 4, 1⟩
abbrev F.ADCI_CH_STAT_STUCK (n : Nat) : Field := ⟨Reg.ADCI_CH_STAT n, 5, 1⟩
abbrev F.ADCI_CH_STAT_CLKLOSS (n : Nat) : Field := ⟨Reg.ADCI_CH_STAT n, 6, 1⟩
abbrev F.ADCI_CH_STAT_UNSC (n : Nat) : Field := ⟨Reg.ADCI_CH_STAT n, 7, 1⟩
abbrev F.ADCI_CH_STAT_UNSM (n : Nat) : Field := ⟨Reg.ADCI_CH_STAT n, 8, 1⟩
abbrev F.ADCI_CH_STAT_OVRL (n : Nat) : Field := ⟨Reg.ADCI_CH_STAT n, 9, 1⟩
abbrev F.ADCI_CH_STAT_STUCKL (n : Nat) : Field := ⟨Reg.ADCI_CH_STAT n, 10, 1⟩
abbrev F.ADCI_CH_STAT_QFAIL (n : Nat) : Field := ⟨Reg.ADCI_CH_STAT n, 12, 4⟩
abbrev F.ADCI_CH_STAT_MIDX (n : Nat) : Field := ⟨Reg.ADCI_CH_STAT n, 16, 8⟩
abbrev F.ADCI_CH_STAT_TRIGDROP (n : Nat) : Field := ⟨Reg.ADCI_CH_STAT n, 24, 8⟩
abbrev F.ADCX_TRIG_MASK (n : Nat) : Field := ⟨Reg.ADCX_TRIG n, 0, 10⟩
abbrev F.ADCX_TRIG_SWTRIG (n : Nat) : Field := ⟨Reg.ADCX_TRIG n, 31, 1⟩
abbrev F.ADCI_TRIG_MASK (n : Nat) : Field := ⟨Reg.ADCI_TRIG n, 0, 10⟩
abbrev F.ADCI_TRIG_SWTRIG (n : Nat) : Field := ⟨Reg.ADCI_TRIG n, 31, 1⟩
abbrev F.CTL_CFG_TRIGEN : Field := ⟨Reg.CTL_CFG, 0, 4⟩
abbrev F.CTL_CFG_SPECEN : Field := ⟨Reg.CTL_CFG, 4, 1⟩
abbrev F.CTL_CFG_SWTRIG : Field := ⟨Reg.CTL_CFG, 8, 4⟩
abbrev F.CTL_CFG_ADV : Field := ⟨Reg.CTL_CFG, 16, 16⟩
abbrev F.CTL_STAT_RUN : Field := ⟨Reg.CTL_STAT, 0, 1⟩
abbrev F.CTL_STAT_PEND : Field := ⟨Reg.CTL_STAT, 1, 1⟩
abbrev F.CTL_STAT_FIXWAIT : Field := ⟨Reg.CTL_STAT, 2, 1⟩
abbrev F.CTL_STAT_SAT : Field := ⟨Reg.CTL_STAT, 3, 1⟩
abbrev F.CTL_STAT_MODLIM : Field := ⟨Reg.CTL_STAT, 4, 1⟩
abbrev F.CTL_STAT_ABSENT : Field := ⟨Reg.CTL_STAT, 5, 1⟩
abbrev F.CTL_STAT_ABORT : Field := ⟨Reg.CTL_STAT, 6, 1⟩
abbrev F.CTL_STAT_LISTERR : Field := ⟨Reg.CTL_STAT, 8, 1⟩
abbrev F.CTL_STAT_FPERR : Field := ⟨Reg.CTL_STAT, 9, 1⟩
abbrev F.CTL_STAT_NOTOWN : Field := ⟨Reg.CTL_STAT, 10, 1⟩
abbrev F.CTL_STAT_SATSLOT : Field := ⟨Reg.CTL_STAT, 12, 5⟩
abbrev F.CTL_STAT_DROPCNT : Field := ⟨Reg.CTL_STAT, 17, 7⟩
abbrev F.CTL_STAT_PC : Field := ⟨Reg.CTL_STAT, 24, 6⟩
abbrev F.CTL_LAT_LAT : Field := ⟨Reg.CTL_LAT, 0, 16⟩
abbrev F.CTL_LAT_FIXONLY : Field := ⟨Reg.CTL_LAT, 16, 1⟩
abbrev F.CTL_LAT_RECOMP : Field := ⟨Reg.CTL_LAT, 17, 1⟩
abbrev F.CTL_LATMAX_MAX : Field := ⟨Reg.CTL_LATMAX, 0, 16⟩
abbrev F.CTL_LATMAX_LIMIT : Field := ⟨Reg.CTL_LATMAX, 16, 15⟩
abbrev F.CTL_LATMAX_CLR : Field := ⟨Reg.CTL_LATMAX, 31, 1⟩
abbrev F.CTL_SLOT_CFG_ORDER (n : Nat) : Field := ⟨Reg.CTL_SLOT_CFG n, 0, 1⟩
abbrev F.CTL_SLOT_CFG_BEARTUNE (n : Nat) : Field := ⟨Reg.CTL_SLOT_CFG n, 1, 1⟩
abbrev F.CTL_SLOT_CFG_TSDIV (n : Nat) : Field := ⟨Reg.CTL_SLOT_CFG n, 2, 1⟩
abbrev F.CTL_SLOT_CFG_HRHOLD (n : Nat) : Field := ⟨Reg.CTL_SLOT_CFG n, 3, 1⟩
abbrev F.CTL_SLOT_CFG_SCLR (n : Nat) : Field := ⟨Reg.CTL_SLOT_CFG n, 4, 1⟩
abbrev F.CTL_SLOT_CFG_AWSH (n : Nat) : Field := ⟨Reg.CTL_SLOT_CFG n, 6, 4⟩
abbrev F.CTL_SLOT_CFG_HARM (n : Nat) : Field := ⟨Reg.CTL_SLOT_CFG n, 10, 6⟩
abbrev F.CTL_SLOT_CFG_TUNEERR (n : Nat) : Field := ⟨Reg.CTL_SLOT_CFG n, 16, 1⟩
abbrev F.SPEC_CFG_INMASK : Field := ⟨Reg.SPEC_CFG, 0, 2⟩
abbrev F.SPEC_CFG_ASH : Field := ⟨Reg.SPEC_CFG, 4, 4⟩
abbrev F.SPEC_CFG_GTHR : Field := ⟨Reg.SPEC_CFG, 8, 8⟩
abbrev F.SPEC_CFG_SUSPN : Field := ⟨Reg.SPEC_CFG, 16, 4⟩
abbrev F.SPEC_CFG_HEALTHEN : Field := ⟨Reg.SPEC_CFG, 24, 1⟩
abbrev F.SPEC_STAT_QUAL : Field := ⟨Reg.SPEC_STAT, 0, 8⟩
abbrev F.SPEC_STAT_DROFF : Field := ⟨Reg.SPEC_STAT, 8, 8⟩
abbrev F.SPEC_STAT_SUSPECT : Field := ⟨Reg.SPEC_STAT, 16, 8⟩
abbrev F.SPEC_STAT_VOID : Field := ⟨Reg.SPEC_STAT, 24, 1⟩
abbrev F.SPEC_STAT_ELC : Field := ⟨Reg.SPEC_STAT, 25, 1⟩
abbrev F.SPEC_STAT_UNFIXED : Field := ⟨Reg.SPEC_STAT, 26, 1⟩
abbrev F.SPEC_STAT_CFGERR : Field := ⟨Reg.SPEC_STAT, 27, 1⟩
abbrev F.SPEC_STAT_CALDONE : Field := ⟨Reg.SPEC_STAT, 28, 1⟩
abbrev F.SPEC_FIXTMO_TMO : Field := ⟨Reg.SPEC_FIXTMO, 0, 16⟩
abbrev F.SPEC_FIXTMO_AUTO : Field := ⟨Reg.SPEC_FIXTMO, 31, 1⟩
abbrev F.SPEC_SUBST_SUBST : Field := ⟨Reg.SPEC_SUBST, 0, 8⟩
abbrev F.SPEC_SUBST_FIXLOST : Field := ⟨Reg.SPEC_SUBST, 8, 8⟩
abbrev F.SPEC_SUBST_PHOPEN : Field := ⟨Reg.SPEC_SUBST, 16, 8⟩
abbrev F.SPEC_SUBST_TRIPCAUSE : Field := ⟨Reg.SPEC_SUBST, 24, 3⟩
abbrev F.SPEC_SUBST_TRIP : Field := ⟨Reg.SPEC_SUBST, 27, 1⟩
abbrev F.SPEC_RETRACTCNT_UNFIXED : Field := ⟨Reg.SPEC_RETRACTCNT, 16, 16⟩
abbrev F.SPEC_BAND_BAND (n : Nat) : Field := ⟨Reg.SPEC_BAND n, 0, 24⟩
abbrev F.SPEC_BAND_SRC (n : Nat) : Field := ⟨Reg.SPEC_BAND n, 24, 5⟩
abbrev F.SPEC_BAND_ROLE (n : Nat) : Field := ⟨Reg.SPEC_BAND n, 29, 3⟩
abbrev F.SPEC_PRED_USED (n : Nat) : Field := ⟨Reg.SPEC_PRED n, 24, 1⟩
abbrev F.SPEC_PRED_ANCHK (n : Nat) : Field := ⟨Reg.SPEC_PRED n, 25, 1⟩
abbrev F.SPEC_RESID_OUT (n : Nat) : Field := ⟨Reg.SPEC_RESID n, 24, 1⟩
abbrev F.SPEC_RESID_NOFIX (n : Nat) : Field := ⟨Reg.SPEC_RESID n, 25, 1⟩
abbrev F.MODE_CFG_ISLPOL : Field := ⟨Reg.MODE_CFG, 0, 2⟩
abbrev F.MODE_CFG_BATT : Field := ⟨Reg.MODE_CFG, 2, 1⟩
abbrev F.MODE_CFG_GENRET : Field := ⟨Reg.MODE_CFG, 3, 1⟩
abbrev F.MODE_CFG_VVEN : Field := ⟨Reg.MODE_CFG, 4, 1⟩
abbrev F.MODE_CFG_FWEN : Field := ⟨Reg.MODE_CFG, 5, 1⟩
abbrev F.MODE_CFG_MPPT0EN : Field := ⟨Reg.MODE_CFG, 6, 1⟩
abbrev F.MODE_CFG_MPPT1EN : Field := ⟨Reg.MODE_CFG, 7, 1⟩
abbrev F.MODE_CFG_GUARDEN : Field := ⟨Reg.MODE_CFG, 8, 1⟩
abbrev F.MODE_CFG_TEMPEN : Field := ⟨Reg.MODE_CFG, 9, 1⟩
abbrev F.MODE_CFG_VBASE : Field := ⟨Reg.MODE_CFG, 16, 8⟩
abbrev F.MODE_CFG_IBASE : Field := ⟨Reg.MODE_CFG, 24, 8⟩
abbrev F.MODE_REQ_REQ : Field := ⟨Reg.MODE_REQ, 0, 2⟩
abbrev F.MODE_STAT_ACTIVE : Field := ⟨Reg.MODE_STAT, 0, 2⟩
abbrev F.MODE_STAT_AUTO : Field := ⟨Reg.MODE_STAT, 2, 1⟩
abbrev F.MODE_STAT_BLEND : Field := ⟨Reg.MODE_STAT, 3, 1⟩
abbrev F.MODE_STAT_HEADROOM : Field := ⟨Reg.MODE_STAT, 4, 1⟩
abbrev F.MODE_STAT_DERATE : Field := ⟨Reg.MODE_STAT, 5, 1⟩
abbrev F.MODE_STAT_GENOK : Field := ⟨Reg.MODE_STAT, 6, 1⟩
abbrev F.MODE_STAT_HOREF : Field := ⟨Reg.MODE_STAT, 7, 1⟩
abbrev F.MODE_STAT_LIMSRC : Field := ⟨Reg.MODE_STAT, 8, 4⟩
abbrev F.MODE_STAT_MPPT0 : Field := ⟨Reg.MODE_STAT, 12, 2⟩
abbrev F.MODE_STAT_MPPT1 : Field := ⟨Reg.MODE_STAT, 14, 2⟩
abbrev F.MODE_STAT_KH : Field := ⟨Reg.MODE_STAT, 16, 9⟩
abbrev F.MODE_STAT_MFIG : Field := ⟨Reg.MODE_STAT, 25, 7⟩
abbrev F.MODE_P_SET_PRAMP : Field := ⟨Reg.MODE_P_SET, 16, 16⟩
abbrev F.MODE_Q_SET_QRAMP : Field := ⟨Reg.MODE_Q_SET, 16, 16⟩
abbrev F.MODE_DROOP_P_RP : Field := ⟨Reg.MODE_DROOP_P, 0, 16⟩
abbrev F.MODE_DROOP_P_DBF : Field := ⟨Reg.MODE_DROOP_P, 16, 10⟩
abbrev F.MODE_DROOP_Q_RV : Field := ⟨Reg.MODE_DROOP_Q, 0, 16⟩
abbrev F.MODE_DROOP_Q_DBV : Field := ⟨Reg.MODE_DROOP_Q, 16, 10⟩
abbrev F.MODE_DROOP_Q_QLIM : Field := ⟨Reg.MODE_DROOP_Q, 26, 6⟩
abbrev F.MODE_M_MAX_M_MAX : Field := ⟨Reg.MODE_M_MAX, 0, 16⟩
abbrev F.MODE_HEADROOM_POL_POL : Field := ⟨Reg.MODE_HEADROOM_POL, 0, 2⟩
abbrev F.MODE_HEADROOM_POL_HYST : Field := ⟨Reg.MODE_HEADROOM_POL, 8, 8⟩
abbrev F.MODE_HEADROOM_POL_VDCUP : Field := ⟨Reg.MODE_HEADROOM_POL, 16, 8⟩
abbrev F.MODE_MPPT_CFG_STEPMIN : Field := ⟨Reg.MODE_MPPT_CFG, 0, 8⟩
abbrev F.MODE_MPPT_CFG_STEPMAX : Field := ⟨Reg.MODE_MPPT_CFG, 8, 8⟩
abbrev F.MODE_MPPT_CFG_VDCSET : Field := ⟨Reg.MODE_MPPT_CFG, 16, 8⟩
abbrev F.MODE_MPPT_CFG_PERIOD : Field := ⟨Reg.MODE_MPPT_CFG, 24, 4⟩
abbrev F.MODE_MPPT_CFG_SWEEP : Field := ⟨Reg.MODE_MPPT_CFG, 28, 4⟩
abbrev F.MODE_MPPT_STAT_VOC (n : Nat) : Field := ⟨Reg.MODE_MPPT_STAT n, 16, 16⟩
abbrev F.MODE_CURTAIL_LIMIT : Field := ⟨Reg.MODE_CURTAIL, 0, 16⟩
abbrev F.MODE_CURTAIL_TSTART : Field := ⟨Reg.MODE_CURTAIL, 16, 8⟩
abbrev F.MODE_CURTAIL_TSPAN : Field := ⟨Reg.MODE_CURTAIL, 24, 8⟩
abbrev F.MODE_GEN_MINLOAD_MINLOAD : Field := ⟨Reg.MODE_GEN_MINLOAD, 0, 8⟩
abbrev F.MODE_GEN_MINLOAD_RPG : Field := ⟨Reg.MODE_GEN_MINLOAD, 8, 8⟩
abbrev F.MODE_GEN_MINLOAD_GENKVA : Field := ⟨Reg.MODE_GEN_MINLOAD, 16, 8⟩
abbrev F.MODE_GEN_MINLOAD_UNITKVA : Field := ⟨Reg.MODE_GEN_MINLOAD, 24, 8⟩
abbrev F.PWM_CFG_OWNER : Field := ⟨Reg.PWM_CFG, 0, 2⟩
abbrev F.PWM_CFG_LDMODE0 : Field := ⟨Reg.PWM_CFG, 2, 2⟩
abbrev F.PWM_CFG_LDMODE1 : Field := ⟨Reg.PWM_CFG, 4, 2⟩
abbrev F.PWM_CFG_TB0EN : Field := ⟨Reg.PWM_CFG, 6, 1⟩
abbrev F.PWM_CFG_TB1EN : Field := ⟨Reg.PWM_CFG, 7, 1⟩
abbrev F.PWM_CFG_DFUNC : Field := ⟨Reg.PWM_CFG, 8, 4⟩
abbrev F.PWM_CFG_CMP0LEG : Field := ⟨Reg.PWM_CFG, 12, 2⟩
abbrev F.PWM_CFG_CMP0SLOPE : Field := ⟨Reg.PWM_CFG, 14, 2⟩
abbrev F.PWM_CFG_CMP1LEG : Field := ⟨Reg.PWM_CFG, 16, 2⟩
abbrev F.PWM_CFG_CMP1SLOPE : Field := ⟨Reg.PWM_CFG, 18, 2⟩
abbrev F.PWM_LOAD_LOAD_ALL : Field := ⟨Reg.PWM_LOAD, 0, 1⟩
abbrev F.PWM_LOAD_PEND0 : Field := ⟨Reg.PWM_LOAD, 1, 1⟩
abbrev F.PWM_LOAD_PEND1 : Field := ⟨Reg.PWM_LOAD, 2, 1⟩
abbrev F.PWM_CAR_N_CAR_N : Field := ⟨Reg.PWM_CAR_N, 0, 11⟩
abbrev F.PWM_CAR_N_HP0 : Field := ⟨Reg.PWM_CAR_N, 16, 16⟩
abbrev F.PWM_TB1_PER_HP1 : Field := ⟨Reg.PWM_TB1_PER, 0, 21⟩
abbrev F.PWM_TB_STAT_COUNT (n : Nat) : Field := ⟨Reg.PWM_TB_STAT n, 0, 16⟩
abbrev F.PWM_TB_STAT_DIR (n : Nat) : Field := ⟨Reg.PWM_TB_STAT n, 16, 1⟩
abbrev F.PWM_TB_STAT_RUN (n : Nat) : Field := ⟨Reg.PWM_TB_STAT n, 17, 1⟩
abbrev F.PWM_TB_STAT_CKDIV2 (n : Nat) : Field := ⟨Reg.PWM_TB_STAT n, 18, 1⟩
abbrev F.PWM_TB_STAT_FHALF (n : Nat) : Field := ⟨Reg.PWM_TB_STAT n, 19, 1⟩
abbrev F.PWM_TB_STAT_PRECH (n : Nat) : Field := ⟨Reg.PWM_TB_STAT n, 20, 1⟩
abbrev F.PWM_TB_STAT_SLIP (n : Nat) : Field := ⟨Reg.PWM_TB_STAT n, 24, 8⟩
abbrev F.PWM_EVT_PRESC_P_TB0 : Field := ⟨Reg.PWM_EVT_PRESC, 0, 8⟩
abbrev F.PWM_EVT_PRESC_P_CMP0 : Field := ⟨Reg.PWM_EVT_PRESC, 8, 8⟩
abbrev F.PWM_EVT_PRESC_P_CMP1 : Field := ⟨Reg.PWM_EVT_PRESC, 16, 8⟩
abbrev F.PWM_EVT_PRESC_P_TB1 : Field := ⟨Reg.PWM_EVT_PRESC, 24, 8⟩
abbrev F.PWM_MIN_PULSE_SYSCLK : Field := ⟨Reg.PWM_MIN_PULSE, 0, 12⟩
abbrev F.PWM_BSR_CFG_LIMIT : Field := ⟨Reg.PWM_BSR_CFG, 0, 8⟩
abbrev F.PWM_BSR_CFG_WIDTH : Field := ⟨Reg.PWM_BSR_CFG, 8, 8⟩
abbrev F.PWM_BSR_CFG_PCNT : Field := ⟨Reg.PWM_BSR_CFG, 16, 4⟩
abbrev F.PWM_LATECNT_LATE : Field := ⟨Reg.PWM_LATECNT, 0, 16⟩
abbrev F.PWM_LATECNT_REFRESH : Field := ⟨Reg.PWM_LATECNT, 16, 16⟩
abbrev F.GD_CFG_GMIN : Field := ⟨Reg.GD_CFG, 0, 8⟩
abbrev F.GD_CFG_SDDLY : Field := ⟨Reg.GD_CFG, 8, 10⟩
abbrev F.GD_CFG_ESTOPCLR : Field := ⟨Reg.GD_CFG, 24, 1⟩
abbrev F.GD_CFG_SWSD : Field := ⟨Reg.GD_CFG, 25, 1⟩
abbrev F.GD_FPOL_BAT : Field := ⟨Reg.GD_FPOL, 8, 2⟩
abbrev F.GD_FPOL_BST : Field := ⟨Reg.GD_FPOL, 10, 2⟩
abbrev F.GD_FLT_STAT_ASSERT : Field := ⟨Reg.GD_FLT_STAT, 0, 6⟩
abbrev F.GD_FLT_STAT_HOLD : Field := ⟨Reg.GD_FLT_STAT, 8, 6⟩
abbrev F.GD_FLT_STAT_ESTOP : Field := ⟨Reg.GD_FLT_STAT, 16, 1⟩
abbrev F.GD_FLT_STAT_ESTOPIN : Field := ⟨Reg.GD_FLT_STAT, 17, 1⟩
abbrev F.GD_FLT_STAT_SHUTDOWN : Field := ⟨Reg.GD_FLT_STAT, 18, 1⟩
abbrev F.GD_FLT_STAT_SDCAUSE : Field := ⟨Reg.GD_FLT_STAT, 20, 4⟩
abbrev F.GD_ATTRIB_INPUT : Field := ⟨Reg.GD_ATTRIB, 0, 3⟩
abbrev F.GD_ATTRIB_BLAME : Field := ⟨Reg.GD_ATTRIB, 4, 3⟩
abbrev F.GD_ATTRIB_DT : Field := ⟨Reg.GD_ATTRIB, 7, 1⟩
abbrev F.GD_ATTRIB_COUNT : Field := ⟨Reg.GD_ATTRIB, 16, 16⟩
abbrev F.GD_LEG_CTRL_EN (n : Nat) : Field := ⟨Reg.GD_LEG_CTRL n, 0, 1⟩
abbrev F.GD_LEG_CTRL_QUAR (n : Nat) : Field := ⟨Reg.GD_LEG_CTRL n, 1, 1⟩
abbrev F.GD_LEG_CTRL_RELEASE (n : Nat) : Field := ⟨Reg.GD_LEG_CTRL n, 2, 1⟩
abbrev F.GD_LEG_CTRL_LSTATE (n : Nat) : Field := ⟨Reg.GD_LEG_CTRL n, 4, 2⟩
abbrev F.GD_LEG_CTRL_LATH (n : Nat) : Field := ⟨Reg.GD_LEG_CTRL n, 6, 1⟩
abbrev F.GD_LEG_CTRL_LATL (n : Nat) : Field := ⟨Reg.GD_LEG_CTRL n, 7, 1⟩
abbrev F.GD_LEG_CTRL_LEGOFF (n : Nat) : Field := ⟨Reg.GD_LEG_CTRL n, 8, 1⟩
abbrev F.GD_LEG_CTRL_BSTART (n : Nat) : Field := ⟨Reg.GD_LEG_CTRL n, 16, 8⟩
abbrev F.GD_LEG_CTRL_QFAIL (n : Nat) : Field := ⟨Reg.GD_LEG_CTRL n, 24, 4⟩
abbrev F.GD_ELC_CFG_INV : Field := ⟨Reg.GD_ELC_CFG, 0, 3⟩
abbrev F.GD_ELC_CFG_FILT : Field := ⟨Reg.GD_ELC_CFG, 8, 8⟩
abbrev F.GD_ELC_CFG_ACTIVE : Field := ⟨Reg.GD_ELC_CFG, 16, 1⟩
abbrev F.CMP_CTRL_EN (n : Nat) : Field := ⟨Reg.CMP_CTRL n, 0, 1⟩
abbrev F.CMP_CTRL_QUAR (n : Nat) : Field := ⟨Reg.CMP_CTRL n, 1, 1⟩
abbrev F.CMP_CTRL_MODE (n : Nat) : Field := ⟨Reg.CMP_CTRL n, 2, 3⟩
abbrev F.CMP_CTRL_HYST (n : Nat) : Field := ⟨Reg.CMP_CTRL n, 5, 2⟩
abbrev F.CMP_CTRL_INSEL (n : Nat) : Field := ⟨Reg.CMP_CTRL n, 8, 4⟩
abbrev F.CMP_CTRL_EDGE (n : Nat) : Field := ⟨Reg.CMP_CTRL n, 12, 2⟩
abbrev F.CMP_CTRL_WIN (n : Nat) : Field := ⟨Reg.CMP_CTRL n, 14, 1⟩
abbrev F.CMP_CTRL_CAPT (n : Nat) : Field := ⟨Reg.CMP_CTRL n, 15, 2⟩
abbrev F.CMP_CTRL_WAKE (n : Nat) : Field := ⟨Reg.CMP_CTRL n, 17, 1⟩
abbrev F.CMP_CTRL_QFAIL (n : Nat) : Field := ⟨Reg.CMP_CTRL n, 20, 4⟩
abbrev F.CMP_THR_THR (n : Nat) : Field := ⟨Reg.CMP_THR n, 0, 10⟩
abbrev F.CMP_STAT_OUT : Field := ⟨Reg.CMP_STAT, 0, 16⟩
abbrev F.CMP_STAT_CAPNEW : Field := ⟨Reg.CMP_STAT, 16, 16⟩
abbrev F.EVR_DEST_EVENT (n : Nat) : Field := ⟨Reg.EVR_DEST n, 0, 6⟩
abbrev F.EVR_DEST_VALID (n : Nat) : Field := ⟨Reg.EVR_DEST n, 7, 1⟩
abbrev F.PROT_PROFILE_SEL : Field := ⟨Reg.PROT_PROFILE, 0, 2⟩
abbrev F.PROT_PROFILE_LOAD : Field := ⟨Reg.PROT_PROFILE, 2, 1⟩
abbrev F.PROT_PROFILE_VLL : Field := ⟨Reg.PROT_PROFILE, 3, 1⟩
abbrev F.PROT_PROFILE_SEAL : Field := ⟨Reg.PROT_PROFILE, 4, 2⟩
abbrev F.PROT_PROFILE_PROFMIS : Field := ⟨Reg.PROT_PROFILE, 6, 1⟩
abbrev F.PROT_PROFILE_PROFERR : Field := ⟨Reg.PROT_PROFILE, 7, 1⟩
abbrev F.PROT_PROFILE_CMPSEL : Field := ⟨Reg.PROT_PROFILE, 8, 4⟩
abbrev F.PROT_PROFILE_CMPEN : Field := ⟨Reg.PROT_PROFILE, 12, 1⟩
abbrev F.PROT_PROFILE_VNOM : Field := ⟨Reg.PROT_PROFILE, 16, 16⟩
abbrev F.PROT_OV_THR (n : Nat) : Field := ⟨Reg.PROT_OV n, 0, 16⟩
abbrev F.PROT_OV_TIME (n : Nat) : Field := ⟨Reg.PROT_OV n, 16, 14⟩
abbrev F.PROT_OV_UNIT (n : Nat) : Field := ⟨Reg.PROT_OV n, 30, 2⟩
abbrev F.PROT_UV_THR (n : Nat) : Field := ⟨Reg.PROT_UV n, 0, 16⟩
abbrev F.PROT_UV_TIME (n : Nat) : Field := ⟨Reg.PROT_UV n, 16, 14⟩
abbrev F.PROT_UV_UNIT (n : Nat) : Field := ⟨Reg.PROT_UV n, 30, 2⟩
abbrev F.PROT_OF_THR (n : Nat) : Field := ⟨Reg.PROT_OF n, 0, 16⟩
abbrev F.PROT_OF_TIME (n : Nat) : Field := ⟨Reg.PROT_OF n, 16, 14⟩
abbrev F.PROT_OF_UNIT (n : Nat) : Field := ⟨Reg.PROT_OF n, 30, 2⟩
abbrev F.PROT_UF_THR (n : Nat) : Field := ⟨Reg.PROT_UF n, 0, 16⟩
abbrev F.PROT_UF_TIME (n : Nat) : Field := ⟨Reg.PROT_UF n, 16, 14⟩
abbrev F.PROT_UF_UNIT (n : Nat) : Field := ⟨Reg.PROT_UF n, 30, 2⟩
abbrev F.PROT_ROCOF_THR : Field := ⟨Reg.PROT_ROCOF, 0, 16⟩
abbrev F.PROT_ROCOF_TIME : Field := ⟨Reg.PROT_ROCOF, 24, 6⟩
abbrev F.PROT_ROCOF_ACT : Field := ⟨Reg.PROT_ROCOF, 31, 1⟩
abbrev F.PROT_VSHIFT_THR : Field := ⟨Reg.PROT_VSHIFT, 0, 16⟩
abbrev F.PROT_VSHIFT_ACT : Field := ⟨Reg.PROT_VSHIFT, 31, 1⟩
abbrev F.PROT_AI_CFG_AIEN : Field := ⟨Reg.PROT_AI_CFG, 0, 1⟩
abbrev F.PROT_AI_CFG_ISLTRIP : Field := ⟨Reg.PROT_AI_CFG, 1, 1⟩
abbrev F.PROT_AI_CFG_N : Field := ⟨Reg.PROT_AI_CFG, 4, 4⟩
abbrev F.PROT_AI_CFG_PHIB : Field := ⟨Reg.PROT_AI_CFG, 8, 8⟩
abbrev F.PROT_AI_CFG_DFTH : Field := ⟨Reg.PROT_AI_CFG, 16, 8⟩
abbrev F.PROT_FRT_LV_V (n : Nat) : Field := ⟨Reg.PROT_FRT_LV n, 0, 16⟩
abbrev F.PROT_FRT_LV_T (n : Nat) : Field := ⟨Reg.PROT_FRT_LV n, 16, 16⟩
abbrev F.PROT_FRT_K_K : Field := ⟨Reg.PROT_FRT_K, 0, 8⟩
abbrev F.PROT_FRT_K_VLENT : Field := ⟨Reg.PROT_FRT_K, 8, 8⟩
abbrev F.PROT_FRT_K_VHENT : Field := ⟨Reg.PROT_FRT_K, 16, 8⟩
abbrev F.PROT_FRT_K_POST : Field := ⟨Reg.PROT_FRT_K, 24, 8⟩
abbrev F.PROT_FRT_VMC_V_MC : Field := ⟨Reg.PROT_FRT_VMC, 0, 16⟩
abbrev F.PROT_FRT_VMC_RESTORE : Field := ⟨Reg.PROT_FRT_VMC, 16, 16⟩
abbrev F.PROT_RECON_WIN_VLO : Field := ⟨Reg.PROT_RECON_WIN, 0, 8⟩
abbrev F.PROT_RECON_WIN_VHI : Field := ⟨Reg.PROT_RECON_WIN, 8, 8⟩
abbrev F.PROT_RECON_WIN_FLO : Field := ⟨Reg.PROT_RECON_WIN, 16, 8⟩
abbrev F.PROT_RECON_WIN_FHI : Field := ⟨Reg.PROT_RECON_WIN, 24, 8⟩
abbrev F.PROT_RECON_RAMP_RAMP : Field := ⟨Reg.PROT_RECON_RAMP, 0, 16⟩
abbrev F.PROT_STAT_TRIPPED : Field := ⟨Reg.PROT_STAT, 0, 1⟩
abbrev F.PROT_STAT_ISLAND : Field := ⟨Reg.PROT_STAT, 1, 1⟩
abbrev F.PROT_STAT_FRT : Field := ⟨Reg.PROT_STAT, 2, 1⟩
abbrev F.PROT_STAT_FRTHV : Field := ⟨Reg.PROT_STAT, 3, 1⟩
abbrev F.PROT_STAT_MC : Field := ⟨Reg.PROT_STAT, 4, 1⟩
abbrev F.PROT_STAT_RECONOK : Field := ⟨Reg.PROT_STAT, 5, 1⟩
abbrev F.PROT_STAT_SYNCOK : Field := ⟨Reg.PROT_STAT, 6, 1⟩
abbrev F.PROT_STAT_DEADBUS : Field := ⟨Reg.PROT_STAT, 7, 1⟩
abbrev F.PROT_STAT_CLKFB : Field := ⟨Reg.PROT_STAT, 8, 1⟩
abbrev F.PROT_STAT_AIRUN : Field := ⟨Reg.PROT_STAT, 9, 1⟩
abbrev F.PROT_STAT_WARN : Field := ⟨Reg.PROT_STAT, 16, 5⟩
abbrev F.PROT_STAT_RCLIM : Field := ⟨Reg.PROT_STAT, 24, 8⟩
abbrev F.PROT_TRIP_CAUSE_CAUSE : Field := ⟨Reg.PROT_TRIP_CAUSE, 0, 4⟩
abbrev F.PROT_TRIP_CAUSE_STAGE : Field := ⟨Reg.PROT_TRIP_CAUSE, 4, 3⟩
abbrev F.PROT_TRIP_CAUSE_PHASES : Field := ⟨Reg.PROT_TRIP_CAUSE, 8, 3⟩
abbrev F.PROT_TRIP_CAUSE_VALUE : Field := ⟨Reg.PROT_TRIP_CAUSE, 16, 16⟩
abbrev F.SAFE_UNLOCK_UNLOCK : Field := ⟨Reg.SAFE_UNLOCK, 0, 1⟩
abbrev F.SAFE_UNLOCK_LOCK : Field := ⟨Reg.SAFE_UNLOCK, 1, 1⟩
abbrev F.SAFE_UNLOCK_NEWKEY : Field := ⟨Reg.SAFE_UNLOCK, 2, 1⟩
abbrev F.SAFE_UNLOCK_REMAIN : Field := ⟨Reg.SAFE_UNLOCK, 16, 16⟩
abbrev F.SAFE_STAT_OPEN : Field := ⟨Reg.SAFE_STAT, 0, 1⟩
abbrev F.SAFE_STAT_LOCKOUT : Field := ⟨Reg.SAFE_STAT, 1, 1⟩
abbrev F.SAFE_STAT_SEAL_FAULT : Field := ⟨Reg.SAFE_STAT, 2, 1⟩
abbrev F.SAFE_STAT_S3 : Field := ⟨Reg.SAFE_STAT, 3, 1⟩
abbrev F.SAFE_STAT_S4 : Field := ⟨Reg.SAFE_STAT, 4, 1⟩
abbrev F.SAFE_STAT_DEFKEY : Field := ⟨Reg.SAFE_STAT, 5, 1⟩
abbrev F.SAFE_SEAL_CODE : Field := ⟨Reg.SAFE_SEAL, 0, 4⟩
abbrev F.SAFE_SEAL_CHANGED : Field := ⟨Reg.SAFE_SEAL, 15, 1⟩
abbrev F.SAFE_FAILCNT_FAIL : Field := ⟨Reg.SAFE_FAILCNT, 0, 3⟩
abbrev F.SAFE_LOG_STAT_USED : Field := ⟨Reg.SAFE_LOG_STAT, 0, 10⟩
abbrev F.SAFE_LOG_STAT_NEAR : Field := ⟨Reg.SAFE_LOG_STAT, 10, 1⟩
abbrev F.SAFE_LOG_STAT_FULL : Field := ⟨Reg.SAFE_LOG_STAT, 11, 1⟩
abbrev F.SAFE_LOG_STAT_BUSY : Field := ⟨Reg.SAFE_LOG_STAT, 12, 1⟩
abbrev F.SAFE_LOG_STAT_NVMERR : Field := ⟨Reg.SAFE_LOG_STAT, 13, 1⟩
abbrev F.SAFE_LOG_STAT_SEALPEND : Field := ⟨Reg.SAFE_LOG_STAT, 14, 1⟩
abbrev F.RLY_POLICY_ORDER : Field := ⟨Reg.RLY_POLICY, 0, 1⟩
abbrev F.RLY_POLICY_ALT : Field := ⟨Reg.RLY_POLICY, 1, 1⟩
abbrev F.RLY_POLICY_WELDEN : Field := ⟨Reg.RLY_POLICY, 2, 1⟩
abbrev F.RLY_POLICY_DEADINV : Field := ⟨Reg.RLY_POLICY, 3, 1⟩
abbrev F.RLY_POLICY_PERMTMO : Field := ⟨Reg.RLY_POLICY, 8, 8⟩
abbrev F.RLY_PICKUP_T_PICKUP : Field := ⟨Reg.RLY_PICKUP, 0, 8⟩
abbrev F.RLY_PICKUP_T_DROPOUT : Field := ⟨Reg.RLY_PICKUP, 8, 8⟩
abbrev F.RLY_PICKUP_T_STEP : Field := ⟨Reg.RLY_PICKUP, 16, 8⟩
abbrev F.RLY_CTRL_CLOSE : Field := ⟨Reg.RLY_CTRL, 0, 1⟩
abbrev F.RLY_CTRL_OPEN : Field := ⟨Reg.RLY_CTRL, 1, 1⟩
abbrev F.RLY_CTRL_WELDTEST : Field := ⟨Reg.RLY_CTRL, 2, 1⟩
abbrev F.RLY_STAT_STATE : Field := ⟨Reg.RLY_STAT, 0, 3⟩
abbrev F.RLY_STAT_K1 : Field := ⟨Reg.RLY_STAT, 3, 1⟩
abbrev F.RLY_STAT_K2 : Field := ⟨Reg.RLY_STAT, 4, 1⟩
abbrev F.RLY_STAT_FB1 : Field := ⟨Reg.RLY_STAT, 5, 2⟩
abbrev F.RLY_STAT_FB2 : Field := ⟨Reg.RLY_STAT, 7, 2⟩
abbrev F.RLY_STAT_PERMIT : Field := ⟨Reg.RLY_STAT, 9, 1⟩
abbrev F.RLY_STAT_WELDPEND : Field := ⟨Reg.RLY_STAT, 10, 1⟩
abbrev F.RLY_STAT_LAST : Field := ⟨Reg.RLY_STAT, 11, 1⟩
abbrev F.RLY_STAT_CAUSE : Field := ⟨Reg.RLY_STAT, 16, 4⟩
abbrev F.RLY_PROOF_K1 : Field := ⟨Reg.RLY_PROOF, 0, 4⟩
abbrev F.RLY_PROOF_K2 : Field := ⟨Reg.RLY_PROOF, 4, 4⟩
abbrev F.RLY_PROOF_DONE : Field := ⟨Reg.RLY_PROOF, 8, 1⟩
abbrev F.RLY_WELD_K1 : Field := ⟨Reg.RLY_WELD, 0, 1⟩
abbrev F.RLY_WELD_K2 : Field := ⟨Reg.RLY_WELD, 1, 1⟩
abbrev F.RLY_WELD_BOTH : Field := ⟨Reg.RLY_WELD, 2, 1⟩
abbrev F.HSW_CTRL_EN (n : Nat) : Field := ⟨Reg.HSW_CTRL n, 0, 1⟩
abbrev F.HSW_CTRL_QUAR (n : Nat) : Field := ⟨Reg.HSW_CTRL n, 1, 1⟩
abbrev F.HSW_CTRL_AUTOEN (n : Nat) : Field := ⟨Reg.HSW_CTRL n, 2, 1⟩
abbrev F.HSW_CTRL_ARMREQ (n : Nat) : Field := ⟨Reg.HSW_CTRL n, 3, 1⟩
abbrev F.HSW_CTRL_RETRYN (n : Nat) : Field := ⟨Reg.HSW_CTRL n, 8, 4⟩
abbrev F.HSW_CTRL_TRETRY (n : Nat) : Field := ⟨Reg.HSW_CTRL n, 16, 8⟩
abbrev F.HSW_STAT_STATE (n : Nat) : Field := ⟨Reg.HSW_STAT n, 0, 3⟩
abbrev F.HSW_STAT_PG (n : Nat) : Field := ⟨Reg.HSW_STAT n, 3, 1⟩
abbrev F.HSW_STAT_PGQ (n : Nat) : Field := ⟨Reg.HSW_STAT n, 4, 1⟩
abbrev F.HSW_STAT_LIMIT (n : Nat) : Field := ⟨Reg.HSW_STAT n, 5, 1⟩
abbrev F.HSW_STAT_PASS_SHORT (n : Nat) : Field := ⟨Reg.HSW_STAT n, 8, 1⟩
abbrev F.HSW_STAT_GATE_FAIL (n : Nat) : Field := ⟨Reg.HSW_STAT n, 9, 1⟩
abbrev F.HSW_STAT_OCTIMER (n : Nat) : Field := ⟨Reg.HSW_STAT n, 10, 1⟩
abbrev F.HSW_STAT_SHORT (n : Nat) : Field := ⟨Reg.HSW_STAT n, 11, 1⟩
abbrev F.HSW_STAT_I2T (n : Nat) : Field := ⟨Reg.HSW_STAT n, 12, 1⟩
abbrev F.HSW_STAT_REFUSED (n : Nat) : Field := ⟨Reg.HSW_STAT n, 13, 1⟩
abbrev F.HSW_STAT_ATTEMPTS (n : Nat) : Field := ⟨Reg.HSW_STAT n, 16, 4⟩
abbrev F.HSW_STAT_QFAIL (n : Nat) : Field := ⟨Reg.HSW_STAT n, 20, 4⟩
abbrev F.HSW_ILIM_SEL (n : Nat) : Field := ⟨Reg.HSW_ILIM n, 0, 1⟩
abbrev F.HSW_ILIM_T_FLT (n : Nat) : Field := ⟨Reg.HSW_ILIM n, 8, 8⟩
abbrev F.HSW_SLEW_SLEW (n : Nat) : Field := ⟨Reg.HSW_SLEW n, 0, 6⟩
abbrev F.HSW_TGATE_T_GATE (n : Nat) : Field := ⟨Reg.HSW_TGATE n, 0, 16⟩
abbrev F.HSW_TGATE_QTIME (n : Nat) : Field := ⟨Reg.HSW_TGATE n, 16, 8⟩
abbrev F.HSW_I2T_LIMIT_I2T (n : Nat) : Field := ⟨Reg.HSW_I2T n, 0, 16⟩
abbrev F.HSW_I2T_KC (n : Nat) : Field := ⟨Reg.HSW_I2T n, 16, 8⟩
abbrev F.HSW_MEAS_VSENSE (n : Nat) : Field := ⟨Reg.HSW_MEAS n, 0, 12⟩
abbrev F.HSW_MEAS_VGATE (n : Nat) : Field := ⟨Reg.HSW_MEAS n, 16, 12⟩
abbrev F.MET_CFG_VFS : Field := ⟨Reg.MET_CFG, 0, 10⟩
abbrev F.MET_CFG_IFS : Field := ⟨Reg.MET_CFG, 10, 10⟩
abbrev F.MET_CFG_NDTHR : Field := ⟨Reg.MET_CFG, 20, 6⟩
abbrev F.MET_CFG_WIRE3 : Field := ⟨Reg.MET_CFG, 26, 1⟩
abbrev F.MET_CFG_NEUTEN : Field := ⟨Reg.MET_CFG, 27, 1⟩
abbrev F.MET_CFG_ECLR : Field := ⟨Reg.MET_CFG, 28, 1⟩
abbrev F.MET_STAT_GAP : Field := ⟨Reg.MET_STAT, 0, 4⟩
abbrev F.MET_STAT_ELOSS : Field := ⟨Reg.MET_STAT, 4, 1⟩
abbrev F.MET_STAT_ELOST : Field := ⟨Reg.MET_STAT, 5, 1⟩
abbrev F.MET_STAT_SEQ : Field := ⟨Reg.MET_STAT, 6, 1⟩
abbrev F.MET_STAT_NEUTRAL : Field := ⟨Reg.MET_STAT, 7, 1⟩
abbrev F.MET_STAT_NOLOCK : Field := ⟨Reg.MET_STAT, 8, 1⟩
abbrev F.MET_STAT_FREE : Field := ⟨Reg.MET_STAT, 9, 1⟩
abbrev F.MET_STAT_NDISP : Field := ⟨Reg.MET_STAT, 10, 1⟩
abbrev F.MET_STAT_NSPREAD : Field := ⟨Reg.MET_STAT, 11, 1⟩
abbrev F.MET_STAT_NCONS : Field := ⟨Reg.MET_STAT, 12, 1⟩
abbrev F.MET_STAT_VUNB : Field := ⟨Reg.MET_STAT, 16, 8⟩
abbrev F.MET_P_P1 (n : Nat) : Field := ⟨Reg.MET_P n, 16, 16⟩
abbrev F.MET_Q_Q1 (n : Nat) : Field := ⟨Reg.MET_Q n, 16, 16⟩
abbrev F.MET_S_S1 (n : Nat) : Field := ⟨Reg.MET_S n, 16, 16⟩
abbrev F.MET_PF_PF (n : Nat) : Field := ⟨Reg.MET_PF n, 0, 16⟩
abbrev F.MET_PF_DPF (n : Nat) : Field := ⟨Reg.MET_PF n, 16, 16⟩
abbrev F.MET_INTERVAL_LEN : Field := ⟨Reg.MET_INTERVAL, 0, 16⟩
abbrev F.MET_INTERVAL_COUNT : Field := ⟨Reg.MET_INTERVAL, 16, 16⟩
abbrev F.HRM_CFG_WIN : Field := ⟨Reg.HRM_CFG, 0, 8⟩
abbrev F.HRM_CFG_GROUP : Field := ⟨Reg.HRM_CFG, 8, 2⟩
abbrev F.HRM_CFG_AUTO : Field := ⟨Reg.HRM_CFG, 10, 1⟩
abbrev F.HRM_CFG_IL : Field := ⟨Reg.HRM_CFG, 16, 16⟩
abbrev F.HRM_STAT_HMAX : Field := ⟨Reg.HRM_STAT, 0, 8⟩
abbrev F.HRM_STAT_NOLOCK : Field := ⟨Reg.HRM_STAT, 8, 1⟩
abbrev F.HRM_STAT_SKIPPED : Field := ⟨Reg.HRM_STAT, 9, 1⟩
abbrev F.HRM_STAT_FREE : Field := ⟨Reg.HRM_STAT, 10, 1⟩
abbrev F.HRM_STAT_SKIPCNT : Field := ⟨Reg.HRM_STAT, 16, 8⟩
abbrev F.HRM_STAT_WINCNT : Field := ⟨Reg.HRM_STAT, 24, 8⟩
abbrev F.HRM_SEL_CH : Field := ⟨Reg.HRM_SEL, 0, 3⟩
abbrev F.HRM_SEL_MASK : Field := ⟨Reg.HRM_SEL, 8, 8⟩
abbrev F.HRM_SEL_SHOWN : Field := ⟨Reg.HRM_SEL, 16, 3⟩
abbrev F.HRM_MAG_G (n : Nat) : Field := ⟨Reg.HRM_MAG n, 0, 24⟩
abbrev F.HRM_THD_THD (n : Nat) : Field := ⟨Reg.HRM_THD n, 0, 16⟩
abbrev F.HRM_THD_VALID (n : Nat) : Field := ⟨Reg.HRM_THD n, 16, 1⟩
abbrev F.HRM_TDD_TDD (n : Nat) : Field := ⟨Reg.HRM_TDD n, 0, 16⟩
abbrev F.HRM_TDD_VALID (n : Nat) : Field := ⟨Reg.HRM_TDD n, 16, 1⟩
abbrev F.LDG_CFG_AUTOSWEEP : Field := ⟨Reg.LDG_CFG, 0, 1⟩
abbrev F.LDG_CFG_AUTOSHED : Field := ⟨Reg.LDG_CFG, 1, 1⟩
abbrev F.LDG_CFG_SNAP : Field := ⟨Reg.LDG_CFG, 2, 1⟩
abbrev F.LDG_CFG_MB16 : Field := ⟨Reg.LDG_CFG, 3, 1⟩
abbrev F.LDG_CFG_SWEEP : Field := ⟨Reg.LDG_CFG, 8, 8⟩
abbrev F.LDG_CFG_SHEDHI : Field := ⟨Reg.LDG_CFG, 16, 8⟩
abbrev F.LDG_CFG_RESTLO : Field := ⟨Reg.LDG_CFG, 24, 8⟩
abbrev F.LDG_STAT_SWEEP : Field := ⟨Reg.LDG_STAT, 0, 1⟩
abbrev F.LDG_STAT_FROMSNAP : Field := ⟨Reg.LDG_STAT, 1, 1⟩
abbrev F.LDG_STAT_LOST : Field := ⟨Reg.LDG_STAT, 2, 1⟩
abbrev F.LDG_STAT_INCOMP : Field := ⟨Reg.LDG_STAT, 3, 3⟩
abbrev F.LDG_STAT_UNACC : Field := ⟨Reg.LDG_STAT, 6, 3⟩
abbrev F.LDG_STAT_NEG : Field := ⟨Reg.LDG_STAT, 9, 3⟩
abbrev F.LDG_STAT_SWEEPS : Field := ⟨Reg.LDG_STAT, 24, 8⟩
abbrev F.LDG_INTERVAL_LEN : Field := ⟨Reg.LDG_INTERVAL, 0, 16⟩
abbrev F.LDG_INTERVAL_COUNT : Field := ⟨Reg.LDG_INTERVAL, 16, 16⟩
abbrev F.LDG_LOSS_LOSS : Field := ⟨Reg.LDG_LOSS, 0, 16⟩
abbrev F.LDG_TOL_TOLF : Field := ⟨Reg.LDG_TOL, 0, 16⟩
abbrev F.LDG_TOL_TOLA : Field := ⟨Reg.LDG_TOL, 16, 16⟩
abbrev F.LDG_SHED_STAT_LEVEL : Field := ⟨Reg.LDG_SHED_STAT, 0, 4⟩
abbrev F.LDG_SHED_STAT_AUTO : Field := ⟨Reg.LDG_SHED_STAT, 4, 1⟩
abbrev F.LDG_SHED_STAT_SOCLO : Field := ⟨Reg.LDG_SHED_STAT, 8, 8⟩
abbrev F.LDG_SHED_STAT_HOLD : Field := ⟨Reg.LDG_SHED_STAT, 16, 8⟩
abbrev F.BUS_U1_CFG_BAUD : Field := ⟨Reg.BUS_U1_CFG, 0, 3⟩
abbrev F.BUS_U1_CFG_PARITY : Field := ⟨Reg.BUS_U1_CFG, 3, 2⟩
abbrev F.BUS_U1_CFG_EN : Field := ⟨Reg.BUS_U1_CFG, 5, 1⟩
abbrev F.BUS_U1_CFG_GENSRC : Field := ⟨Reg.BUS_U1_CFG, 6, 1⟩
abbrev F.BUS_U1_CFG_RESPTMO : Field := ⟨Reg.BUS_U1_CFG, 8, 8⟩
abbrev F.BUS_U1_CFG_RETRY : Field := ⟨Reg.BUS_U1_CFG, 16, 4⟩
abbrev F.BUS_U1_CFG_MISSMAX : Field := ⟨Reg.BUS_U1_CFG, 20, 4⟩
abbrev F.BUS_U1_CFG_PERIOD : Field := ⟨Reg.BUS_U1_CFG, 24, 8⟩
abbrev F.BUS_U1_STAT_BUSY : Field := ⟨Reg.BUS_U1_STAT, 0, 1⟩
abbrev F.BUS_U1_STAT_OVERRUN : Field := ⟨Reg.BUS_U1_STAT, 1, 1⟩
abbrev F.BUS_U1_STAT_STALE : Field := ⟨Reg.BUS_U1_STAT, 2, 1⟩
abbrev F.BUS_U1_STAT_ERR : Field := ⟨Reg.BUS_U1_STAT, 4, 4⟩
abbrev F.BUS_U1_STAT_ADDR : Field := ⟨Reg.BUS_U1_STAT, 8, 8⟩
abbrev F.BUS_U1_STAT_COUNT : Field := ⟨Reg.BUS_U1_STAT, 16, 16⟩
abbrev F.BUS_U2_CFG_BAUD : Field := ⟨Reg.BUS_U2_CFG, 0, 3⟩
abbrev F.BUS_U2_CFG_PARITY : Field := ⟨Reg.BUS_U2_CFG, 3, 2⟩
abbrev F.BUS_U2_CFG_EN : Field := ⟨Reg.BUS_U2_CFG, 5, 1⟩
abbrev F.BUS_U2_CFG_GENSRC : Field := ⟨Reg.BUS_U2_CFG, 6, 1⟩
abbrev F.BUS_U2_CFG_RESPTMO : Field := ⟨Reg.BUS_U2_CFG, 8, 8⟩
abbrev F.BUS_U2_CFG_RETRY : Field := ⟨Reg.BUS_U2_CFG, 16, 4⟩
abbrev F.BUS_U2_CFG_MISSMAX : Field := ⟨Reg.BUS_U2_CFG, 20, 4⟩
abbrev F.BUS_U2_CFG_PERIOD : Field := ⟨Reg.BUS_U2_CFG, 24, 8⟩
abbrev F.BUS_U2_STAT_BUSY : Field := ⟨Reg.BUS_U2_STAT, 0, 1⟩
abbrev F.BUS_U2_STAT_OVERRUN : Field := ⟨Reg.BUS_U2_STAT, 1, 1⟩
abbrev F.BUS_U2_STAT_STALE : Field := ⟨Reg.BUS_U2_STAT, 2, 1⟩
abbrev F.BUS_U2_STAT_ERR : Field := ⟨Reg.BUS_U2_STAT, 4, 4⟩
abbrev F.BUS_U2_STAT_ADDR : Field := ⟨Reg.BUS_U2_STAT, 8, 8⟩
abbrev F.BUS_U2_STAT_COUNT : Field := ⟨Reg.BUS_U2_STAT, 16, 16⟩
abbrev F.BUS_PLANT_MAP_ADDR (n : Nat) : Field := ⟨Reg.BUS_PLANT_MAP n, 0, 8⟩
abbrev F.BUS_PLANT_MAP_FC04 (n : Nat) : Field := ⟨Reg.BUS_PLANT_MAP n, 8, 1⟩
abbrev F.BUS_PLANT_MAP_WIDE (n : Nat) : Field := ⟨Reg.BUS_PLANT_MAP n, 9, 1⟩
abbrev F.BUS_PLANT_MAP_DEST (n : Nat) : Field := ⟨Reg.BUS_PLANT_MAP n, 10, 4⟩
abbrev F.BUS_PLANT_MAP_FMT (n : Nat) : Field := ⟨Reg.BUS_PLANT_MAP n, 14, 2⟩
abbrev F.BUS_PLANT_MAP_REG (n : Nat) : Field := ⟨Reg.BUS_PLANT_MAP n, 16, 16⟩
abbrev F.BUS_GEN_LOAD_BRK (n : Nat) : Field := ⟨Reg.BUS_GEN_LOAD n, 16, 1⟩
abbrev F.BUS_GEN_LOAD_VALID (n : Nat) : Field := ⟨Reg.BUS_GEN_LOAD n, 17, 1⟩
abbrev F.BUS_GEN_LOAD_AGE (n : Nat) : Field := ⟨Reg.BUS_GEN_LOAD n, 24, 8⟩
abbrev F.BUS_ERRCNT_TIMEOUT (n : Nat) : Field := ⟨Reg.BUS_ERRCNT n, 0, 16⟩
abbrev F.DMA_CFG_QPASS : Field := ⟨Reg.DMA_CFG, 0, 4⟩
abbrev F.DMA_CFG_QWIN : Field := ⟨Reg.DMA_CFG, 8, 8⟩
abbrev F.DMA_ERR_CH : Field := ⟨Reg.DMA_ERR, 16, 4⟩
abbrev F.DMA_CH_CTRL_EN (n : Nat) : Field := ⟨Reg.DMA_CH_CTRL n, 0, 1⟩
abbrev F.DMA_CH_CTRL_QUAR (n : Nat) : Field := ⟨Reg.DMA_CH_CTRL n, 1, 1⟩
abbrev F.DMA_CH_CTRL_GO (n : Nat) : Field := ⟨Reg.DMA_CH_CTRL n, 2, 1⟩
abbrev F.DMA_CH_CTRL_STOP (n : Nat) : Field := ⟨Reg.DMA_CH_CTRL n, 3, 1⟩
abbrev F.DMA_CH_CTRL_RING (n : Nat) : Field := ⟨Reg.DMA_CH_CTRL n, 4, 1⟩
abbrev F.DMA_CH_CTRL_DPOL (n : Nat) : Field := ⟨Reg.DMA_CH_CTRL n, 5, 1⟩
abbrev F.DMA_CH_CTRL_CONT (n : Nat) : Field := ⟨Reg.DMA_CH_CTRL n, 6, 1⟩
abbrev F.DMA_CH_CTRL_SIGRING (n : Nat) : Field := ⟨Reg.DMA_CH_CTRL n, 7, 1⟩
abbrev F.DMA_CH_CTRL_START (n : Nat) : Field := ⟨Reg.DMA_CH_CTRL n, 16, 12⟩
abbrev F.DMA_CH_STAT_STATE (n : Nat) : Field := ⟨Reg.DMA_CH_STAT n, 0, 3⟩
abbrev F.DMA_CH_STAT_TMO (n : Nat) : Field := ⟨Reg.DMA_CH_STAT n, 3, 1⟩
abbrev F.DMA_CH_STAT_WLPEND (n : Nat) : Field := ⟨Reg.DMA_CH_STAT n, 4, 4⟩
abbrev F.DMA_CH_STAT_REMAIN (n : Nat) : Field := ⟨Reg.DMA_CH_STAT n, 8, 24⟩
abbrev F.DMA_CH_PC_PC (n : Nat) : Field := ⟨Reg.DMA_CH_PC n, 0, 12⟩
abbrev F.DMA_CH_PRIO_PRIO (n : Nat) : Field := ⟨Reg.DMA_CH_PRIO n, 0, 2⟩
abbrev F.DMA_CH_PRIO_OUTMAX (n : Nat) : Field := ⟨Reg.DMA_CH_PRIO n, 2, 3⟩
abbrev F.DMA_CH_PRIO_DBCNT (n : Nat) : Field := ⟨Reg.DMA_CH_PRIO n, 8, 8⟩
abbrev F.DMA_CH_LOOP_L0 (n : Nat) : Field := ⟨Reg.DMA_CH_LOOP n, 0, 16⟩
abbrev F.DMA_CH_LOOP_L1 (n : Nat) : Field := ⟨Reg.DMA_CH_LOOP n, 16, 16⟩
abbrev F.DMA_CH_WAITTMO_COUNT (n : Nat) : Field := ⟨Reg.DMA_CH_WAITTMO n, 0, 28⟩
abbrev F.DMA_CH_WAITTMO_UNIT (n : Nat) : Field := ⟨Reg.DMA_CH_WAITTMO n, 28, 2⟩
abbrev F.DMA_CH_ERR_CODE (n : Nat) : Field := ⟨Reg.DMA_CH_ERR n, 0, 8⟩
abbrev F.DMA_CH_ERR_EPC (n : Nat) : Field := ⟨Reg.DMA_CH_ERR n, 8, 12⟩
abbrev F.DMA_CH_ERR_QFAIL (n : Nat) : Field := ⟨Reg.DMA_CH_ERR n, 20, 4⟩
abbrev F.DMA_CH_ERR_DROPCNT (n : Nat) : Field := ⟨Reg.DMA_CH_ERR n, 24, 8⟩
abbrev F.IRQC_DOORBELL_SRC : Field := ⟨Reg.IRQC_DOORBELL, 0, 7⟩
abbrev F.IRQC_DOORBELL_DROPCNT : Field := ⟨Reg.IRQC_DOORBELL, 8, 8⟩
abbrev F.IRQC_DOORBELL_LASTDROP : Field := ⟨Reg.IRQC_DOORBELL, 16, 7⟩
abbrev F.CTX_CFG_QWIN : Field := ⟨Reg.CTX_CFG, 0, 8⟩
abbrev F.CTX_SLICE_US_SLICE_US : Field := ⟨Reg.CTX_SLICE_US, 0, 8⟩
abbrev F.CTX_STAT_BUSY : Field := ⟨Reg.CTX_STAT, 0, 1⟩
abbrev F.CTX_STAT_MUSTER : Field := ⟨Reg.CTX_STAT, 1, 1⟩
abbrev F.CTX_STAT_LIMIT : Field := ⟨Reg.CTX_STAT, 2, 1⟩
abbrev F.CTX_STAT_CQFULL : Field := ⟨Reg.CTX_STAT, 3, 1⟩
abbrev F.CTX_STAT_DBERR : Field := ⟨Reg.CTX_STAT, 4, 1⟩
abbrev F.CTX_CLASS_STAT_BGDEBT : Field := ⟨Reg.CTX_CLASS_STAT, 24, 4⟩
abbrev F.HOST_CFG_GENAEN : Field := ⟨Reg.HOST_CFG, 0, 1⟩
abbrev F.HOST_CFG_GENBEN : Field := ⟨Reg.HOST_CFG, 1, 1⟩
abbrev F.HOST_CFG_LNKEN : Field := ⟨Reg.HOST_CFG, 2, 1⟩
abbrev F.HOST_ERR_NOTREADY : Field := ⟨Reg.HOST_ERR, 0, 1⟩
abbrev F.HOST_ERR_DOMAIN_OFF : Field := ⟨Reg.HOST_ERR, 1, 1⟩
abbrev F.HOST_ERR_UNMAPPED : Field := ⟨Reg.HOST_ERR, 2, 1⟩
abbrev F.HOST_ERR_ALIGN : Field := ⟨Reg.HOST_ERR, 3, 1⟩
abbrev F.HOST_ERR_REFUSED : Field := ⟨Reg.HOST_ERR, 4, 1⟩
abbrev F.HOST_ERR_EARLY : Field := ⟨Reg.HOST_ERR, 5, 1⟩
abbrev F.HOST_ERR_PAGE : Field := ⟨Reg.HOST_ERR, 8, 6⟩
abbrev F.HOST_ERR_INDEX : Field := ⟨Reg.HOST_ERR, 16, 8⟩
abbrev F.HOST_GENA_BANK_QUARTER : Field := ⟨Reg.HOST_GENA_BANK, 0, 2⟩
abbrev F.HOST_GENB_CFG_QUAD : Field := ⟨Reg.HOST_GENB_CFG, 0, 1⟩
abbrev F.HOST_GENB_CFG_DUPEN : Field := ⟨Reg.HOST_GENB_CFG, 1, 1⟩
abbrev F.HOST_GENB_STAT_SYNCERR : Field := ⟨Reg.HOST_GENB_STAT, 0, 8⟩
abbrev F.HOST_GENB_STAT_CRCERR : Field := ⟨Reg.HOST_GENB_STAT, 8, 8⟩
abbrev F.HOST_GENB_STAT_ABORTED : Field := ⟨Reg.HOST_GENB_STAT, 16, 8⟩
abbrev F.HOST_GENB_STAT_NAKCNT : Field := ⟨Reg.HOST_GENB_STAT, 24, 8⟩
abbrev F.HOST_LNK_CFG_KA : Field := ⟨Reg.HOST_LNK_CFG, 0, 8⟩
abbrev F.HOST_LNK_CFG_ACKTMO : Field := ⟨Reg.HOST_LNK_CFG, 8, 8⟩
abbrev F.HOST_LNK_STAT_STATE : Field := ⟨Reg.HOST_LNK_STAT, 0, 3⟩
abbrev F.HOST_LNK_STAT_RATE : Field := ⟨Reg.HOST_LNK_STAT, 4, 2⟩
abbrev F.HOST_LNK_STAT_RATEFAIL : Field := ⟨Reg.HOST_LNK_STAT, 6, 1⟩
abbrev F.HOST_LNK_STAT_ERR : Field := ⟨Reg.HOST_LNK_STAT, 8, 4⟩
abbrev F.HOST_LNK_STAT_PKTS : Field := ⟨Reg.HOST_LNK_STAT, 16, 16⟩
abbrev F.HOST_LNK_RATE_MAX : Field := ⟨Reg.HOST_LNK_RATE, 0, 2⟩
abbrev F.HOST_LNK_RATE_HOSTMAX : Field := ⟨Reg.HOST_LNK_RATE, 8, 2⟩
abbrev F.HOST_LNK_WAKESEL_SEL : Field := ⟨Reg.HOST_LNK_WAKESEL, 0, 1⟩
abbrev F.HOST_LNK_ERRCNT_CRC : Field := ⟨Reg.HOST_LNK_ERRCNT, 0, 16⟩
abbrev F.HOST_SB_ADDR_ADDR : Field := ⟨Reg.HOST_SB_ADDR, 0, 7⟩
abbrev F.HOST_SB_ADDR_NOSTRETCH : Field := ⟨Reg.HOST_SB_ADDR, 8, 1⟩
abbrev F.HOST_SB_STAT_CAUSE : Field := ⟨Reg.HOST_SB_STAT, 0, 4⟩
abbrev F.HOST_MBOX_STAT_SBW : Field := ⟨Reg.HOST_MBOX_STAT, 0, 1⟩
abbrev F.HOST_MBOX_STAT_FW : Field := ⟨Reg.HOST_MBOX_STAT, 1, 1⟩
abbrev F.SYS_RESET_CAUSE_POR : Field := ⟨Reg.SYS_RESET_CAUSE, 0, 6⟩
abbrev F.SYS_RESET_CAUSE_LAST : Field := ⟨Reg.SYS_RESET_CAUSE, 8, 3⟩
abbrev F.SYS_SWRESET_KEY : Field := ⟨Reg.SYS_SWRESET, 0, 16⟩
abbrev F.SYS_CLK_CFG_XINSEL : Field := ⟨Reg.SYS_CLK_CFG, 0, 3⟩
abbrev F.SYS_CLK_CFG_MULT : Field := ⟨Reg.SYS_CLK_CFG, 8, 8⟩
abbrev F.SYS_PLL_STAT_LOCK : Field := ⟨Reg.SYS_PLL_STAT, 0, 1⟩
abbrev F.SYS_PLL_STAT_LOSS : Field := ⟨Reg.SYS_PLL_STAT, 1, 1⟩
abbrev F.SYS_PLL_STAT_XINFAIL : Field := ⟨Reg.SYS_PLL_STAT, 2, 1⟩
abbrev F.SYS_LPO_CAL_INC : Field := ⟨Reg.SYS_LPO_CAL, 0, 20⟩
abbrev F.SYS_LPO_CAL_START : Field := ⟨Reg.SYS_LPO_CAL, 20, 1⟩
abbrev F.SYS_LPO_CAL_BUSY : Field := ⟨Reg.SYS_LPO_CAL, 21, 1⟩
abbrev F.SYS_LPO_CAL_AUTO : Field := ⟨Reg.SYS_LPO_CAL, 24, 8⟩
abbrev F.SYS_WDT_CFG_TMO : Field := ⟨Reg.SYS_WDT_CFG, 0, 12⟩
abbrev F.SYS_WDT_CFG_WIN : Field := ⟨Reg.SYS_WDT_CFG, 12, 4⟩
abbrev F.SYS_WDT_CFG_EN : Field := ⟨Reg.SYS_WDT_CFG, 16, 1⟩
abbrev F.SYS_WDT_CFG_LOCK : Field := ⟨Reg.SYS_WDT_CFG, 17, 1⟩
abbrev F.SYS_WDT_STAT_WARN : Field := ⟨Reg.SYS_WDT_STAT, 12, 1⟩
abbrev F.SYS_WDT_STAT_EARLY : Field := ⟨Reg.SYS_WDT_STAT, 13, 1⟩
abbrev F.SYS_MUSTER_STAT_ACTIVE : Field := ⟨Reg.SYS_MUSTER_STAT, 0, 1⟩
abbrev F.SYS_MUSTER_STAT_IMAGE : Field := ⟨Reg.SYS_MUSTER_STAT, 1, 2⟩
abbrev F.SYS_MUSTER_STAT_SEALOK : Field := ⟨Reg.SYS_MUSTER_STAT, 3, 1⟩
abbrev F.SYS_TEMP_TEMP : Field := ⟨Reg.SYS_TEMP, 0, 16⟩
abbrev F.SYS_TEMP_WARN : Field := ⟨Reg.SYS_TEMP, 16, 8⟩
abbrev F.SYS_TEMP_HOT : Field := ⟨Reg.SYS_TEMP, 24, 1⟩
abbrev F.PWR_STATE_STATE : Field := ⟨Reg.PWR_STATE, 0, 3⟩
abbrev F.PWR_STATE_BUSY : Field := ⟨Reg.PWR_STATE, 3, 1⟩
abbrev F.PWR_STATE_FROM : Field := ⟨Reg.PWR_STATE, 4, 3⟩
abbrev F.PWR_STATE_REFCAUSE : Field := ⟨Reg.PWR_STATE, 8, 4⟩
abbrev F.PWR_STATE_REFDOM : Field := ⟨Reg.PWR_STATE, 12, 4⟩
abbrev F.PWR_DOMAIN_STAT_ON : Field := ⟨Reg.PWR_DOMAIN_STAT, 0, 12⟩
abbrev F.PWR_DOMAIN_STAT_READY : Field := ⟨Reg.PWR_DOMAIN_STAT, 16, 12⟩
abbrev F.PWR_DOWN_POLICY_RESTORE : Field := ⟨Reg.PWR_DOWN_POLICY, 0, 1⟩
abbrev F.PWR_WAKE_EN_GPIOPOL : Field := ⟨Reg.PWR_WAKE_EN, 8, 3⟩
abbrev F.PWR_WAKE_CAUSE_REQ : Field := ⟨Reg.PWR_WAKE_CAUSE, 8, 1⟩
abbrev F.PWR_WAKE_CAUSE_FROM : Field := ⟨Reg.PWR_WAKE_CAUSE, 12, 3⟩
abbrev F.PWR_BOR_CFG_WARN : Field := ⟨Reg.PWR_BOR_CFG, 0, 4⟩
abbrev F.PWR_BOR_CFG_VIOLOW : Field := ⟨Reg.PWR_BOR_CFG, 8, 1⟩
abbrev F.PWR_BOR_CFG_VDDALOW : Field := ⟨Reg.PWR_BOR_CFG, 9, 1⟩
abbrev F.PWR_VKEEP_VKEEP : Field := ⟨Reg.PWR_VKEEP, 0, 12⟩
abbrev F.PWR_VKEEP_LOW : Field := ⟨Reg.PWR_VKEEP, 16, 8⟩
abbrev F.PWR_VKEEP_LOWNOW : Field := ⟨Reg.PWR_VKEEP, 24, 1⟩
abbrev F.IDENT_CHECK_OK : Field := ⟨Reg.IDENT_CHECK, 8, 1⟩
abbrev F.IDENT_CHECK_LOADED : Field := ⟨Reg.IDENT_CHECK, 9, 1⟩
abbrev F.NVM_CFG_REELLOAD : Field := ⟨Reg.NVM_CFG, 0, 1⟩
abbrev F.NVM_STAT_BUSY : Field := ⟨Reg.NVM_STAT, 0, 1⟩
abbrev F.NVM_STAT_SUSP : Field := ⟨Reg.NVM_STAT, 1, 1⟩
abbrev F.NVM_STAT_PFAIL : Field := ⟨Reg.NVM_STAT, 2, 1⟩
abbrev F.NVM_IMAGE_LOADED : Field := ⟨Reg.NVM_IMAGE, 0, 2⟩
abbrev F.NVM_IMAGE_AVALID : Field := ⟨Reg.NVM_IMAGE, 2, 1⟩
abbrev F.NVM_IMAGE_BVALID : Field := ⟨Reg.NVM_IMAGE, 3, 1⟩
abbrev F.NVM_IMAGE_SKIPCNT : Field := ⟨Reg.NVM_IMAGE, 8, 8⟩
abbrev F.NVM_IMAGE_GEN : Field := ⟨Reg.NVM_IMAGE, 16, 16⟩
abbrev F.NVM_ERRADDR_NVM : Field := ⟨Reg.NVM_ERRADDR, 0, 19⟩
abbrev F.NVM_ECCCNT_CORR : Field := ⟨Reg.NVM_ECCCNT, 0, 16⟩
abbrev F.NVM_ECCCNT_UNCORR : Field := ⟨Reg.NVM_ECCCNT, 16, 16⟩
abbrev F.PINS_FUNC_FUNC (n : Nat) : Field := ⟨Reg.PINS_FUNC n, 0, 3⟩
abbrev F.PINS_FUNC_ROUT (n : Nat) : Field := ⟨Reg.PINS_FUNC n, 4, 2⟩
abbrev F.PINS_DRIVE_GATE : Field := ⟨Reg.PINS_DRIVE, 0, 2⟩
abbrev F.PINS_DRIVE_RELAY : Field := ⟨Reg.PINS_DRIVE, 2, 2⟩
abbrev F.PINS_DRIVE_SDCK : Field := ⟨Reg.PINS_DRIVE, 4, 2⟩
abbrev F.PINS_DRIVE_SPI : Field := ⟨Reg.PINS_DRIVE, 6, 2⟩
abbrev F.PINS_DRIVE_UART : Field := ⟨Reg.PINS_DRIVE, 8, 2⟩
abbrev F.PINS_DRIVE_GPIO : Field := ⟨Reg.PINS_DRIVE, 10, 2⟩
abbrev F.LOG_CFG_FLUSH : Field := ⟨Reg.LOG_CFG, 0, 1⟩
abbrev F.LOG_CFG_NOWAKE : Field := ⟨Reg.LOG_CFG, 1, 1⟩
abbrev F.LOG_CFG_NOSHED : Field := ⟨Reg.LOG_CFG, 2, 1⟩
abbrev F.LOG_STAT_STAGED : Field := ⟨Reg.LOG_STAT, 0, 9⟩
abbrev F.LOG_STAT_BUSY : Field := ⟨Reg.LOG_STAT, 9, 1⟩
abbrev F.LOG_STAT_SCANNED : Field := ⟨Reg.LOG_STAT, 10, 1⟩
abbrev F.LOG_STAT_DROP : Field := ⟨Reg.LOG_STAT, 11, 1⟩
abbrev F.LOG_STAT_DROPCNT : Field := ⟨Reg.LOG_STAT, 16, 16⟩
abbrev F.LOG_LAST_CODE_CODE : Field := ⟨Reg.LOG_LAST_CODE, 0, 16⟩
abbrev F.LOG_LAST_CODE_FLAGS : Field := ⟨Reg.LOG_LAST_CODE, 16, 8⟩

end Sys2Proof.Machine
end

