-- ==== Sys2Proof/Machine/RegTable.lean ====
section
/-! DEFINITION. The register tables of the block chapters (spec/02 R52, R75, R97, R98, R120, R144, R167, R194, R213, R232,
R253, R254, R281, R301, R302, R315, R333, R334, R353, R354, R380, R398, R421, R447, R473, R474, R490, R491, R513, R549):
for every register its addresses, the mask of its RW and WO fields, the mask of its W1C fields, the mask of its W1S fields,
its reset value and its safety group. A register whose reset the spec ties to the device (a scan, a seal, a serial number)
stands here with 0; the rows that fill it are in Machine/Pwr.lean. -/

namespace Sys2Proof.Machine

/-- One run of registers of one shape: `count` registers from `first`, `stride` bytes apart. -/
structure RegRow where
  first : Nat
  count : Nat
  stride : Nat
  /-- bits a write stores (RW and WO fields, R4) -/
  rw : Nat
  /-- bits a write of 1 clears (W1C) -/
  w1c : Nat
  /-- bits a write of 1 starts an action with (W1S, write-only commands) -/
  act : Nat
  reset : Nat
  /-- safety group 0 to 5 (R25); 6 where the register is in none -/
  group : Nat
  deriving DecidableEq, Repr

/-- Whether address `a` is one of the row's registers. -/
def RegRow.covers (r : RegRow) (a : Nat) : Bool :=
  decide (r.first ≤ a) && decide ((a - r.first) % r.stride = 0) && decide ((a - r.first) / r.stride < r.count)

/-- Registers of the IDENT page. -/
def regsIDENT : List RegRow :=
  [ ⟨0x00040, 1, 0x4, 0x00000000, 0x00000000, 0x00000000, 0x00000410, 6⟩,
    ⟨0x00044, 1, 0x4, 0x00000000, 0x00000000, 0x00000000, 0x000000E5, 6⟩,
    ⟨0x00048, 1, 0x4, 0x00000000, 0x00000000, 0x00000000, 0x000000B0, 6⟩,
    ⟨0x0004C, 1, 0x4, 0x00000000, 0x00000000, 0x00000000, 0x00000000, 6⟩,
    ⟨0x00050, 1, 0x4, 0x00000000, 0x00000000, 0x00000000, 0x00000000, 6⟩,
    ⟨0x00054, 1, 0x4, 0x00000000, 0x00000000, 0x00000000, 0x00000000, 6⟩ ]

/-- Registers of the SYS page. -/
def regsSYS : List RegRow :=
  [ ⟨0x01040, 1, 0x4, 0x00000000, 0x0000003F, 0x00000000, 0x00000000, 6⟩,
    ⟨0x01044, 1, 0x4, 0x0000FFFF, 0x00000000, 0x00000000, 0x00000000, 6⟩,
    ⟨0x01048, 1, 0x4, 0x00000000, 0x00000000, 0x00000000, 0x00000000, 6⟩,
    ⟨0x0104C, 1, 0x4, 0x00000000, 0x00000006, 0x00000000, 0x00000001, 6⟩,
    ⟨0x01050, 1, 0x4, 0xFF0FFFFF, 0x00000000, 0x00100000, 0x3C020000, 6⟩,
    ⟨0x01054, 1, 0x4, 0x0003FFFF, 0x00000000, 0x00000000, 0x00000064, 6⟩,
    ⟨0x01058, 1, 0x4, 0x0000FFFF, 0x00000000, 0x00000000, 0x00000000, 6⟩,
    ⟨0x0105C, 1, 0x4, 0x00000000, 0x00000000, 0x00000000, 0x00000000, 6⟩,
    ⟨0x01060, 1, 0x4, 0xFFFFFFFF, 0x00000000, 0x00000000, 0x00000000, 6⟩,
    ⟨0x01064, 1, 0x4, 0x00000000, 0x00000000, 0x00000000, 0x00000000, 6⟩,
    ⟨0x01068, 1, 0x4, 0xFFFFFFFF, 0x00000000, 0x00000000, 0xFFFFFFFF, 6⟩,
    ⟨0x0106C, 1, 0x4, 0x000007FF, 0x00000000, 0x00000000, 0x000000FA, 6⟩,
    ⟨0x01070, 1, 0x4, 0x00000000, 0x00000000, 0x00000000, 0x00000001, 6⟩,
    ⟨0x01074, 1, 0x4, 0x00FF0000, 0x00000000, 0x00000000, 0x00730000, 6⟩ ]

/-- Registers of the PWR page. -/
def regsPWR : List RegRow :=
  [ ⟨0x02040, 1, 0x4, 0x00000007, 0x00000000, 0x00000000, 0x00000001, 6⟩,
    ⟨0x02044, 1, 0x4, 0x00000000, 0x00000000, 0x00000000, 0x00000001, 6⟩,
    ⟨0x02048, 1, 0x4, 0x00000FFC, 0x00000000, 0x00000000, 0x00000FFF, 6⟩,
    ⟨0x0204C, 1, 0x4, 0x00000000, 0x00000000, 0x00000000, 0x00000000, 6⟩,
    ⟨0x02050, 1, 0x4, 0x000000FF, 0x00000000, 0x00000000, 0x00000014, 6⟩,
    ⟨0x02054, 1, 0x4, 0x00000001, 0x00000000, 0x00000000, 0x00000001, 6⟩,
    ⟨0x02058, 1, 0x4, 0x000007FF, 0x00000000, 0x00000000, 0x00000011, 6⟩,
    ⟨0x0205C, 1, 0x4, 0x00000000, 0x000001FF, 0x00000000, 0x00000000, 6⟩,
    ⟨0x02060, 1, 0x4, 0x0000000F, 0x00000000, 0x00000000, 0x00000004, 6⟩,
    ⟨0x02064, 1, 0x4, 0x00FF0000, 0x00000000, 0x00000000, 0x00280000, 6⟩,
    ⟨0x02080, 16, 0x4, 0xFFFFFFFF, 0x00000000, 0x00000000, 0x00000000, 6⟩ ]

/-- Registers of the PINS page. -/
def regsPINS : List RegRow :=
  [ ⟨0x03040, 23, 0x4, 0x00000037, 0x00000000, 0x00000000, 0x00000000, 6⟩,
    ⟨0x0309C, 9, 0x4, 0x00000000, 0x00000000, 0x00000000, 0x00000000, 6⟩,
    ⟨0x030C0, 1, 0x4, 0x007FFFFF, 0x00000000, 0x00000000, 0x00000000, 6⟩,
    ⟨0x030C4, 1, 0x4, 0x007FFFFF, 0x00000000, 0x00000000, 0x00000000, 6⟩,
    ⟨0x030C8, 1, 0x4, 0x00000000, 0x00000000, 0x00000000, 0x00000000, 6⟩,
    ⟨0x030CC, 1, 0x4, 0x0000003F, 0x00000000, 0x00000000, 0x00000000, 6⟩,
    ⟨0x030D0, 1, 0x4, 0x00000FFF, 0x00000000, 0x00000000, 0x00000555, 6⟩ ]

/-- Registers of the HOST page. -/
def regsHOST : List RegRow :=
  [ ⟨0x04040, 1, 0x4, 0x00000007, 0x00000000, 0x00000000, 0x00000007, 6⟩,
    ⟨0x04044, 1, 0x4, 0x00000000, 0x0000003F, 0x00000000, 0x00000000, 6⟩,
    ⟨0x04048, 1, 0x4, 0x00000003, 0x00000000, 0x00000000, 0x00000000, 6⟩,
    ⟨0x0404C, 1, 0x4, 0x00000003, 0x00000000, 0x00000000, 0x00000002, 6⟩,
    ⟨0x04050, 1, 0x4, 0x00000000, 0x00000000, 0x00000000, 0x00000000, 6⟩,
    ⟨0x04054, 1, 0x4, 0x0000FFFF, 0x00000000, 0x00000000, 0x00006464, 6⟩,
    ⟨0x04058, 1, 0x4, 0x00000000, 0x00000000, 0x00000000, 0x00000000, 6⟩,
    ⟨0x0405C, 1, 0x4, 0x00000003, 0x00000000, 0x00000000, 0x00000002, 6⟩,
    ⟨0x04060, 1, 0x4, 0x00000001, 0x00000000, 0x00000000, 0x00000001, 6⟩,
    ⟨0x04064, 1, 0x4, 0x00000000, 0x00000000, 0x00000000, 0x00000000, 6⟩,
    ⟨0x04068, 1, 0x4, 0x00000000, 0x00000000, 0x00000000, 0x00000000, 6⟩,
    ⟨0x0406C, 1, 0x4, 0x0000017F, 0x00000000, 0x00000000, 0x0000004C, 6⟩,
    ⟨0x04070, 1, 0x4, 0x00000000, 0x00000000, 0x00000000, 0x00000000, 6⟩,
    ⟨0x04074, 1, 0x4, 0x00000000, 0x00000003, 0x00000000, 0x00000000, 6⟩ ]

/-- Registers of the CTX page. -/
def regsCTX : List RegRow :=
  [ ⟨0x05040, 1, 0x4, 0x000000FF, 0x00000000, 0x00000000, 0x00000064, 6⟩,
    ⟨0x05044, 1, 0x4, 0x000000FF, 0x00000000, 0x00000000, 0x00000028, 6⟩,
    ⟨0x05048, 1, 0x4, 0x00000000, 0x00000010, 0x00000000, 0x00000000, 6⟩,
    ⟨0x0504C, 1, 0x4, 0x00000000, 0x00000000, 0x00000000, 0x00000000, 6⟩,
    ⟨0x05050, 8, 0x4, 0xFFFFFFFF, 0x00000000, 0x00000000, 0x00000000, 6⟩,
    ⟨0x05070, 1, 0x4, 0x00000000, 0x00000000, 0x00000000, 0x00000000, 6⟩,
    ⟨0x05074, 1, 0x4, 0x00000000, 0x00000000, 0x00000000, 0x00000000, 6⟩ ]

/-- Registers of the IRQC page. -/
def regsIRQC : List RegRow :=
  [ ⟨0x06040, 4, 0x4, 0x00000000, 0xFFFFFFFF, 0x00000000, 0x00000000, 6⟩,
    ⟨0x06050, 4, 0x4, 0x00000000, 0x00000000, 0xFFFFFFFF, 0x00000000, 6⟩,
    ⟨0x06060, 1, 0x4, 0x0F3FFFFF, 0x00000000, 0x00000000, 0x00000000, 6⟩,
    ⟨0x06064, 1, 0x4, 0xFFFF7FFF, 0x00000000, 0x00000000, 0x00000000, 6⟩,
    ⟨0x06068, 1, 0x4, 0xFFFFFFFF, 0x00000000, 0x00000000, 0x00000000, 6⟩,
    ⟨0x0606C, 1, 0x4, 0xFFFF7FFF, 0x00000000, 0x00000000, 0x00000000, 6⟩,
    ⟨0x06070, 1, 0x4, 0x0F3FFFFF, 0x00000000, 0x00000000, 0x00000000, 6⟩,
    ⟨0x06074, 1, 0x4, 0xFFFF7FFF, 0x00000000, 0x00000000, 0x00000000, 6⟩,
    ⟨0x06078, 1, 0x4, 0xFFFFFFFF, 0x00000000, 0x00000000, 0x00000000, 6⟩,
    ⟨0x0607C, 1, 0x4, 0x00FF7FFF, 0x00000000, 0x00000000, 0xFF000000, 6⟩,
    ⟨0x06080, 1, 0x4, 0xFFFFFFFF, 0x00000000, 0x00000000, 0x00000000, 6⟩,
    ⟨0x06084, 1, 0x4, 0x00FF0FFF, 0x00000000, 0x00000000, 0x00000000, 6⟩,
    ⟨0x06088, 1, 0x4, 0x3FFFFFFF, 0x00000000, 0x00000000, 0x00000000, 6⟩,
    ⟨0x0608C, 3, 0x4, 0xFFFFFFFF, 0x00000000, 0x00000000, 0x00000000, 6⟩,
    ⟨0x06098, 1, 0x4, 0x3FFFFFFF, 0x00000000, 0x00000000, 0x00000000, 6⟩,
    ⟨0x0609C, 1, 0x4, 0xFFFFFFFF, 0x00000000, 0x00000000, 0x00000000, 6⟩,
    ⟨0x060A0, 2, 0x4, 0xFFFFFFFF, 0x00000000, 0x00000000, 0x00000000, 6⟩,
    ⟨0x060A8, 1, 0x4, 0x00FFFFFF, 0x00000000, 0x00000000, 0x00000000, 6⟩,
    ⟨0x060AC, 1, 0x4, 0x0000FFFF, 0x00000000, 0x00000000, 0x00000000, 6⟩,
    ⟨0x060B0, 1, 0x4, 0xFFFFFFFF, 0x00000000, 0x00000000, 0x00000000, 6⟩,
    ⟨0x060B4, 1, 0x4, 0x0FFFFFFF, 0x00000000, 0x00000000, 0x00000000, 6⟩,
    ⟨0x060B8, 7, 0x4, 0xFFFFFFFF, 0x00000000, 0x00000000, 0x00000000, 6⟩,
    ⟨0x060D4, 1, 0x4, 0x0FFFFFFF, 0x00000000, 0x00000000, 0x00000000, 6⟩,
    ⟨0x060D8, 2, 0x4, 0xFFFFFFFF, 0x00000000, 0x00000000, 0x00000000, 6⟩,
    ⟨0x060E0, 1, 0x4, 0x00000000, 0x00000000, 0x00000000, 0x00000000, 6⟩,
    ⟨0x060E4, 1, 0x4, 0x00000000, 0x00000000, 0x00000000, 0x00000000, 6⟩,
    ⟨0x060E8, 1, 0x4, 0x00000000, 0x00000000, 0x00000000, 0x00000000, 6⟩,
    ⟨0x060EC, 1, 0x4, 0x00000000, 0x00000000, 0x00000000, 0x00000000, 6⟩,
    ⟨0x060F0, 1, 0x4, 0x00000000, 0x00000000, 0x0000007F, 0x00000000, 6⟩ ]

/-- Registers of the EVR page. -/
def regsEVR : List RegRow :=
  [ ⟨0x07040, 28, 0x4, 0xBFBFBFBF, 0x00000000, 0x00000000, 0x00000000, 6⟩,
    ⟨0x070B0, 4, 0x4, 0xBFBFFFFF, 0x00000000, 0x00000000, 0x00000000, 6⟩,
    ⟨0x070C0, 1, 0x4, 0x00000000, 0x00000000, 0x0000000F, 0x00000000, 6⟩,
    ⟨0x070C4, 1, 0x4, 0x000000FF, 0x00000000, 0x00000000, 0x00000000, 6⟩,
    ⟨0x070C8, 1, 0x4, 0x00000000, 0xFFFFFFFF, 0x00000000, 0x00000000, 6⟩ ]

/-- Registers of the DMA page. -/
def regsDMA : List RegRow :=
  [ ⟨0x08040, 1, 0x4, 0x0000FF0F, 0x00000000, 0x00000000, 0x00000A02, 6⟩,
    ⟨0x08044, 1, 0x4, 0x00000000, 0x00000000, 0x00000000, 0x00000000, 6⟩,
    ⟨0x08048, 1, 0x4, 0x00000000, 0x000003FF, 0x00000000, 0x00000000, 6⟩,
    ⟨0x08100, 16, 0x80, 0x0FFF00A3, 0x00000000, 0x0000005C, 0x00000000, 6⟩,
    ⟨0x08104, 16, 0x80, 0x00000000, 0x000000F8, 0x00000000, 0x00000000, 6⟩,
    ⟨0x08108, 16, 0x80, 0x00000FFF, 0x00000000, 0x00000000, 0x00000000, 6⟩,
    ⟨0x08110, 16, 0x80, 0x00FFFFFF, 0x00000000, 0x00000000, 0x00000000, 6⟩,
    ⟨0x08114, 16, 0x80, 0x00FFFFFF, 0x00000000, 0x00000000, 0x00000000, 6⟩,
    ⟨0x08118, 16, 0x80, 0x00FFFFFF, 0x00000000, 0x00000000, 0x00000000, 6⟩,
    ⟨0x0811C, 16, 0x80, 0x00FFFFFF, 0x00000000, 0x00000000, 0x00000000, 6⟩,
    ⟨0x08120, 16, 0x80, 0x0000001F, 0x00000000, 0x00000000, 0x00000010, 6⟩,
    ⟨0x08124, 16, 0x80, 0xFFFFFFFF, 0x00000000, 0x00000000, 0x00000000, 6⟩,
    ⟨0x08128, 16, 0x80, 0x3FFFFFFF, 0x00000000, 0x00000000, 0x00000000, 6⟩,
    ⟨0x0812C, 16, 0x80, 0x00000000, 0x00000000, 0x00000000, 0x00000000, 6⟩ ]

/-- Registers of the CPS page. -/
def regsCPS : List RegRow :=
  [ ⟨0x0C040, 1, 0x4, 0x03FF0FFF, 0x00000000, 0x00000000, 0x031004F2, 6⟩,
    ⟨0x0C044, 1, 0x4, 0x00000000, 0x00000000, 0x00000000, 0x00000000, 6⟩,
    ⟨0x0C048, 1, 0x4, 0x00000000, 0x00000000, 0x00000000, 0x00000000, 6⟩,
    ⟨0x0C04C, 1, 0x4, 0x00000000, 0x00000000, 0x00000000, 0x00000000, 6⟩,
    ⟨0x0C050, 1, 0x4, 0x00000000, 0x00000000, 0x00000000, 0x218DEF41, 6⟩,
    ⟨0x0C054, 1, 0x4, 0x00000000, 0x00000000, 0x00000000, 0x00000000, 6⟩,
    ⟨0x0C058, 1, 0x4, 0x00000000, 0x00000000, 0x00000000, 0x00000000, 6⟩,
    ⟨0x0C05C, 1, 0x4, 0x00000000, 0x00000000, 0x00000000, 0x00000000, 6⟩,
    ⟨0x0C060, 1, 0x4, 0x00000003, 0x00000000, 0x00000000, 0x00000010, 6⟩,
    ⟨0x0C064, 1, 0x4, 0xFFFFFFFF, 0x00000000, 0x00000000, 0x05B05B06, 6⟩,
    ⟨0x0C068, 1, 0x4, 0x00000000, 0x00000000, 0x00000000, 0x00000000, 6⟩,
    ⟨0x0C06C, 1, 0x4, 0xFFFFFFFF, 0x00000000, 0x00000000, 0x218DEF41, 6⟩,
    ⟨0x0C070, 1, 0x4, 0xFFFFFFFF, 0x00000000, 0x00000000, 0x00000000, 6⟩,
    ⟨0x0C074, 1, 0x4, 0xFFFFFFFF, 0x00000000, 0x00000000, 0x41C80000, 6⟩,
    ⟨0x0C078, 1, 0x4, 0xFFFFFFFF, 0x00000000, 0x00000000, 0x43C80000, 6⟩ ]

/-- Registers of the CHT page. -/
def regsCHT : List RegRow :=
  [ ⟨0x0D040, 1, 0x4, 0x00000002, 0x00000000, 0x00000001, 0x00000002, 6⟩,
    ⟨0x0D044, 1, 0x4, 0xFFFFFFFF, 0x00000000, 0x00000000, 0x04000000, 6⟩,
    ⟨0x0D080, 64, 0x4, 0xFFFFFFFF, 0x00000000, 0x00000000, 0x00000000, 6⟩,
    ⟨0x0D180, 64, 0x4, 0x0007FFFF, 0x00000000, 0x00000000, 0x00000000, 6⟩,
    ⟨0x0D280, 64, 0x4, 0xFFFF0003, 0x00000000, 0x00000000, 0x00000000, 6⟩,
    ⟨0x0D380, 2, 0x4, 0x00000000, 0x00000000, 0x00000000, 0x00000000, 6⟩,
    ⟨0x0D388, 1, 0x4, 0x00000000, 0x00000000, 0x00000000, 0x00000000, 6⟩,
    ⟨0x0D38C, 1, 0x4, 0x00000000, 0x00000000, 0x00000000, 0x00000000, 6⟩ ]

/-- Registers of the QDL page. -/
def regsQDL : List RegRow :=
  [ ⟨0x0E040, 1, 0x4, 0x00FF0003, 0x00000000, 0x00000000, 0x00404003, 6⟩,
    ⟨0x0E044, 1, 0x4, 0x00000007, 0x00000000, 0x00000000, 0x00000000, 6⟩,
    ⟨0x0E048, 1, 0x4, 0x00000010, 0x00000000, 0x00000000, 0x00000000, 6⟩,
    ⟨0x0E04C, 1, 0x4, 0x00000000, 0x00000000, 0x00000000, 0x00000000, 6⟩,
    ⟨0x0E050, 1, 0x4, 0x00000000, 0x00000000, 0x00000000, 0x00000000, 6⟩,
    ⟨0x0E054, 1, 0x4, 0x00000000, 0x00000000, 0x00000000, 0x00000000, 6⟩,
    ⟨0x0E058, 8, 0x4, 0x0000FF00, 0x00000000, 0x00000000, 0x00000100, 6⟩,
    ⟨0x0E078, 1, 0x4, 0x00000000, 0x00000000, 0x00000000, 0x00000000, 6⟩,
    ⟨0x0E07C, 1, 0x4, 0x0000FFFF, 0x00000000, 0x00000000, 0x000007D0, 6⟩,
    ⟨0x0E080, 1, 0x4, 0x00000000, 0x00000000, 0x00000000, 0x00000000, 6⟩ ]

/-- Registers of the ADCX page. -/
def regsADCX : List RegRow :=
  [ ⟨0x10040, 1, 0x4, 0x1F1F0333, 0x00000000, 0x00000000, 0x08080022, 6⟩,
    ⟨0x10080, 8, 0x4, 0x001F3FFF, 0x00000000, 0x00000000, 0x00069120, 6⟩,
    ⟨0x100C0, 8, 0x4, 0x00000000, 0x0000060C, 0x00000000, 0x00000000, 6⟩,
    ⟨0x10100, 8, 0x4, 0x00000000, 0x00000000, 0x00000000, 0x00000000, 6⟩,
    ⟨0x10140, 8, 0x4, 0x00000000, 0x00000000, 0x00000000, 0x00000000, 6⟩,
    ⟨0x10180, 8, 0x4, 0x0003FFFF, 0x00000000, 0x00000000, 0x00010000, 6⟩,
    ⟨0x101C0, 8, 0x4, 0x00FFFFFF, 0x00000000, 0x00000000, 0x00000000, 6⟩,
    ⟨0x10200, 4, 0x4, 0x000000FF, 0x00000000, 0x80000000, 0x00000000, 6⟩ ]

/-- Registers of the ADCI page. -/
def regsADCI : List RegRow :=
  [ ⟨0x11040, 1, 0x4, 0x00000001, 0x00000000, 0x00000000, 0x00000001, 6⟩,
    ⟨0x11080, 10, 0x4, 0x001F3FFB, 0x00000000, 0x00000000, 0x00069020, 6⟩,
    ⟨0x110C0, 10, 0x4, 0x00000000, 0x0000060C, 0x00000000, 0x00000000, 6⟩,
    ⟨0x11100, 10, 0x4, 0x00000000, 0x00000000, 0x00000000, 0x00000000, 6⟩,
    ⟨0x11140, 10, 0x4, 0x00000000, 0x00000000, 0x00000000, 0x00000000, 6⟩,
    ⟨0x11180, 10, 0x4, 0x0003FFFF, 0x00000000, 0x00000000, 0x00010000, 6⟩,
    ⟨0x111C0, 10, 0x4, 0x00FFFFFF, 0x00000000, 0x00000000, 0x00000000, 6⟩,
    ⟨0x11200, 4, 0x4, 0x000003FF, 0x00000000, 0x80000000, 0x00000000, 6⟩ ]

/-- Registers of the CMP page. -/
def regsCMP : List RegRow :=
  [ ⟨0x12040, 1, 0x4, 0x0003FF7F, 0x00000000, 0x00000000, 0x00000008, 6⟩,
    ⟨0x12044, 1, 0x4, 0x0003BF7F, 0x00000000, 0x00000000, 0x00000008, 6⟩,
    ⟨0x12048, 1, 0x4, 0x0003FF7F, 0x00000000, 0x00000000, 0x00000008, 6⟩,
    ⟨0x1204C, 1, 0x4, 0x0003BF7F, 0x00000000, 0x00000000, 0x00000008, 6⟩,
    ⟨0x12050, 1, 0x4, 0x0003FF7F, 0x00000000, 0x00000000, 0x00000008, 6⟩,
    ⟨0x12054, 1, 0x4, 0x0003BF7F, 0x00000000, 0x00000000, 0x00000008, 6⟩,
    ⟨0x12058, 1, 0x4, 0x0003FF7F, 0x00000000, 0x00000000, 0x00000008, 6⟩,
    ⟨0x1205C, 1, 0x4, 0x0003BF7F, 0x00000000, 0x00000000, 0x00000008, 6⟩,
    ⟨0x12060, 1, 0x4, 0x0003FF7F, 0x00000000, 0x00000000, 0x00000008, 6⟩,
    ⟨0x12064, 1, 0x4, 0x0003BF7F, 0x00000000, 0x00000000, 0x00000008, 6⟩,
    ⟨0x12068, 1, 0x4, 0x0003FF7F, 0x00000000, 0x00000000, 0x00000008, 6⟩,
    ⟨0x1206C, 1, 0x4, 0x0003BF7F, 0x00000000, 0x00000000, 0x00000008, 6⟩,
    ⟨0x12070, 1, 0x4, 0x0003FF7F, 0x00000000, 0x00000000, 0x00000008, 6⟩,
    ⟨0x12074, 1, 0x4, 0x0003BF7F, 0x00000000, 0x00000000, 0x00000008, 6⟩,
    ⟨0x12078, 1, 0x4, 0x0003FF7F, 0x00000000, 0x00000000, 0x00000008, 6⟩,
    ⟨0x1207C, 1, 0x4, 0x0003BF7F, 0x00000000, 0x00000000, 0x00000008, 6⟩,
    ⟨0x12080, 16, 0x4, 0x000003FF, 0x00000000, 0x00000000, 0x00000200, 6⟩,
    ⟨0x120C0, 1, 0x4, 0x00000000, 0xFFFF0000, 0x00000000, 0x00000000, 6⟩,
    ⟨0x12100, 16, 0x4, 0x00000000, 0x00000000, 0x00000000, 0x00000000, 6⟩,
    ⟨0x12140, 16, 0x4, 0x00000000, 0x00000000, 0x00000000, 0x00000000, 6⟩,
    ⟨0x12180, 16, 0x4, 0x00000000, 0x00000000, 0x00000000, 0x00000000, 6⟩ ]

/-- Registers of the CTL page. -/
def regsCTL : List RegRow :=
  [ ⟨0x14040, 1, 0x4, 0xFFFF001F, 0x00000000, 0x00000F00, 0x00000011, 6⟩,
    ⟨0x14044, 1, 0x4, 0x00000000, 0x00000700, 0x00000000, 0x00000000, 6⟩,
    ⟨0x14048, 1, 0x4, 0x00000000, 0x00000000, 0x00000000, 0x00000000, 6⟩,
    ⟨0x1404C, 1, 0x4, 0x7FFF0000, 0x00000000, 0x80000000, 0x0FA00000, 6⟩,
    ⟨0x14100, 64, 0x4, 0xFFFFFFFF, 0x00000000, 0x00000000, 0x00000000, 6⟩,
    ⟨0x14200, 32, 0x4, 0x0000FFCF, 0x00000000, 0x00000010, 0x00000400, 6⟩,
    ⟨0x14400, 32, 0x20, 0xFFFFFFFF, 0x00000000, 0x00000000, 0x00000000, 6⟩,
    ⟨0x14404, 32, 0x20, 0xFFFFFFFF, 0x00000000, 0x00000000, 0x00000000, 6⟩,
    ⟨0x14408, 32, 0x20, 0xFFFFFFFF, 0x00000000, 0x00000000, 0x00000000, 6⟩,
    ⟨0x1440C, 32, 0x20, 0xFFFFFFFF, 0x00000000, 0x00000000, 0x00000000, 6⟩,
    ⟨0x14410, 32, 0x20, 0xFFFFFFFF, 0x00000000, 0x00000000, 0x00000000, 6⟩,
    ⟨0x14414, 32, 0x20, 0xFFFFFFFF, 0x00000000, 0x00000000, 0x00000000, 6⟩,
    ⟨0x14418, 32, 0x20, 0xFFFFFFFF, 0x00000000, 0x00000000, 0x00000000, 6⟩,
    ⟨0x14800, 32, 0x10, 0xFFFFFFFF, 0x00000000, 0x00000000, 0x00000000, 6⟩,
    ⟨0x14804, 32, 0x10, 0xFFFFFFFF, 0x00000000, 0x00000000, 0x00000000, 6⟩,
    ⟨0x14808, 32, 0x10, 0xFFFFFFFF, 0x00000000, 0x00000000, 0x00000000, 6⟩,
    ⟨0x14A00, 32, 0x8, 0xFFFFFFFF, 0x00000000, 0x00000000, 0xFF800000, 6⟩,
    ⟨0x14A04, 32, 0x8, 0xFFFFFFFF, 0x00000000, 0x00000000, 0x7F800000, 6⟩,
    ⟨0x14B00, 8, 0x4, 0xFFFFFFFF, 0x00000000, 0x00000000, 0x7F800000, 6⟩,
    ⟨0x14B20, 8, 0x4, 0xFFFFFFFF, 0x00000000, 0x00000000, 0x7F800000, 6⟩,
    ⟨0x14B40, 16, 0x4, 0x00000000, 0x00000000, 0x00000000, 0x00000000, 6⟩ ]

/-- Registers of the SPEC page. -/
def regsSPEC : List RegRow :=
  [ ⟨0x15040, 1, 0x4, 0x010FFFF3, 0x00000000, 0x00000000, 0x01022031, 6⟩,
    ⟨0x15044, 1, 0x4, 0x00000000, 0x1C000000, 0x00000000, 0x00000000, 6⟩,
    ⟨0x15048, 1, 0x4, 0x000000FF, 0x00000000, 0x00000000, 0x00000008, 6⟩,
    ⟨0x1504C, 1, 0x4, 0x000000FF, 0x00000000, 0x00000000, 0x00000003, 6⟩,
    ⟨0x15050, 1, 0x4, 0x8000FFFF, 0x00000000, 0x00000000, 0x80000FA0, 6⟩,
    ⟨0x15054, 1, 0x4, 0x00000000, 0x08FFFFFF, 0x00000000, 0x00000000, 6⟩,
    ⟨0x15058, 1, 0x4, 0x0000007F, 0x00000000, 0x00000000, 0x0000003C, 6⟩,
    ⟨0x1505C, 1, 0x4, 0x00000000, 0x00000000, 0x00000000, 0x00000000, 6⟩,
    ⟨0x15080, 1, 0x4, 0xFFFFFFFF, 0x00000000, 0x00000000, 0x08020000, 6⟩,
    ⟨0x15084, 1, 0x4, 0xFFFFFFFF, 0x00000000, 0x00000000, 0x29020000, 6⟩,
    ⟨0x15088, 1, 0x4, 0xFFFFFFFF, 0x00000000, 0x00000000, 0x4A020000, 6⟩,
    ⟨0x1508C, 1, 0x4, 0xFFFFFFFF, 0x00000000, 0x00000000, 0x6B020000, 6⟩,
    ⟨0x15090, 1, 0x4, 0xFFFFFFFF, 0x00000000, 0x00000000, 0x8C020000, 6⟩,
    ⟨0x15094, 1, 0x4, 0xFFFFFFFF, 0x00000000, 0x00000000, 0xAD020000, 6⟩,
    ⟨0x15098, 1, 0x4, 0xFFFFFFFF, 0x00000000, 0x00000000, 0xCE020000, 6⟩,
    ⟨0x1509C, 1, 0x4, 0xFFFFFFFF, 0x00000000, 0x00000000, 0xF0020000, 6⟩,
    ⟨0x150A0, 8, 0x4, 0xFFFFFFFF, 0x00000000, 0x00000000, 0x00000000, 6⟩,
    ⟨0x150C0, 8, 0x4, 0x00000000, 0x00000000, 0x00000000, 0x00000000, 6⟩,
    ⟨0x150E0, 8, 0x4, 0x00000000, 0x00000000, 0x00000000, 0x00000000, 6⟩ ]

/-- Registers of the MODE page. -/
def regsMODE : List RegRow :=
  [ ⟨0x16040, 1, 0x4, 0xFFFF03FF, 0x00000000, 0x00000000, 0x80A603F8, 6⟩,
    ⟨0x16044, 1, 0x4, 0x00000003, 0x00000000, 0x00000000, 0x00000000, 6⟩,
    ⟨0x16048, 1, 0x4, 0x00000000, 0x00000000, 0x00000000, 0x01000000, 6⟩,
    ⟨0x1604C, 1, 0x4, 0xFFFFFFFF, 0x00000000, 0x00000000, 0x00C80000, 6⟩,
    ⟨0x16050, 1, 0x4, 0xFFFFFFFF, 0x00000000, 0x00000000, 0x00C80000, 6⟩,
    ⟨0x16054, 1, 0x4, 0x03FFFFFF, 0x00000000, 0x00000000, 0x002409C4, 6⟩,
    ⟨0x16058, 1, 0x4, 0xFFFFFFFF, 0x00000000, 0x00000000, 0xB0C80554, 6⟩,
    ⟨0x1605C, 1, 0x4, 0xFFFFFFFF, 0x00000000, 0x00000000, 0x02660052, 6⟩,
    ⟨0x16060, 1, 0x4, 0x0000FFFF, 0x00000000, 0x00000000, 0x00000CCD, 6⟩,
    ⟨0x16064, 1, 0x4, 0x0000FFFF, 0x00000000, 0x00000000, 0x00004000, 6⟩,
    ⟨0x16068, 1, 0x4, 0x000000FF, 0x00000000, 0x00000000, 0x00000002, 6⟩,
    ⟨0x1606C, 1, 0x4, 0x0000FFFF, 0x00000000, 0x00000000, 0x00004666, 6⟩,
    ⟨0x16070, 1, 0x4, 0x00FFFF03, 0x00000000, 0x00000000, 0x000A0500, 6⟩,
    ⟨0x16074, 1, 0x4, 0xFFFFFFFF, 0x00000000, 0x00000000, 0x32C0A402, 6⟩,
    ⟨0x16078, 2, 0x4, 0x00000000, 0x00000000, 0x00000000, 0x00000000, 6⟩,
    ⟨0x16080, 1, 0x4, 0xFFFF0000, 0x00000000, 0x00000000, 0x10407FFF, 6⟩,
    ⟨0x16084, 1, 0x4, 0xFFFFFFFF, 0x00000000, 0x00000000, 0x3C3C0A1E, 6⟩ ]

/-- Registers of the PWM page. -/
def regsPWM : List RegRow :=
  [ ⟨0x18040, 1, 0x4, 0x000FFFFF, 0x00000000, 0x00000000, 0x000000C0, 6⟩,
    ⟨0x18044, 1, 0x4, 0x00000000, 0x00000000, 0x00000001, 0x00000000, 6⟩,
    ⟨0x18048, 1, 0x4, 0x000007FF, 0x00000000, 0x00000000, 0x00000140, 6⟩,
    ⟨0x1804C, 1, 0x4, 0x001FFFFF, 0x00000000, 0x00000000, 0x0000FA00, 6⟩,
    ⟨0x18050, 2, 0x4, 0x00000000, 0x00000000, 0x00000000, 0x00000000, 6⟩,
    ⟨0x18080, 7, 0x4, 0x001FFFFF, 0x00000000, 0x00000000, 0x00000000, 6⟩,
    ⟨0x180A0, 7, 0x4, 0x00000000, 0x00000000, 0x00000000, 0x00000000, 6⟩,
    ⟨0x180C0, 1, 0x4, 0xFFFFFFFF, 0x00000000, 0x00000000, 0x00000000, 6⟩,
    ⟨0x180C4, 1, 0x4, 0x00000FFF, 0x00000000, 0x00000000, 0x00000050, 6⟩,
    ⟨0x180C8, 1, 0x4, 0x000FFFFF, 0x00000000, 0x00000000, 0x00083C10, 6⟩,
    ⟨0x180CC, 1, 0x4, 0x00000000, 0x00000000, 0x00000000, 0x00000000, 6⟩ ]

/-- Registers of the GD page. -/
def regsGD : List RegRow :=
  [ ⟨0x1A040, 1, 0x4, 0x0003FFFF, 0x00000000, 0x03000000, 0x0000C828, 6⟩,
    ⟨0x1A044, 1, 0x4, 0x00000FFF, 0x00000000, 0x00000000, 0x00000AAA, 6⟩,
    ⟨0x1A048, 7, 0x4, 0x000003FF, 0x00000000, 0x00000000, 0x00000064, 6⟩,
    ⟨0x1A064, 7, 0x4, 0x000003FF, 0x00000000, 0x00000000, 0x00000064, 6⟩,
    ⟨0x1A080, 1, 0x4, 0x0000007F, 0x00000000, 0x00000000, 0x00000028, 6⟩,
    ⟨0x1A084, 1, 0x4, 0x0000FFFF, 0x00000000, 0x00000000, 0x00000320, 6⟩,
    ⟨0x1A088, 1, 0x4, 0x00000000, 0x00000000, 0x00000000, 0x00000000, 6⟩,
    ⟨0x1A08C, 1, 0x4, 0x00000000, 0x00000000, 0x00000000, 0x00000000, 6⟩,
    ⟨0x1A090, 5, 0x4, 0x00FF0003, 0x00000000, 0x00000004, 0x00800000, 6⟩,
    ⟨0x1A0A4, 2, 0x4, 0x00FF0003, 0x00000000, 0x00000004, 0x00000000, 6⟩,
    ⟨0x1A0AC, 1, 0x4, 0x0000FF07, 0x00000000, 0x00000000, 0x00000400, 6⟩ ]

/-- Registers of the MET page. -/
def regsMET : List RegRow :=
  [ ⟨0x1C040, 1, 0x4, 0x0FFFFFFF, 0x00000000, 0x10000000, 0x08C3E9F4, 6⟩,
    ⟨0x1C044, 1, 0x4, 0x00000000, 0x00000030, 0x00000000, 0x00000000, 6⟩,
    ⟨0x1C080, 4, 0x4, 0x00000000, 0x00000000, 0x00000000, 0x00000000, 6⟩,
    ⟨0x1C090, 4, 0x4, 0x00000000, 0x00000000, 0x00000000, 0x00000000, 6⟩,
    ⟨0x1C0A0, 4, 0x4, 0x00000000, 0x00000000, 0x00000000, 0x00000000, 6⟩,
    ⟨0x1C0B0, 4, 0x4, 0x00000000, 0x00000000, 0x00000000, 0x00000000, 6⟩,
    ⟨0x1C0C0, 4, 0x4, 0x00000000, 0x00000000, 0x00000000, 0x00000000, 6⟩,
    ⟨0x1C0D0, 4, 0x4, 0x00000000, 0x00000000, 0x00000000, 0x00000000, 6⟩,
    ⟨0x1C0E0, 1, 0x4, 0x00000000, 0x00000000, 0x00000000, 0x00000000, 6⟩,
    ⟨0x1C100, 32, 0x4, 0x00000000, 0x00000000, 0x00000000, 0x00000000, 6⟩,
    ⟨0x1C180, 1, 0x4, 0x0000FFFF, 0x00000000, 0x00000000, 0x00000000, 6⟩ ]

/-- Registers of the HRM page. -/
def regsHRM : List RegRow :=
  [ ⟨0x1D040, 1, 0x4, 0xFFFF07FF, 0x00000000, 0x00000000, 0x00000000, 6⟩,
    ⟨0x1D044, 1, 0x4, 0x00000000, 0x00000000, 0x00000000, 0x00000000, 6⟩,
    ⟨0x1D048, 1, 0x4, 0x0000FF07, 0x00000000, 0x00000000, 0x0000FF00, 6⟩,
    ⟨0x1D100, 62, 0x4, 0x00000000, 0x00000000, 0x00000000, 0x00000000, 6⟩,
    ⟨0x1D200, 62, 0x4, 0x00000000, 0x00000000, 0x00000000, 0x00000000, 6⟩,
    ⟨0x1D300, 8, 0x4, 0x00000000, 0x00000000, 0x00000000, 0x00000000, 6⟩,
    ⟨0x1D320, 4, 0x4, 0x00000000, 0x00000000, 0x00000000, 0x00000000, 6⟩ ]

/-- Registers of the LDG page. -/
def regsLDG : List RegRow :=
  [ ⟨0x1E040, 1, 0x4, 0xFFFFFF0F, 0x00000000, 0x00000000, 0x465F0505, 6⟩,
    ⟨0x1E044, 1, 0x4, 0x00000000, 0x00000FC6, 0x00000000, 0x00000000, 6⟩,
    ⟨0x1E048, 1, 0x4, 0x0000FFFF, 0x00000000, 0x00000000, 0x0000000F, 6⟩,
    ⟨0x1E04C, 1, 0x4, 0x0000FFFF, 0x00000000, 0x00000000, 0x00000A3D, 6⟩,
    ⟨0x1E050, 1, 0x4, 0xFFFFFFFF, 0x00000000, 0x00000000, 0x01F40014, 6⟩,
    ⟨0x1E054, 3, 0x4, 0x00000000, 0x00000000, 0x00000000, 0x00000000, 6⟩,
    ⟨0x1E060, 1, 0x4, 0x000000FF, 0x00000000, 0x00000000, 0x00000000, 6⟩,
    ⟨0x1E080, 8, 0x4, 0xFFFFFFFF, 0x00000000, 0x00000000, 0x00000000, 6⟩,
    ⟨0x1E0A0, 1, 0x4, 0x00FFFF00, 0x00000000, 0x00000000, 0x001EC800, 6⟩ ]

/-- Registers of the BUS page. -/
def regsBUS : List RegRow :=
  [ ⟨0x1F040, 1, 0x4, 0x00FFFF3F, 0x00000000, 0x00000000, 0x0031C800, 6⟩,
    ⟨0x1F044, 1, 0x4, 0x00000000, 0x00000000, 0x00000000, 0x00000000, 6⟩,
    ⟨0x1F048, 1, 0x4, 0xFFFFFF7F, 0x00000000, 0x00000000, 0x0A313201, 6⟩,
    ⟨0x1F04C, 1, 0x4, 0x00000000, 0x00000002, 0x00000000, 0x00000000, 6⟩,
    ⟨0x1F080, 16, 0x4, 0xFFFFFFFF, 0x00000000, 0x00000000, 0x00000000, 6⟩,
    ⟨0x1F0C0, 2, 0x4, 0x00000000, 0x00000000, 0x00000000, 0x00000000, 6⟩,
    ⟨0x1F0E0, 8, 0x4, 0x00000000, 0x00000000, 0x00000000, 0x00000000, 6⟩,
    ⟨0x1F100, 2, 0x4, 0x00000000, 0x00000000, 0x00000000, 0x00000000, 6⟩ ]

/-- Registers of the PROT page. -/
def regsPROT : List RegRow :=
  [ ⟨0x20040, 1, 0x4, 0xFFFF1F0B, 0x00000000, 0x00000004, 0xA68A0000, 0⟩,
    ⟨0x20044, 1, 0x4, 0xFFFFFFFF, 0x00000000, 0x00000000, 0x40644666, 1⟩,
    ⟨0x20048, 1, 0x4, 0xFFFFFFFF, 0x00000000, 0x00000000, 0x03205666, 1⟩,
    ⟨0x2004C, 2, 0x4, 0xFFFFFFFF, 0x00000000, 0x00000000, 0x00000000, 1⟩,
    ⟨0x20054, 1, 0x4, 0xFFFFFFFF, 0x00000000, 0x00000000, 0x40643666, 1⟩,
    ⟨0x20058, 1, 0x4, 0xFFFFFFFF, 0x00000000, 0x00000000, 0x40052000, 1⟩,
    ⟨0x2005C, 2, 0x4, 0xFFFFFFFF, 0x00000000, 0x00000000, 0x00000000, 1⟩,
    ⟨0x20064, 1, 0x4, 0xFFFFFFFF, 0x00000000, 0x00000000, 0x400A13EC, 1⟩,
    ⟨0x20068, 1, 0x4, 0xFFFFFFFF, 0x00000000, 0x00000000, 0x00000000, 1⟩,
    ⟨0x2006C, 1, 0x4, 0xFFFFFFFF, 0x00000000, 0x00000000, 0x400A1324, 1⟩,
    ⟨0x20070, 1, 0x4, 0xFFFFFFFF, 0x00000000, 0x00000000, 0x00000000, 1⟩,
    ⟨0x20074, 1, 0x4, 0xBFFFFFFF, 0x00000000, 0x00000000, 0x00000000, 1⟩,
    ⟨0x20078, 1, 0x4, 0x8000FFFF, 0x00000000, 0x00000000, 0x00000000, 1⟩,
    ⟨0x2007C, 1, 0x4, 0x00FFFFF3, 0x00000000, 0x00000000, 0x00141421, 2⟩,
    ⟨0x20080, 1, 0x4, 0xFFFFFFFF, 0x00000000, 0x00000000, 0x00000000, 3⟩,
    ⟨0x20084, 1, 0x4, 0xFFFFFFFF, 0x00000000, 0x00000000, 0x00082000, 3⟩,
    ⟨0x20088, 1, 0x4, 0xFFFFFFFF, 0x00000000, 0x00000000, 0x00322CCD, 3⟩,
    ⟨0x2008C, 1, 0x4, 0xFFFFFFFF, 0x00000000, 0x00000000, 0x00963666, 3⟩,
    ⟨0x20090, 4, 0x4, 0xFFFFFFFF, 0x00000000, 0x00000000, 0xFFFF0000, 3⟩,
    ⟨0x200A0, 1, 0x4, 0xFFFFFFFF, 0x00000000, 0x00000000, 0x00005333, 3⟩,
    ⟨0x200A4, 1, 0x4, 0xFFFFFFFF, 0x00000000, 0x00000000, 0x00324CCD, 3⟩,
    ⟨0x200A8, 1, 0x4, 0xFFFFFFFF, 0x00000000, 0x00000000, 0x00644666, 3⟩,
    ⟨0x200AC, 5, 0x4, 0xFFFFFFFF, 0x00000000, 0x00000000, 0xFFFF0000, 3⟩,
    ⟨0x200C0, 1, 0x4, 0xFFFFFFFF, 0x00000000, 0x00000000, 0x02DCB414, 3⟩,
    ⟨0x200C4, 1, 0x4, 0xFFFFFFFF, 0x00000000, 0x00000000, 0x00142000, 3⟩,
    ⟨0x200C8, 1, 0x4, 0x00FFFFFF, 0x00000000, 0x00000000, 0x00000BB8, 5⟩,
    ⟨0x200CC, 1, 0x4, 0xFFFFFFFF, 0x00000000, 0x00000000, 0x14ECD8B4, 5⟩,
    ⟨0x200D0, 1, 0x4, 0x0000FFFF, 0x00000000, 0x00000000, 0x00000258, 5⟩,
    ⟨0x200D4, 1, 0x4, 0x00000000, 0x001F0000, 0x00000000, 0x00000000, 6⟩,
    ⟨0x200D8, 1, 0x4, 0x00000000, 0x00000000, 0x00000000, 0x00000000, 6⟩ ]

/-- Registers of the SAFE page. -/
def regsSAFE : List RegRow :=
  [ ⟨0x21040, 1, 0x4, 0xFFFFFFFF, 0x00000000, 0x00000000, 0x00000000, 6⟩,
    ⟨0x21044, 1, 0x4, 0xFFFFFFFF, 0x00000000, 0x00000000, 0x00000000, 6⟩,
    ⟨0x21048, 1, 0x4, 0x00000000, 0x00000000, 0x00000007, 0x00000000, 6⟩,
    ⟨0x2104C, 1, 0x4, 0x00000000, 0x00000000, 0x00000000, 0x00000000, 6⟩,
    ⟨0x21050, 1, 0x4, 0x00000000, 0x00000000, 0x00000000, 0x00000000, 6⟩,
    ⟨0x21054, 1, 0x4, 0x00000000, 0x00000000, 0x00000000, 0x00000000, 6⟩,
    ⟨0x21058, 1, 0x4, 0x00000000, 0x00000000, 0x00000000, 0x00000000, 6⟩ ]

/-- Registers of the RLY page. -/
def regsRLY : List RegRow :=
  [ ⟨0x22040, 1, 0x4, 0x0000FF0F, 0x00000000, 0x00000000, 0x00007D0E, 4⟩,
    ⟨0x22044, 1, 0x4, 0x00FFFFFF, 0x00000000, 0x00000000, 0x0002141E, 4⟩,
    ⟨0x22048, 1, 0x4, 0x00FFFFFF, 0x00000000, 0x00000000, 0x000A6432, 4⟩,
    ⟨0x2204C, 1, 0x4, 0x00000000, 0x00000000, 0x00000007, 0x00000000, 6⟩,
    ⟨0x22050, 1, 0x4, 0x00000000, 0x00000000, 0x00000000, 0x00000400, 6⟩,
    ⟨0x22054, 1, 0x4, 0x00000000, 0x00000000, 0x00000000, 0x00000000, 6⟩,
    ⟨0x22058, 1, 0x4, 0x00000000, 0x00000007, 0x00000000, 0x00000000, 6⟩ ]

/-- Registers of the HSW page. -/
def regsHSW : List RegRow :=
  [ ⟨0x24040, 1, 0x4, 0x00FF0F0F, 0x00000000, 0x00000000, 0x000A0308, 6⟩,
    ⟨0x24044, 1, 0x4, 0x00FF0F0F, 0x00000000, 0x00000000, 0x000A0300, 6⟩,
    ⟨0x24048, 2, 0x4, 0x00000000, 0x00003F00, 0x00000000, 0x00000000, 6⟩,
    ⟨0x24050, 2, 0x4, 0x0000FF01, 0x00000000, 0x00000000, 0x00002800, 6⟩,
    ⟨0x24058, 2, 0x4, 0x0000003F, 0x00000000, 0x00000000, 0x00000009, 6⟩,
    ⟨0x24060, 2, 0x4, 0x00FFFFFF, 0x00000000, 0x00000000, 0x000A00C8, 6⟩,
    ⟨0x24068, 2, 0x4, 0x00FFFFFF, 0x00000000, 0x00000000, 0x00800190, 6⟩,
    ⟨0x24070, 2, 0x4, 0x00000000, 0x00000000, 0x00000000, 0x00000000, 6⟩ ]

/-- Registers of the NVM page. -/
def regsNVM : List RegRow :=
  [ ⟨0x28040, 1, 0x4, 0x00000001, 0x00000000, 0x00000000, 0x00000001, 6⟩,
    ⟨0x28044, 1, 0x4, 0x00000000, 0x00000004, 0x00000000, 0x00000000, 6⟩,
    ⟨0x28048, 1, 0x4, 0x00000000, 0x00000000, 0x00000000, 0x00000000, 6⟩,
    ⟨0x2804C, 1, 0x4, 0x00000000, 0x00000000, 0x00000000, 0x00000000, 6⟩,
    ⟨0x28050, 1, 0x4, 0x00000000, 0x00000000, 0x00000000, 0x00000000, 6⟩,
    ⟨0x28058, 8, 0x4, 0x00000000, 0x00000000, 0x00000000, 0x00000000, 6⟩ ]

/-- Registers of the LOG page. -/
def regsLOG : List RegRow :=
  [ ⟨0x30040, 1, 0x4, 0x00000006, 0x00000000, 0x00000001, 0x00000000, 6⟩,
    ⟨0x30044, 1, 0x4, 0x00000000, 0x00000800, 0x00000000, 0x00000000, 6⟩,
    ⟨0x30048, 1, 0x4, 0x00000000, 0x00000000, 0x00000000, 0x00000000, 6⟩,
    ⟨0x3004C, 1, 0x4, 0x00000000, 0x00000000, 0x00000000, 0x00000000, 6⟩,
    ⟨0x30050, 1, 0x4, 0x00000000, 0x00000000, 0x00000000, 0x00000000, 6⟩,
    ⟨0x30054, 2, 0x4, 0x00000000, 0x00000000, 0x00000000, 0x00000000, 6⟩ ]

/-- The block registers of page `p` (empty for a page the page map does not list). -/
def pageRegs (p : Nat) : List RegRow :=
  match p with
  | 0x00 => regsIDENT
  | 0x01 => regsSYS
  | 0x02 => regsPWR
  | 0x03 => regsPINS
  | 0x04 => regsHOST
  | 0x05 => regsCTX
  | 0x06 => regsIRQC
  | 0x07 => regsEVR
  | 0x08 => regsDMA
  | 0x0C => regsCPS
  | 0x0D => regsCHT
  | 0x0E => regsQDL
  | 0x10 => regsADCX
  | 0x11 => regsADCI
  | 0x12 => regsCMP
  | 0x14 => regsCTL
  | 0x15 => regsSPEC
  | 0x16 => regsMODE
  | 0x18 => regsPWM
  | 0x1A => regsGD
  | 0x1C => regsMET
  | 0x1D => regsHRM
  | 0x1E => regsLDG
  | 0x1F => regsBUS
  | 0x20 => regsPROT
  | 0x21 => regsSAFE
  | 0x22 => regsRLY
  | 0x24 => regsHSW
  | 0x28 => regsNVM
  | 0x30 => regsLOG
  | _ => []

/-- The row of the block register at address `a`, if the page's table lists one (R32: any other offset is reserved). -/
def regRow? (a : Nat) : Option RegRow :=
  (pageRegs (a / 0x1000)).find? (fun r => r.covers a)

end Sys2Proof.Machine
end

