-- ==== Sys2Proof/Machine/Sparse.lean ====
section
/-! DEFINITION. Sparse maps in one canonical form: a list of (address, value) pairs, addresses strictly rising, no entry
equal to what an unlisted address reads as (`d`). Registers, SRAM and NVM are held this way, so that equal contents are equal
data. -/

namespace Sys2Proof.Machine

/-- What address `a` reads as: its entry, or the default `d a`. -/
def Sparse.get {w : Nat} (d : Nat → BitVec w) : List (Nat × BitVec w) → Nat → BitVec w
  | [], a => d a
  | (k, v) :: m, a => if a = k then v else Sparse.get d m a

/-- The map with `v` at address `a`, inserted in order. -/
def Sparse.insert {w : Nat} (a : Nat) (v : BitVec w) : List (Nat × BitVec w) → List (Nat × BitVec w)
  | [] => [(a, v)]
  | (k, u) :: m =>
    if a < k then (a, v) :: (k, u) :: m
    else if a = k then (a, v) :: m
    else (k, u) :: Sparse.insert a v m

/-- The map with the entry of address `a` left out. -/
def Sparse.erase {w : Nat} (a : Nat) : List (Nat × BitVec w) → List (Nat × BitVec w)
  | [] => []
  | (k, u) :: m => if a = k then Sparse.erase a m else (k, u) :: Sparse.erase a m

/-- Write `v` at `a`, keeping the canonical form: a value equal to the default removes the entry. -/
def Sparse.set {w : Nat} (d : Nat → BitVec w) (m : List (Nat × BitVec w)) (a : Nat) (v : BitVec w) :
    List (Nat × BitVec w) :=
  if v = d a then Sparse.erase a m else Sparse.insert a v m

/-- Every address of `m` lies above `lo`. -/
def Sparse.above {w : Nat} (lo : Nat) : List (Nat × BitVec w) → Bool
  | [] => true
  | (k, _) :: m => decide (lo < k) && Sparse.above lo m

/-- The canonical form: addresses strictly rising, no entry equal to its default. -/
def Sparse.wf {w : Nat} (d : Nat → BitVec w) : List (Nat × BitVec w) → Bool
  | [] => true
  | (k, v) :: m => !(v == d k) && Sparse.above k m && Sparse.wf d m

/-- The map without the entries whose address satisfies `p`: those addresses read their default again. -/
def Sparse.clearIf {w : Nat} (p : Nat → Bool) (m : List (Nat × BitVec w)) : List (Nat × BitVec w) :=
  m.filter (fun e => !(p e.1))

end Sys2Proof.Machine
end

