-- ==== Sys2Proof/Machine/State.lean ====
section
/-! DEFINITION. The state of the PX410: every register (one sparse map from address to word, an unlisted register holding its
reset value), the SRAM banks and the NVM (sparse byte maps), the clocks, the power domains, and for each block the state its
chapter gives it beyond its registers. State is plain data. -/

namespace Sys2Proof.Machine

/-- Why a step may end in a fault. No rule of the spec stops the block: every error is a bit, a status or a record, so no
meaning raises a fault and the type is empty. -/
inductive Fault where
  deriving DecidableEq, Repr

/-- Why a step may be refused. -/
inductive Refusal where
  /-- Raised by the arm of a command that has no meaning yet: safe, nothing is claimed of such a step. -/
  | notModelled (mnemonic : String)
  deriving DecidableEq, Repr


/-- What an access answers its master (spec/02 Access semantics; R30, R33 to R36, R40). -/
inductive Status where
  | ok
  | unmapped
  | align
  | domainOff
  | notReady
  | locked
  | notOwner
  | roWrite
  /-- a context-window write refused without an error bit of a page (R399 to R402) -/
  | refused
  deriving DecidableEq, Repr

/-- Interrupt controller state beyond its registers (R393). -/
structure IrqcSt where
  /-- an announcement for target LNK waits for its packet (R393) -/
  announce : Bool
  /-- pending bits that are to be set: the tick each is set in, and its source (R384 to R386) -/
  soon : List (Nat × Nat)
  deriving DecidableEq, Repr

def IrqcSt.reset : IrqcSt := { announce := false, soon := [] }

/-- One event-log record as it is created (R537, R539): the full seconds and cycle are kept for the anchors (R538). -/
structure LogRec where
  /-- its code and flags (R537) -/
  code : Nat
  flags : Nat
  /-- its data words -/
  d0 : Word
  d1 : Word
  /-- the RTC second and BEAR_CYCLE of its creation (R538) -/
  sec : Word
  cyc : Word
  /-- the tick of creation (R539) -/
  tick : Nat
  deriving DecidableEq, Repr

/-- The event log beyond its registers (R538 to R543). -/
structure LogSt where
  /-- records in staging order, anchors included, at most 256 (R540) -/
  staged : List LogRec
  /-- records dropped since the last 0x3001 record (R540) -/
  dropped : Nat
  /-- full seconds and cycle of the last anchor staged; no cycle if it was written without the bearing (R538) -/
  anchorSec : Option Word
  anchorCyc : Option Word
  /-- how many of the staged records the running program operation carries (R542) -/
  running : Nat
  /-- the tick the last record was created in (R539) -/
  lastTick : Nat
  /-- the ring scan of R543 has ended -/
  scanned : Bool
  /-- records raised while D1 CORE is off: code and data words, oldest first (R539) -/
  held : List (Nat × Word × Word)
  deriving DecidableEq, Repr

def LogSt.reset : LogSt :=
  { staged := [], dropped := 0, anchorSec := none, anchorCyc := none, running := 0, lastTick := 0, scanned := false, held := [] }

/-- Who asked for an NVM operation (R480, R481). -/
inductive NvmOwner where
  /-- a change-log entry (R290) -/
  | clog
  /-- the event log (R542); `erase` of a ring sector too -/
  | elog
  /-- a safety-set change (R487) -/
  | safety
  /-- a ledger snapshot (R348) -/
  | ledger
  /-- a command in flight, by its serial number in the engine -/
  | cmd (id : Nat)
  deriving DecidableEq, Repr

/-- One operation of the NVM controller: a sector erase, or a program of up to 256 bytes in one program unit (R479). -/
structure NvmOp where
  /-- a sector erase; else a program -/
  erase : Bool
  /-- the NVM offset it acts at, and the bytes it programs -/
  off : Nat
  data : List Byte
  /-- who asked for it -/
  owner : NvmOwner
  deriving DecidableEq, Repr

/-- An operation under way: since which tick, and the ticks its maximum time has left from there (R480). -/
structure NvmRun where
  /-- the operation, the tick it has run since, and the ticks left from there -/
  op : NvmOp
  at' : Nat
  left : Nat
  deriving DecidableEq, Repr

/-- NVM controller state (R479 to R482). -/
structure NvmSt where
  /-- operations waiting, in start order (R481) -/
  queue : List NvmOp
  /-- the operation running -/
  cur : Option NvmRun
  /-- a suspended erase (R481) -/
  susp : Option NvmRun
  /-- erases made since the model's start, by sector number (R482) -/
  wear : List (Nat × Nat)
  /-- entries of the image loaded last (address, value), for the restores of R454 -/
  image : List (Nat × Word)
  deriving DecidableEq, Repr

def NvmSt.reset : NvmSt := { queue := [], cur := none, susp := none, wear := [], image := [] }

/-- A transition of the power sequencer (R453, R455). -/
structure Transition where
  /-- the state code it leads to (R450) -/
  target : Nat
  /-- the domains on at its end -/
  mask : BitVec 12
  /-- whether it is a wake sequence (R457) -/
  wake : Bool
  deriving DecidableEq, Repr

/-- A held power request (R455): the register aimed at, the value, and the page write it counts as. -/
structure HeldReq where
  /-- aimed at PWR_DOMAIN_EN; else at PWR_STATE_REQ -/
  domainEn : Bool
  /-- the word written -/
  value : Word
  deriving DecidableEq, Repr

/-- Power, reset, clock and watchdog state (spec/21). -/
structure PwrSt where
  /-- domains powered -/
  on : BitVec 12
  /-- domains whose power-up sequence has ended -/
  ready : BitVec 12
  /-- page refusal latches for accesses refused while the domain was off (R35) -/
  refOff : BitVec 64
  /-- page refusal latches for accesses refused while not ready (R36) -/
  refNR : BitVec 64
  /-- pages in soft reset (R43), and the tick each page's last soft reset began in -/
  srst : BitVec 64
  srstAt : List Nat
  /-- the transition that runs (R453, R455) -/
  trans : Option Transition
  /-- the request held while it runs (R455) -/
  held : Option HeldReq
  /-- wake conditions counted or latched, bits of R456 and bit 8 REQ -/
  wakeSeen : BitVec 9
  /-- the state woken from -/
  wakeFrom : Nat
  /-- a reset scheduled by WDT or SW (R459): its cause code and the LPO tick it begins -/
  resetAt : Option (Nat × Nat)
  /-- reset causes active now: POR, BOR, NRST, and WDT, SW, WAKEOFF as bits 0 to 5 -/
  holding : BitVec 6
  /-- whether the device is held in reset -/
  inReset : Bool
  /-- the muster window runs (R463) -/
  muster : Bool
  /-- `now` at the last reset release -/
  released : Nat
  /-- the ticks in which SYSCLK was stopped (R448) -/
  halted : Nat
  /-- LPO ticks since power-on, and the remainder of its accumulation from SYSCLK -/
  lpo : Nat
  lpoAcc : Nat
  /-- SYS_RTC_SUB, in 2^-32 s (R466) -/
  rtcSub : Nat
  /-- the RTC alarm condition holds (R467) -/
  alarm : Bool
  /-- the LPO tick the watchdog count started from, while it counts (R468), and of the last kick -/
  wdtStart : Option Nat
  /-- the LPO tick in which a kick that has been written counts (R22, R469) -/
  kick : Option Nat
  /-- the watchdog warning of this count has been given (R469) -/
  wdtWarned : Bool
  /-- the reset in progress: causes that have been active (bits of R461), the last of them, and the LPO tick in which the last
  level cause went inactive -/
  causes : BitVec 6
  lastCause : Nat
  clearAt : Nat
  /-- D1 CORE has not been ready since the last reset release -/
  boot : Bool
  /-- XIN has been judged (R464) -/
  xinDone : Bool
  /-- banks that lost their contents and that their blocks have not yet found so (R449) -/
  lost : BitVec 8
  /-- the tick the last LPO measurement began (R466), and its LPO tick -/
  calAt : Nat
  calLpo : Nat
  /-- the tick the present power-up or switching began (R454) -/
  upFrom : Nat
  deriving DecidableEq, Repr

/-- Right after the reset release that follows power-on: only D0 AON is on, the muster window runs (R459, R462, R463). -/
def PwrSt.reset : PwrSt :=
  { on := 1#12, ready := 0#12, refOff := 0#64, refNR := 0#64, srst := 0#64, srstAt := List.replicate 64 0, trans := none, held := none, wakeSeen := 0#9,
    wakeFrom := 0, resetAt := none, holding := 0#6, inReset := false, muster := true, released := 0, halted := 0, lpo := 0, lpoAcc := 0,
    rtcSub := 0, alarm := false, wdtStart := none, kick := none, wdtWarned := false, causes := 0#6, lastCause := 1,
    clearAt := 0, boot := true, xinDone := false, lost := 0xFF#8, calAt := 0, calLpo := 0, upFrom := 0 }

/-- One comparator (R233 to R242). -/
structure CmpCh where
  /-- the input, in microvolts -/
  uV : Nat
  /-- the raw output of its own threshold (R234) -/
  raw : Bool
  /-- settling since enabled inside the muster window (R241) -/
  settling : Bool
  /-- the tick of entry into settling or quarantine -/
  since : Nat
  /-- the tick of the last change of the synchronised output -/
  changed : Nat
  deriving DecidableEq, Repr

def CmpCh.reset : CmpCh := { uV := 0, raw := false, settling := false, since := 0, changed := 0 }

/-- One router output (R248). -/
structure RouterOut where
  /-- the level of the pin -/
  level : Bool
  /-- the tick a pulse ends -/
  until? : Option Nat
  deriving DecidableEq, Repr

/-- Comparators and router (R233 to R251). -/
structure CmpSt where
  /-- comparators 0 to 15 -/
  ch : List CmpCh
  /-- `now` when D8 CMP powered up: the capture counter starts there (R238) -/
  epoch : Nat
  /-- router outputs 0 to 3 -/
  out : List RouterOut
  deriving DecidableEq, Repr

def CmpSt.reset : CmpSt :=
  { ch := List.replicate 16 CmpCh.reset, epoch := 0, out := List.replicate 4 { level := false, until? := none } }

/-- Compass state beyond its registers (spec/03). Angles and rates with a fraction are held in units of 2^-20 bearing unit:
one turn is 2^52 of them, and a Q12.20 rate counts them per SYSCLK tick. -/
structure CpsSt where
  /-- the bearing (R54) -/
  bear : Nat
  /-- the grid estimate, and the rate it advances at between updates (R57) -/
  thG : Nat
  thRate : Nat
  /-- remaining offset of a blend, signed (R71) -/
  rem : Int
  /-- how far the bearing moved in the last tick: what lies within it behind the bearing was crossed in that tick (R77) -/
  step : Nat
  /-- the bearing has crossed 0 forward and BEAR_CYCLE has not been incremented for it yet (R55) -/
  wrapPend : Bool
  /-- ticks since the bearing last crossed 0 forward, counted or not (R85) -/
  zeroAgo : Option Nat
  /-- the bearing has gone back over 0 since the last increment, so the next forward crossing does not count (R55) -/
  owe : Bool
  /-- next carrier-tick boundary to be delivered in this cycle (R56); the tick of the last BEAR_CYCLE increment -/
  nextTick : Nat
  incAt : Option Nat
  /-- θg has wrapped past 0 since the last update -/
  thWrap : Bool
  /-- θg has stepped back over 0, so its next crossing is no new wrap -/
  thOwe : Bool
  /-- the tick of the last update (R57); the step θg takes at the next update, in bearing units (R63) -/
  lastUpd : Nat
  jumpErr : Option Int
  /-- the unclamped f_loop lay beyond a limit at the last update (R58) -/
  fclamp : Bool
  /-- fhat, integ and f_loop (R57, R58) -/
  fhat : F32
  integ : F32
  floop : F32
  /-- d_x and q_x of the two quadrature generators (R57) -/
  dA : F32
  qA : F32
  dB : F32
  qB : F32
  /-- the gains in force: the last valid ones written -/
  kp : F32
  ki : F32
  /-- magnitudes of the last update -/
  magPos : F32
  magNeg : F32
  /-- sums over the cycle of θg now running: updates, those with an error and those with an advance, |err|, f_loop, the two
  magnitudes, BEAR_RATE, the advance of theta_meas since the cycle's first update, and theta_meas of the last update -/
  n : Nat
  nErr : Nat
  nAdv : Nat
  sumErr : Rat
  sumF : Rat
  sumPos : Rat
  sumNeg : Rat
  sumRate : Nat
  adv : Rat
  meas : Option F32
  /-- inputs present, mag_pos at or above VMIN, CLAMP 0, CLAMP 1 at every update of the cycle; no unlock in it -/
  okIn : Bool
  okMag : Bool
  okClamp : Bool
  allClamp : Bool
  /-- no unlock in the cycle of θg now running -/
  fresh : Bool
  /-- runs of cycles that fail phase, frequency and the M-path check (R61), of updates with low magnitude, of updates that
  meet the SEARCH condition -/
  phRun : Nat
  fqRun : Nat
  mpRun : Nat
  magRun : Nat
  srchRun : Nat
  /-- the synchroniser has left SEARCH -/
  acquired : Bool
  /-- sign of the last update's excess over CPS_JUMP_THR, 0 for none (R63) -/
  jumpSign : Int
  /-- runs of cycles in the wrong and in the right phase sequence (R65) -/
  seqWrongRun : Nat
  seqRightRun : Nat
  /-- mean BEAR_RATE of the last complete cycle that qualified (R68) -/
  held : Option Nat
  /-- positive-sequence fundamental of the last cycle of M-path samples (R58, R62): peak in codes, and its angle against the
  bearing in bearing units -/
  mp : Option (Rat × Rat)
  deriving DecidableEq, Repr

/-- 50 Hz in Q12.20 units per tick, and as a binary32. -/
def CpsSt.reset : CpsSt :=
  { bear := 0, thG := 0, thRate := 0x218DEF41, rem := 0, step := 0, wrapPend := false, zeroAgo := none,
    owe := false, nextTick := 1,
    incAt := none, thWrap := false, thOwe := false, lastUpd := 0, jumpErr := none, fclamp := false,
    fhat := 0x42480000#32, integ := 0#32, floop := 0x42480000#32, dA := 0#32, qA := 0#32, dB := 0#32, qB := 0#32, kp :=
    0x41C80000#32, ki := 0x43C80000#32, magPos := 0#32, magNeg := 0#32, n := 0, nErr := 0, nAdv := 0, sumErr := 0, sumF
    := 0, sumPos := 0, sumNeg := 0, sumRate := 0, adv := 0, meas := none, okIn := true, okMag := true, okClamp := true,
    allClamp := true, fresh := false, phRun := 0, fqRun := 0, mpRun := 0, magRun := 0, srchRun := 0, acquired := false,
    jumpSign := 0, seqWrongRun := 0, seqRightRun := 0, held := none, mp := none }

/-- A pending step mark (R107, R108): its trigger tick, the bearing then, and the trigger groups that wait for it. -/
structure StepMark where
  /-- the trigger tick -/
  tick : Nat
  /-- the trigger groups -/
  groups : BitVec 4
  deriving DecidableEq, Repr

/-- One conversion channel (R106 to R117); ADCX channels 0 to 7 are channels 0 to 7, ADCI channels 0 to 9 are 8 to 17. -/
structure AdcCh where
  /-- C-path outputs still to come with UNS (R115) -/
  cSettle : Nat
  /-- the tick at which M-path settling ends (R115) -/
  mSettle : Nat
  /-- settling after a start, not quarantine -/
  starting : Bool
  /-- quarantine entered by a write: its test is held (R117) -/
  held : Bool
  /-- outputs seen in the qualification window, the run of good ones, and whether the C-path part has passed (R116) -/
  qOut : Nat
  qRun : Nat
  qPass : Bool
  /-- the step mark that waits for its sample (R107) -/
  mark : Option StepMark
  /-- the tick at which the next C-path output becomes visible -/
  nextOut : Nat
  /-- the next M-path sample, as the resampler counts its indices (R111) -/
  nextI : Int
  /-- the tick at which TRIGDROP last counted (R108), and the last tick at which the channel was found overloaded (R104) -/
  dropAt : Option Nat
  ovrAt : Option Nat
  /-- the sequence numbers of the last C and M results (R112) -/
  seqC : Nat
  seqM : Nat
  /-- the last C-path result, as taps see it: data, OVR, UNS -/
  lastC : Option (Int × Bool × Bool)
  /-- M-path samples of the cycle now running and of the last complete one, index 0 first; an absent sample is none -/
  mNow : List (Option Int)
  mLast : List (Option Int)
  deriving DecidableEq, Repr

def AdcCh.reset : AdcCh :=
  { cSettle := 0, mSettle := 0, starting := false, held := false, qOut := 0, qRun := 0, qPass := false, mark := none,
    nextOut := 0, nextI := 0, dropAt := none, ovrAt := none, seqC := 0, seqM := 0, lastC := none, mNow := [], mLast := [] }

/-- Conversion state. -/
structure AdcSt where
  ch : List AdcCh
  /-- since when VREF is driven (R102) -/
  refAt : Option Nat
  /-- per SDCK, its period before the last change of its rate, and the tick up to which that one runs on (R99) -/
  ckOld : List (Nat × Nat)
  deriving DecidableEq, Repr

def AdcSt.reset : AdcSt := { ch := List.replicate 18 AdcCh.reset, refAt := none, ckOld := [(20, 0), (20, 0)] }

/-- A point from which the bearing runs on: the tick, the bearing and what a blend has left to close (2^-20 unit), BEAR_RATE, and the
most the slew closes in a tick (R54, R71). -/
structure BearPt where
  /-- the tick -/
  t : Nat
  /-- the bearing, its rate, the offset left and the slew -/
  bear : Nat
  rate : Nat
  rem : Int
  slew : Nat
  deriving DecidableEq, Repr

/-- What the M-path resampler goes by (R111, R330): the bearing, or the meter angle while D3 NAV is off, with its turns counted. Index
i stands at the angle i × 2^44; its number in its cycle is i modulo 256. -/
structure ResampSt where
  /-- where the bearing has run, newest first: a new point wherever its rate, its slew or the bearing itself has changed (R147) -/
  track : List BearPt
  /-- the angle, whole turns counted, in 2^-20 bearing unit -/
  pos : Int
  /-- the last index whose angle has been reached: each is produced once, whatever the angle does afterwards -/
  top : Int
  /-- the last indices reached, oldest first: each with the tick of its instant, and whether a forward jump stepped over it -/
  crossed : List (Int × Nat × Bool)
  deriving DecidableEq, Repr

def ResampSt.reset : ResampSt := { track := [], pos := 0, top := 0, crossed := [] }

/-- Chart state beyond its registers (R77 to R82). -/
structure ChtSt where
  /-- the fired record of the previous BEAR_CYCLE (R77) -/
  prev : BitVec 64
  /-- the BEAR_CYCLE of each waypoint's last occurrence since it was armed (R79 EVERYN) -/
  last : List (Option Word)
  /-- actions of waypoints that have fired, to be issued in the next tick; those issued in tick `issuedAt` (R78). Codes: 0 to 7
  event line, 8 to 23 reel, 24 to 27 ADC group, 28 LOAD, 29 to 32 step input, 33 to 36 IRQ line -/
  due : List Nat
  issued : List Nat
  issuedAt : Nat
  deriving DecidableEq, Repr

def ChtSt.reset : ChtSt := { prev := 0#64, last := List.replicate 64 none, due := [], issued := [], issuedAt := 0 }

/-- What the last good lead frame said (R87); its P shares, in 2^-15 of a rating. -/
structure LeadInfo where
  /-- the fields of the frame, in its order -/
  rank : Nat
  bearing : Word
  rate : Word
  formation : BitVec 8
  shares : List Int
  deriving DecidableEq, Repr

/-- Quadrille state beyond its registers (R85 to R96). -/
structure QdlSt where
  /-- PG_STAT.STATE: 0 OFF, 1 LISTEN, 2 SLEW, 3 HOLD, 4 FORMED, 5 LEAD, 6 CLAIM -/
  state : Nat
  /-- the rank in force: QDL_RANK as it stood when this cycle began -/
  rank : Nat
  /-- LOCKED has read 1 since the page was enabled (R90) -/
  seenLock : Bool
  /-- OFF until QDL_RANK is written (R93 DUPRANK) -/
  dupHold : Bool
  /-- the absolute bearing at which the last good lead frame was heard or LISTEN entered, at which CLAIM was entered (R90), and
  consecutive cycles of valid lead bearing (R91) -/
  silentAt : Int
  claimAt : Int
  validRun : Nat
  /-- BEAR_CYCLE of the last BSYNC edge, and its tick (R89) -/
  edgeCyc : Option Word
  edgeAt : Option Nat
  /-- the lead's compensated bearing at that edge, in 2^-20 bearing unit: the target of R89 -/
  edgeTgt : Nat
  /-- this unit's slot after that edge has been used; BEAR_CYCLE of the last good lead frame -/
  slotDone : Bool
  frameCyc : Option Word
  /-- what the last good lead frame carried (R87) -/
  lead : Option LeadInfo
  /-- the tick of the last bit of the last lead frame, sent or received -/
  frameAt : Nat
  /-- the lead has been judged missing, and no good frame has come since; this unit takes over at its next 0 (R94) -/
  leadGone : Bool
  takeover : Bool
  /-- this unit was asked to echo by the last lead frame, and whether it has (R88) -/
  pinged : Bool
  echoed : Bool
  /-- as the lead: a frame has gone out in this cycle, the rank whose echo is awaited, the ranks in the order of their last ping,
  the oldest first, the delay to return in the next frame, ranks that have sent JOIN and not been pinged for it, and ranks that
  go on sending it and have been (R88) -/
  leadSent : Bool
  echoOf : Option Nat
  pingOrder : List Nat
  dlyOut : Option (Nat × Nat)
  joins : BitVec 8
  joinServed : BitVec 8
  /-- run of lead frames with a bad CRC, run of edges out of alignment (R93), the absolute bearing at which the HOLD window began
  (R92), and that at which the lead bearing ceased to be valid (R93) -/
  crcRun : Nat
  alignRun : Nat
  winFrom : Int
  lostAt : Option Int
  /-- per rank, the BEAR_CYCLE of its last frame (SEEN) -/
  heard : List (Option Word)
  /-- as the lead: each rank's part of the plant setpoint when the formation last changed, and the tick the ramp from there
  began (R96) -/
  allocOld : List Rat
  rampAt : Nat
  /-- the last frame sent on BSHARE, its data and CRC, the tick of its first preamble bit (R86), and the tick of the last echo
  sent (R88) -/
  sent : List Byte
  sentAt : Option Nat
  echoAt : Option Nat
  deriving DecidableEq, Repr

def QdlSt.reset : QdlSt :=
  { state := 0, rank := 0, seenLock := false, dupHold := false, silentAt := 0, claimAt := 0, validRun := 0, edgeCyc := none,
    edgeAt := none, edgeTgt := 0, slotDone := true, frameCyc := none, lead := none, frameAt := 0, leadGone := false, takeover := false,
    pinged := false, echoed := false, leadSent := false, echoOf := none, pingOrder := List.range 8, dlyOut := none,
    joins := 0#8, joinServed := 0#8,
    crcRun := 0, alignRun := 0, winFrom := 0, lostAt := none, heard := List.replicate 8 none,
    allocOld := List.replicate 8 0, rampAt := 0, sent := [], sentAt := none, echoAt := none }

/-- A checkpoint of the control engine (R140): every slot state word (slot by slot, three words each), the limiter and ramp
outputs, and V24 to V63. -/
structure Ckpt where
  /-- slot state words -/
  slots : List Word
  /-- limiter outputs -/
  lims : List (Option F32)
  /-- ramp outputs, each with the tick it was set -/
  ramps : List (Option (F32 × Nat))
  /-- V24 to V63 -/
  v : List F32
  deriving DecidableEq, Repr

/-- One step of the control engine, from its entry until it is resolved, and what SPEC keeps of it (R124, R139, R146 to
R155). Lists over SPEC channels have eight entries, lists over legs seven. -/
structure StepRec where
  /-- its number, and the trigger input it came from (R124) -/
  id : Nat
  input : Nat
  /-- trigger tick and sample angle θs -/
  trig : Nat
  theta : Word
  /-- the checkpoint it was entered with (R140) -/
  ck : Ckpt
  /-- V8 to V19 as taken at its entry; CTL_CFG.ADV and CTL_LATMAX.LIMIT as they stood then (R141) -/
  vin : List F32
  adv : Nat
  limit : Nat
  /-- SPEC_L of the eight channels as they stood at its entry (R168), and the channels substituted then (R163) -/
  ls : List Word
  subst : BitVec 8
  /-- a reckoned step (R146) -/
  reck : Bool
  /-- its number among the reckoned steps (R147) -/
  rseq : Nat
  /-- the reckoning of each channel, as a code; its model term; its second reckoning pK (R147, R161) -/
  pred : List (Option Int)
  delta : List Rat
  predK : List (Option Int)
  /-- ticks from the trigger tick to the fix deadline of each channel, as the step entered (R150, R168) -/
  dead : List Nat
  /-- the volt-second sum of each phase channel with SPEC_L at 1 (R165) -/
  volt : List Rat
  /-- channels qualified for the step, channels the step used, channels with a step mark of the trigger tick -/
  qual : BitVec 8
  used : BitVec 8
  marked : BitVec 8
  /-- fixes seen in time, channels judged (fix seen, missed or absent), and those of them missed or absent -/
  fix : List (Option Int)
  judged : BitVec 8
  missed : BitVec 8
  /-- it waited for at least one fix; it has retracted; its list has ended; it is declared UNFIXED -/
  fixOnly : Bool
  retracted : Bool
  ended : Bool
  unfixed : Bool
  /-- committed, UNFIXED or aborted (R146); aborted under R129 -/
  resolved : Bool
  aborted : Bool
  /-- the tick in which the fix that retracts it was visible (R155) -/
  retractAt : Option Nat
  /-- the tick its LOAD was granted, the compares active before it for each leg it wrote, the first moved edge (R154) -/
  loaded : Option Nat
  legs : List (Option Word)
  horizon : Option Nat
  /-- what it commits: V48 to V63, lowest clamped slot, MODLIM and modulation figure of each modulator (R135, R139) -/
  out : List F32
  sat : Option Nat
  modlim : List Bool
  mfig : List (Option Rat)
  /-- the slot states its last run ended with (R139), and a non-finite result in it (R122) -/
  states : List Word
  fperr : Bool
  /-- a fetched source was absent (R128) -/
  absent : Bool
  deriving DecidableEq, Repr

/-- What the engine is running: a step, a recompute, a replay (R140). -/
inductive RunKind where
  | step
  | recompute
  | replay
  deriving DecidableEq, Repr

/-- The run in progress. -/
structure CtlRun where
  /-- what is run -/
  kind : RunKind
  /-- the step it belongs to -/
  step : Nat
  /-- the entry of the list it has reached -/
  pc : Nat
  /-- the list was started at entry 0 (it ends before entry 32, R125) -/
  low : Bool
  /-- a write of the run was refused: no LOAD in the rest of it (R137) -/
  refused : Bool
  /-- fixes only, no predictions (R155) -/
  fixes : Bool
  /-- a FETCH waits for the fixes of these SPEC channels (R128); empty while none does -/
  waiting : List Nat
  deriving DecidableEq, Repr

/-- A finished set of retuned coefficients of one slot, waiting to be placed (R133). -/
structure TuneSet where
  /-- the slot -/
  slot : Nat
  /-- the set may be placed (R133) -/
  ok : Bool
  /-- its coefficient words, and whether a result on the way to them was not finite (R122) -/
  words : List Word
  fperr : Bool
  deriving DecidableEq, Repr

/-- Control engine state beyond its registers. -/
structure CtlSt where
  /-- V0 to V63 (R121) -/
  v : List F32
  /-- the slot states the engine works on, three words a slot; CTL_SLOT_STATE shows those of committed runs (R139) -/
  slots : List Word
  /-- limiter outputs, by entry argument -/
  lims : List (Option F32)
  /-- ramp outputs, with the tick each was set -/
  ramps : List (Option (F32 × Nat))
  /-- pending trigger inputs, each with its trigger tick and θs (R124) -/
  pend : List (Option (Nat × Word))
  /-- the run in progress -/
  run : Option CtlRun
  /-- steps not resolved yet or kept for their checkpoint, oldest first (at most the last two matter, R140) -/
  steps : List StepRec
  /-- the number the next step takes -/
  nextId : Nat
  /-- runs SPEC has asked for, in the order to run them: the step, the kind (`step` for a kind to be judged when it starts),
  and whether it takes fixes only (R155) -/
  redo : List (Nat × RunKind × Bool)
  /-- steps to be withdrawn at the end of the half-period, oldest first, and whether that end has come (R151) -/
  withdraw : List (Nat × Bool)
  /-- finished coefficient sets that wait to be placed (R133) -/
  tuneDone : List TuneSet
  /-- coefficient sets being computed, and the tick they are finished; a retune asked for meanwhile (R133) -/
  tune : List TuneSet
  tuneAt : Option Nat
  tuneStart : Bool
  /-- other masters' writes that wait for the engine (R141): master, context, address, value -/
  held : List (Nat × Nat × Nat × Word)
  /-- the tick the engine has reached in the run in progress, or was last told to work from (R126) -/
  clock : Nat
  deriving DecidableEq, Repr

def CtlSt.reset : CtlSt :=
  { v := (List.replicate 64 (0#32 : F32)).set 21 0x3F800000#32 |>.set 22 0x3F000000#32,
    slots := List.replicate 96 0#32,
    lims := List.replicate 8 none, ramps := List.replicate 8 none, pend := List.replicate 4 none, run := none, steps := [],
    nextId := 0, redo := [], withdraw := [], tuneDone := [], tune := [], tuneAt := none, tuneStart := false, held := [], clock := 0 }

/-- Qualification of a SPEC channel (R149). -/
inductive SpecQ where
  | learn
  | qual
  | droff
  deriving DecidableEq, Repr

/-- A fix a channel may use as its base (R147): the step it belongs to, its trigger tick, its code. -/
structure SpecBase where
  /-- the step it belongs to -/
  step : Nat
  /-- its trigger tick -/
  trig : Nat
  /-- its code -/
  code : Int
  deriving DecidableEq, Repr

/-- One SPEC channel (R145 to R165). -/
structure SpecCh where
  /-- LEARN, QUAL or DROFF (R149) -/
  q : SpecQ
  /-- runs of fixes within the band and beyond it (R149) -/
  inrun : Nat
  outrun : Nat
  /-- adaptive term c, in codes (R148) -/
  c : F32
  /-- its in-time fixes, newest step first: one of the two steps before is the base (R147) -/
  bases : List SpecBase
  /-- the reckoned step of its last missed or absent fix (R152), and the step whose other fixes decide whether it is substituted -/
  missAt : Option Nat
  ask : Option Nat
  /-- the last step samples of its sensor, newest first: each its trigger tick, the tick it became visible, its code or none for an
  absent one -/
  samples : List (Nat × Nat × Option Int)
  /-- health sums over the cycle (R161): sum Δ², sum r·Δ, fixes judged; runs of suspect and of clean cycles -/
  sumD : Rat
  sumX : Rat
  susRun : Nat
  okRun : Nat
  /-- anchors of the second reckoning: the reconstructions of the last fixes, newest step first (R161) -/
  kBases : List SpecBase
  /-- classification sums (R162): fixes with a reconstruction and those of them with a pK too, |q - pK|, |s - q|, |s|, |pK| -/
  nQ : Nat
  nK : Nat
  sQK : Nat
  sSQ : Nat
  sS : Nat
  sK : Nat
  /-- calibration (R165): the last fix with its step's number, sums of x² and xy, pairs used -/
  calPrev : Option (Nat × Int)
  calXX : Rat
  calXY : Rat
  calN : Nat
  deriving DecidableEq, Repr

def SpecCh.reset : SpecCh :=
  { q := .learn, inrun := 0, outrun := 0, c := 0#32, bases := [], missAt := none, ask := none, samples := [], sumD := 0, sumX := 0, susRun := 0,
    okRun := 0, kBases := [], nQ := 0, nK := 0, sQK := 0, sSQ := 0, sS := 0, sK := 0, calPrev := none, calXX := 0, calXY := 0, calN := 0 }

/-- One segment of applied duties (R147, R211): one TB0 half-period, from fine instant `t0`, `len` long (1/32 tick), the duty of legs
A, B, C and N over it, and the legs whose report carries the unqualified mark (R229). -/
structure Seg where
  /-- its start and its length, fine -/
  t0 : Nat
  len : Nat
  /-- the duties of legs A, B, C and N -/
  duty : List Rat
  /-- the legs reported with the unqualified mark -/
  unq : List Bool
  deriving DecidableEq, Repr

/-- SPEC state beyond its registers. -/
structure SpecSt where
  /-- SPEC channels 0 to 7 -/
  ch : List SpecCh
  /-- reckoned steps entered so far; a calibration runs (R165) -/
  seq : Nat
  cal : Bool
  /-- the trigger tick of the last reckoned step (R165) -/
  lastTrig : Nat
  /-- BEAR_CYCLE increments until a jump void ends, and the jump tick (R158) -/
  voidLeft : Nat
  voidAt : Nat
  /-- a controlled trip waits for the next TB0 ZERO (R164) -/
  tripPend : Bool
  /-- applied-duty segments, newest first -/
  segs : List Seg
  /-- the time legs 0 to 6 were high in the last half-period PWM reported of each, in 1/32 tick (R211) -/
  highs : List Nat
  /-- verdicts of the fixes of this tick that take effect in the next: the step, and whether it is UNFIXED (else it retracts)
  (R151, R153) -/
  verdicts : List (Nat × Bool)
  deriving DecidableEq, Repr

def SpecSt.reset : SpecSt :=
  { ch := List.replicate 8 SpecCh.reset, seq := 0, cal := false, lastTrig := 0, voidLeft := 0, voidAt := 0,
    tripPend := false, segs := [], highs := List.replicate 7 0, verdicts := [] }

/-- A complex number in the frame of the bearing, d + j·q (R169). -/
structure Cx where
  /-- its components -/
  d : Rat
  q : Rat
  deriving DecidableEq, Repr

/-- One string tracker (R187, R188). Voltages and currents are fractions of full scale. -/
structure Tracker where
  /-- its reference voltage (R188) -/
  vref : Rat
  /-- VOC of the last sweep (R189) -/
  voc : Rat
  /-- V and I of the period before -/
  prev : Option (Rat × Rat)
  /-- the direction of the last step -/
  dir : Int
  /-- step in units of 2^-14 of the VPV full scale -/
  step : Rat
  /-- it curtails (R188) -/
  curtail : Bool
  /-- it runs, and a cycle has begun since it started -/
  run : Bool
  /-- sums of V and I over the period so far, samples, cycles -/
  sumV : Rat
  sumI : Rat
  n : Nat
  cyc : Nat
  /-- the means of V and I over a period that has ended and has not been judged -/
  due : Option (Rat × Rat)
  deriving DecidableEq, Repr

def Tracker.reset : Tracker :=
  { vref := 0, voc := 0, prev := none, dir := 0, step := 2, curtail := false, run := false, sumV := 0, sumI := 0, n := 0, cyc := 0,
    due := none }

/-- A global sweep (R189): strings still to sweep (the first is being swept), the point in progress (none while VOC is
taken), the sums of the cycle and the best point so far. -/
structure Sweep where
  /-- strings still to sweep -/
  strings : List Nat
  /-- the point in progress -/
  point : Option Nat
  /-- its first cycle has begun -/
  begun : Bool
  /-- sums of V and of V times I over the point, and samples -/
  sumV : Rat
  sumP : Rat
  n : Nat
  /-- the best point so far: its voltage and power -/
  best : Option (Rat × Rat)
  deriving DecidableEq, Repr

/-- What MODE has been asked for and acts on at its next update: a request for MODE_REQ.REQ, AUTO's islanding policy, AUTO's return
of a genset (R172, R177, R182). -/
inductive ModeAsk where
  | request (req : Nat)
  | island
  | genReturn
  deriving DecidableEq, Repr

/-- MODE state beyond its registers (R169 to R193). -/
structure ModeSt where
  /-- the visible reference channels V8 to V15 (R171), and the set of an update not yet ended (R170) -/
  refs : List F32
  next : Option (List F32)
  /-- the tick that update ends in -/
  nextAt : Nat
  /-- the last fixed value of each source 8 to 25, as a fraction of full scale (R170) -/
  inp : List Rat
  /-- P_f and Q_f (R170) -/
  pF : Rat
  qF : Rat
  /-- the emf of R175 and its magnitude's target path -/
  e : Cx
  emag : Rat
  kH : Rat
  mfig : Option Rat
  /-- Vdc*_eff as a fraction of the AIN0 full scale, and how far HEADROOM has raised it above VDCSET (R185) -/
  vdcEff : Rat
  vdcRise : Rat
  /-- a blend: the outgoing mode and the bearing ticks since the switch (R180) -/
  blend : Option (Nat × Nat)
  /-- what is asked for at the next update; in a blend, at the update that ends it (R182) -/
  ask : Option ModeAsk
  /-- the last request judged after a blend was refused -/
  askRefused : Bool
  /-- ACTIVE takes the requested mode at the next update without a handover (R172) -/
  start : Bool
  /-- the absolute bearing of an unlock that leaves GFL valid for 10 cycles; GFL is invalid (R174) -/
  hold : Option Int
  gflBad : Bool
  /-- consecutive plant-bus updates with no breaker closed (R177) -/
  genLoss : Nat
  /-- the genset guards REVPWR and ML (R191) -/
  revpwr : Option Rat
  ml : Option Rat
  /-- string trackers 0 and 1 (R187) -/
  trackers : List Tracker
  /-- the global sweep that runs (R189) -/
  sweep : Option Sweep
  deriving DecidableEq, Repr

def ModeSt.reset : ModeSt :=
  { refs := List.replicate 8 0#32, next := none, nextAt := 0, inp := List.replicate 18 0, pF := 0, qF := 0, e := { d := 0, q := 0 },
    emag := 0, kH := 1, mfig := none, vdcEff := 3 / 4, vdcRise := 0, blend := none, ask := none, askRefused := false, start := false, hold := none,
    gflBad := false, genLoss := 0, revpwr := none, ml := none, trackers := List.replicate 2 Tracker.reset, sweep := none }

/-- One leg of PWM (R195 to R211). Times with a fraction are counted in 1/32 SYSCLK tick ("fine" time). -/
structure PwmLeg where
  /-- the leg command -/
  cmd : Bool
  /-- the fine instant of its last edge -/
  edgeAt : Nat
  /-- the fine instant until which a late edge bars the next edge (R207) -/
  bar : Nat
  /-- this half-period's edge has happened, or the command holds for the rest of it (R206) -/
  edgeDone : Bool
  /-- the counter has passed the active compare in this half-period (R212) -/
  matchDone : Bool
  /-- a moved late edge waits until this fine instant, and a further one follows it (R207) -/
  late : Option Nat
  lateNext : Bool
  /-- a refresh runs until this fine instant (R208), and a load waits for its end (R209) -/
  refresh : Option Nat
  waitLoad : Bool
  /-- refresh count, and whether the command has been 1 since the last ZERO point (R208) -/
  highs : Nat
  allHigh : Bool
  /-- precharge pulses still to come (R210), and whether commands follow the compare -/
  pulses : Nat
  live : Bool
  /-- fine time the command has been 1 in this half-period, up to the instant `since` (R211) -/
  high : Nat
  since : Nat
  /-- an edge due at a ZERO or PERIOD point within MIN_PULSE of a late edge, moved to this fine instant (R207) -/
  point : Option Nat
  /-- the step whose LOAD changed its compare, while the first edge governed by that compare has not fired (R154, R211) -/
  movedBy : Option Nat
  deriving DecidableEq, Repr

def PwmLeg.reset : PwmLeg :=
  { cmd := false, edgeAt := 0, bar := 0, edgeDone := true, matchDone := true, late := none, lateNext := false, refresh := none,
    waitLoad := false, highs := 0, allHigh := false, pulses := 0, live := false, high := 0, since := 0, point := none,
    movedBy := none }

/-- One timebase: the fine instant of its ZERO point, the half-period in 1/32 counter tick, CKDIV. -/
structure Timebase where
  /-- it counts -/
  run : Bool
  /-- the fine instant of its ZERO point -/
  zero : Int
  /-- its half-period in 1/32 counter tick, and CKDIV -/
  hp : Nat
  ck : Nat
  /-- the PERIOD point of this period has been passed -/
  down : Bool
  /-- prescale counts of its ZERO and PERIOD events (R212) -/
  nZero : Nat
  nPeriod : Nat
  /-- precharge runs on its legs (R210) -/
  prech : Bool
  deriving DecidableEq, Repr

/-- PWM state beyond its registers. -/
structure PwmSt where
  /-- legs 0 to 6 -/
  legs : List PwmLeg
  /-- timebases TB0 and TB1 -/
  tb0 : Timebase
  tb1 : Timebase
  /-- CAR_N and the halving in force (R199), and whether the last boundary was the middle of a halved period -/
  carN : Nat
  half : Bool
  /-- SLIP of the period (R198) -/
  slip : Int
  /-- the fine instants at the start of the TB0 and of the TB1 half-period in progress (R211) -/
  halfAt : Nat
  half1At : Nat
  /-- prescale counts of CMP0 and CMP1 -/
  nCmp0 : Nat
  nCmp1 : Nat
  deriving DecidableEq, Repr

def PwmSt.reset : PwmSt :=
  { legs := List.replicate 7 PwmLeg.reset,
    tb0 := { run := false, zero := 0, hp := 400000, ck := 1, down := false, nZero := 0, nPeriod := 0, prech := false },
    tb1 := { run := false, zero := 0, hp := 64000, ck := 1, down := false, nZero := 0, nPeriod := 0, prech := false },
    carN := 320, half := false, slip := 0, halfAt := 0, half1At := 0, nCmp0 := 0, nCmp1 := 0 }

/-- One switch of a leg: whether its gate is on, and the fine instants it last turned on and off. -/
structure Switch where
  /-- its gate is on -/
  on : Bool
  /-- the fine instants it last turned on and off -/
  onAt : Nat
  offAt : Option Nat
  deriving DecidableEq, Repr

/-- The stage of a leg's qualification test (R228). -/
inductive LegStage where
  | none
  | precharge
  | blend
  deriving DecidableEq, Repr

/-- One leg of Gate Drive (R214 to R229). -/
structure GdLeg where
  /-- its high-side and low-side switch -/
  hi : Switch
  lo : Switch
  /-- a dead time in progress: the side that turns on at its end (true for the high side), and when -/
  dt : Option (Bool × Nat)
  /-- the switch whose turn-off began that dead time (true for the high side); none where none turned off (R220) -/
  dtBy : Option Bool
  /-- turn-offs delayed by GMIN: of the high side, of the low side (R216) -/
  gminHi : Option Nat
  gminLo : Option Nat
  /-- the end of a precharge or re-admission pulse (R210) -/
  pulse : Option Nat
  /-- the tick at which a leg trip turns the low side off (R223) -/
  tripLow : Option Nat
  /-- quarantine: its test, the cycles since entry, and the bearing ticks since the blend began -/
  quar : Bool
  stage : LegStage
  cycles : Nat
  ticks : Nat
  /-- the test has failed and waits for a RELEASE (R228) -/
  failed : Bool
  /-- the effective compare of a blend, 16.5 counter ticks (R228) -/
  ce : Option Nat
  deriving DecidableEq, Repr

def GdLeg.reset : GdLeg :=
  { hi := { on := false, onAt := 0, offAt := none }, lo := { on := false, onAt := 0, offAt := none }, dt := none, dtBy := none,
    gminHi := none, gminLo := none, pulse := none, tripLow := none, quar := false, stage := .none, cycles := 0, ticks := 0,
    failed := false, ce := none }

/-- Gate Drive state beyond its registers. -/
structure GdSt where
  /-- legs 0 to 6 -/
  legs : List GdLeg
  /-- the bridge is ARMED; the precharge of an ARM runs (R210, R414) -/
  armed : Bool
  arming : Bool
  /-- the tick at which a shutdown turns the low sides off (R224) -/
  sdLow : Option Nat
  /-- per FLT input, the tick its hold timer expires and the policy to apply then (R222) -/
  hold : List (Option (Nat × Nat))
  /-- the tick of the attribution GD_ATTRIB shows -/
  attribAt : Nat
  /-- the ESTOP latch (D0 AON), the pin, and a record still to be made when D5 can observe it (R226) -/
  estop : Bool
  estopPin : Bool
  estopSeen : Bool
  /-- levels of the ELC inputs as taken, before INV (R217) -/
  elc : BitVec 3
  deriving DecidableEq, Repr

def GdSt.reset : GdSt :=
  { legs := List.replicate 7 GdLeg.reset, armed := false, arming := false, sdLow := none, hold := List.replicate 6 none,
    attribAt := 0,
    estop := false, estopPin := false, estopSeen := true, elc := 0#3 }

/-- One persistence timer (R259): running since an excursion, its count, whether its stage has tripped and not yet recovered,
and whether the last judgement found the count at its limit. -/
structure StageTimer where
  /-- it runs, and its count -/
  on : Bool
  count : Nat
  /-- its stage has tripped and not recovered -/
  tripped : Bool
  /-- the last judgement found the count at its limit -/
  due : Bool
  deriving DecidableEq, Repr

/-- The active anti-islanding method (R269). Angles in 0.1°, frequencies in Hz. -/
structure AiSt where
  /-- it works, the sign of its push, and its phase angle -/
  on : Bool
  plus : Bool
  phi : Rat
  /-- observations in a row whose score met DFTH -/
  run : Nat
  /-- the mean frequency of the observation before -/
  prev : Option Rat
  /-- sum and count of the frequencies of this observation -/
  sum : Rat
  n : Nat
  deriving DecidableEq, Repr

/-- PROT state beyond its registers (R255 to R278). -/
structure ProtSt where
  /-- samples of s_A, s_B, s_C at the last H boundaries, newest first; an absent one is none -/
  win : List (List (Option Rat))
  /-- the square of U_x at the last boundary, in pu; none while absent -/
  u2 : List (Option Rat)
  /-- boundaries in a row each phase has been absent at while ARMED (R257) -/
  absent : List Nat
  /-- f was present at the last boundary -/
  fHad : Bool
  /-- OV0 to OV3, UV0 to UV3, OF0, OF1, UF0, UF1 -/
  stages : List StageTimer
  /-- frequency sum over the cycle, its count, the means of past cycles with the tick each ended, newest first; consecutive
  LOCKED cycles; the run of excursion cycles (R261) -/
  sumF : Rat
  nF : Nat
  fm : List (Rat × Nat)
  lockCyc : Nat
  rocofRun : Nat
  /-- the Compass has locked within the cycle that runs -/
  lockPart : Bool
  /-- sign of the last update's excess over the vector-shift threshold (R262) -/
  vsSign : Int
  /-- active anti-islanding (R269) -/
  ai : AiSt
  /-- ride-through: time since the start and time within the exit band, in carrier ticks -/
  frtT : Nat
  post : Nat
  /-- carrier ticks since momentary cessation ended, while the demands rise (R274) -/
  mcRise : Option Nat
  /-- demands to MODE: reactive current and active-power limit (R273) -/
  iqDem : Rat
  pFrt : Rat
  /-- boundaries in a row that meet RECON_WIN (R275), and at which the bus was dead (R277) -/
  recon : Nat
  dead : Nat
  /-- the tick the RECON ramp started at (R276); RCLIM is 1 once it has ended -/
  rampAt : Option Nat
  rampOn : Bool
  /-- carrier ticks left for which UV stages and the LV curve wait after a dead-bus ARM (R277) -/
  uvWait : Option Nat
  /-- causes standing since before this boundary: VSENSE, SEQ, CMP, ROUTE, LVRT, HVRT (each acts once) -/
  stood : BitVec 6
  /-- the tick of the last trip, whether TRIPPED was 0 before that tick, and the cause and stage mask of its record (R264) -/
  tripAt : Option Nat
  tripFirst : Bool
  tripCause : Nat
  tripMask : Nat
  /-- the next tick of the fallback clock (R260) -/
  fbAt : Nat
  /-- sums of the synchronisation check (R278): X_inv and X_grid (real, imaginary), whether a sample was absent, the boundary
  count, the last angle difference in bearing units, consecutive cycles that pass; and of the last cycle ρ squared,
  |X_grid| squared, and whether channel 7 had every sample -/
  invR : Rat
  invI : Rat
  gridR : Rat
  gridI : Rat
  chanAbsent : Bool
  j : Nat
  dphi : Option Rat
  syncRun : Nat
  rho2 : Option Rat
  grid2 : Rat
  chanOk : Bool
  deriving DecidableEq, Repr

def ProtSt.reset : ProtSt :=
  { win := List.replicate 3 [], u2 := List.replicate 3 none, absent := List.replicate 3 0, fHad := false,
    stages := List.replicate 12 { on := false, count := 0, tripped := false, due := false }, sumF := 0, nF := 0, fm := [], lockCyc := 0,
    rocofRun := 0, lockPart := false, vsSign := 0, ai := { on := false, plus := true, phi := 0, run := 0, prev := none, sum := 0, n := 0 },
    frtT := 0, post := 0, mcRise := none, iqDem := 0, pFrt := 1, recon := 0, dead := 0, rampAt := none, rampOn := false,
    uvWait := none, stood := 0#6, tripAt := none, tripFirst := false, tripCause := 0, tripMask := 0, fbAt := 0, invR := 0, invI := 0, gridR := 0, gridI := 0, chanAbsent := false, j := 0,
    dphi := none, syncRun := 0, rho2 := none, grid2 := 0, chanOk := false }

/-- SAFE state beyond its registers: the D0 AON part and the SAFE logic (R282 to R292, R555). -/
structure SafeSt where
  /-- last sampled codes of SEAL_A and SEAL_B; none for an invalid ratio -/
  sealA : Option Nat
  sealB : Option Nat
  /-- the latched code, the SEAL_FAULT latch, CHANGED -/
  code : Nat
  fault : Bool
  changed : Bool
  /-- the LPO tick of the next sample (R284) -/
  nextSample : Nat
  /-- a finding whose event waits for the SAFE page (R555) -/
  eventWaits : Bool
  /-- the stored key, and whether it is the factory key (R287) -/
  key : BitVec 64
  defKey : Bool
  /-- the tick the unlock window ends at -/
  window : Option Nat
  /-- FAIL, and the mismatches counted in all (R287) -/
  fail : Nat
  mismatches : Nat
  /-- the LPO tick lockout ends at -/
  lockout : Option Nat
  /-- next sequence number, entries not archived, sectors being erased, NVM failure (R290, R291) -/
  seq : Nat
  used : Nat
  erasing : List Nat
  nvmErr : Bool
  /-- old and new seal code of an entry that waits for room (R286) -/
  sealPend : Option (Nat × Nat)
  deriving DecidableEq, Repr

/-- The seals of the part at reset: code 0, a valid pair; the factory key is in force. -/
def SafeSt.reset : SafeSt :=
  { sealA := some 0, sealB := some 15, code := 0, fault := false, changed := false, nextSample := 32768, eventWaits := false,
    key := Config.serial, defKey := true, window := none, fail := 0, mismatches := 0, lockout := none,
    seq := 0, used := 0, erasing := [], nvmErr := false, sealPend := none }

/-- What RLY runs (R295 to R299). -/
inductive RlyJob where
  | idle
  | close
  | weld
  | proof
  deriving DecidableEq, Repr

/-- Where a job stands. -/
inductive RlyPos where
  /-- a proof step runs: its number, the relays it is on, the tick it ends (R295) -/
  | step (k : Nat) (relays : List Nat) (ends : Nat)
  /-- the weld test measures stage W0, W1 or W2: counted cycles, runs of dead and of live findings, whether the cycle in
  progress counts (R299) -/
  | measure (stage : Nat) (counted : Nat) (dead : Nat) (live : Nat) (fresh : Bool)
  /-- both relays, or the tested one, open: L must be established (R298) -/
  | opening
  /-- waiting for the close permit: cycles left (R297) -/
  | permit (left : Nat)
  /-- the weld test of a close sequence has not started for want of its conditions: cycles left (R297, R299) -/
  | weldWait (left : Nat)
  | rest
  deriving DecidableEq, Repr

/-- RLY state beyond its registers. Relay 0 is K1, relay 1 is K2. -/
structure RlySt where
  /-- what runs, and where it stands -/
  job : RlyJob
  pos : RlyPos
  /-- within a close sequence or proof, what follows the step or test in progress: 1 step 0 done, 2 the weld test, 3 Kf,
  4 Kl steps 1 and 2, 5 permit, 6 Kl step 3 -/
  stage : Nat
  /-- the weld stage whose relay is being proved or opened; none outside a weld test -/
  weldStage : Option Nat
  /-- (HS, LS) of each relay -/
  drive : List (Bool × Bool)
  /-- last sampled level of each feedback pin, the run of equal samples, and the established level -/
  samp : List (Nat × Nat)
  est : List (Option Nat)
  /-- the next tick the feedback pins are sampled in -/
  nextFb : Nat
  /-- the tick by which each relay must establish L (R298) -/
  drop : List (Option Nat)
  /-- the tick step 3 began at, for the pickup time; once PERMTMO is over, the tick it ended in -/
  pickFrom : Nat
  /-- relays still to prove (R295) -/
  mask : List Nat
  /-- both relays are closed and monitored -/
  closed : Bool
  /-- the relay that closed last at the previous close -/
  kl : Nat
  /-- consecutive cycle ends with ρ at most 0.10 (R297) -/
  lowRho : Nat
  /-- cycles that the weld test of a close sequence may still wait for its conditions (R297, spec/13 At the edges) -/
  waitLeft : Nat
  deriving DecidableEq, Repr

def RlySt.reset : RlySt :=
  { job := .idle, pos := .rest, stage := 0, weldStage := none, drive := [(false, false), (false, false)],
    samp := [(0, 0), (0, 0)], est := [none, none], nextFb := 0, drop := [none, none], pickFrom := 0, mask := [], closed := false,
    kl := 0, lowRho := 0, waitLeft := 0 }

/-- One DMA channel beyond its registers (R355 to R378). -/
structure DmaCh where
  /-- the instruction latched while it is held at a WAIT or interrupted in a MOVE (R372) -/
  cur : Option (BitVec 64)
  /-- the instruction at PC is a MOVE interrupted with REMAIN bytes to go (R365) -/
  midMove : Bool
  /-- first tick of the WAIT, the tick its event pulsed, the absolute bearing it waits for, timeout units counted (R366, R368) -/
  waitFrom : Option Nat
  seenAt : Option Nat
  target : Option Int
  units : Nat
  /-- the tick in which the units counted reached COUNT (R368); an action at the line a WAIT holds for has come after its
  condition (R367) -/
  limAt : Option Nat
  again : Bool
  /-- a stop is under way (R359) -/
  stopping : Bool
  /-- a start held until the muster window ends: 1 GO, 2 CONT (R358) -/
  heldGo : Nat
  /-- the tick of the last start: the starts of one tick count as one (R358) -/
  goAt : Option Nat
  /-- the prefetched slot has been written: it is fetched again at the next boundary (R371) -/
  stale : Bool
  /-- address of the beat withheld in PAUSE, and the banks an interrupted MOVE reads and writes, whether one of them lost its contents meanwhile (R374) -/
  withheld : Option Nat
  banks : BitVec 8
  lost : Bool
  /-- the quarantine test: its entry tick and its passes (R378) -/
  qAt : Nat
  passes : Nat
  deriving DecidableEq, Repr

def DmaCh.reset : DmaCh :=
  { cur := none, midMove := false, waitFrom := none, seenAt := none, target := none, units := 0, limAt := none, again := false,
    stopping := false, heldGo := 0, goAt := none, stale := false, withheld := none, banks := 0#8, lost := false, qAt := 0, passes := 0 }

/-- DMA state beyond its registers. -/
structure DmaSt where
  /-- channels 0 to 15 -/
  ch : List DmaCh
  deriving DecidableEq, Repr

def DmaSt.reset : DmaSt := { ch := List.replicate 16 DmaCh.reset }

/-- What a metering cycle gives one index: 0 to 2 the phases, 3 the neutral and the totals (R318). Mean squares, powers, and
for a phase its rms phasors. -/
structure MetVals where
  /-- mean squares of voltage and current -/
  v2 : Rat
  i2 : Rat
  /-- P and P1 -/
  p : Rat
  p1 : Rat
  /-- Q and Q1 -/
  q : Rat
  q1 : Rat
  /-- S and S1 -/
  s : Rat
  s1 : Rat
  deriving DecidableEq, Repr

def MetVals.zero : MetVals := { v2 := 0, i2 := 0, p := 0, p1 := 0, q := 0, q1 := 0, s := 0, s1 := 0 }

/-- What the Sextant keeps of a phase from cycle to cycle (R319): its phasors, the last P, Q1 and S from a cycle with 128 or
more pairs, and the cycles they have been held for. -/
structure MetPhase where
  /-- its fundamental phasors -/
  v1 : Cx
  i1 : Cx
  /-- its last P, Q1 and S -/
  p : Rat
  q1 : Rat
  s : Rat
  /-- the cycles they have been held for -/
  run : Nat
  deriving DecidableEq, Repr

def MetPhase.zero : MetPhase := { v1 := { d := 0, q := 0 }, i1 := { d := 0, q := 0 }, p := 0, q1 := 0, s := 0, run := 0 }

/-- The metering part of the Sextant (R316 to R331). -/
structure MetSt where
  /-- the tick the cycle now running opened -/
  openAt : Nat
  /-- cycles ended and not closed yet, oldest first: the tick each ended, its length in ticks, whether it ran on the meter angle -/
  ended : List (Nat × Nat × Bool)
  /-- per channel the Sextant takes (IA to IN, VA to VC, VN), its complete cycles not closed yet, oldest first: the tick the
  last sample became visible, and the samples -/
  got : List (List (Nat × List (Option Int)))
  /-- what is kept of each phase -/
  phases : List MetPhase
  /-- accumulators in 0.001 Wh, index by index, export, import, positive, negative reactive; and their residues (R321) -/
  acc : List Nat
  res : List Rat
  /-- the tick of the last ECLR -/
  clearAt : Option Nat
  /-- a master has written bank B4 since the accumulators were last written there -/
  touched : Bool
  /-- the interval in progress (R322): its length, cycles closed, ticks, sums of each value times T_k, phases with absent
  samples, an unlocked close, the sum and count of |V-|/|V+| -/
  len : Nat
  n : Nat
  ticks : Nat
  sums : List MetVals
  gap : BitVec 4
  noLock : Bool
  unb : Rat
  unbN : Nat
  /-- suspect cycles in a row, clean cycles in a row (R329) -/
  suspect : Nat
  clean : Nat
  /-- the meter angle in 2^-20 bearing unit and its rate; it has completed a turn (R330) -/
  ang : Nat
  rate : Nat
  turned : Bool
  /-- arguments of VA's fundamental in the last two closes, in bearing units; none while held -/
  arg : Option Rat
  argPrev : Option Rat
  deriving DecidableEq, Repr

def MetSt.reset : MetSt :=
  { openAt := 0, ended := [], got := List.replicate 8 [], phases := List.replicate 3 MetPhase.zero, acc := List.replicate 16 0,
    res := List.replicate 16 0, clearAt := none, touched := false, len := 0, n := 0, ticks := 0, sums := List.replicate 4 MetVals.zero,
    gap := 0#4, noLock := false, unb := 0, unbN := 0, suspect := 0, clean := 0, ang := 0, rate := 0x218DEF41, turned := false,
    arg := none, argPrev := none }

/-- One channel's harmonics as computed last (R323 to R326): magnitude words and phases of orders 1 to 63, HMAX, THD and TDD
words. -/
structure HrmCh where
  /-- magnitude words of orders 1 to 63 -/
  mag : List Word
  /-- their phases -/
  ph : List Nat
  /-- HMAX -/
  hmax : Nat
  /-- THD and TDD words -/
  thd : Word
  tdd : Word
  /-- the last window was skipped for it -/
  skipped : Bool
  deriving DecidableEq, Repr

def HrmCh.reset : HrmCh :=
  { mag := List.replicate 63 0#32, ph := List.replicate 63 0, hmax := 0, thd := 0#32, tdd := 0#32, skipped := false }

/-- The harmonic part of the Sextant (R323 to R327). -/
structure HrmSt where
  /-- the window in progress: its length, cycles closed, their samples per channel, the shortest cycle, an unlocked close, a
  cycle on the meter angle, and the shown channel -/
  w : Nat
  n : Nat
  win : List (List (Option Int))
  tMin : Nat
  noLock : Bool
  free : Bool
  shown : Nat
  /-- the channels, as computed last -/
  ch : List HrmCh
  /-- results to be placed: the tick the window's last cycle closed, the channels' results, NOLOCK, W, GROUP, BEAR_CYCLE at that
  close -/
  ready : Option (Nat × List HrmCh × Bool × Nat × Nat × Word)
  /-- W, GROUP and that BEAR_CYCLE of the window placed last -/
  placed : Nat × Nat × Word
  deriving DecidableEq, Repr

def HrmSt.reset : HrmSt :=
  { w := 0, n := 0, win := List.replicate 8 [], tMin := 0, noLock := false, free := false, shown := 0,
    ch := List.replicate 8 HrmCh.reset, ready := none, placed := (0, 0, 0#32) }

/-- One hot-swap channel beyond its registers (R303 to R312). Times are ticks. -/
structure HswCh where
  /-- the tick of the last sample, and HSW_ILIM, HSW_TGATE and HSW_I2T as it found them -/
  sampleAt : Nat
  ilim : Word
  tgate : Word
  i2t : Word
  /-- samples taken in PRECHECK; consecutive high samples in OFF (R306) -/
  pre : Nat
  high : Nat
  /-- the gate timer: ticks counted, since when it runs on, whether the gate has passed 4.5 V (R307) -/
  gateAcc : Nat
  gateFrom : Option Nat
  passed : Bool
  /-- since when the gate has been below 4.5 V with the channel ON and LIMIT = 0 -/
  lowFrom : Option Nat
  /-- the tick LIMIT went to 1 (R308) -/
  limFrom : Option Nat
  /-- the fusing accumulator (R309) -/
  acc : Rat
  /-- since when the conditions of PG hold, since when PG does (R310) -/
  goodFrom : Option Nat
  pgFrom : Option Nat
  /-- the end of RETRYWAIT (R311) -/
  retryAt : Option Nat
  /-- the start of the qualification window (R312) -/
  winFrom : Nat
  deriving DecidableEq, Repr

def HswCh.reset : HswCh :=
  { sampleAt := 0, ilim := 0x2800#32, tgate := 0x000A00C8#32, i2t := 0x00800190#32, pre := 0, high := 0, gateAcc := 0,
    gateFrom := none, passed := false, lowFrom := none, limFrom := none, acc := 0, goodFrom := none, pgFrom := none,
    retryAt := none, winFrom := 0 }

/-- HSW state. -/
structure HswSt where
  /-- channels 0 and 1 -/
  ch : List HswCh
  deriving DecidableEq, Repr

def HswSt.reset : HswSt := { ch := List.replicate 2 HswCh.reset }

/-- What a command in WAITING waits for (R405). -/
inductive CmdWait where
  /-- the NVM operation it has asked for -/
  | nvm
  /-- UART transactions (LEDGER_POLL, SHED, RESTORE) -/
  | uart
  /-- BEAR_CYCLE increments (WAVE_CAPTURE, DR_CALIBRATE, the averages of ISO_TEST): the command's count of them as the wait began -/
  | cycles (base : Nat)
  /-- a sweep of the strings (MPPT_SWEEP) -/
  | sweep
  /-- the router event that WAVE_CAPTURE starts after (R411) -/
  | event
  /-- the SETTLE time of ISO_TEST, to a tick (R412) -/
  | settle (till : Nat)
  /-- a harmonic window (HARM_SURVEY) -/
  | window
  /-- relay steps (RELAY_PROOF) -/
  | relay
  /-- the bridge (ARM, DISARM) -/
  | bridge
  /-- a handover (MODE_SET) -/
  | mode
  /-- the completions of other commands (ABORT): their serial numbers -/
  | abort (targets : List Nat)
  /-- the ring scan (LOG_READ) -/
  | scan
  deriving DecidableEq, Repr

/-- Where a command stands (R405). A command that has been started and waits for its next slice is `ready`. -/
inductive CmdState where
  | queued
  | ready
  | waiting (w : CmdWait)
  deriving DecidableEq, Repr

/-- A command in flight (R403 to R405). Context 256 stands for the device queue. -/
structure Cmd where
  /-- its serial number in the engine -/
  uid : Nat
  /-- its context -/
  ctx : Nat
  /-- its class -/
  cls : Nat
  /-- its opcode and tag -/
  op : Nat
  tag : Nat
  /-- FENCE and NOEVT of its entry -/
  fence : Bool
  noevt : Bool
  /-- a reserved bit of its entry is set (R403) -/
  bad : Bool
  /-- its deadline: value and unit (R408) -/
  dlVal : Nat
  dlUnit : Nat
  /-- ARG0 to ARG5 -/
  args : List Word
  /-- tick of its fetch, BEAR_CYCLE increments counted since (R408) -/
  fetchedAt : Nat
  cycles : Nat
  /-- the tick in which its deadline in cycles was reached (R408) -/
  dueAt : Option Nat
  /-- where it stands -/
  st : CmdState
  /-- items done; what it has found so far -/
  items : Nat
  /-- RES0 and RES1 so far -/
  r0 : Word
  r1 : Word
  /-- NVM operations it has still to ask for -/
  ops : List NvmOp
  /-- figures it keeps between slices, as its meaning says -/
  notes : List Rat
  /-- the status it is to complete with at its next item boundary (R408, R409) -/
  stop : Option Nat
  deriving DecidableEq, Repr

/-- A finished command whose completion entry is not written yet (R402). -/
structure Done where
  /-- its context, tag and opcode -/
  ctx : Nat
  tag : Nat
  op : Nat
  /-- NOEVT of its entry -/
  noevt : Bool
  /-- its status, and whether its context was in quarantine as it finished (R403) -/
  status : Nat
  quar : Bool
  /-- RES0 and RES1 -/
  r0 : Word
  r1 : Word
  deriving DecidableEq, Repr

/-- A command the device has entered and that waits for a place (R415): its class, opcode, arguments and NVM operations. -/
structure DevCmd where
  /-- its class -/
  cls : Nat
  /-- its opcode -/
  op : Nat
  /-- its arguments -/
  args : List Word
  /-- the NVM operations it makes -/
  ops : List NvmOp
  deriving DecidableEq, Repr

/-- The command engine and the contexts beyond their registers (R399 to R421). -/
structure CtxSt where
  /-- commands in flight and not finished, in order of fetch -/
  flight : List Cmd
  /-- completions pending, in finish order -/
  fin : List Done
  /-- device commands that wait for a place (R415) -/
  dev : List DevCmd
  /-- the serial number the next command takes -/
  nextUid : Nat
  /-- the context last served in each class, and last fetched from; none before the first -/
  served : List (Option Nat)
  lastFetch : Option Nat
  /-- BGDEBT (R406) -/
  bgDebt : Nat
  /-- contexts in quarantine, with the tick of entry of the present test (R419) -/
  quar : List (Nat × Nat)
  /-- entries fetched per context within the muster window (R416) -/
  fetched : List (Nat × Nat)
  /-- outcomes a block reports for the commands it serves: serial number, status, results -/
  results : List (Nat × Nat × Word × Word)
  /-- completions of commands cut off by a reset, written at MUSTER_END (R417) -/
  cancelled : List Done
  /-- a master has written bank B0: its check fails at the next reset (R417) -/
  b0Bad : Bool
  deriving DecidableEq, Repr

def CtxSt.reset : CtxSt :=
  { flight := [], fin := [], dev := [], nextUid := 0, served := [none, none, none], lastFetch := none, bgDebt := 0, quar := [],
    fetched := [], results := [], cancelled := [], b0Bad := false }

/-- A transaction UART1 owes a meter: the slot, what it asks (1 READ, 2 SHED, 3 RESTORE), the command it belongs to (R342,
R346). -/
structure MeterJob where
  /-- the slot -/
  slot : Nat
  /-- 1 READ, 2 SHED, 3 RESTORE -/
  kind : Nat
  /-- the command it belongs to -/
  cmd : Option Nat
  deriving DecidableEq, Repr

/-- A transaction a UART has begun (R335, R337): for UART1 its job, for UART2 the map entry as `slot`; repetitions left; the
tick its request's last stop bit ends, once the request has been sent. -/
structure UartRun where
  /-- what it asks of whom -/
  job : MeterJob
  /-- repetitions left -/
  left : Nat
  /-- the tick its request's last stop bit ends -/
  sent : Option Nat
  deriving DecidableEq, Repr

/-- The tenant ledger and UART1 beyond their registers (R335 to R348). -/
structure LdgSt where
  /-- a sweep runs: the next slot to read; its good readings; the command it serves -/
  sweep : Option Nat
  good : Nat
  sweepCmd : Option Nat
  /-- transactions that go before the next READ -/
  todo : List MeterJob
  /-- the transaction UART1 has begun -/
  u1 : Option UartRun
  /-- the last request sent on U1_TXD -/
  sent1 : List Byte
  /-- failures of shed commands, by serial number -/
  fails : List (Nat × Nat)
  /-- the second of the last automatic sweep and of the last timed close -/
  sweepSec : Option Word
  closeSec : Option Word
  /-- a first close has set the bases; exports minus imports of the phases at the last close and the carried remainders, both in
  0.001 Wh; EXT then -/
  started : Bool
  metLast : List Int
  metRem : List Int
  extLast : List Word
  /-- the margin low (true) or recovered, and since which tick (R347) -/
  margin : Option (Bool × Nat)
  /-- the next snapshot's sequence number and header unit (R348) -/
  snapSeq : Nat
  snapUnit : Nat
  deriving DecidableEq, Repr

def LdgSt.reset : LdgSt :=
  { sweep := none, good := 0, sweepCmd := none, todo := [], u1 := none, sent1 := [], fails := [], sweepSec := none, closeSec := none,
    started := false, metLast := [0, 0, 0], metRem := [0, 0, 0], extLast := [0#32, 0#32, 0#32], margin := none, snapSeq := 0,
    snapUnit := 0 }

/-- The plant bus beyond its registers (R349 to R351). -/
structure BusSt where
  /-- the transaction UART2 has begun -/
  u2 : Option UartRun
  /-- the last request sent on U2_TXD -/
  sent2 : List Byte
  /-- an update runs: its entries still to read -/
  upd : Option (List Nat)
  /-- what the update has read: loads of the gensets in 0.1 %, their breakers, BMS values -/
  loads : List (Option Nat)
  brks : List (Option Bool)
  bms : List (Option Nat)
  /-- entries that have failed in this update; per entry, updates failed in a row -/
  failed : List Nat
  runs : List Nat
  /-- an update has ended; the data is not stale; the tick of the last start that was due -/
  ended : Bool
  fresh : Bool
  lastDue : Nat
  /-- sum and count of the P1 of channel 7 over the cycles closed since the last update, in watts (R351) -/
  genP : Rat
  genN : Nat
  deriving DecidableEq, Repr

def BusSt.reset : BusSt :=
  { u2 := none, sent2 := [], upd := none, loads := [none, none], brks := [none, none], bms := List.replicate 8 none, failed := [],
    runs := List.replicate 16 0, ended := false, fresh := false, lastDue := 0, genP := 0, genN := 0 }

/-- A reply of the Lersy Link that waits for a host credit (R438): its header bytes 0 to 6 and its payload. -/
structure LnkReply where
  /-- header bytes 0 to 6 -/
  head : List Byte
  /-- payload -/
  payload : List Byte
  deriving DecidableEq, Repr

/-- A rate change of the Lersy Link (R436). -/
inductive LnkRate where
  | none
  /-- a PING with RATEPROP for this rate has been sent -/
  | proposed (rate : Nat)
  /-- RATEGO for this rate came at this tick; `switched` after the 16 idle ordered sets -/
  | going (rate at' : Nat) (switched : Bool)
  deriving DecidableEq, Repr

/-- Host ports beyond their registers (R425 to R440). -/
structure HostSt where
  /-- SEQ and CRC of the last accepted write, Gen-B and the link (R431, R440) -/
  genbDup : Option (Byte × Word)
  lnkDup : Option (Byte × Word)
  /-- replies not yet sent, oldest first; each holds a receive buffer -/
  replies : List LnkReply
  /-- a WAKE packet waits (R434) -/
  wake : Bool
  /-- credits to return to the host (R438) -/
  owed : Nat
  /-- the tick the link entered its state -/
  since : Nat
  /-- the tick the last packet arrived -/
  lastRx : Nat
  /-- when a keepalive PING was sent that no PING has answered yet -/
  ackAt : Option Nat
  /-- in TRAIN: a valid PING has arrived; one of its own has been answered; RXCRED advertised by the host -/
  gotPing : Bool
  answered : Bool
  offer : Nat
  /-- rates marked failed (R436) -/
  failed : BitVec 4
  /-- the rate change in progress (R436) -/
  rate : LnkRate
  /-- the packet sent last -/
  lnkSent : List Byte
  /-- what the last SPI frame was answered with, after its request bytes -/
  spiOut : List Byte
  deriving DecidableEq, Repr

def HostSt.reset : HostSt :=
  { genbDup := none, lnkDup := none, replies := [], wake := false, owed := 0, since := 0, lastRx := 0, ackAt := none,
    gotPing := false, answered := false, offer := 0, failed := 0#4, rate := .none, lnkSent := [], spiOut := [] }

/-- The sideband engine in D0 AON (R441 to R444). -/
structure SbSt where
  /-- a transaction that matched the address is under way; it is a read -/
  matched : Bool
  read : Bool
  /-- the next byte written is the pointer -/
  first : Bool
  /-- the pointer -/
  ptr : Nat
  /-- bytes of the register word being written, by offset in it, and that word's pointer -/
  word : Nat
  buf : List (Nat × Byte)
  /-- SB_SCL is held low since this tick (R442) -/
  held : Option Nat
  /-- bytes the last read returned -/
  out : List Byte
  deriving DecidableEq, Repr

def SbSt.reset : SbSt :=
  { matched := false, read := false, first := false, ptr := 0, word := 0, buf := [], held := none, out := [] }

/-- Pins beyond the PINS registers (spec/23). -/
structure PinsSt where
  /-- levels the board holds GPIO0 to GPIO2 at -/
  gpio : BitVec 3
  /-- the levels of GPIO0 to GPIO2 after the synchroniser, as last judged for edges (R495) -/
  seen : BitVec 3
  deriving DecidableEq, Repr

def PinsSt.reset : PinsSt := { gpio := 0#3, seen := 0#3 }

/-- The test-access port (R512). -/
structure TapSt where
  /-- the instruction in force, 4 bits -/
  ir : BitVec 4
  /-- the boundary cells' update latches, in order from TDI to TDO -/
  latch : List Bool
  /-- what the last capture read -/
  captured : List Bool
  deriving DecidableEq, Repr

def TapSt.reset : TapSt := { ir := 0xF#4, latch := [], captured := [] }

/-- The whole state of the block. -/
structure State where
  /-- commands waiting, first in, first out -/
  pending : List Instr
  /-- SYSCLK ticks since power-on; also the base of every deadline -/
  now : Nat
  /-- registers and context windows: address and word, an unlisted one holding its reset value -/
  regs : List (Nat × Word)
  /-- the SRAM banks B0 to B7, by byte address; an unlisted byte is 0 (R30) -/
  sram : List Host.Cell
  /-- the NVM array, by offset; an unlisted byte is erased, 0xFF (R479) -/
  nvm : List Host.Cell
  /-- MODEL: how many free values have been used -/
  freeIdx : Nat
  /-- MODEL: the registers as they stood when the present tick began; a W1C bit that its block has set in this tick reads 0 here
  (R38, R39) -/
  tick0 : List (Nat × Word)
  /-- the tick in which the fabric granted its last beat to a master of levels 3 to 5, and the address written in it, if it was a
  write (R18, R39) -/
  beat : Option (Nat × Option Nat)
  /-- router events not yet delivered, each with the tick it pulses in (R243, R244) -/
  evq : List (Nat × Nat)
  /-- MODEL: what the last access answered its master -/
  lastStatus : Status
  /-- MODEL: what the last served read returned -/
  lastRead : Word
  /-- interrupt controller -/
  irqc : IrqcSt
  /-- event log -/
  log : LogSt
  /-- NVM controller -/
  nvmc : NvmSt
  /-- power, reset, clocks, watchdog -/
  pwr : PwrSt
  /-- comparators and router outputs -/
  cmp : CmpSt
  /-- Compass -/
  cps : CpsSt
  /-- conversion channels -/
  adc : AdcSt
  /-- the M-path resampler -/
  resamp : ResampSt
  /-- Chart -/
  cht : ChtSt
  /-- Quadrille -/
  qdl : QdlSt
  /-- control engine -/
  ctl : CtlSt
  /-- dead reckoning -/
  spec : SpecSt
  /-- DMA channels -/
  dma : DmaSt
  /-- power-flow modes -/
  mode : ModeSt
  /-- PWM -/
  pwm : PwmSt
  /-- gate drive -/
  gd : GdSt
  /-- grid protection -/
  prot : ProtSt
  /-- safety configuration and seals -/
  safe : SafeSt
  /-- interface relays -/
  rly : RlySt
  /-- metering -/
  met : MetSt
  /-- harmonics -/
  hrm : HrmSt
  /-- hot swap -/
  hsw : HswSt
  /-- contexts and the command engine -/
  ctx : CtxSt
  /-- tenant ledger and meter bus -/
  ldg : LdgSt
  /-- plant bus -/
  bus : BusSt
  /-- host ports -/
  host : HostSt
  /-- sideband engine -/
  sb : SbSt
  /-- pins -/
  pins : PinsSt
  /-- test-access port -/
  jtag : TapSt
  deriving DecidableEq, Repr

/-- The machine right after the reset release that follows power-on (R459, R462). -/
def State.reset : State :=
  { pending := [],
    now := 0,
    regs := [(0x1040, 0x00000101#32)],
    sram := [],
    nvm := [],
    freeIdx := 0,
    tick0 := [(0x1040, 0x00000101#32)],
    beat := none,
    evq := [],
    lastStatus := .ok,
    lastRead := 0#32,
    irqc := IrqcSt.reset,
    log := LogSt.reset,
    nvmc := NvmSt.reset,
    pwr := PwrSt.reset,
    cmp := CmpSt.reset,
    cps := CpsSt.reset,
    adc := AdcSt.reset,
    resamp := ResampSt.reset,
    cht := ChtSt.reset,
    qdl := QdlSt.reset,
    ctl := CtlSt.reset,
    spec := SpecSt.reset,
    dma := DmaSt.reset,
    mode := ModeSt.reset,
    pwm := PwmSt.reset,
    gd := GdSt.reset,
    prot := ProtSt.reset,
    safe := SafeSt.reset,
    rly := RlySt.reset,
    met := MetSt.reset,
    hrm := HrmSt.reset,
    hsw := HswSt.reset,
    ctx := CtxSt.reset,
    ldg := LdgSt.reset,
    bus := BusSt.reset,
    host := HostSt.reset,
    sb := SbSt.reset,
    pins := PinsSt.reset,
    jtag := TapSt.reset }

end Sys2Proof.Machine
end

