-- ==== Sys2Proof/Machine/Trig.lean ====
section
/-! DEFINITION. The functions the spec names and states to no bit (sine, cosine, tangent, arctangent, square root): each is the
function itself, computed over exact numbers to well beyond 2^-48, plus an error that is free within a stated bound (log entry
10). Angles are in bearing units, 2^32 a turn (R5). -/

namespace Sys2Proof.Machine

def ratAbs (q : Rat) : Rat := if q < 0 then -q else q

/-- A number kept within `lo` and `hi`. -/
def clampRat (lo hi x : Rat) : Rat := if x < lo then lo else if hi < x then hi else x

/-- A free error, at most `b` either way. -/
def within (b e : Rat) : Rat := clampRat (-b) b e

/-- The bound of log entry 10: 2^-24, half a unit in the last place of a binary32 between 1/2 and 1. -/
def fnErr : Rat := 1 / 16777216

/-- Half a turn's ratio to the radius, to 30 digits. -/
def piQ : Rat := 3141592653589793238462643383280 / 1000000000000000000000000000000

/-- An angle less whole turns; and the same between half a turn back and half a turn on. -/
def wrapTurn (a : Rat) : Rat := a - ((a / 4294967296).floor : Rat) * 4294967296
def wrapHalf (a : Rat) : Rat := wrapTurn (a + 2147483648) - 2147483648

/-- A number cut to 64 fraction bits, so that the series stay short. -/
def cut64 (x : Rat) : Rat := ((x * 18446744073709551616).floor : Rat) / 18446744073709551616

/-- Σ terms of an alternating series: `t` is the term of order `k`, `x2` the square of the argument; a sine has k odd, a cosine k
even. -/
def seriesFrom : Nat → Nat → Rat → Rat → Rat
  | 0, _, _, _ => 0
  | n + 1, k, x2, t => t + seriesFrom n (k + 2) x2 (cut64 (-(t * x2) / (((k + 1) * (k + 2) : Nat) : Rat)))

/-- Sine and cosine of at most an eighth of a turn, in radians. -/
def sinSmall (x : Rat) : Rat := seriesFrom 10 1 (cut64 (x * x)) x
def cosSmall (x : Rat) : Rat := seriesFrom 10 0 (cut64 (x * x)) 1

/-- Sine of an angle: the nearest quarter turn is taken off first. -/
def sinExact (a : Rat) : Rat :=
  let q := (a / 1073741824 + 1 / 2).floor
  let x := cut64 ((a - (q : Rat) * 1073741824) * piQ / 2147483648)
  match q % 4 with
  | 0 => sinSmall x
  | 1 => cosSmall x
  | 2 => -sinSmall x
  | _ => -cosSmall x

def cosExact (a : Rat) : Rat := sinExact (a + 1073741824)

/-- Arctangent of z between -1/2 and 1/2, in radians: z - z³/3 + z⁵/5 - ... -/
def atanFrom : Nat → Nat → Rat → Rat → Rat
  | 0, _, _, _ => 0
  | n + 1, k, z2, p => p / (k : Rat) + atanFrom n (k + 2) z2 (cut64 (-(p * z2)))
def atanSmall (z : Rat) : Rat := atanFrom 28 1 (cut64 (z * z)) z

/-- Arctangent of r between 0 and 1, in radians. -/
def atanUnit (r : Rat) : Rat := if r * 2 ≤ 1 then atanSmall (cut64 r) else piQ / 4 - atanSmall (cut64 ((1 - r) / (1 + r)))

/-- The angle of the vector (x, y) in radians, above -π and at most π; 0 for the zero vector. -/
def atan2Exact (y x : Rat) : Rat :=
  let ax := ratAbs x
  let ay := ratAbs y
  if ax = 0 ∧ ay = 0 then 0
  else
    let o := if ay ≤ ax then atanUnit (ay / ax) else piQ / 2 - atanUnit (ax / ay)
    let h := if x < 0 then piQ - o else o
    if y < 0 then -h else h

/-- The square root of a number that is not negative, to 64 bits beyond its leading one. -/
def sqrtExact (q : Rat) : Rat :=
  let n := q.num.toNat * q.den
  let r := isqrt (n * 2 ^ 128)
  (r : Rat) / ((q.den * 2 ^ 64 : Nat) : Rat)

/-! ### The functions the formulas use -/

def sinQ (a : Rat) : Rat := sinExact a + within fnErr (Config.sinErr a)
def cosQ (a : Rat) : Rat := cosExact a + within fnErr (Config.cosErr a)

/-- The angle of a vector in bearing units. -/
def atan2Q (y x : Rat) : Rat := (atan2Exact y x + within fnErr (Config.atan2Err y x)) / piQ * 2147483648

/-- Square root; of a negative number, for which the spec states no result, a free value. -/
def sqrtQ (q : Rat) : Rat :=
  if q < 0 then Config.sqrtErr q else sqrtExact q * (1 + within fnErr (Config.sqrtErr q))

/-- atan2 of R57 in binary32, radians. An argument that is no number gives none. -/
def atan2F (y x : F32) : F32 :=
  if y.finite && x.finite then
    F32.ofRat (atan2Exact y.toRat x.toRat * (1 + within (4 * fnErr) (Config.atan2Err y.toRat x.toRat)))
  else F32.qNaN

/-- tan of R132 in binary32, for an angle in radians between 0 and a quarter turn. -/
def tanF (x : F32) : F32 :=
  let a := x.toRat / piQ * 2147483648
  let c := cosExact a
  if c = 0 then F32.posInf else F32.ofRat (sinExact a / c * (1 + within (4 * fnErr) (Config.tanErr x.toRat)))

/-- Entry `n` of the control engine's sine table of 4,096 entries (R134): the sine of n/4,096 of a turn. The spec bounds sine and
cosine, table and interpolation together, by 4e-7: the interpolation of the exact sine takes 2.95e-7 of it and binary32 about
6e-8, so an entry errs by at most 2e-8. -/
def sinTable (n : Nat) : F32 :=
  F32.ofRat (sinExact ((n * 1048576 : Nat) : Rat) + within (1 / 50000000) (Config.tableErr n))

end Sys2Proof.Machine
end

