-- ==== Sys2Proof/Machine/Ops.lean ====
section
/-! DEFINITION. The operations every block shares: reading and writing registers and their fields, what page, domain and
block are on, event bits and interrupt sources (R45, R384, R393), router events (R243), event-log records (R537 to R540), the
two byte memories, and free values. -/

namespace Sys2Proof.Machine

/-! ### Registers -/

/-- The block type code of a page (R31); 0 for a page the page map does not list. -/
def pageType (p : Nat) : Nat :=
  match p with
  | 0x00 => 0x01 | 0x01 => 0x02 | 0x02 => 0x03 | 0x03 => 0x04 | 0x04 => 0x05 | 0x05 => 0x06 | 0x06 => 0x07 | 0x07 => 0x08
  | 0x08 => 0x09 | 0x0C => 0x10 | 0x0D => 0x11 | 0x0E => 0x12 | 0x10 => 0x20 | 0x11 => 0x21 | 0x12 => 0x22 | 0x14 => 0x28
  | 0x15 => 0x29 | 0x16 => 0x2A | 0x18 => 0x30 | 0x1A => 0x31 | 0x1C => 0x38 | 0x1D => 0x39 | 0x1E => 0x3A | 0x1F => 0x3B
  | 0x20 => 0x40 | 0x21 => 0x41 | 0x22 => 0x42 | 0x24 => 0x44 | 0x28 => 0x48 | 0x30 => 0x50
  | _ => 0

/-- The page map lists the page (R31). -/
def pageListed (p : Nat) : Bool := pageType p != 0

/-- The domain of a page (R31). -/
def pageDomain (p : Nat) : Nat :=
  match p with
  | 0x00 => 0 | 0x02 => 0
  | 0x08 => 2 | 0x0C => 3 | 0x0D => 3 | 0x0E => 3 | 0x10 => 6 | 0x11 => 7 | 0x12 => 8 | 0x14 => 4 | 0x15 => 4 | 0x16 => 4
  | 0x18 => 5 | 0x1A => 5 | 0x1C => 9 | 0x1D => 9 | 0x1E => 10 | 0x1F => 10 | 0x20 => 5 | 0x21 => 5 | 0x22 => 5 | 0x24 => 10
  | _ => 1

/-- PG_CAP of a page, as its block chapter gives it. -/
def pageCap (p : Nat) : Word :=
  match p with
  | 0x00 => 0x10000000 | 0x02 => 0x10000000 | 0x03 => 0x17 | 0x05 => 0x80000100 | 0x06 => 0x80 | 0x07 => 0x20
  | 0x08 => 0x80000010 | 0x0D => 0x40 | 0x0E => 0x80000001 | 0x10 => 0x80000008 | 0x11 => 0x8000000A | 0x12 => 0x80000010
  | 0x14 => 0x20000020 | 0x15 => 0x8 | 0x18 => 0x20000007 | 0x1A => 0x80000007 | 0x1D => 0x3F | 0x1E => 0x100
  | 0x20 => 0x40000000 | 0x22 => 0x40000000 | 0x24 => 0x80000002
  | _ => 0

/-- EN resets to 1 on these pages (R42). -/
def pageEnReset (p : Nat) : Bool := decide (p < 8) || decide (p = 0x28) || decide (p = 0x30)

/-- What a header register of page `p` at offset `o` holds when nothing has written it (R52, R472). -/
def headerReset (p o : Nat) : Word :=
  if !pageListed p then 0#32
  else if o = 0x000 then BitVec.ofNat 32 (p * 2 ^ 24 + pageType p * 2 ^ 16 + 1)
  else if o = 0x004 then 0x01000000#32
  else if o = 0x008 then pageCap p
  else if o = 0x00C then (if pageEnReset p then 1#32 else 0#32)
  else if o = 0x010 then 4#32
  else if o = 0x018 then (if p = 1 || p = 2 then 1#32 else 0#32)
  else 0#32

/-- What a context-window register holds when nothing has written it (R399): CTRL and CQ_TAIL have a reset value. -/
def ctxReset (o : Nat) : Word := if o = 0x20 then 0x2030#32 else if o = 0x1C then 0x100#32 else 0#32

/-- The reset value of every register: headers, block registers, context windows. -/
def regDefault (a : Nat) : Word :=
  if a < 0x40000 then
    (if a % 0x1000 < 0x40 then headerReset (a / 0x1000) (a % 0x1000)
     else match regRow? a with
       | some r => BitVec.ofNat 32 r.reset
       | none => 0#32)
  else if a < 0x44000 then ctxReset (a % 0x40)
  else 0#32

/-- The stored value of the register at address `a`. -/
def State.reg (s : State) (a : Nat) : Word := Sparse.get regDefault s.regs a

/-- Store `v` in the register at address `a`. -/
def State.setReg (s : State) (a : Nat) (v : Word) : State := { s with regs := Sparse.set regDefault s.regs a v }

/-- A field, as a number; as a signed number; a one-bit field, as a truth value. -/
def State.get (s : State) (f : Field) : Nat := wbits (s.reg f.addr) f.lo f.len
def State.getI (s : State) (f : Field) : Int := signed f.len (s.get f)
def State.flag (s : State) (f : Field) : Bool := decide (s.get f ≠ 0)

/-- Store a number in a field, modulo its width; store a truth value. -/
def State.put (s : State) (f : Field) (v : Nat) : State := s.setReg f.addr (wput (s.reg f.addr) f.lo f.len v)
def State.putI (s : State) (f : Field) (v : Int) : State := s.put f (wrapBits f.len v)
def State.putFlag (s : State) (f : Field) (v : Bool) : State := s.put f v.toNat

/-- A counting field goes up by one: wrapping, or stopping at its largest value. -/
def State.inc (s : State) (f : Field) : State := s.put f (s.get f + 1)
def State.incSat (s : State) (f : Field) : State := s.put f (satTo (2 ^ f.len - 1) (s.get f + 1))

/-- A bit of a register set or cleared by its number. -/
def State.putBit (s : State) (a b : Nat) (v : Bool) : State := s.setReg a (wputBit (s.reg a) b v)
def State.bitOf (s : State) (a b : Nat) : Bool := (s.reg a).getLsbD b

/-- What the register at `a` held as the present tick began; a W1C bit set by its block since then reads 0 (R38, R39). -/
def State.regWas (s : State) (a : Nat) : Word := Sparse.get regDefault s.tick0 a

/-- A block sets the W1C bit `b` of the register at `a`: a write of 1 granted in the same tick does not clear it (R39). -/
def State.setW1c (s : State) (a b : Nat) : State :=
  { s.putBit a b true with tick0 := Sparse.set regDefault s.tick0 a (wputBit (s.regWas a) b false) }

/-- A block sets a one-bit W1C field. -/
def State.setFlag (s : State) (f : Field) : State := s.setW1c f.addr f.lo

/-- A master's write to the register at `a` has been granted in this tick: its value stands against an update by the block
(R39). -/
def State.mastered (s : State) (a : Nat) : Bool := decide (s.beat = some (s.now, some a))

/-- A block updates its own RW register at `a`; a master's write of the same tick stands (R39). -/
def State.blockSet (s : State) (a : Nat) (v : Word) : State := if s.mastered a then s else s.setReg a v

/-- The element at index `i` changed by `f` (the list as it is where there is none). -/
def modAt {α : Type} (i : Nat) (f : α → α) : List α → List α
  | [] => []
  | x :: xs => match i with
    | 0 => f x :: xs
    | j + 1 => x :: modAt j f xs

/-- The element at index `i`, or `d`. -/
def nth {α : Type} (d : α) (xs : List α) (i : Nat) : α := (xs[i]?).getD d

/-! ### Pages, domains, blocks -/

def pgCtrl (p : Nat) : Nat := p * 0x1000 + 0x00C
def pgEvt (p : Nat) : Nat := p * 0x1000 + 0x014
def pgEvtEn (p : Nat) : Nat := p * 0x1000 + 0x018
def pgErr (p : Nat) : Nat := p * 0x1000 + 0x020
def pgSeq (p : Nat) : Nat := p * 0x1000 + 0x024

/-- Pages by their blocks' names (R31). -/
abbrev Pg.IDENT : Nat := 0x00
abbrev Pg.SYS : Nat := 0x01
abbrev Pg.PWR : Nat := 0x02
abbrev Pg.PINS : Nat := 0x03
abbrev Pg.HOST : Nat := 0x04
abbrev Pg.CTX : Nat := 0x05
abbrev Pg.IRQC : Nat := 0x06
abbrev Pg.EVR : Nat := 0x07
abbrev Pg.DMA : Nat := 0x08
abbrev Pg.CPS : Nat := 0x0C
abbrev Pg.CHT : Nat := 0x0D
abbrev Pg.QDL : Nat := 0x0E
abbrev Pg.ADCX : Nat := 0x10
abbrev Pg.ADCI : Nat := 0x11
abbrev Pg.CMP : Nat := 0x12
abbrev Pg.CTL : Nat := 0x14
abbrev Pg.SPEC : Nat := 0x15
abbrev Pg.MODE : Nat := 0x16
abbrev Pg.PWM : Nat := 0x18
abbrev Pg.GD : Nat := 0x1A
abbrev Pg.MET : Nat := 0x1C
abbrev Pg.HRM : Nat := 0x1D
abbrev Pg.LDG : Nat := 0x1E
abbrev Pg.BUS : Nat := 0x1F
abbrev Pg.PROT : Nat := 0x20
abbrev Pg.SAFE : Nat := 0x21
abbrev Pg.RLY : Nat := 0x22
abbrev Pg.HSW : Nat := 0x24
abbrev Pg.NVM : Nat := 0x28
abbrev Pg.LOG : Nat := 0x30

/-- The domain is powered; its power-up sequence has ended too. -/
def State.domOn (s : State) (d : Nat) : Bool := s.pwr.on.getLsbD d
def State.domReady (s : State) (d : Nat) : Bool := s.pwr.on.getLsbD d && s.pwr.ready.getLsbD d

/-- PG_CTRL.EN as stored. -/
def State.pageEn (s : State) (p : Nat) : Bool := s.bitOf (pgCtrl p) 0

/-- The block of the page runs: its domain is on and ready, it is enabled, no soft reset is in progress. -/
def State.live (s : State) (p : Nat) : Bool :=
  s.domReady (pageDomain p) && s.pageEn p && !(s.pwr.srst.getLsbD p)

/-- Pages served during the muster window (R36). -/
def musterPage (p : Nat) : Bool := decide (p = Pg.IDENT) || decide (p = Pg.SYS) || decide (p = Pg.PWR) || decide (p = Pg.HOST)

/-- The domain's pages are served: its power-up sequence has ended. D0 AON has none: what is fixed in its logic is read from reset
release on (R10, R475). -/
def State.domServed (s : State) (d : Nat) : Bool := s.domReady d || (decide (d = 0) && s.domOn 0 && !s.pwr.inReset)

/-- The page is ready (R36): its domain's power-up sequence has ended, and the muster window has, or the page is served
within it; the LOG page also waits for its first ring scan (R543). -/
def State.pageReady (s : State) (p : Nat) : Bool :=
  s.domServed (pageDomain p) && (!s.pwr.muster || musterPage p) && (p != Pg.LOG || s.log.scanned)

/-! ### Free values -/

/-- The next free word, and the state with it used up. -/
def State.freeVal (s : State) : Word × State := (Config.freeWord s.freeIdx, { s with freeIdx := s.freeIdx + 1 })

/-! ### Interrupt sources (spec/18) -/

/-- Reserved sources have no line and are never pending (R382). -/
def srcReserved (n : Nat) : Bool :=
  decide (n = 22) || decide (n = 23) || (decide (28 ≤ n) && decide (n ≤ 31)) || decide (n = 47) || decide (n = 111) ||
  decide (128 ≤ n)

/-- The pending bit of source `n`, IRQC_PEND showing what has been set up to now (R384 to R386). -/
def State.irqPend (s : State) (n : Nat) : Bool :=
  s.bitOf (Reg.IRQC_PEND (n / 32)) (n % 32) || s.irqc.soon.any (fun e => decide (e.1 ≤ s.now) && decide (e.2 = n))
/-- IRQC_EN and IRQC_SENSE bits of source `n`, its target (R389) and priority (R390). -/
def State.irqEn (s : State) (n : Nat) : Bool := s.bitOf (Reg.IRQC_EN (n / 32)) (n % 32)
def State.irqMsg (s : State) (n : Nat) : Bool := s.bitOf (Reg.IRQC_SENSE (n / 32)) (n % 32)
def State.irqTarget (s : State) (n : Nat) : Nat := wbits (s.reg (Reg.IRQC_TARGET (n / 16))) (2 * (n % 16)) 2
def State.irqPrio (s : State) (n : Nat) : Nat := wbits (s.reg (Reg.IRQC_PRIO (n / 8))) (4 * (n % 8)) 4

/-- The source is active (R388). -/
def State.irqActive (s : State) (n : Nat) : Bool := s.irqPend n && s.irqEn n && s.live Pg.IRQC

/-- An announcement arises when a source with target LNK becomes active (R393). -/
def State.announceFrom (s t : State) (n : Nat) : State :=
  if !(s.irqActive n && decide (s.irqTarget n = 2)) && t.irqActive n && decide (t.irqTarget n = 2) then
    { t with irqc := { t.irqc with announce := true } } else t

/-- The pending bit of source `n` is to be set in `d` ticks (R384 to R386), unless the page is disabled or off (R395). Pulses of one
tick make one occurrence (R383). -/
def State.pendIn (s : State) (d n : Nat) : State :=
  if s.live Pg.IRQC && !srcReserved n && !s.irqc.soon.contains (s.now + d, n) then
    { s with irqc := { s.irqc with soon := s.irqc.soon ++ [(s.now + d, n)] } }
  else s

/-- A doorbell or a set now: the pending bit is set in the next tick (R385, R386). -/
def State.pendSrc (s : State) (n : Nat) : State := s.pendIn 1 n

/-- A pulse on the line of source `n`: it pends a source of sense EDGE, in the next tick (R384). -/
def State.raiseSrc (s : State) (n : Nat) : State := if s.irqMsg n then s else s.pendSrc n

/-- A pulse on the line of source `n` in the next tick. -/
def State.raiseNext (s : State) (n : Nat) : State := if s.irqMsg n then s else s.pendIn 2 n

/-- The pending bit `e` says is in its register: with what the tick began, where it was set before. A reserved source has none. -/
def State.irqCommit (s : State) (e : Nat × Nat) : State :=
  if srcReserved e.2 then s
  else
  let a := Reg.IRQC_PEND (e.2 / 32)
  let t := s.putBit a (e.2 % 32) true
  s.announceFrom (if e.1 < s.now then { t with tick0 := Sparse.set regDefault t.tick0 a (wputBit (t.regWas a) (e.2 % 32) true) } else t) e.2

/-- What has been set pending up to now goes into IRQC_PEND, announcements arising with it (R393). -/
def State.irqTake (s : State) : State :=
  let ready := s.irqc.soon.filter (fun e => e.1 ≤ s.now)
  if ready.isEmpty then s
  else ready.foldl State.irqCommit { s with irqc := { s.irqc with soon := s.irqc.soon.filter (fun e => s.now < e.1) } }

/-- The interrupt controller as the present tick began: what a read of a TOP register returns (R391), and what the pins show, which
follow a tick later (R392). -/
def State.irqStart (s : State) : State := { s with regs := s.tick0, now := s.now - 1 }

/-- A number in the TOP word of target `t` (R391): the active source of highest priority, the lower number on a tie. -/
def State.irqBest (s : State) (t : Nat) : Nat → Option Nat → Option Nat
  | 0, best => best
  | k + 1, best =>
    let n := 127 - k
    if s.irqActive n && decide (s.irqTarget n = t) then
      (match best with
        | none => s.irqBest t k (some n)
        | some b => s.irqBest t k (if s.irqPrio b < s.irqPrio n then some n else some b))
    else s.irqBest t k best

def State.irqCount (s : State) (t : Nat) : Nat :=
  ((List.range 128).filter (fun n => s.irqActive n && decide (s.irqTarget n = t))).length

/-! ### Router events (R243) -/

/-- Event `e` pulses `k` ticks from now: it waits for delivery through the router. -/
def State.pulseIn (s : State) (k e : Nat) : State := { s with evq := s.evq ++ [(s.now + k, e)] }

/-- Event `e` pulses now. -/
def State.pulse (s : State) (e : Nat) : State := s.pulseIn 0 e

/-- The interrupt source of event bit `b` of page `p` (the block chapters' event tables); none where it has none. -/
def evtSource (p b : Nat) : Option Nat :=
  match p with
  | 0x01 => (match b with | 0 => some 0 | 1 => some 1 | 2 => some 4 | 3 => some 5 | _ => none)
  | 0x02 => (match b with | 0 => some 2 | 1 => some 3 | 2 => some 6 | 3 => some 7 | _ => none)
  | 0x04 => if b < 4 then some (116 + b) else none
  | 0x05 => if b < 4 then some (112 + b) else none
  | 0x08 => if b < 4 then some (104 + b) else if b < 7 then some (104 + b) else none
  | 0x0C => if b < 6 then some (8 + b) else none
  | 0x0D => if b < 4 then some (16 + b) else if b = 4 then some 20 else if b = 5 then some 21 else none
  | 0x0E => if b < 2 then some (14 + b) else none
  | 0x10 => if b < 4 then some (24 + b) else none
  | 0x11 => if b < 4 then some (24 + b) else none
  | 0x12 => if b < 16 then some (64 + b) else none
  | 0x14 => (match b with | 0 => some 32 | 1 => some 33 | 2 => some 33 | 3 => some 34 | 4 => some 34 | _ => none)
  | 0x15 => (match b with
    | 0 => some 35 | 1 => some 36 | 2 => some 36 | 3 => some 37 | 4 => some 37 | 5 => some 38 | 6 => some 38 | 7 => some 39
    | 8 => some 39 | _ => none)
  | 0x16 => if b < 7 then some (40 + b) else none
  | 0x18 => if b < 8 then some (48 + b) else none
  | 0x1A => if b < 8 then some (56 + b) else none
  | 0x1C => (match b with | 0 => some 96 | 1 => some 98 | 2 => some 99 | _ => none)
  | 0x1D => if b = 0 then some 97 else none
  | 0x1E => (match b with | 0 => some 100 | 1 => some 101 | 2 => some 100 | _ => none)
  | 0x1F => (match b with | 0 => some 102 | 1 => some 103 | 2 => some 103 | _ => none)
  | 0x20 => (match b with | 0 => some 80 | 1 => some 81 | 2 => some 82 | 3 => some 83 | 4 => some 84 | 5 => some 85 | _ => none)
  | 0x21 => (match b with | 0 => some 88 | 1 => some 88 | 2 => some 89 | 3 => some 90 | 4 => some 91 | 5 => some 91 | _ => none)
  | 0x22 => if b < 2 then some (86 + b) else none
  | 0x24 => if b < 4 then some (92 + b) else none
  | _ => none

/-- The router event of event bit `b` of page `p`; none where it has none. -/
def evtLine (p b : Nat) : Option Nat :=
  match p with
  | 0x12 => if b < 16 then some b else none
  | 0x18 => (match b with
    | 0 => some 16 | 1 => some 17 | 2 => some 20 | 3 => some 21 | 4 => some 18 | 5 => some 19 | 6 => some 22 | 7 => some 23
    | _ => none)
  | 0x1A => if b < 8 then some (40 + b) else none
  | 0x20 => (match b with | 0 => some 48 | 1 => some 49 | 2 => some 50 | 3 => some 50 | _ => none)
  | 0x08 => if b < 4 then some (52 + b) else none
  | _ => none

/-- The event bits a page has. -/
def evtCount (p : Nat) : Nat := ((List.range 32).filter (fun b => (evtSource p b).isSome)).length +
  (if p = Pg.LOG then 2 else 0)

/-- An occurrence of event `b` of page `p` (R45): its PG_EVT bit is set, and an enabled one pulses its source. -/
def State.note (s : State) (p b : Nat) : State :=
  if s.domOn (pageDomain p) then
    let t := s.setW1c (pgEvt p) b
    if t.bitOf (pgEvtEn p) b then (match evtSource p b with | some n => t.raiseSrc n | none => t) else t
  else s

/-- An occurrence of event `b` of page `p` whose source is raised in the next tick. -/
def State.noteNext (s : State) (p b : Nat) : State :=
  if s.domOn (pageDomain p) then
    let t := s.setW1c (pgEvt p) b
    if t.bitOf (pgEvtEn p) b then (match evtSource p b with | some n => t.raiseNext n | none => t) else t
  else s

/-- An occurrence of event `b` of page `p` together with its router event, where it has one. -/
def State.occur (s : State) (p b : Nat) : State :=
  match evtLine p b with
  | some e => (s.note p b).pulse e
  | none => s.note p b

/-- An occurrence of event `b` of page `p` whose router event pulses in the next tick. -/
def State.occurNext (s : State) (p b : Nat) : State :=
  match evtLine p b with
  | some e => (s.note p b).pulseIn 1 e
  | none => s.note p b

/-- The free control engine is asked for work: its ticks count from now, or from the end of what it has done (R126). -/
def State.ctlFrom (s : State) : State :=
  if s.ctl.run.isNone then { s with ctl := { s.ctl with clock := Nat.max s.ctl.clock s.now } } else s

/-- The control engine works for `n` ticks. -/
def CtlSt.spend (c : CtlSt) (n : Nat) : CtlSt := { c with clock := c.clock + n }

/-! ### The event log (R537 to R540) -/

/-- FLAGS of a record created now (R537). -/
def State.logFlags (s : State) : Nat :=
  (if s.domOn 3 then 0 else 1) + (if s.flag F.CPS_STAT_LOCKED then 0 else 2) + (if s.gd.armed then 4 else 0)

/-- Stage a record, in ascending order of code within its tick (R539). -/
def LogSt.stage (r : LogRec) : List LogRec → List LogRec
  | [] => [r]
  | x :: xs =>
    if x.tick = r.tick ∧ x.code ≠ 0x3000 ∧ r.code < x.code then r :: x :: xs else x :: LogSt.stage r xs

/-- Whether a record needs an anchor before it (R538). -/
def LogSt.needsAnchor (l : LogSt) (r : LogRec) : Bool :=
  (match l.anchorSec with | none => true | some a => decide (a.toNat / 65536 ≠ r.sec.toNat / 65536)) ||
  (decide (r.flags % 2 = 0) &&
    (match l.anchorCyc with | none => true | some a => decide (a.toNat / 65536 ≠ r.cyc.toNat / 65536)))

/-- The anchor a record takes before it (R538). -/
def LogRec.anchor (r : LogRec) : LogRec :=
  { r with code := 0x3000, d0 := r.sec, d1 := if r.flags % 2 = 1 then 0#32 else r.cyc }

/-- The log as `l`. -/
def State.setLog (s : State) (l : LogSt) : State := { s with log := l }

/-- Stage one record with the anchor it needs; a record that finds the 256 places taken is dropped and counted (R540). -/
def State.logStage (s : State) (r : LogRec) : State :=
  let l := s.log
  let withAnchor := l.needsAnchor r
  if 256 < l.staged.length + (if withAnchor then 2 else 1) then
    (((s.setLog { l with dropped := l.dropped + 1 }).inc F.LOG_STAT_DROPCNT).setFlag F.LOG_STAT_DROP).note Pg.LOG 0
  else
    let st := if withAnchor then LogSt.stage r (l.staged ++ [r.anchor]) else LogSt.stage r l.staged
    s.setLog (if withAnchor then
        { l with staged := st, anchorSec := some r.sec, anchorCyc := if r.flags % 2 = 1 then none else some r.cyc }
      else { l with staged := st })

/-- LOG_LAST shows the record of highest code of its tick (R549). -/
def State.logLast (s : State) (code flags : Nat) (d0 d1 : Word) : State :=
  let t := if s.log.lastTick = s.now ∧ code < s.get F.LOG_LAST_CODE_CODE then s else
    ((((s.put F.LOG_LAST_CODE_CODE code).put F.LOG_LAST_CODE_FLAGS flags).setReg (Reg.LOG_LAST_DATA 0) d0).setReg
      (Reg.LOG_LAST_DATA 1) d1)
  t.setLog { s.log with lastTick := s.now }

/-- The record made now. -/
def State.logMake (s : State) (code : Nat) (d0 d1 : Word) : LogRec :=
  { code := code, flags := s.logFlags, d0 := d0, d1 := d1, sec := s.reg Reg.SYS_RTC_SEC,
    cyc := if s.domOn 3 then s.reg Reg.CPS_BEAR_CYCLE else 0#32, tick := s.now }

/-- In the first tick with room after a drop, a record 0x3001 goes ahead of the next one (R540). -/
def State.logDropped (s : State) (r : LogRec) : State :=
  if 0 < s.log.dropped ∧ s.log.staged.length + (if s.log.needsAnchor r then 2 else 1) ≤ 256 then
    (s.setLog { s.log with dropped := 0 }).logStage { r with code := 0x3001, d0 := BitVec.ofNat 32 s.log.dropped, d1 := 0#32 }
  else s

/-- A record is created now (R539). -/
def State.logNow (s : State) (code : Nat) (d0 d1 : Word) : State :=
  let r := s.logMake code d0 d1
  ((s.logLast code r.flags d0 d1).logDropped r).logStage r

/-- A block logs a code. While D1 CORE is off or not ready the record waits for it (R539). -/
def State.logRec (s : State) (code : Nat) (d0 d1 : Word) : State :=
  if s.domReady 1 then s.logNow code d0 d1
  else s.setLog { s.log with held := s.log.held ++ [(code, d0, d1)] }

/-! ### SRAM and NVM bytes -/

def sramDefault (_ : Nat) : Byte := 0#8
def nvmDefault (_ : Nat) : Byte := 0xFF#8

/-- One byte of SRAM by its address, and its write. -/
def State.sramByte (s : State) (a : Nat) : Byte := Sparse.get sramDefault s.sram a
def State.setSramByte (s : State) (a : Nat) (v : Byte) : State := { s with sram := Sparse.set sramDefault s.sram a v }

/-- `len` bytes of SRAM from address `a`. -/
def State.sramBytes (s : State) (a : Nat) : Nat → List Byte
  | 0 => []
  | n + 1 => s.sramByte a :: s.sramBytes (a + 1) n

/-- Write a list of bytes to SRAM from address `a`. -/
def State.setSramBytes (s : State) (a : Nat) : List Byte → State
  | [] => s
  | b :: bs => (s.setSramByte a b).setSramBytes (a + 1) bs

/-- A little-endian word of SRAM, and its write. -/
def State.sramWord (s : State) (a : Nat) : Word := BitVec.ofNat 32 (bytesNat (s.sramBytes a 4))
def State.setSramWord (s : State) (a : Nat) (v : Word) : State := s.setSramBytes a (wbytes v)

/-- Write a list of words to SRAM from address `a`. -/
def State.setSramWords (s : State) (a : Nat) : List Word → State
  | [] => s
  | w :: ws => (s.setSramWord a w).setSramWords (a + 4) ws

/-- `n` words of SRAM from address `a`. -/
def State.sramWords (s : State) (a : Nat) : Nat → List Word
  | 0 => []
  | n + 1 => s.sramWord a :: s.sramWords (a + 4) n

/-- One byte of the NVM array by its offset, and its write. -/
def State.nvmByte (s : State) (o : Nat) : Byte := Sparse.get nvmDefault s.nvm o
def State.setNvmByte (s : State) (o : Nat) (v : Byte) : State := { s with nvm := Sparse.set nvmDefault s.nvm o v }

/-- `len` bytes of NVM from offset `o`. -/
def State.nvmBytes (s : State) (o : Nat) : Nat → List Byte
  | 0 => []
  | n + 1 => s.nvmByte o :: s.nvmBytes (o + 1) n

def State.nvmWord (s : State) (o : Nat) : Word := BitVec.ofNat 32 (bytesNat (s.nvmBytes o 4))

/-- Program bytes from offset `o`: programming only clears bits (R479). -/
def State.nvmProgram (s : State) (o : Nat) : List Byte → State
  | [] => s
  | b :: bs => (s.setNvmByte o (s.nvmByte o &&& b)).nvmProgram (o + 1) bs

/-- Every byte whose offset satisfies `p` is erased. -/
def State.nvmEraseIf (s : State) (p : Nat → Bool) : State := { s with nvm := Sparse.clearIf p s.nvm }

/-- Registers, now and as the tick began, SRAM and NVM are in canonical form: addresses rising, nothing listed that reads so
anyway. -/
def Memory.wf (s : State) : Bool :=
  Sparse.wf regDefault s.regs && Sparse.wf regDefault s.tick0 && Sparse.wf sramDefault s.sram && Sparse.wf nvmDefault s.nvm

end Sys2Proof.Machine
end

