-- ==== Sys2Proof/Machine/Time.lean ====
section
/-! DEFINITION. The passage of time: SYSCLK ticks of 2.5 ns (spec/00), the LPO beside them (R466), and the angles that advance
with them: the bearing with its blend slew (R54, R71) and the grid estimate (R57). -/

namespace Sys2Proof.Machine

/-- SYSCLK ticks in a second, a millisecond, a microsecond. -/
abbrev ticksPerSec : Nat := 400000000
abbrev ticksPerMs : Nat := 400000
abbrev ticksPerUs : Nat := 400

/-- LPO ticks in a second, at its nominal frequency (R466). -/
abbrev lpoHz : Nat := 32768

/-- One turn in units of 2^-20 bearing unit. -/
abbrev turn52 : Nat := 2 ^ 52

/-- The quotient rounded up. -/
def ceilDiv (a b : Nat) : Nat := if b = 0 then 0 else (a + b - 1) / b

/-- Now, in 1/32 tick. -/
def State.fine (s : State) : Nat := 32 * s.now

/-- The bearing as the 32-bit register shows it (R54). -/
def State.bearing (s : State) : Word := BitVec.ofNat 32 (s.cps.bear / 2 ^ 20)

/-- The slew term of a blend: floor(R × (SLEW + 1) / 11,520) (R71). -/
def State.slewMax (s : State) : Nat := (s.reg Reg.CPS_BEAR_RATE).toNat * (s.get F.CPS_CFG_SLEW + 1) / 11520

/-- What is closed of the remaining offset in `n` ticks. -/
def slewOver (rem : Int) (m n : Nat) : Int := clampInt (-((n * m : Nat) : Int)) ((n * m : Nat) : Int) rem

/-- How far the bearing moves in the tick to come (R198: rate plus slew). -/
def State.advance (s : State) : Nat :=
  ((((s.reg Reg.CPS_BEAR_RATE).toNat : Nat) : Int) + slewOver s.cps.rem s.slewMax 1).toNat

/-- Ticks until the bearing has advanced by `dist` (2^-20 units): while an offset is being closed at most `m` a tick, then at
the rate alone. -/
def ticksToAdvance (r m : Nat) (rem : Int) (dist : Nat) : Nat :=
  let k := if m = 0 then 0 else ceilDiv rem.natAbs m
  let r1 := (((r : Nat) : Int) + clampInt (-(m : Int)) (m : Int) rem).toNat
  let n1 := ceilDiv dist r1
  if n1 < k then n1
  else
    let n2 := ceilDiv (((dist : Nat) : Int) - (if m = 0 then 0 else rem)).toNat r
    if n2 < k then k else n2

/-- The Compass over `n` ticks, at rate `r` with slew at most `m` a tick. -/
def CpsSt.advance (c : CpsSt) (r m n : Nat) : CpsSt :=
  let d := slewOver c.rem m n
  let d' := slewOver c.rem m (n - 1)
  let adv := (((n * r : Nat) : Int) + d).toNat
  let crosses := decide (turn52 ≤ c.bear + adv)
  { c with
    bear := (c.bear + adv) % turn52
    rem := c.rem - d
    step := if n = 0 then c.step else (((r : Nat) : Int) + d - d').toNat
    wrapPend := c.wrapPend || (crosses && !c.owe)
    zeroAgo := if crosses then some (n - ticksToAdvance r m c.rem (turn52 - c.bear)) else c.zeroAgo.map (fun k => k + n)
    owe := c.owe && !crosses
    thG := (c.thG + n * c.thRate) % turn52
    thWrap := c.thWrap || (decide (turn52 ≤ c.thG + n * c.thRate) && !c.thOwe)
    thOwe := c.thOwe && !decide (turn52 ≤ c.thG + n * c.thRate) }

/-- The resampler's angle moves on by `d` from tick `t0`; `after x` is how many ticks an advance of x takes. Each index reached is
recorded with the tick of its instant; 512 of them outlast the longest delay of the M-path (R110). -/
def ResampSt.advance (x : ResampSt) (t0 d : Nat) (after : Nat → Nat) : ResampSt :=
  let pos := x.pos + ((d : Nat) : Int)
  let n := (pos / ((2 ^ 44 : Nat) : Int) - x.top).toNat
  if n = 0 then { x with pos := pos }
  else
    let k := min n 512
    let first := x.top + ((n - k + 1 : Nat) : Int)
    let new := (List.range k).map (fun j =>
      let i := first + ((j : Nat) : Int)
      (i, t0 + after (i * ((2 ^ 44 : Nat) : Int) - x.pos).toNat, false))
    let all := x.crossed ++ new
    { x with pos := pos, top := x.top + ((n : Nat) : Int), crossed := all.drop (all.length - 512) }

/-- What is left of the offset, and the bearing, `n` ticks on from a point of the track. -/
def BearPt.remAt (p : BearPt) (n : Nat) : Int := p.rem - slewOver p.rem p.slew n
def BearPt.bearAt (p : BearPt) (n : Nat) : Nat :=
  (p.bear + (((n * p.rate : Nat) : Int) + slewOver p.rem p.slew n).toNat) % turn52

/-- The bearing runs on from `p`: a new point of the track, unless the last one leads there. -/
def ResampSt.mark (x : ResampSt) (p : BearPt) : ResampSt :=
  match x.track with
  | [] => { x with track := [p] }
  | q :: _ =>
    let n := p.t - q.t
    if q.rate = p.rate ∧ q.slew = p.slew ∧ q.remAt n = p.rem ∧ q.bearAt n = p.bear then x
    else { x with track := (p :: x.track).take 4096 }

/-- It steps by `d` in a jump at tick `t`: the indices stepped over are marked; a step back reaches none (R111). -/
def ResampSt.jump (x : ResampSt) (t : Nat) (d : Int) : ResampSt :=
  let pos := x.pos + d
  let n := (pos / ((2 ^ 44 : Nat) : Int) - x.top).toNat
  let new := (List.range n).map (fun j => (x.top + ((j + 1 : Nat) : Int), t, true))
  { x with pos := pos, top := x.top + ((n : Nat) : Int), crossed := x.crossed ++ new }

/-- A new cycle begins at tick `t` at angle `a` (2^-20 unit): the indices of it already behind are not produced. -/
def ResampSt.align (x : ResampSt) (t a : Nat) : ResampSt :=
  let cyc := x.top / 256 + 1
  let pos := cyc * (turn52 : Int) + ((a : Nat) : Int)
  let top := pos / ((2 ^ 44 : Nat) : Int)
  { x with pos := pos, top := top, crossed := if a = 0 then x.crossed ++ [(top, t, false)] else x.crossed }

/-- The meter angle over `n` ticks (R330). -/
def MetSt.advance (m : MetSt) (n : Nat) : MetSt :=
  { m with ang := (m.ang + n * m.rate) % turn52, turned := m.turned || decide (turn52 ≤ m.ang + n * m.rate) }

/-- SYSCLK is stopped: only D0 AON and D8 CMP are on, or less, and no transition runs (R448, R453). -/
def State.clkStopped (s : State) : Bool := decide (s.pwr.on &&& 0xEFE#12 = 0#12) && s.pwr.trans.isNone

/-- The ticks SYSCLK has counted: `now` without those in which it was stopped. -/
def State.sysclk (s : State) : Nat := s.now - s.pwr.halted

/-- `n` SYSCLK ticks pass: the clocks, what the registers hold as the new tick begins, and the bearing while D3 NAV is on, the meter angle while it is off and D9 MET is on. -/
def State.elapse (s : State) (n : Nat) : State :=
  let acc := s.pwr.lpoAcc + n * lpoHz
  let lt := acc / ticksPerSec
  { s with
    now := s.now + n
    tick0 := if n = 0 then s.tick0 else s.regs
    pwr := { s.pwr with lpo := s.pwr.lpo + lt, lpoAcc := acc % ticksPerSec,
                        halted := if s.clkStopped then s.pwr.halted + n else s.pwr.halted
                        rtcSub := s.pwr.rtcSub + lt * s.get F.SYS_LPO_CAL_INC }
    cps := if s.domOn 3 then s.cps.advance (s.reg Reg.CPS_BEAR_RATE).toNat s.slewMax n else s.cps
    met := if !s.domOn 3 && s.domOn 9 then s.met.advance n else s.met
    resamp := if n = 0 then s.resamp
      else if s.domOn 3 then
        (let r := (s.reg Reg.CPS_BEAR_RATE).toNat
         (s.resamp.mark { t := s.now, bear := s.cps.bear, rate := r, rem := s.cps.rem, slew := s.slewMax }).advance s.now (((n * r : Nat) : Int) + slewOver s.cps.rem s.slewMax n).toNat
           (fun x => min n (ticksToAdvance r s.slewMax s.cps.rem x)))
      else if s.domOn 9 then s.resamp.advance s.now (n * s.met.rate) (fun x => ceilDiv x s.met.rate)
      else s.resamp }

/-- Time passes up to tick `t` (nothing if it has been reached). -/
def State.elapseTo (s : State) (t : Nat) : State := s.elapse (t - s.now)

/-- Time passes up to the first tick at or after the fine instant `f`. -/
def State.elapseFine (s : State) (f : Nat) : State := s.elapseTo (ceilDiv f 32)

/-- Time passes until `k` LPO ticks have been counted since power-on. -/
def State.elapseLpo (s : State) (k : Nat) : State :=
  s.elapse (ceilDiv ((k - s.pwr.lpo) * ticksPerSec - s.pwr.lpoAcc) lpoHz)

/-- Time passes until the bearing reaches `target` (2^-20 units) forward, without a crossing of 0 counted twice. -/
def State.elapseToAngle (s : State) (target : Nat) : State :=
  let dist := (target + turn52 - s.cps.bear) % turn52
  s.elapse (ticksToAdvance (s.reg Reg.CPS_BEAR_RATE).toNat s.slewMax s.cps.rem dist)

/-- The bearing with whole turns counted, in 2^-20 bearing unit: a crossing of 0 counts once (R55). -/
def State.absBear (s : State) : Int :=
  ((((s.reg Reg.CPS_BEAR_CYCLE).toNat + s.cps.wrapPend.toNat : Nat) : Int) - (s.cps.owe.toNat : Int)) * (turn52 : Int) + (s.cps.bear : Int)

/-- The next absolute bearing, after the present one, whose angle is `a` (2^-20 unit). -/
def State.nextCrossing (s : State) (a : Nat) : Int :=
  let d := (a + turn52 - s.cps.bear) % turn52
  s.absBear + ((if d = 0 then turn52 else d : Nat) : Int)

/-- Time passes until the absolute bearing reaches `t`, which lies within a turn. -/
def State.elapseNear (s : State) (t : Int) : State :=
  if t ≤ s.absBear then s
  else s.elapse (ticksToAdvance (s.reg Reg.CPS_BEAR_RATE).toNat s.slewMax s.cps.rem (t - s.absBear).toNat)

/-- Time passes until the absolute bearing reaches `t`. A crossing of 0 that the bearing owes is passed on the way (R55). -/
def State.elapseToAbs (s : State) (t : Int) : State :=
  let zero : Int := (((s.reg Reg.CPS_BEAR_CYCLE).toNat : Nat) : Int) * (turn52 : Int)
  if s.cps.owe && decide (zero < t) then (s.elapseNear zero).elapseNear t else s.elapseNear t

/-- The bearing at the fine instant `f`, now or past, in 2^-20 bearing unit: on from the last point of the track at or before it. -/
def State.bearingAt (s : State) (f : Nat) : Rat :=
  match s.resamp.track.find? (fun p => decide (32 * p.t ≤ f)) with
  | some p =>
    let n := f / 32 - p.t
    let adv : Int := (p.rate : Int) + slewOver (p.remAt n) p.slew 1
    (p.bearAt n : Rat) + (adv : Rat) * ((f % 32 : Nat) : Rat) / 32
  | none => (s.cps.bear : Rat)

/-- The ticks of a cycle at the present rate. -/
def State.cycleTicks (s : State) : Nat := ceilDiv turn52 (s.reg Reg.CPS_BEAR_RATE).toNat

/-- The bearing frequency in Hz, exactly: BEAR_RATE × f_SYSCLK / 2^52. -/
def State.freqQ (s : State) : Rat := ((s.reg Reg.CPS_BEAR_RATE).toNat : Rat) * 400000000 / ((2 ^ 52 : Nat) : Rat)

end Sys2Proof.Machine
end

