-- ==== Sys2Proof/Machine/Gd.lean ====
section
/-! DEFINITION. Gate Drive (spec/10): gates, dead time, minimum on-time, fault inputs, leg trips, bridge shutdown, ESTOP,
release. -/

namespace Sys2Proof.Machine

def State.gdLeg (s : State) (n : Nat) : GdLeg := nth GdLeg.reset s.gd.legs n
def State.modGd (s : State) (n : Nat) (f : GdLeg → GdLeg) : State := { s with gd := { s.gd with legs := modAt n f s.gd.legs } }
def State.pwmLeg (s : State) (n : Nat) : PwmLeg := nth PwmLeg.reset s.pwm.legs n
def State.modPwm (s : State) (n : Nat) (f : PwmLeg → PwmLeg) : State :=
  { s with pwm := { s.pwm with legs := modAt n f s.pwm.legs } }

/-- GD_LEG_CTRL bits of leg `n` (R232). -/
def State.legEn (s : State) (n : Nat) : Bool := s.bitOf (Reg.GD_LEG_CTRL n) 0
def State.latH (s : State) (n : Nat) : Bool := s.bitOf (Reg.GD_LEG_CTRL n) 6
def State.latL (s : State) (n : Nat) : Bool := s.bitOf (Reg.GD_LEG_CTRL n) 7
def State.legOff (s : State) (n : Nat) : Bool := s.bitOf (Reg.GD_LEG_CTRL n) 8

/-- The ESTOP latch is set or the pin is low (R226). -/
def State.estopActive (s : State) : Bool := s.gd.estop || s.gd.estopPin

/-- The bridge is ARMED or in the precharge of an ARM (R219). -/
def State.bridgeOn (s : State) : Bool := s.gd.armed || s.gd.arming

/-- The remap of legs B and C in force (R67). -/
def State.swapLeg (s : State) (n : Nat) : Nat :=
  if s.flag F.CPS_STAT_SWAPPED then (if n = 1 then 2 else if n = 2 then 1 else n) else n

/-- ELC drives legs 0 to 2 (R205, R217). -/
def State.elcOn (s : State) : Bool := decide (s.get F.PWM_CFG_OWNER = 3)

/-- The command the ELC pin of leg `n` gives: its level XOR its INV bit (R217). -/
def State.elcCmd (s : State) (n : Nat) : Bool := s.gd.elc.getLsbD n != s.bitOf Reg.GD_ELC_CFG n

/-- The command of gate leg `n`: PWM's after the remap, or the ELC pin's once commands reach the leg (R210, R217). -/
def State.gdCmd (s : State) (n : Nat) : Bool :=
  if s.elcOn && decide (n < 3) then s.elcCmd n && (s.pwmLeg (s.swapLeg n)).live else (s.pwmLeg (s.swapLeg n)).cmd

/-- The boost of leg `n` is held off for a sweep's VOC cycle (R189). -/
def State.boostHeld (s : State) (n : Nat) : Bool :=
  match s.mode.sweep with
  | some w => w.begun && w.point.isNone && decide (w.strings.head? = some (n - 5)) && decide (5 ≤ n)
  | none => false

/-- Commands may turn a switch of leg `n` on: the bridge runs, no shutdown does, the leg is enabled and holds no latch that
bars that side (`high`), ESTOP is clear. -/
def State.mayTurnOn (s : State) (n : Nat) (high : Bool) : Bool :=
  s.live Pg.GD && s.bridgeOn && s.legEn n && !s.legOff n && !s.estopActive && !(s.gdLeg n).failed &&
  !s.boostHeld n &&
  (if high then !s.latH n else !s.latL n)

/-- A switch turns on, or off, at the fine instant `t`. -/
def Switch.turnOn (w : Switch) (t : Nat) : Switch := if w.on then w else { w with on := true, onAt := t }
def Switch.turnOff (w : Switch) (t : Nat) : Switch := if w.on then { w with on := false, offAt := some t } else w

/-- The high side is turned on, only while the low side is off (R215); the low side likewise. -/
def GdLeg.hiOn (l : GdLeg) (t : Nat) : GdLeg := if l.lo.on then l else { l with hi := l.hi.turnOn t }
def GdLeg.loOn (l : GdLeg) (t : Nat) : GdLeg := if l.hi.on then l else { l with lo := l.lo.turnOn t }

/-- The high side, or the low side, is turned off at once. -/
def GdLeg.hiOff (l : GdLeg) (t : Nat) : GdLeg := { l with hi := l.hi.turnOff t, gminHi := none }
def GdLeg.loOff (l : GdLeg) (t : Nat) : GdLeg := { l with lo := l.lo.turnOff t, gminLo := none }

/-- Both switches off and nothing pending. -/
def GdLeg.allOff (t : Nat) (l : GdLeg) : GdLeg :=
  { (l.hiOff t).loOff t with dt := none, pulse := none, tripLow := none }

/-- The gate minimum on-time in 1/32 tick (R216), the dead times of leg `n`. -/
def State.gmin (s : State) : Nat := 32 * s.get F.GD_CFG_GMIN
def State.dtRise (s : State) (n : Nat) : Nat := 32 * wbits (s.reg (Reg.GD_DT_RISE n)) 0 10
def State.dtFall (s : State) (n : Nat) : Nat := 32 * wbits (s.reg (Reg.GD_DT_FALL n)) 0 10

/-- The switch whose turn-off begins the dead time of a command edge: the one that turns off now (`on` before the edge), else the one
that began the dead time still in progress, if any (R214, R220). -/
def GdLeg.dtFrom (l : GdLeg) (on side : Bool) : Option Bool := if on then some side else if l.dt.isSome then l.dtBy else none

/-- A rising command edge on a complementary leg at the fine instant `t` (R214, R216): the low side goes off, not before its
minimum on-time, and the dead time counts from there. -/
def GdLeg.riseEdge (l : GdLeg) (g d t : Nat) : GdLeg :=
  if l.hi.on then { l with gminHi := none, dt := none, dtBy := none }
  else if l.lo.on && decide (t < l.lo.onAt + g) then
    { l with gminLo := some (l.lo.onAt + g), dt := some (true, l.lo.onAt + g + d), dtBy := some false }
  else { l.loOff t with dt := some (true, t + d), dtBy := l.dtFrom l.lo.on false }

/-- A falling command edge on a complementary leg (R214, R216). -/
def GdLeg.fallEdge (l : GdLeg) (g d t : Nat) : GdLeg :=
  if l.lo.on then { l with gminLo := none, dt := none, dtBy := none }
  else if l.hi.on && decide (t < l.hi.onAt + g) then
    { l with gminHi := some (l.hi.onAt + g), dt := some (false, l.hi.onAt + g + d), dtBy := some true }
  else { l.hiOff t with dt := some (false, t + d), dtBy := l.dtFrom l.hi.on true }

/-- A command edge on a single leg (R214): the gate follows the command, not before its minimum on-time. -/
def GdLeg.singleEdge (l : GdLeg) (g t : Nat) (up : Bool) : GdLeg :=
  if up then (if l.hi.on then { l with gminHi := none } else { l with hi := l.hi.turnOn t })
  else if l.hi.on && decide (t < l.hi.onAt + g) then { l with gminHi := some (l.hi.onAt + g) }
  else l.hiOff t

/-- A command edge reaches gate leg `n` at the fine instant `t`. A leg that is LEGOFF takes none: after a leg trip its low side goes
off at the end of SDDLY, not before (R223). -/
def State.gateEdge (s : State) (n : Nat) (up : Bool) (t : Nat) : State :=
  if !s.bridgeOn || !s.legEn n || s.legOff n then s
  else if n < 5 then
    (if up then s.modGd n (fun l => l.riseEdge s.gmin (s.dtRise n) t) else s.modGd n (fun l => l.fallEdge s.gmin (s.dtFall n) t))
  else if up then (if s.mayTurnOn n true then s.modGd n (fun l => l.singleEdge s.gmin t true) else s)
  else s.modGd n (fun l => l.singleEdge s.gmin t false)

/-- Turn-offs delayed by the minimum on-time that are due by the fine instant `t` happen at their instants. -/
def GdLeg.dueOff (l : GdLeg) (t : Nat) : GdLeg :=
  let l := match l.gminHi with
    | some x => if x ≤ t then l.hiOff x else l
    | none => l
  match l.gminLo with
  | some x => if x ≤ t then l.loOff x else l
  | none => l

/-- The twelve gate levels in the order of pins 52 to 63, as a number (R221). -/
def State.gateLevels (s : State) : Nat :=
  ((List.range 5).map (fun n => (s.gdLeg n).hi.on.toNat * 2 ^ (2 * n) + (s.gdLeg n).lo.on.toNat * 2 ^ (2 * n + 1))).sum +
  (s.gdLeg 5).hi.on.toNat * 2 ^ 10 + (s.gdLeg 6).hi.on.toNat * 2 ^ 11

/-- Data word 1 of a GD record: the leg commands and the gate levels (R221, R224). -/
def State.gateWord (s : State) : Word :=
  BitVec.ofNat 32 (((List.range 7).map (fun n => (s.gdCmd n).toNat * 2 ^ n)).sum + s.gateLevels * 2 ^ 16)

/-! ### Leaving ARMED -/

/-- PWM's commands are 0 while the bridge is not ARMED (R195). -/
def PwmLeg.disarm (l : PwmLeg) : PwmLeg :=
  { l with cmd := false, late := none, lateNext := false, point := none, refresh := none, waitLoad := false, highs := 0, allHigh := false, pulses := 0,
           live := false, edgeDone := true, movedBy := none }

/-- The loads that wait for a refresh complete as it ends with the command (R209, R195). -/
def State.waitedLoads (s : State) : State :=
  (List.range 7).foldl (fun s n =>
    if (s.pwmLeg n).waitLoad then s.setReg (Reg.PWM_ACT_CMP n) (s.reg (Reg.PWM_SH_CMP n)) else s) s

/-- MODE judges no request any more: one it held for the end of a blend is stored (R172, R182). -/
def State.dropAsk (s : State) : State :=
  let t := { s with mode := { s.mode with ask := none, blend := none, start := false } }
  match s.mode.ask with
  | some (.request r) => (t.put F.MODE_REQ_REQ r).putFlag F.MODE_STAT_AUTO (decide (r = 3))
  | _ => t

/-- The bridge leaves ARMED: PWM's commands go to 0, MODE shows STANDBY (R172), a stored SEQSWAP takes effect (R67). -/
def State.leaveArmed (s : State) : State :=
  let was := s.get F.MODE_STAT_ACTIVE
  let s := s.waitedLoads
  let s := { s with
    gd := { s.gd with armed := false, arming := false }
    pwm := { s.pwm with legs := s.pwm.legs.map PwmLeg.disarm, tb0 := { s.pwm.tb0 with prech := false },
                        tb1 := { s.pwm.tb1 with prech := false } } }
  let s := ((s.dropAsk).put F.MODE_STAT_ACTIVE 0).putFlag F.MODE_STAT_BLEND false
  let s := (s.put F.MODE_STAT_MPPT0 0).put F.MODE_STAT_MPPT1 0
  let s := s.putFlag F.CPS_STAT_SWAPPED (s.flag F.CPS_CFG_SEQSWAP)
  if was ≠ 0 then s.note Pg.MODE 0 else s

/-- A bridge shutdown for `cause` (R224). One that starts while another runs, or with the bridge not ARMED, changes nothing. -/
def State.shutdown (s : State) (cause : Nat) : State :=
  if !s.bridgeOn then s
  else
    let d1 := s.gateWord
    let t := s.fine
    let dly := s.get F.GD_CFG_SDDLY
    let off : GdLeg → GdLeg := fun l =>
      { l.hiOff t with dt := none, gminLo := none, pulse := none, ce := none, stage := .none }
    let s := { s with gd := { s.gd with legs := s.gd.legs.map (fun l => if dly = 0 then (off l).loOff t else off l),
                                        sdLow := if dly = 0 then none else some (s.now + dly) } }
    let s := (s.put F.GD_FLT_STAT_SDCAUSE cause).putFlag F.GD_FLT_STAT_SHUTDOWN true
    let s := s.leaveArmed
    if cause = 6 then s else (s.occurNext Pg.GD 6).logRec (0x1A10 + cause) (BitVec.ofNat 32 cause) d1

/-- A DISARM: a shutdown with cause 6 (R224, R414). -/
def State.disarm (s : State) : State := s.shutdown 6

/-- The whole leg is latched off, both switches at once (R221, R222). -/
def State.latchLeg (s : State) (n : Nat) : State :=
  (s.modGd n (GdLeg.allOff s.fine)).putBit (Reg.GD_LEG_CTRL n) 8 true

/-- A leg trip from a destination D0 to D5 (R223): the high side off at once, the low side after SDDLY. A leg
that is LEGOFF already is left as it is. -/
def State.tripLeg (s : State) (n : Nat) : State :=
  let t := s.fine
  let dly := s.get F.GD_CFG_SDDLY
  if s.legOff n then s
  else (s.modGd n (fun l =>
    let l := { l.hiOff t with dt := none, gminLo := none, pulse := none }
    if dly = 0 then l.loOff t else { l with tripLow := some (s.now + dly) })).putBit (Reg.GD_LEG_CTRL n) 8 true

/-- The action of destination D`d`, d below 7 (R223): a leg trip, whether or not the bridge runs, or a shutdown with cause 2. -/
def State.gdDest (s : State) (d : Nat) : State :=
  if !s.live Pg.GD then s
  else if d = 6 then s.shutdown 2
  else if d = 5 then (s.tripLeg 5).tripLeg 6
  else s.tripLeg d

/-! ### Fault inputs (R219 to R222) -/

/-- The legs of fault input `i`. -/
def faultLegs (i : Nat) : List Nat := if i < 5 then [i] else [5, 6]

/-- W of R220, in ticks. -/
def State.blameWindow (s : State) (n : Nat) : Nat :=
  wbits (s.reg Reg.GD_FLT_FILT) 0 7 + 2 +
    (if n < 5 then max (wbits (s.reg (Reg.GD_DT_RISE n)) 0 10) (wbits (s.reg (Reg.GD_DT_FALL n)) 0 10) else 0)

/-- Whom a fault on complementary leg `n` blames (R220): some true for the high side, and whether step 2 or 3 found it. -/
def State.blameLeg (s : State) (n : Nat) : Option Bool × Bool :=
  let l := s.gdLeg n
  if l.hi.on then (some true, false)
  else if l.lo.on then (some false, false)
  else match l.dt, l.dtBy with
    | some _, some side => (some side, true)
    | _, _ =>
      let late := max (l.hi.offAt.getD 0) (l.lo.offAt.getD 0)
      if (l.hi.offAt.isSome || l.lo.offAt.isSome) && decide (s.fine - late ≤ 32 * s.blameWindow n) then
        (some (decide (l.hi.offAt = some late)), true)
      else (none, false)

/-- Which boost switches a fault on FLT_BST blames (R220), and whether step 3 found them. -/
def State.blameBoost (s : State) : List Nat × Bool :=
  let a := s.gdLeg 5
  let b := s.gdLeg 6
  if a.hi.on || b.hi.on then ((if a.hi.on then [5] else []) ++ (if b.hi.on then [6] else []), false)
  else
    let late := max (a.hi.offAt.getD 0) (b.hi.offAt.getD 0)
    if (a.hi.offAt.isSome || b.hi.offAt.isSome) && decide (s.fine - late ≤ 32 * s.blameWindow 5) then
      ((if a.hi.offAt = some late then [5] else []) ++ (if b.hi.offAt = some late then [6] else []), true)
    else ([], false)

/-- A fault during a leg's qualification test fails the test (R228). -/
def State.failTest (s : State) (n : Nat) : State :=
  if (s.gdLeg n).quar && !(s.gdLeg n).failed then
    let q := wbits (s.reg (Reg.GD_LEG_CTRL n)) 24 4
    let s := s.modGd n (fun l => { l.allOff s.fine with failed := true, stage := .none, ce := none })
    let s := s.modPwm (s.swapLeg n) (fun l => { l with cmd := false, live := false, pulses := 0 })
    (s.setReg (Reg.GD_LEG_CTRL n) (wput (s.reg (Reg.GD_LEG_CTRL n)) 24 4 (satTo 15 (q + 1)))).logRec 0x1A20
      0#32 0#32
  else s

/-- GD_ATTRIB of a latched fault (R221, R232): of faults in one tick the lower-numbered input stands. -/
def State.attribute (s : State) (input blame : Nat) (dt : Bool) : State :=
  let s := s.inc F.GD_ATTRIB_COUNT
  if s.gd.attribAt = s.now ∧ s.get F.GD_ATTRIB_COUNT ≠ 1 ∧ s.get F.GD_ATTRIB_INPUT < input then s
  else
    let s := ((s.put F.GD_ATTRIB_INPUT input).put F.GD_ATTRIB_BLAME blame).putFlag F.GD_ATTRIB_DT dt
    { s with gd := { s.gd with attribAt := s.now } }

/-- The switch of a leg is turned off and latched off (R221). -/
def State.latchSwitch (s : State) (n : Nat) (high : Bool) : State :=
  if high then (s.modGd n (fun l => l.hiOff s.fine)).putBit (Reg.GD_LEG_CTRL n) 6 true
  else (s.modGd n (fun l => { l.loOff s.fine with pulse := none })).putBit (Reg.GD_LEG_CTRL n) 7 true

/-- The filtered edge of fault input `i` with the bridge running and a leg of the input enabled (R220 to R222). -/
def State.faultLatch (s : State) (i : Nat) : State :=
  let d1 := s.gateWord
  let hold := wbits (s.reg Reg.GD_FLT_HOLD) 0 16
  let policy := wbits (s.reg Reg.GD_FPOL) (2 * i) 2
  let s' := if i < 5 then
      (match s.blameLeg i with
        | (some side, dt) =>
          ((s.latchSwitch i side).attribute i (if side then 2 else 1) dt).logRec (if side then 0x1A03 else 0x1A02)
            (BitVec.ofNat 32 i) d1
        | (none, dt) => ((s.latchLeg i).attribute i 0 dt).logRec 0x1A01 (BitVec.ofNat 32 i) d1)
    else
      (match s.blameBoost with
        | ([], dt) => (((s.latchLeg 5).latchLeg 6).attribute i 0 dt).logRec 0x1A01 5#32 d1
        | ([n], dt) => ((s.latchSwitch n true).attribute i (n - 2) dt).logRec 0x1A04 (BitVec.ofNat 32 n) d1
        | (_, dt) => (((s.latchSwitch 5 true).latchSwitch 6 true).attribute i 5 dt).logRec 0x1A05 5#32 d1)
  let s' := (faultLegs i).foldl State.failTest s'
  let s' := s'.occurNext Pg.GD i
  match nth none s'.gd.hold i with
  | some _ => s'
  | none => { s' with gd := { s'.gd with hold := modAt i (fun _ => some (s'.now + max 1 hold, policy)) s'.gd.hold } }

/-- The pin of fault input `i` has stood at its level (`low` for a fault) for `held` ticks now. It passes the synchroniser of R23 and
then the filter: the edge is the tick of the FILT-th consecutive sample (R219). ASSERT shows the level whether or not GD judges it. -/
def State.faultInput (s : State) (i : Nat) (low : Bool) (held : Nat) : State :=
  if !s.pageReady Pg.GD || s.pwr.srst.getLsbD Pg.GD || decide (held < wbits (s.reg Reg.GD_FLT_FILT) 0 7 + 2) then s
  else
    let was := s.bitOf Reg.GD_FLT_STAT i
    let s := s.putBit Reg.GD_FLT_STAT i low
    if s.live Pg.GD && low && !was && s.bridgeOn && (faultLegs i).any s.legEn then s.faultLatch i else s

/-- The hold timer of input `i` expires: its policy applies (R222). -/
def State.holdExpiry (s : State) (i : Nat) : State :=
  match nth none s.gd.hold i with
  | none => s
  | some (t, policy) =>
    let s := s.elapseTo t
    let s := { s with gd := { s.gd with hold := modAt i (fun _ => none) s.gd.hold } }
    if policy = 0 then s
    else if policy = 1 then (faultLegs i).foldl State.latchLeg s
    else s.shutdown 1

/-! ### Timers of the gates -/

/-- The dead time of leg `n` expires (R214): the side turns on if the command still calls for it. -/
def State.deadEnd (s : State) (n : Nat) : State :=
  match (s.gdLeg n).dt with
  | none => s
  | some (side, t) =>
    let s := (s.elapseFine t).modGd n (fun l => { l.dueOff t with dt := none })
    if (s.gdCmd n == side) && s.mayTurnOn n side then
      s.modGd n (fun l => if side then l.hiOn t else l.loOn t)
    else s

/-- The earlier of the delayed turn-offs of leg `n` (R216). -/
def State.gminEnd (s : State) (n : Nat) : State :=
  match (s.gdLeg n).gminHi, (s.gdLeg n).gminLo with
  | none, none => s
  | some t, none => (s.elapseFine t).modGd n (fun l => l.dueOff t)
  | none, some t => (s.elapseFine t).modGd n (fun l => l.dueOff t)
  | some a, some b => (s.elapseFine (min a b)).modGd n (fun l => l.dueOff (min a b))

/-- The low sides turn off SDDLY after a shutdown or leg trip (R223, R224). -/
def State.lowOff (s : State) : State :=
  match s.gd.sdLow with
  | some t =>
    let s := s.elapseTo t
    { s with gd := { s.gd with sdLow := none, legs := s.gd.legs.map (fun l => { l.loOff s.fine with tripLow := none }) } }
  | none =>
    match (s.gd.legs.filterMap (fun l => l.tripLow)).min? with
    | none => s
    | some t =>
      let s := s.elapseTo t
      { s with gd := { s.gd with legs := s.gd.legs.map (fun l =>
          if l.tripLow = some t then { l.loOff s.fine with tripLow := none } else l) } }

/-! ### ESTOP (R226) -/

/-- The latch becomes visible to D5 POWERSTAGE: the bridge leaves ARMED, cause 4, source 62, record 0x1A14. -/
def State.estopObserve (s : State) : State :=
  let d1 := s.gateWord
  let first := s.gd.sdLow.isNone
  let s := { s with gd := { s.gd with estopSeen := true, sdLow := none, legs := s.gd.legs.map (GdLeg.allOff s.fine) } }
  let s := if first then s.put F.GD_FLT_STAT_SDCAUSE 4 else s
  let s := (s.putFlag F.GD_FLT_STAT_SHUTDOWN true)
  let s := if s.bridgeOn then s.leaveArmed else s
  (s.occurNext Pg.GD 6).logRec 0x1A14 4#32 d1

/-- ESTOP_N goes low (held 50 ns or more), or high again. -/
def State.estopPinEdge (s : State) (low : Bool) : State :=
  if !low then { s with gd := { s.gd with estopPin := false } }
  else
    let fresh := !s.gd.estop
    let s := { s with gd := { s.gd with estopPin := true, estop := true } }
    let s := if s.live Pg.EVR then s.pulseIn 1 56 else s
    if s.domReady 5 then (if fresh then s.estopObserve else s)
    else { s with gd := { s.gd with estopSeen := s.gd.estopSeen && !fresh } }

/-- A write of 1 to GD_CFG.ESTOPCLR (R226). -/
def State.estopClr (s : State) : State :=
  if s.gd.estopPin then s else { s with gd := { s.gd with estop := false } }

/-! ### Release (R227) and the legs' quarantine -/

/-- The fault input of leg `n`. -/
def legInput (n : Nat) : Nat := if n < 5 then n else 5

/-- The test of a leg in quarantine starts: at its precharge where it has one, else at the blend (R228). -/
def GdLeg.startTest (l : GdLeg) (pre : Bool) : GdLeg :=
  { l with quar := true, failed := false, cycles := 0, ticks := 0, ce := none, stage := if pre then .precharge else .blend }

/-- Its command is held at 0 until the test takes it over, with `pulses` precharge pulses to come. -/
def PwmLeg.startTest (l : PwmLeg) (pulses : Nat) : PwmLeg :=
  { l with cmd := false, live := false, pulses := pulses, refresh := none, late := none, lateNext := false, point := none,
           edgeDone := true }

/-- Leg `n` enters quarantine: its test starts at its first stage (R228). -/
def State.legQuar (s : State) (n : Nat) : State :=
  let pulses := if n < 5 then s.get F.PWM_BSR_CFG_PCNT else 0
  let pre := decide (0 < pulses)
  if s.gd.armed then
    (s.modGd n (fun l => (l.allOff s.fine).startTest pre)).modPwm (s.swapLeg n) (fun l => l.startTest pulses)
  else s.modGd n (fun l => l.startTest pre)

/-- Four cycles from entry have ended without a pass (R49, R228): QFAIL increments, and the test starts again. -/
def State.legWindowFail (s : State) (n : Nat) : State :=
  let l := s.gdLeg n
  if s.live Pg.GD && s.gd.armed && s.legEn n && l.quar && !l.failed && decide (4 ≤ l.cycles) then
    let w := s.reg (Reg.GD_LEG_CTRL n)
    (s.setReg (Reg.GD_LEG_CTRL n) (wput w 24 4 (satTo 15 (wbits w 24 4 + 1)))).legQuar n
  else s

/-- Leg `n` leaves quarantine and follows CMP from its next ZERO point. -/
def State.legUnquar (s : State) (n : Nat) : State :=
  (s.modGd n (fun l => { l with quar := false, failed := false, stage := .none, ce := none, cycles := 0 })).modPwm (s.swapLeg n)
    (fun l => { l with pulses := 0 })

/-- A write of 1 to GD_LEG_CTRL[n].RELEASE (R227). -/
def State.release (s : State) (n : Nat) : State :=
  let i := legInput n
  if s.bitOf Reg.GD_FLT_STAT i || (nth none s.gd.hold i).isSome then s
  else
    let a := Reg.GD_LEG_CTRL n
    let s := ((s.putBit a 6 false).putBit a 7 false).putBit a 8 false
    let s := s.modGd n (fun l => { l with tripLow := none })
    if s.bridgeOn && s.legEn n then s.legQuar n
    else s.modGd n (fun l => { l with failed := false, stage := if l.quar then .precharge else l.stage })

/-- What of R225 bars an ARM: the ESTOP latch or pin, a fault asserted on an input with an enabled leg, an enabled leg that
holds a latch, a hold timer that runs. -/
def State.gateBars (s : State) : Bool :=
  s.estopActive ||
  (List.range 6).any (fun i => s.bitOf Reg.GD_FLT_STAT i && (faultLegs i).any s.legEn) ||
  (List.range 7).any (fun n => s.legEn n && (s.latH n || s.latL n || s.legOff n)) ||
  s.gd.hold.any Option.isSome

/-- The ELC commands `was` before a change have become those of now: each that differs is a command edge of its leg (R217). -/
def State.elcEdges (s : State) (was : Nat → Bool) : State :=
  [0, 1, 2].foldl (fun s n => if s.elcOn && (s.gdCmd n != was n) then s.gateEdge n (s.gdCmd n) s.fine else s) s

/-- The ELC pin of leg `n` has stood at `level` for `held` ticks now: past the synchroniser of R23 and the filter, FILT + 3 ticks after
the pin edge, it is taken, and under OWNER = ELC the leg's command follows (R217). -/
def State.elcInput (s : State) (n : Nat) (level : Bool) (held : Nat) : State :=
  if !s.domReady 5 || decide (held < wbits (s.reg Reg.GD_ELC_CFG) 8 8 + 3) then s
  else
    let was := s.gdCmd
    ({ s with gd := { s.gd with elc := (s.gd.elc &&& ~~~(1#3 <<< n)) ||| (if level then 1#3 <<< n else 0#3) } }).elcEdges was

end Sys2Proof.Machine
end

