-- ==== Sys2Proof/Machine/Crc.lean ====
section
/-! DEFINITION. The checks the spec computes over bytes: CRC-8 with polynomial 0x07 (R476, R537) and CRC-32C (R290, R430,
R483, R487, R488). -/

namespace Sys2Proof.Machine

/-- `n` steps of the CRC-8 register with polynomial x^8 + x^2 + x + 1, unreflected. -/
def crc8Steps : Nat → Byte → Byte
  | 0, c => c
  | n + 1, c => crc8Steps n (if c.msb then (c <<< 1) ^^^ 0x07#8 else c <<< 1)

/-- CRC-8 of a list of bytes from the register value `c` (R476). -/
def crc8 : Byte → List Byte → Byte
  | c, [] => c
  | c, b :: bs => crc8 (crc8Steps 8 (c ^^^ b)) bs

/-- `n` steps of the reflected CRC-32C register (polynomial 0x1EDC6F41, reflected 0x82F63B78). -/
def crc32cSteps : Nat → Word → Word
  | 0, c => c
  | n + 1, c => crc32cSteps n (if c.getLsbD 0 then (c >>> 1) ^^^ 0x82F63B78#32 else c >>> 1)

/-- The CRC-32C register after a list of bytes. -/
def crc32cReg : Word → List Byte → Word
  | c, [] => c
  | c, b :: bs => crc32cReg (crc32cSteps 8 (c ^^^ b.zeroExtend 32)) bs

/-- CRC-32C: start at all ones, complement at the end. -/
def crc32c (bs : List Byte) : Word := ~~~ crc32cReg 0xFFFFFFFF#32 bs

/-- CRC-32C over words, least significant byte first. -/
def crc32cWords (ws : List Word) : Word := crc32c (ws.flatMap wbytes)

/-- `n` steps of the reflected CRC-16 register of Modbus (polynomial 0x8005, reflected 0xA001). -/
def crc16Steps : Nat → BitVec 16 → BitVec 16
  | 0, c => c
  | n + 1, c => crc16Steps n (if c.getLsbD 0 then (c >>> 1) ^^^ 0xA001#16 else c >>> 1)

/-- CRC-16 of a list of bytes from the register value `c` (R339: as the Modbus specification defines it, from all ones). -/
def crc16 : BitVec 16 → List Byte → BitVec 16
  | c, [] => c
  | c, b :: bs => crc16 (crc16Steps 8 (c ^^^ b.zeroExtend 16)) bs

end Sys2Proof.Machine
end

