-- ==== Sys2Proof/Machine/Pwm.lean ====
section
/-! DEFINITION. The PWM generator (spec/09): timebases, compares, loading, late edges, refresh, precharge, reports to SPEC,
and the stages of a leg's re-admission that fall on its ZERO points (R228). -/

namespace Sys2Proof.Machine

/-- Legs 0 to 3 are on TB0, legs 4 to 6 on TB1 (R195). -/
def tbOf (n : Nat) : Nat := if n < 4 then 0 else 1
def tbLegs (k : Nat) : List Nat := if k = 0 then [0, 1, 2, 3] else [4, 5, 6]

def State.tb (s : State) (k : Nat) : Timebase := if k = 0 then s.pwm.tb0 else s.pwm.tb1
def State.setTb (s : State) (k : Nat) (t : Timebase) : State :=
  if k = 0 then { s with pwm := { s.pwm with tb0 := t } } else { s with pwm := { s.pwm with tb1 := t } }

/-- Counter ticks (1/32) since the ZERO point of the period. -/
def Timebase.gone (t : Timebase) (f : Nat) : Nat := ((((f : Nat) : Int) - t.zero).toNat) / t.ck

/-- On the up slope: the tick in which the counter reaches HP belongs to it (R196). -/
def Timebase.up (t : Timebase) (f : Nat) : Bool := decide (t.gone f ≤ t.hp)

/-- The counter, in 1/32 counter tick; it holds at 0 after its down slope (R198). -/
def Timebase.count (t : Timebase) (f : Nat) : Nat :=
  if t.up f then t.gone f else if t.gone f ≤ 2 * t.hp then 2 * t.hp - t.gone f else 0

/-- The active compare of leg `n`, and the compare its command follows: the blend's while it is re-admitted (R228). -/
def State.actCmp (s : State) (n : Nat) : Nat := wbits (s.reg (Reg.PWM_ACT_CMP n)) 0 21
def State.effCmp (s : State) (n : Nat) : Nat := ((s.gdLeg (s.swapLeg n)).ce).getD (s.actCmp n)

/-- PWM_MIN_PULSE in 1/32 tick. -/
def State.minPulse (s : State) : Nat := 32 * wbits (s.reg Reg.PWM_MIN_PULSE) 0 12

/-- A step's record, and a change of it. -/
def State.stepRec (s : State) (id : Nat) : Option StepRec := s.ctl.steps.find? (fun r => r.id = id)
def State.modStep (s : State) (id : Nat) (f : StepRec → StepRec) : State :=
  { s with ctl := { s.ctl with steps := s.ctl.steps.map (fun r => if r.id = id then f r else r) } }

/-- The first edge governed by the compare that a step loaded on leg `n` fires in tick `t`: the step's horizon, where it has none yet
(R154, R211). -/
def State.edgeMoved (s : State) (n t : Nat) : State :=
  match (s.pwmLeg n).movedBy with
  | none => s
  | some id =>
    (s.modStep id (fun r => if r.horizon.isNone then { r with horizon := some t } else r)).modPwm n (fun l => { l with movedBy := none })

/-- The command of leg `n` changes at the fine instant `t`. -/
def State.pwmCmd (s : State) (n : Nat) (up : Bool) (t : Nat) : State :=
  if (s.pwmLeg n).cmd == up then s
  else
    let s := s.modPwm n (fun l =>
      { l with cmd := up, edgeAt := t,
               high := if up then l.high else l.high + (t - l.since), since := t,
               highs := if up then l.highs else 0, allHigh := l.allHigh && up })
    if s.elcOn && decide (s.swapLeg n < 3) then s else s.gateEdge (s.swapLeg n) up t

/-- A command edge of leg `n` that its compare governs. The edges of a refresh are `pwmCmd` alone: they are never moved edges (R154). -/
def State.pwmEdge (s : State) (n : Nat) (up : Bool) (t : Nat) : State :=
  if (s.pwmLeg n).cmd == up then s else (s.edgeMoved n (ceilDiv t 32)).pwmCmd n up t

/-- A late edge fires (R206, R207): no edge of the leg follows within MIN_PULSE. -/
def State.lateFire (s : State) (n : Nat) (up : Bool) (t : Nat) : State :=
  let s := (s.pwmEdge n up t).modPwm n (fun l => { l with late := none, bar := t + s.minPulse })
  (s.inc F.PWM_LATECNT_LATE).occur Pg.PWM 7

/-! ### Events (R212) -/

/-- The prescaled occurrence of event `b`: raised on the N-th, N the field plus 1. Answers the new count. -/
def State.prescaled (s : State) (b count limit : Nat) : Nat × State :=
  if limit ≤ count then (0, s.occur Pg.PWM b) else (count + 1, s)

def State.cmp0Match (s : State) : State :=
  let (c, s) := s.prescaled 2 s.pwm.nCmp0 (s.get F.PWM_EVT_PRESC_P_CMP0)
  { s with pwm := { s.pwm with nCmp0 := c } }
def State.cmp1Match (s : State) : State :=
  let (c, s) := s.prescaled 3 s.pwm.nCmp1 (s.get F.PWM_EVT_PRESC_P_CMP1)
  { s with pwm := { s.pwm with nCmp1 := c } }

/-- The TB0 counter passes the active compare of leg `n` on the slope `up`. -/
def State.cmpMatch (s : State) (n : Nat) (up : Bool) : State :=
  let slope := if up then 0 else 1
  let s := if s.get F.PWM_CFG_CMP0LEG = n ∧ natBit (s.get F.PWM_CFG_CMP0SLOPE) slope then s.cmp0Match else s
  if s.get F.PWM_CFG_CMP1LEG = n ∧ natBit (s.get F.PWM_CFG_CMP1SLOPE) slope then s.cmp1Match else s

/-- ZERO or PERIOD event of timebase `k`. -/
def State.zeroEvent (s : State) (k : Nat) : State :=
  let t := s.tb k
  let (c, s) := s.prescaled (if k = 0 then 0 else 4) t.nZero
    (if k = 0 then s.get F.PWM_EVT_PRESC_P_TB0 else s.get F.PWM_EVT_PRESC_P_TB1)
  s.setTb k { s.tb k with nZero := c }

/-- A write of PWM_EVT_PRESC writes all its fields: every prescale count returns to 0. -/
def State.prescClear (s : State) : State :=
  { s with pwm := { s.pwm with nCmp0 := 0, nCmp1 := 0, tb0 := { s.pwm.tb0 with nZero := 0, nPeriod := 0 },
                               tb1 := { s.pwm.tb1 with nZero := 0, nPeriod := 0 } } }

def State.periodEvent (s : State) (k : Nat) : State :=
  let t := s.tb k
  let (c, s) := s.prescaled (if k = 0 then 1 else 5) t.nPeriod
    (if k = 0 then s.get F.PWM_EVT_PRESC_P_TB0 else s.get F.PWM_EVT_PRESC_P_TB1)
  s.setTb k { s.tb k with nPeriod := c }

/-! ### Reports (R211) -/

/-- The fine high time of leg `n` in the present half-period up to the fine instant `t`. -/
def State.highTime (s : State) (n t : Nat) : Nat :=
  let l := s.pwmLeg n
  l.high + (if l.cmd then t - l.since else 0)

/-- The report of the TB0 half-period in progress, up to the fine instant `t`. -/
def State.segNow (s : State) (t : Nat) : Seg :=
  let len := t - s.pwm.halfAt
  { t0 := s.pwm.halfAt, len := len,
    duty := [0, 1, 2, 3].map (fun n => if len = 0 then 0 else ((s.highTime n t : Nat) : Rat) / (len : Rat)),
    unq := [0, 1, 2, 3].map (fun n => (s.gdLeg (s.swapLeg n)).quar) }

/-- The oldest tick a reckoning may still start from (R147). -/
def State.oldestBase (s : State) : Nat :=
  let ts := s.spec.ch.flatMap (fun c => (c.bases ++ c.kBases).map SpecBase.trig) ++ s.ctl.steps.map StepRec.trig ++ [s.spec.lastTrig]
  (ts.min?).getD s.now

/-- A half-period of timebase `k` ends now: the high time of each of its legs is reported, and the next one begins (R211). -/
def State.reportEnd (s : State) (k : Nat) : State :=
  let t := s.fine
  let s := (tbLegs k).foldl (fun s n =>
    let h := s.highTime n t
    ({ s with spec := { s.spec with highs := modAt n (fun _ => h) s.spec.highs } }).modPwm n (fun l => { l with high := 0, since := t })) s
  { s with pwm := if k = 0 then { s.pwm with halfAt := t } else { s.pwm with half1At := t } }

/-- A half-period of timebase `k` ends now. Of TB0's the duties go to SPEC (R147), and what it leaves undone of UNFIXED steps falls
due (R151). -/
def State.halfEnd (s : State) (k : Nat) : State :=
  if k ≠ 0 then s.reportEnd k
  else
    let seg := s.segNow s.fine
    let keep := (seg :: s.spec.segs).filter (fun g => decide (32 * s.oldestBase < g.t0 + g.len))
    ({ s with
      spec := { s.spec with segs := if seg.len = 0 then s.spec.segs else keep }
      ctl := { s.ctl with withdraw := s.ctl.withdraw.map (fun (w : Nat × Bool) => (w.1, true))
                          clock := if s.ctl.run.isNone && !s.ctl.withdraw.isEmpty then Nat.max s.ctl.clock s.now else s.ctl.clock } }).reportEnd 0

/-! ### Loading (R203 to R207) -/

/-- The PERIOD point has been taken in this tick, which still belongs to the up slope (R196): the half-period whose edges are to come
is the next one. -/
def Timebase.atPeriod (t : Timebase) (f : Nat) : Bool := t.down && t.up f

/-- An IMMEDIATE copy reaches leg `n` in mid-period: the late-edge rule (R206). An edge that waits counts as fired (R207). -/
def State.judgeLate (s : State) (n cmpNew : Nat) : State :=
  let l := s.pwmLeg n
  let t := s.tb (tbOf n)
  let f := s.fine
  if !(l.live && t.run) || (s.gdLeg (s.swapLeg n)).ce.isSome then s
  else
    let waits := l.late.isSome || l.point.isSome
    let cmd := (l.cmd != waits) != l.lateNext
    let up := t.up f
    let level := decide (t.count f < cmpNew)
    let done (s : State) : State := s.modPwm n (fun l => { l with edgeDone := !t.atPeriod f })
    if (up && cmd) || (!up && !cmd) then
      if level != cmd then
        (if waits then done (s.modPwm n (fun l => { l with lateNext := !l.lateNext }))
         else if f < l.edgeAt + s.minPulse then
           done (s.modPwm n (fun l => { l with late := some (max (l.edgeAt + s.minPulse) l.bar) }))
         else done (s.lateFire n level f))
      else s.modPwm n (fun l => { l with edgeDone := false })
    else done s

/-- The newest loaded step without a horizon that wrote leg `n`. -/
def State.movingStep (s : State) (n : Nat) : Option Nat :=
  ((s.ctl.steps.filter (fun r => r.loaded.isSome && r.horizon.isNone && (nth none r.legs n).isSome)).getLast?).map StepRec.id

/-- Copy the shadow of leg `n` to its active compare at a ZERO or PERIOD point: never late (R204). -/
def State.copyLeg (s : State) (n : Nat) : State :=
  if s.reg (Reg.PWM_SH_CMP n) = s.reg (Reg.PWM_ACT_CMP n) then s
  else (s.setReg (Reg.PWM_ACT_CMP n) (s.reg (Reg.PWM_SH_CMP n))).modPwm n (fun l => { l with movedBy := s.movingStep n })

/-- The counter has passed the active compare of leg `n` on its present slope (R212). -/
def State.cmpPassed (s : State) (n : Nat) : Bool :=
  let t := s.tb (tbOf n)
  if t.down then decide (t.count s.fine < s.actCmp n) else decide (s.actCmp n ≤ t.count s.fine)

/-- An IMMEDIATE copy of leg `n`; a leg in refresh takes it in the tick after the refresh (R209). -/
def State.copyNow (s : State) (n : Nat) : State :=
  if s.reg (Reg.PWM_SH_CMP n) = s.reg (Reg.PWM_ACT_CMP n) then s
  else if (s.pwmLeg n).refresh.isSome then s.modPwm n (fun l => { l with waitLoad := true })
  else
    let s := s.copyLeg n
    (s.modPwm n (fun l => { l with matchDone := s.cmpPassed n })).judgeLate n (s.actCmp n)

/-- The LDMODE of timebase `k`. -/
def State.ldMode (s : State) (k : Nat) : Nat := if k = 0 then s.get F.PWM_CFG_LDMODE0 else s.get F.PWM_CFG_LDMODE1

/-- A LOAD_ALL has been taken, by the step `by'` where the engine gave it: its tick is the horizon of every other loaded step with no
moved edge behind it or still to come (R154). -/
def State.loadHorizon (s : State) (by' : Option Nat) : State :=
  { s with ctl := { s.ctl with steps := s.ctl.steps.map (fun (r : StepRec) =>
      if r.loaded.isSome && r.horizon.isNone && decide (by' ≠ some r.id) && s.pwm.legs.all (fun l => decide (l.movedBy ≠ some r.id)) then
        { r with horizon := some s.now } else r) } }

/-- A strobe reaches PWM: the page is ready and not in a soft reset; PG_CTRL.EN does not matter to a copy. -/
def State.loadable (s : State) : Bool := s.pageReady Pg.PWM && !(s.pwr.srst.getLsbD Pg.PWM)

/-- The copies of a LOAD_ALL strobe: at once, or at the boundary that LDMODE selects (R204). -/
def State.loadCopies (s : State) : State :=
  if !s.loadable then s
  else
    let one (s : State) (k : Nat) : State :=
      if s.ldMode k = 0 then (tbLegs k).foldl State.copyNow s
      else s.putFlag (if k = 0 then F.PWM_LOAD_PEND0 else F.PWM_LOAD_PEND1) true
    one (one s 0) 1

/-- A LOAD_ALL strobe (R203). -/
def State.loadAll (s : State) : State := if s.loadable then s.loadCopies.loadHorizon none else s

/-- A load that pends for timebase `k` applies at once where its mode has become IMMEDIATE (R204). -/
def State.pendNow (s : State) (k : Nat) : State :=
  let pend := if k = 0 then F.PWM_LOAD_PEND0 else F.PWM_LOAD_PEND1
  if s.flag pend && decide (s.ldMode k = 0) then ((tbLegs k).foldl State.copyNow s).putFlag pend false else s

/-- A pending load applies at a point of timebase `k` that its mode selects (R204). -/
def State.boundaryLoad (s : State) (k : Nat) (zero : Bool) : State :=
  let pend := if k = 0 then F.PWM_LOAD_PEND0 else F.PWM_LOAD_PEND1
  let m := s.ldMode k
  if s.flag pend && (m = 3 || m = (if zero then 1 else 2)) then
    ((tbLegs k).foldl (fun s n =>
      if (s.pwmLeg n).refresh.isSome && decide (s.reg (Reg.PWM_SH_CMP n) ≠ s.reg (Reg.PWM_ACT_CMP n)) then
        s.modPwm n (fun l => { l with waitLoad := true })
      else s.copyLeg n) s).putFlag pend false
  else s

/-! ### Points of a timebase -/

/-- Refresh applies to complementary legs under internal PWM (R208). -/
def State.refreshes (s : State) (n : Nat) : Bool := decide (n < 5) && !(s.elcOn && decide (s.swapLeg n < 3))

/-- BSR_WIDTH in 1/32 tick: units of 10 ns. -/
def State.bsrWidth (s : State) : Nat := 32 * 4 * s.get F.PWM_BSR_CFG_WIDTH

/-- Count at a ZERO point, and start a refresh at the limit (R208, R209). -/
def State.refreshAt (s : State) (n : Nat) : State :=
  let l := s.pwmLeg n
  let lim := s.get F.PWM_BSR_CFG_LIMIT
  let count := if l.cmd && l.allHigh then l.highs + 1 else l.highs
  let s := s.modPwm n (fun l => { l with highs := count })
  if lim ≠ 0 && s.refreshes n && l.refresh.isNone && l.cmd && decide (lim ≤ count) then
    let t := s.fine
    let s := (s.pwmCmd n false t).modPwm n (fun l =>
      { l with refresh := some (t + s.dtFall (s.swapLeg n) + s.bsrWidth), highs := 0 })
    (s.inc F.PWM_LATECNT_REFRESH).occur Pg.PWM 6
  else s

/-- The low side of gate leg `n` is driven alone for BSR_WIDTH, not less than the minimum on-time (R210, R216). -/
def State.startPulse (s : State) (n : Nat) : State :=
  if s.live Pg.GD && s.legEn n && !s.latL n && !s.legOff n && !s.estopActive then
    s.modGd n (fun l => { l.loOn s.fine with pulse := some (s.fine + max s.bsrWidth s.gmin) })
  else s

/-- The test of gate leg `n` passes (R228). -/
def State.readmitPass (s : State) (n : Nat) : State :=
  (s.modGd n (fun l => { l with quar := false, stage := .none, ce := none, cycles := 0, ticks := 0 })).occur Pg.GD 7

/-- Commands reach leg `n` from now on (R210). An ELC pin that stands at 1 is a rising command edge now (R217). -/
def State.goLive (s : State) (n : Nat) : State :=
  let was := s.gdCmd
  (s.modPwm n (fun l => { l with live := true })).elcEdges was

/-- The stages of leg `n` (PWM numbering) at its ZERO point: precharge pulses, then live; a leg in its test goes from
precharge to the blend, and passes when w reaches 1 (R210, R228). While `pre`, the precharge of an ARM still runs: no command
reaches GD (R195; log entry 51). -/
def State.legStage (s : State) (pre : Bool) (n : Nat) : State :=
  let g := s.swapLeg n
  let p := s.pwmLeg n
  if !s.bridgeOn then s
  else if 0 < p.pulses then (s.startPulse g).modPwm n (fun l => { l with pulses := l.pulses - 1 })
  else if pre || (s.gdLeg g).pulse.isSome || (s.gdLeg g).failed then s
  else if (s.gdLeg g).quar && s.legEn g then
    if s.elcOn && decide (g < 3) then (s.readmitPass g).goLive n
    else
      let first := !p.live
      let ticks := if first then 0 else (s.gdLeg g).ticks
      let s := s.modGd g (fun l => { l with stage := .blend, ticks := ticks })
      if s.pwm.carN ≤ ticks then (s.readmitPass g).goLive n
      else
        let start := wbits (s.reg (Reg.GD_LEG_CTRL g)) 16 8 * (s.tb (tbOf n)).hp / 256
        let w : Rat := (ticks : Rat) / (s.pwm.carN : Rat)
        let ce := (roundHalfUp ((start : Rat) + w * ((s.actCmp n : Rat) - (start : Rat)))).toNat
        (s.modGd g (fun l => { l with ce := some ce })).goLive n
  else if p.live then s
  else (s.modPwm n (fun l => { l with highs := 0, allHigh := false })).goLive n

/-- The level the compare gives leg `n` at a ZERO or PERIOD point, and a fresh half-period (R197). An edge due within MIN_PULSE of a
late edge moves to the end of that time, and is no late edge (R207). -/
def State.pointLevel (s : State) (n : Nat) (zero : Bool) : State :=
  let l := s.pwmLeg n
  let t := s.tb (tbOf n)
  let s := s.modPwm n (fun l => { l with edgeDone := false, matchDone := false, point := none })
  if l.live && l.refresh.isNone && l.late.isNone then
    let level := if zero then decide (0 < s.effCmp n) else decide (t.hp ≤ s.effCmp n)
    if level == l.cmd then s
    else if s.fine < l.bar then s.modPwm n (fun l => { l with point := some l.bar })
    else s.pwmEdge n level s.fine
  else s

/-- The precharge of an ARM has pulses to give, or still shows, on a timebase. -/
def State.prechRuns (s : State) (k : Nat) : Bool :=
  s.gd.arming && ((tbLegs k).any (fun n => decide (0 < (s.pwmLeg n).pulses)) || (s.tb k).prech)

/-- The first ZERO point of timebase `k` after its last pulse: its precharge has ended (R210). -/
def State.prechStep (s : State) (k : Nat) : State :=
  if (s.tb k).prech && (tbLegs k).all (fun n => decide ((s.pwmLeg n).pulses = 0)) then s.setTb k { s.tb k with prech := false } else s

/-- Timebase `k` reaches its ZERO point now with half-period `hp` at division `ck`. A refresh that starts here comes before the load
of this point (R209). -/
def State.tbZero (s : State) (k hp ck : Nat) : State :=
  let s := s.halfEnd k
  let t := s.tb k
  let s := s.setTb k { t with zero := (s.fine : Int), hp := hp, ck := ck, down := false }
  let s := s.prechStep k
  let s := (tbLegs k).foldl State.refreshAt s
  let s := s.boundaryLoad k true
  let s := (tbLegs k).foldl (fun s n => s.legStage (s.prechRuns 0 || s.prechRuns 1) n) s
  let s := (tbLegs k).foldl (fun s n => (s.pointLevel n true).modPwm n (fun l => { l with allHigh := l.cmd })) s
  s.zeroEvent k

/-- Timebase `k` reaches its PERIOD point now. -/
def State.tbPeriod (s : State) (k : Nat) : State :=
  let s := s.halfEnd k
  let s := s.setTb k { s.tb k with down := true }
  let s := s.boundaryLoad k false
  let s := (tbLegs k).foldl (fun s n => s.pointLevel n false) s
  s.periodEvent k

/-- HP0 and CKDIV for an advance per tick (R198), in 1/32 counter tick. -/
def hp0Of (carEff adv : Nat) : Nat × Nat :=
  let q : Rat := ((2 ^ 52 : Nat) : Rat) / (carEff : Rat) / (2 * (adv : Rat))
  if adv = 0 then (400000, 1)
  else if (roundHalfUp (32 * q)).toNat ≤ 32 * 65535 then ((roundHalfUp (32 * q)).toNat, 1)
  else ((roundHalfUp (16 * q)).toNat, 2)

/-- CAR_N in force for TB0: halved under R199. -/
def State.carEff (s : State) : Nat := if s.pwm.half then s.pwm.carN / 2 else s.pwm.carN

/-- TB0 is to run: enabled, and its page. -/
def State.tb0On (s : State) : Bool := s.live Pg.PWM && s.flag F.PWM_CFG_TB0EN
def State.tb1On (s : State) : Bool := s.live Pg.PWM && s.flag F.PWM_CFG_TB1EN

/-- The slip of the period that ends now: the boundary tick minus the tick the counter reached 0 (R198). -/
def State.slipNow (s : State) : Int :=
  let t := s.pwm.tb0
  let z := t.zero + ((2 * t.hp * t.ck : Nat) : Int)
  clampInt (-127) 127 ((s.now : Int) - (-((-z) / 32)))

/-- TB0 starts: its prescale counts return to 0 (R212). -/
def State.tb0Start (s : State) : State :=
  { s with pwm := { s.pwm with nCmp0 := 0, nCmp1 := 0, tb0 := { s.pwm.tb0 with run := true, nZero := 0, nPeriod := 0 } } }

/-- A carrier-tick boundary that TB0 uses: it starts a period (R198). -/
def State.tb0Zero (s : State) : State :=
  if !s.tb0On then s.setTb 0 { s.tb 0 with run := false }
  else
    let (hp, ck) := hp0Of s.carEff s.advance
    let s := { s with pwm := { s.pwm with slip := if s.pwm.tb0.run then s.slipNow else 0 } }
    let s := if s.pwm.tb0.run then s else s.tb0Start
    let s := s.put F.PWM_CAR_N_HP0 (hp / 32)
    s.tbZero 0 hp ck

/-- HP1 as the next ZERO point takes it (R202). -/
def State.hp1Reg (s : State) : Nat := wbits (s.reg Reg.PWM_TB1_PER) 0 21

/-- TB1 starts, or restarts at a sync, at its ZERO point now (R202). -/
def State.tb1Zero (s : State) : State := s.tbZero 1 s.hp1Reg 1

/-- TB1 starts when it is enabled (PWM_CFG). -/
def State.tb1Start (s : State) : State :=
  if s.tb1On then
    (if s.pwm.tb1.run then s else (s.setTb 1 { s.tb 1 with run := true, nZero := 0, nPeriod := 0 }).tb1Zero)
  else s.setTb 1 { s.tb 1 with run := false }

/-- A destination D12 to D15 (R202, R203): LOAD_ALL, or TB1 sync where its DFUNC bit is 1. A LOAD_ALL through the power-stage update
port is no master's write and does not count in PG_SEQ, nor does one of the Chart (DESIGN CHOICE: R18 gives the port a beat, R41
counts writes of masters; log entry 14). -/
def State.pwmDest (s : State) (i : Nat) : State :=
  if natBit (s.get F.PWM_CFG_DFUNC) i then (if s.pwm.tb1.run && s.tb1On then s.tb1Zero else s)
  else s.loadAll

/-- A jump of the bearing: TB0 is placed where the bearing now lies in its period; the levels follow at once and are not late
edges. A forward jump that crossed a boundary is one ZERO0 occurrence (R200). -/
def State.pwmJump (s : State) (crossed : Bool) : State :=
  if !(s.pwm.tb0.run && s.tb0On) then s
  else
    let s := s.halfEnd 0
    let (hp, ck) := hp0Of s.carEff s.advance
    let p : Rat := ((s.cps.bear * s.carEff % turn52 : Nat) : Rat) / (turn52 : Rat)
    let gone := (roundHalfUp (2 * (hp : Rat) * p)).toNat
    let t : Timebase := { s.tb 0 with zero := (s.fine : Int) - ((gone * ck : Nat) : Int), hp := hp, ck := ck, down := decide (1 / 2 ≤ p) }
    let s := (s.setTb 0 t).put F.PWM_CAR_N_HP0 (hp / 32)
    let s := (tbLegs 0).foldl (fun s n =>
      let l := s.pwmLeg n
      let level := decide (t.count s.fine < s.effCmp n)
      let s := s.modPwm n (fun l => { l with late := none, lateNext := false, point := none, edgeDone := false,
                                             matchDone := s.cmpPassed n })
      if l.live && l.refresh.isNone then
        let s := s.pwmEdge n level s.fine
        s.modPwm n (fun l => { l with edgeDone := if t.down then l.cmd else !l.cmd })
      else s) s
    if crossed then s.zeroEvent 0 else s

/-- The new CAR_N, and the halving check, at a BEAR_CYCLE increment (R199). -/
def State.carApply (s : State) : State :=
  let n := s.get F.PWM_CAR_N_CAR_N
  let f := s.freqQ * (n : Rat)
  { s with pwm := { s.pwm with carN := n, half := if f > 50000 then true else if f ≤ 49000 then false else s.pwm.half } }

/-! ### Timers of the legs -/

/-- The fine instant of the edge that leg `n` still has in this half-period under its compare, or of its compare match. -/
def State.cmpInstant (s : State) (n cmp : Nat) (done : Bool) : Option Nat :=
  let t := s.tb (tbOf n)
  if done || !t.run || cmp = 0 || t.hp ≤ cmp then none
  else
    let at' : Int := if t.down then t.zero + ((t.ck * (2 * t.hp - cmp) : Nat) : Int) else t.zero + ((t.ck * cmp : Nat) : Int)
    some at'.toNat

/-- The late edge that follows the one that has just fired waits until the fine instant `x` (R207). -/
def State.lateFollow (s : State) (n x : Nat) : State :=
  if (s.pwmLeg n).lateNext then s.modPwm n (fun l => { l with late := some x, lateNext := false }) else s

/-- A counter passes the active compare of leg `n`, or an edge that R207 moved is due: its command changes, and the CMP events occur (R197, R212). -/
def State.compareEdge (s : State) (n : Nat) : State :=
  let l := s.pwmLeg n
  let t := s.tb (tbOf n)
  let edge := if l.live && l.refresh.isNone && l.late.isNone && l.point.isNone && (l.cmd == !t.down) then
      (s.cmpInstant n (s.effCmp n) l.edgeDone).map (fun x => max x l.bar) else none
  let mat := if n < 4 then s.cmpInstant n (s.actCmp n) l.matchDone else none
  let doMatch (s : State) : State := (s.modPwm n (fun l => { l with matchDone := true })).cmpMatch n (!t.down)
  let doEdge (s : State) (x : Nat) : State :=
    (s.modPwm n (fun l => { l with edgeDone := true })).pwmEdge n t.down x
  match l.point with
  | some x => (((s.elapseFine x).modPwm n (fun l => { l with point := none })).pwmEdge n (!l.cmd) x).lateFollow n (x + s.minPulse)
  | none =>
  match edge, mat with
  | none, none => s
  | none, some m => doMatch (s.elapseFine m)
  | some x, none => doEdge (s.elapseFine x) x
  | some x, some m =>
    if m < x then doMatch (s.elapseFine m)
    else if x < m then doEdge (s.elapseFine x) x
    else doMatch (doEdge (s.elapseFine x) x)

/-- A moved late edge of leg `n` fires (R207). -/
def State.lateEdge (s : State) (n : Nat) : State :=
  match (s.pwmLeg n).late with
  | none => s
  | some x => ((s.elapseFine x).lateFire n (!(s.pwmLeg n).cmd) x).lateFollow n (x + s.minPulse)

/-- The refresh of leg `n` ends: the command returns to 1, and a waiting load completes in the next tick (R208, R209). -/
def State.refreshEnd (s : State) (n : Nat) : State :=
  match (s.pwmLeg n).refresh with
  | none => s
  | some x =>
    let s := (s.elapseFine x).modPwm n (fun l => { l with refresh := none, edgeDone := false })
    let s := s.pwmCmd n true x
    if (s.pwmLeg n).waitLoad then
      ((s.elapse 1).modPwm n (fun l => { l with waitLoad := false })).copyNow n
    else s

/-- The pulse of gate leg `n` ends (R210): the low side goes off again. -/
def State.pulseEnd (s : State) (n : Nat) : State :=
  match (s.gdLeg n).pulse with
  | none => s
  | some x => (s.elapseFine x).modGd n (fun l => { l.loOff x with pulse := none })

/-- The precharge of an ARM starts (R210): PCNT pulses on every complementary leg; 0 skips it. -/
def State.prechargeStart (s : State) : State :=
  let pcnt := s.get F.PWM_BSR_CFG_PCNT
  let s := { s with
    gd := { s.gd with arming := true }
    pwm := { s.pwm with
      tb0 := { s.pwm.tb0 with prech := decide (pcnt ≠ 0) }
      tb1 := { s.pwm.tb1 with prech := decide (pcnt ≠ 0) } } }
  (List.range 7).foldl (fun s n =>
    s.modPwm n (fun l => { l.disarm with pulses := if s.swapLeg n < 5 then pcnt else 0 })) s

/-- The precharge of an ARM has ended on both timebases. -/
def State.prechargeDone (s : State) : Bool := s.gd.arming && !s.pwm.tb0.prech && !s.pwm.tb1.prech

/-- PWMW's compare format (R137, R197): the duty, clamped, times the half-period in progress, rounded to 1/32 tick. -/
def State.dutyToCmp (s : State) (leg : Nat) (d : Rat) : Nat :=
  let d := if d < 0 then 0 else if 1 < d then 1 else d
  let t := s.tb (tbOf leg)
  let hp := if t.run then t.hp else if tbOf leg = 1 then s.hp1Reg else (hp0Of s.carEff s.advance).1
  (roundHalfUp (d * (hp : Rat))).toNat

/-! ### The points of the timebases that the count brings about (R196, R202) -/

/-- The counter of timebase `k` reaches its half-period: the PERIOD point. -/
def State.periodPoint (s : State) (k : Nat) : State :=
  let t := s.tb k
  if (if k = 0 then s.tb0On else s.tb1On) && t.run && !t.down then
    (s.elapseFine (t.zero + ((t.hp * t.ck : Nat) : Int)).toNat).tbPeriod k
  else s

/-- TB1 counts down to 0: its ZERO point, at the exact instant its period ends. -/
def State.tb1ZeroPoint (s : State) : State :=
  let t := s.pwm.tb1
  if s.tb1On && t.run then
    let z : Int := t.zero + ((2 * t.hp * t.ck : Nat) : Int)
    let s := (s.elapseFine z.toNat).tb1Zero
    s.setTb 1 { s.tb 1 with zero := z }
  else s

end Sys2Proof.Machine
end

