-- ==== Sys2Proof/Machine/Rly.lean ====
section
/-! DEFINITION. The interface relays (spec/13 R293 to R302, R556): drive, feedback, proof steps, the close sequence, opening,
the weld test, and the relay-open path (R265). -/

namespace Sys2Proof.Machine

/-- S3 and S4 as they count: with SEAL_FAULT, S3 is on and S4 off (R285). -/
def State.sealS3 (s : State) : Bool := s.safe.fault || natBit s.safe.code 2
def State.sealS4 (s : State) : Bool := !s.safe.fault && natBit s.safe.code 3

/-- LOCKOUT is in force: SEAL_FAULT, or ESTOP (spec/13 Relay state under faults). -/
def State.rlyLocked (s : State) : Bool := s.safe.fault || s.estopActive

/-- RLY_STAT.STATE (R302). -/
def State.rlyState (s : State) : Nat :=
  if s.rlyLocked then 7
  else if !s.live Pg.RLY then 0
  else if s.rly.closed then 5
  else match s.rly.pos with
    | .opening => if s.rly.weldStage.isSome then 1 else 6
    | .measure .. => 1
    | .weldWait _ => 1
    | .permit _ => 3
    | .step .. =>
      if s.rly.weldStage.isSome then 1 else if s.rly.job = .close && decide (4 ≤ s.rly.stage) then 4 else 2
    | .rest => 0

/-- RLY_STAT as it reads. -/
def State.rlyStat (s : State) : Word :=
  let d (n : Nat) := nth (false, false) s.rly.drive n
  let lv (n : Nat) := (nth (0, 0) s.rly.samp n).1
  let w := wput (s.reg Reg.RLY_STAT) 0 3 s.rlyState
  let w := wput w 3 1 ((d 0).1 || (d 0).2).toNat
  let w := wput w 4 1 ((d 1).1 || (d 1).2).toNat
  let w := wput (wput w 5 2 (lv 0)) 7 2 (lv 1)
  w

/-- Millisecond fields of RLY_PICKUP, in ticks. -/
def State.tPickup (s : State) : Nat := ticksPerMs * s.get F.RLY_PICKUP_T_PICKUP
def State.tDropout (s : State) : Nat := ticksPerMs * s.get F.RLY_PICKUP_T_DROPOUT
def State.tStep (s : State) : Nat := ticksPerMs * s.get F.RLY_PICKUP_T_STEP

/-- PERMTMO in cycles: units of 4, and 0 acts as 1 (R302). -/
def State.permTmo (s : State) : Nat := 4 * max 1 (s.get F.RLY_POLICY_PERMTMO)

/-- Both relays open (R294, R298): every drive off, any sequence cancelled, the dropout checks started; opening a relay driven
closed sets WELDPEND. With nothing driven and nothing running there is nothing to open (R556). -/
def State.rlyOpen (s : State) : State :=
  if !s.live Pg.RLY then s
  else
    let driven := s.rly.drive.any (fun d => d.1 || d.2)
    let wasClosed := s.rly.drive.any (fun d => d.1 && d.2)
    if !driven && decide (s.rly.job = .idle) then s
    else
      let t := s.now + s.tDropout
      let s := if wasClosed then s.putFlag F.RLY_STAT_WELDPEND true else s
      (s.putFlag F.RLY_STAT_PERMIT false |> fun s =>
        { s with rly := { s.rly with job := .idle, pos := .opening, stage := 0, weldStage := none, closed := false, mask := [],
                                     drive := [(false, false), (false, false)], drop := [some t, some t] } })

/-- A relay-open command on the path of R265: RLY opens, and EV51 pulses in the tick after. -/
def State.relayOpen (s : State) : State := if s.domReady 5 then (s.rlyOpen).pulseIn 1 51 else s

/-- A relay fault (R300): CAUSE, source 86, a record with the relay number and RLY_STAT. -/
def State.rlyFault (s : State) (cause relays : Nat) : State :=
  let s := (s.put F.RLY_STAT_CAUSE cause).note Pg.RLY 0
  s.logRec (0x2200 + cause) (BitVec.ofNat 32 relays) s.rlyStat

/-- The number that data word 0 gives a list of relays: 1, 2, or 3 for both. -/
def relayNo (l : List Nat) : Nat := (if l.contains 0 then 1 else 0) + (if l.contains 1 then 2 else 0)

/-- Drive of a proof step (R295). -/
def stepDrive (k : Nat) : Bool × Bool := if k = 0 then (false, false) else if k = 1 then (true, false) else if k = 2 then (false, true) else (true, true)

/-- Start proof step `k` on `relays`. -/
def State.stepStart (s : State) (k : Nat) (relays : List Nat) : State :=
  let ends := s.now + (if k < 3 then s.tStep else s.tPickup)
  { s with rly := { s.rly with
      pos := .step k relays ends, pickFrom := if k = 3 then s.now else s.rly.pickFrom
      drive := relays.foldl (fun ds n => modAt n (fun _ => stepDrive k) ds) s.rly.drive } }

/-- The conditions of the weld test (R299). -/
def State.weldConds (s : State) : Bool :=
  let vnom : Rat := (s.get F.PROT_PROFILE_VNOM : Rat) / 65536
  s.flag F.RLY_STAT_WELDPEND && !s.gd.armed && decide (3 / 4 * vnom * vnom ≤ s.prot.grid2) && s.prot.chanOk

/-- The weld test starts at stage W0 (R299). -/
def State.weldStart (s : State) : State :=
  { s with rly := { s.rly with weldStage := some 0, pos := .measure 0 0 0 0 false, drive := [(false, false), (false, false)],
                               waitLeft := s.permTmo } }

/-- The close permit (R297). -/
def State.closePermit (s : State) : Bool :=
  s.flag F.PROT_STAT_SYNCOK || (s.flag F.RLY_POLICY_DEADINV && !s.gd.armed && decide (2 ≤ s.rly.lowRho))

/-- The relay that closes first. -/
def State.kf (s : State) : Nat := 1 - s.rly.kl

/-- The permit stage of a close sequence: it goes on at once if the permit holds. -/
def State.permitStage (s : State) : State :=
  if s.closePermit then
    (({ s with rly := { s.rly with stage := 6 } }).putFlag F.RLY_STAT_PERMIT true).stepStart 3 [s.rly.kl]
  else { s with rly := { s.rly with stage := 5, pos := .permit s.permTmo } }

/-- Stage 3 of a close sequence: steps 1 to 3 on Kf. -/
def State.firstStage (s : State) : State := ({ s with rly := { s.rly with stage := 3, weldStage := none } }).stepStart 1 [s.kf]

/-- Stage 2 of a close sequence: the weld test if WELDPEND is set. -/
def State.weldStageOfClose (s : State) : State :=
  let s := { s with rly := { s.rly with stage := 2 } }
  if !s.flag F.RLY_STAT_WELDPEND then s.firstStage
  else if s.weldConds then s.weldStart
  else { s with rly := { s.rly with pos := .weldWait s.permTmo } }

/-- The next relay of a RELAY_PROOF, or its end (R295). -/
def State.proofNext (s : State) : State :=
  match s.rly.mask with
  | [] => ({ s with rly := { s.rly with job := .idle, pos := .rest, weldStage := none } }).putFlag F.RLY_PROOF_DONE true
  | n :: rest => ({ s with rly := { s.rly with mask := rest, weldStage := none } }).stepStart 0 [n]

/-- The weld test has found both relays sound: WELDPEND clears (R299), and what ran goes on. -/
def State.weldPassed (s : State) : State :=
  let s := ({ s with rly := { s.rly with weldStage := none } }).putFlag F.RLY_STAT_WELDPEND false
  match s.rly.job with
  | .close => s.firstStage
  | .proof => s.proofNext
  | _ => { s with rly := { s.rly with job := .idle, pos := .rest } }

/-- An opening within a weld test or proof has established L: what follows. -/
def State.openDone (s : State) : State :=
  match s.rly.weldStage with
  | some 1 => ({ s with rly := { s.rly with weldStage := some 2 } }).stepStart 0 [1]
  | some _ => s.weldPassed
  | none =>
    if s.rly.job = .proof then (if s.weldConds then s.weldStart else s.proofNext)
    else { s with rly := { s.rly with pos := .rest } }

/-- Open the relays driven now, with the dropout check, within a weld test or proof. -/
def State.openWithin (s : State) : State :=
  let t := s.now + s.tDropout
  let drops := s.rly.drive.map (fun d => if d.1 || d.2 then some t else none)
  let s := s.putFlag F.RLY_STAT_WELDPEND true
  { s with rly := { s.rly with pos := .opening, drive := [(false, false), (false, false)], drop := drops } }

/-- Step 3 has passed on relay `n`: the pickup time is recorded, and the sequence goes on (R295, R297). -/
def State.pickedUp (s : State) (n : Nat) : State :=
  let ms := satTo 255 ((s.now - s.rly.pickFrom) / ticksPerMs)
  let w := s.reg Reg.RLY_PROOF
  let w := wput (wputBit w (4 * n + 3) true) (16 + 8 * n) 8 ms
  let s := s.setReg Reg.RLY_PROOF w
  match s.rly.weldStage with
  | some k => { s with rly := { s.rly with pos := .measure k 0 0 0 false } }
  | none =>
    if s.rly.job = .close then
      if s.rly.stage = 3 then ({ s with rly := { s.rly with stage := 4 } }).stepStart 1 [s.rly.kl]
      else
        let s := (s.putFlag F.RLY_PROOF_DONE true).put F.RLY_STAT_LAST s.rly.kl
        { s with rly := { s.rly with job := .idle, pos := .rest, stage := 0, closed := true } }
    else s.openWithin

/-- A proof step that lasts T_STEP ends and is judged (R295). -/
def State.proofStepEnd (s : State) : State :=
  match s.rly.pos with
  | .step k relays ends =>
    if 3 ≤ k then s
    else
      let s := s.elapseTo ends
      let want := if k = 1 then 2 else 0
      let bad := relays.filter (fun n => nth none s.rly.est n ≠ some want)
      if bad ≠ [] then ((s.rlyOpen).rlyFault (k + 1) (relayNo bad))
      else
        let w := relays.foldl (fun w n => wputBit w (4 * n + k) true) (s.reg Reg.RLY_PROOF)
        let s := s.setReg Reg.RLY_PROOF w
        if s.rly.weldStage.isNone && decide (s.rly.job = .close) then
          if s.rly.stage = 1 then s.weldStageOfClose
          else if s.rly.stage = 4 && decide (k = 2) then s.permitStage
          else s.stepStart (k + 1) relays
        else s.stepStart (k + 1) relays
  | _ => s

/-- T_PICKUP has ended without M (R295): M established in its last tick is in time (R21), so this is known one tick later. -/
def State.pickupTimeout (s : State) : State :=
  match s.rly.pos with
  | .step 3 relays ends => (((s.elapseTo (ends + 1)).rlyOpen).rlyFault 4 (relayNo relays))
  | _ => s

/-- T_DROPOUT has ended without L on a relay (R298): L established in its last tick is in time (R21). -/
def State.dropoutTimeout (s : State) : State :=
  match (s.rly.drop.filterMap id).min? with
  | none => s
  | some t =>
    let s := s.elapseTo (t + 1)
    let late := [0, 1].filter (fun n => nth none s.rly.drop n = some t)
    let s := { s with rly := { s.rly with drop := s.rly.drop.map (fun d => if d = some t then none else d),
                                          job := .idle, weldStage := none, pos := .rest, stage := 0, mask := [] } }
    (s.putFlag F.RLY_STAT_WELDPEND true).rlyFault 5 (relayNo late)

/-- A sampled level joins its run; four equal samples establish it (R293). -/
def State.sampleLevel (s : State) (n lv : Nat) : State :=
  let old := nth (0, 0) s.rly.samp n
  let run := if old.1 = lv then satTo 4 (old.2 + 1) else 1
  { s with rly := { s.rly with samp := modAt n (fun _ => (lv, run)) s.rly.samp,
                               est := if run = 4 then modAt n (fun _ => some lv) s.rly.est else s.rly.est } }

/-- Relays that have established L end their dropout checks; when the last has, an opening is over. -/
def State.dropCheck (s : State) : State :=
  let drops := [0, 1].map (fun n => if nth none s.rly.est n = some 0 then none else nth none s.rly.drop n)
  let s := { s with rly := { s.rly with drop := drops } }
  if s.rly.pos = .opening && drops.all Option.isNone then s.openDone else s

/-- The wait for the permit ends at the first tick in which it holds (R297): the last tick of PERMTMO is in time (R21). -/
def State.permitReview (s : State) : State :=
  match s.rly.pos with
  | .permit left => if s.closePermit && (decide (0 < left) || decide (s.rly.pickFrom = s.now)) then s.permitStage else s
  | _ => s

/-- T_PICKUP or T_DROPOUT has ended before tick `t`: a level established in it comes too late (R21, R24). -/
def State.levelsLate (s : State) (t : Nat) : State :=
  let s := match s.rly.pos with
    | .step 3 _ ends => if ends < t then s.pickupTimeout else s
    | _ => s
  match (s.rly.drop.filterMap id).min? with
  | some d => if d < t then s.dropoutTimeout else s
  | none => s

/-- Feedback is sampled every 100 µs (R293): levels are established, and what waits on them goes on. -/
def State.fbSample (s : State) (l1 l2 : Nat) : State :=
  if !s.live Pg.RLY then s
  else
    let s := s.levelsLate (max s.now s.rly.nextFb)
    let s := s.elapseTo s.rly.nextFb
    let s := { s with rly := { s.rly with nextFb := s.now + 100 * ticksPerUs } }
    let s := (s.sampleLevel 0 l1).sampleLevel 1 l2
    let s := s.dropCheck
    if s.rly.closed then
      if s.rly.est.any (fun e => e ≠ some 1) then
        let bad := [0, 1].filter (fun n => nth none s.rly.est n ≠ some 1)
        (((s.rlyOpen).rlyFault 6 (relayNo bad)).relayOpen).disarm
      else s
    else match s.rly.pos with
      | .step 3 [n] _ => if nth none s.rly.est n = some 1 then s.pickedUp n else s
      | _ => s

/-- Every relay that a weld test drove opens, with its dropout check, and what ran is over (R299). -/
def State.openTested (s : State) : State :=
  let t := s.now + s.tDropout
  let drops := s.rly.drive.map (fun d => if d.1 || d.2 then some t else none)
  { s with rly := { s.rly with job := .idle, pos := if drops.any Option.isSome then .opening else .rest, stage := 0, weldStage := none,
                               mask := [], drive := [(false, false), (false, false)], drop := drops } }

/-- A weld finding (R299): the tested relay opens, the bits, source 87, the record, the end of the test. -/
def State.weldFound (s : State) (bit : Nat) : State :=
  let s := s.openTested
  let s := (s.putFlag F.RLY_STAT_WELDPEND true).setW1c Reg.RLY_WELD bit
  (s.note Pg.RLY 1).logRec (0x2210 + bit) (BitVec.ofNat 32 (bit + 1)) s.rlyStat

/-- ρ × 255 for RLY_WELD. -/
def rho255 (rho2 : Rat) : Nat := satTo 255 (sqrtRound (65025 * rho2))

/-- A cycle ends: the weld measure, the permit, the wait for a weld test (R297, R299). A cycle without the conditions of the test
does not count and breaks a run of findings. -/
def State.rlyCycle (s : State) : State :=
  let rho2 := if s.prot.chanOk then s.prot.rho2 else none
  let low := match rho2 with | some r => decide (r ≤ 1 / 100) | none => false
  let high := match rho2 with | some r => decide (1 / 4 ≤ r) | none => false
  let s := { s with rly := { s.rly with lowRho := if low then s.rly.lowRho + 1 else 0 } }
  if !s.live Pg.RLY then s
  else
    match s.rly.pos with
    | .permit left =>
      if left = 0 then s
      else if s.closePermit then s.permitStage
      else { s with rly := { s.rly with pos := .permit (left - 1), pickFrom := s.now } }
    | .weldWait left =>
      if left = 0 then s
      else if s.weldConds then s.weldStart
      else { s with rly := { s.rly with pos := .weldWait (left - 1) } }
    | .measure k counted dead live fresh =>
      if !s.weldConds then
        { s with rly := { s.rly with pos := .measure k counted 0 0 true, waitLeft := s.rly.waitLeft - 1 } }
      else match fresh, rho2 with
      | true, some r =>
        let s := s.setReg Reg.RLY_WELD (wput (s.reg Reg.RLY_WELD) 8 8 (rho255 r))
        let dead := if low then dead + 1 else 0
        let live := if high then live + 1 else 0
        if 2 ≤ live then s.weldFound (if k = 0 then 2 else if k = 1 then 1 else 0)
        else if 2 ≤ dead then
          if k = 0 then ({ s with rly := { s.rly with weldStage := some 1 } }).stepStart 0 [0]
          else s.openWithin
        else if 8 ≤ counted + 1 then (s.rlyOpen).rlyFault 8 3
        else { s with rly := { s.rly with pos := .measure k (counted + 1) dead live true } }
      | _, _ => { s with rly := { s.rly with pos := .measure k counted 0 0 true } }
    | _ => s

/-- No permit, or no weld test, within PERMTMO cycles (R297, spec/13 At the edges). -/
def State.permitTimeout (s : State) : State :=
  match s.rly.pos with
  | .permit 0 => ((s.elapseTo (s.rly.pickFrom + 1)).rlyOpen).rlyFault 7 (s.kf + 1)
  | .weldWait 0 => (s.rlyOpen).rlyFault 7 3
  | .measure .. => if decide (s.rly.job = .close) && decide (s.rly.waitLeft = 0) && !s.weldConds then (s.rlyOpen).rlyFault 7 3 else s
  | _ => s

/-- A write of 1 to RLY_CTRL.CLOSE (R296, R297). -/
def State.rlyClose (s : State) : State :=
  let refused := !s.live Pg.RLY || s.rlyLocked || decide (wbits (s.reg Reg.RLY_WELD) 0 3 ≠ 0) ||
    (!s.flag F.PROT_STAT_RECONOK && !(s.sealS4 && s.flag F.PROT_STAT_DEADBUS))
  if s.live Pg.RLY && (s.rly.closed || decide (s.rly.job ≠ .idle)) then s
  else if refused then s.rlyFault 9 3
  else
    let kl := if s.flag F.RLY_POLICY_ALT then 1 - s.get F.RLY_STAT_LAST else 1 - s.get F.RLY_POLICY_ORDER
    let s := s.setReg Reg.RLY_PROOF 0#32
    let s := { s with rly := { s.rly with job := .close, stage := 1, kl := kl, weldStage := none } }
    s.stepStart 0 [0, 1]

/-- A weld test starts by a write, or by itself after an opening with WELDEN (R299). -/
def State.weldTest (s : State) : State :=
  if s.live Pg.RLY && !s.rlyLocked && decide (s.rly.job = .idle) && !s.rly.closed && decide (s.rly.pos = .rest) && s.weldConds then
    ({ s with rly := { s.rly with job := .weld } }).weldStart
  else s

def State.weldAuto (s : State) : State := if s.flag F.RLY_POLICY_WELDEN then s.weldTest else s

/-- RELAY_PROOF starts on the relays of `mask` (R295); the caller has judged its conditions. -/
def State.proofStart (s : State) (mask : Nat) : State :=
  let s := (s.setReg Reg.RLY_PROOF 0#32)
  ({ s with rly := { s.rly with job := .proof, mask := [0, 1].filter (fun n => natBit mask n) } }).proofNext

end Sys2Proof.Machine
end

