-- ==== Sys2Proof/Machine/Cmp.lean ====
section
/-! DEFINITION. Comparators (spec/11 R233 to R242): thresholds and hysteresis, windows, occurrences, captures, settling and
quarantine, wake lines; and the fast lane (R246). -/

namespace Sys2Proof.Machine

def State.cmpCh (s : State) (n : Nat) : CmpCh := nth CmpCh.reset s.cmp.ch n
def State.modCmp (s : State) (n : Nat) (f : CmpCh → CmpCh) : State := { s with cmp := { s.cmp with ch := modAt n f s.cmp.ch } }

/-- CMP_CTRL[n].EN on a page that runs (R47). -/
def State.cmpOn (s : State) (n : Nat) : Bool := s.live Pg.CMP && s.flag (F.CMP_CTRL_EN n)

/-- Comparators 2k and 2k+1 form a window: WIN is set and both are enabled (R236). -/
def State.cmpWindow (s : State) (k : Nat) : Bool :=
  s.flag (F.CMP_CTRL_WIN (2 * k)) && s.cmpOn (2 * k) && s.cmpOn (2 * k + 1)

/-- The comparator whose INSEL and MODE apply to comparator `n` (R236). -/
def State.cmpLead (s : State) (n : Nat) : Nat := if s.cmpWindow (n / 2) then 2 * (n / 2) else n

/-- The voltage at comparator `n`, in microvolts; INSEL 14 and 15 hold the input at 0 V (R233). -/
def State.cmpInput (s : State) (n : Nat) : Nat :=
  let m := s.cmpLead n
  if 14 ≤ s.get (F.CMP_CTRL_INSEL m) then 0 else (s.cmpCh m).uV

/-- HYST in microvolts (R234). -/
def cmpHyst (h : Nat) : Nat := if h = 0 then 0 else if h = 1 then 5000 else if h = 2 then 20000 else 50000

/-- The raw output of comparator `n` (R234): VT = THR × 2.5 V / 1,024. -/
def State.cmpRaw (s : State) (n : Nat) : Bool :=
  let vin := 1024 * s.cmpInput n
  let vt := 2500000 * s.get (F.CMP_THR_THR n)
  if !s.cmpOn n then false
  else if vt < vin then true
  else if vin + 1024 * cmpHyst (s.get (F.CMP_CTRL_HYST n)) < vt then false
  else (s.cmpCh n).raw

/-- The output of comparator `n` before the synchroniser: its own raw output, or OUTSIDE of its window (R236). -/
def State.cmpOut (s : State) (n : Nat) : Bool :=
  if decide (n % 2 = 0) && s.cmpWindow (n / 2) then
    (s.cmpCh n).raw || !(s.cmpCh (n + 1)).raw || decide (s.get (F.CMP_THR_THR n) ≤ s.get (F.CMP_THR_THR (n + 1)))
  else (s.cmpCh n).raw

/-- The output is marked: settling or in quarantine (R242). -/
def State.cmpMarked (s : State) (n : Nat) : Bool := (s.cmpCh n).settling || s.flag (F.CMP_CTRL_QUAR n)

/-- CMP_STAT.OUT[n], the synchronised output. -/
def State.cmpSync (s : State) (n : Nat) : Bool := s.bitOf Reg.CMP_STAT n

/-- T_Q of MODE `m` in ticks (R235). -/
def cmpTq (m : Nat) : Nat := if m = 0 then 80000 else if m = 1 then 8000 else if m = 2 then 800 else if m = 3 then 64 else 16

def State.cmpTq (s : State) (n : Nat) : Nat := Sys2Proof.Machine.cmpTq (s.get (F.CMP_CTRL_MODE (s.cmpLead n)))

/-- Slot `n` latches bearing, cycle and capture counter (R238). -/
def State.capture (s : State) (n : Nat) : State :=
  let nav := s.domOn 3
  ((s.setReg (Reg.CMP_CAPT_BEAR n) (if nav then s.bearing else 0#32)).setReg (Reg.CMP_CAPT_CYCLE n)
    (if nav then s.reg Reg.CPS_BEAR_CYCLE else 0#32)).setReg (Reg.CMP_CAPT_TIME n) (BitVec.ofNat 32 (s.sysclk - s.cmp.epoch))
    |>.setW1c Reg.CMP_STAT (16 + n)

/-- The capture of an occurrence: CAPT 1 every one, CAPT 2 the first (R238). -/
def State.captureOcc (s : State) (n : Nat) : State :=
  let c := s.get (F.CMP_CTRL_CAPT n)
  if c = 1 || (c = 2 && !s.bitOf Reg.CMP_STAT (16 + n)) then s.capture n else s

/-- The capture of destination D(24 + k) into slot 12 + k (R239). -/
def State.captureDest (s : State) (k : Nat) : State :=
  let n := 12 + k
  if !s.live Pg.CMP then s
  else if s.get (F.CMP_CTRL_CAPT n) = 2 && s.bitOf Reg.CMP_STAT (16 + n) then s
  else s.capture n

/-- The edge `up` is one that EDGE selects (R237). -/
def edgeTaken (edge : Nat) (up : Bool) : Bool :=
  if edge = 0 then up else if edge = 1 then !up else decide (edge = 2)

/-- The synchronised output of comparator `n` takes its value: an edge of the kind selected is an occurrence (R237). -/
def State.cmpTake (s : State) (n : Nat) : State :=
  let out := s.cmpOut n
  if out == s.cmpSync n then s
  else
    let s := (s.putBit Reg.CMP_STAT n out).modCmp n (fun c => { c with changed := s.sysclk })
    if s.cmpOn n && !s.cmpMarked n && edgeTaken (s.get (F.CMP_CTRL_EDGE n)) out then (s.occur Pg.CMP n).captureOcc n else s

/-- The raw outputs of the pair of comparator `n` follow input and thresholds. -/
def State.cmpRawPair (s : State) (n : Nat) : State :=
  let a := 2 * (n / 2)
  let ra := s.cmpRaw a
  let rb := s.cmpRaw (a + 1)
  (s.modCmp a (fun c => { c with raw := ra })).modCmp (a + 1) (fun c => { c with raw := rb })

/-- Input, threshold or control of comparator `n` has changed: its pair is evaluated. While SYSCLK is stopped the synchroniser
takes nothing. -/
def State.cmpEval (s : State) (n : Nat) : State :=
  let a := 2 * (n / 2)
  let s := s.cmpRawPair n
  if s.clkStopped then s else (s.cmpTake a).cmpTake (a + 1)

/-- SYSCLK returns: each synchronised output takes its value, and what it missed is no occurrence. -/
def State.cmpResume (s : State) : State :=
  (List.range 16).foldl (fun s n =>
    if s.cmpOut n == s.cmpSync n then s
    else (s.putBit Reg.CMP_STAT n (s.cmpOut n)).modCmp n (fun c => { c with changed := s.sysclk })) s

/-- The input of comparator `n` is at `uV` microvolts now. -/
def State.cmpSetInput (s : State) (n uV : Nat) : State := s.modCmp n (fun c => { c with uV := uV })

/-- Destination `d` of the fast lane is driven by comparator `n`: a valid selection of EV(n), enabled in EVR_FAST_EN (R246). -/
def State.fastSel (s : State) (d n : Nat) : Bool :=
  s.bitOf Reg.EVR_FAST_EN d &&
  (List.range 4).any (fun k => decide (wbits (s.reg (Reg.EVR_DEST d)) (8 * k) 8 = 128 + n))

/-- The fast-lane term of comparator `n` stands: enabled, not marked, EDGE rising as it stands or falling inverted (R246). -/
def State.fastTerm (s : State) (n : Nat) : Bool :=
  s.cmpOn n && !s.cmpMarked n &&
  (let e := s.get (F.CMP_CTRL_EDGE n)
   (decide (e = 0) && s.cmpOut n) || (decide (e = 1) && !s.cmpOut n))

/-- A destination D0 to D7 is asserted (R223, R294). -/
def State.hardDest (s : State) (d : Nat) : State := if d < 7 then s.gdDest d else s.rlyOpen

/-- The fast lane of comparator `n` drives the destinations that select it (R246); with EVR EN 0 the lane is open (R251). -/
def State.fastLane (s : State) (n : Nat) : State :=
  if s.live Pg.EVR && s.fastTerm n then
    (List.range 8).foldl (fun t d => if s.fastSel d n then t.hardDest d else t) s
  else s

/-! ### Settling and quarantine (R241) -/

/-- Comparator `n` enters quarantine, or its test starts again. -/
def State.cmpQuar (s : State) (n : Nat) : State :=
  (s.putFlag (F.CMP_CTRL_QUAR n) true).modCmp n (fun c => { c with settling := false, since := s.sysclk, changed := s.sysclk })

/-- Comparator `n` settles: it started inside the muster window. -/
def State.cmpSettle (s : State) (n : Nat) : State :=
  s.modCmp n (fun c => { c with settling := true, since := s.sysclk, changed := s.sysclk })

/-- Comparator `n` leaves quarantine; QFAIL is cleared. -/
def State.cmpClear (s : State) (n : Nat) : State :=
  ((s.putFlag (F.CMP_CTRL_QUAR n) false).put (F.CMP_CTRL_QFAIL n) 0).modCmp n (fun c => { c with settling := false })

/-- The tick the test of comparator `n` passes: T_Q since entry with the output unchanged for T_Q; a settling comparator only
waits for T_Q. -/
def State.cmpPassAt (s : State) (n : Nat) : Nat :=
  let c := s.cmpCh n
  if c.settling then c.since + s.cmpTq n else max c.since c.changed + s.cmpTq n

/-- The end of its window: 16 × T_Q from entry. -/
def State.cmpWindowEnd (s : State) (n : Nat) : Nat := (s.cmpCh n).since + 16 * s.cmpTq n

/-- The test of comparator `n` has passed by now, within its window (R21): a host clear in that tick is the test's exit (R51). -/
def State.cmpPasses (s : State) (n : Nat) : Bool :=
  decide (s.cmpPassAt n ≤ s.sysclk) && decide (s.cmpPassAt n ≤ s.cmpWindowEnd n)

/-- The test passes, where it does before its window ends (R21, R241). -/
def State.cmpQualify (s : State) (n : Nat) : State :=
  if !s.clkStopped && s.cmpOn n && s.cmpMarked n && decide (s.cmpPassAt n ≤ s.cmpWindowEnd n) then (s.elapseTo (s.cmpPassAt n + s.pwr.halted)).cmpClear n else s

/-- The window ends without a pass: QFAIL goes up and the test starts again. -/
def State.cmpWindowFail (s : State) (n : Nat) : State :=
  if !s.clkStopped && s.cmpOn n && s.flag (F.CMP_CTRL_QUAR n) && decide (s.cmpWindowEnd n < s.cmpPassAt n) then
    let s := s.elapseTo (s.cmpWindowEnd n + s.pwr.halted)
    (s.incSat (F.CMP_CTRL_QFAIL n)).modCmp n (fun c => { c with since := s.sysclk })
  else s

/-- Comparator `n` becomes enabled now (R47, R241): it settles inside the muster window, and is in quarantine after it. -/
def State.cmpStart (s : State) (n : Nat) : State := if s.pwr.muster then s.cmpSettle n else s.cmpQuar n

/-- Comparator `n` stops being enabled (R51). -/
def State.cmpStop (s : State) (n : Nat) : State :=
  (s.putFlag (F.CMP_CTRL_QUAR n) false).modCmp n (fun c => { c with settling := false, raw := false })

/-- Units of CMP as its page is enabled (`true`) or stops. -/
def State.cmpPage (s : State) (on : Bool) : State :=
  let units := (List.range 16).filter (fun n => s.flag (F.CMP_CTRL_EN n))
  let s := units.foldl (fun s n => if on then s.cmpStart n else s.cmpStop n) s
  (List.range 8).foldl (fun s k => s.cmpEval (2 * k)) s

/-- A write to CMP_CTRL[n] (R241, R253): EN, the fields, and quarantine by a change of MODE, INSEL, HYST or WIN while enabled
(WIN places both of the pair), or by a write of 1 to QUAR. Answers whether it was a host clear too: none where the test passes
in this tick (R51). A write of 0 to QUAR while it reads 1 is one also where it changes a field that starts quarantine, which the
comparator then enters anew (DESIGN CHOICE, log entry 112). -/
def State.cmpCtrlWrite (s : State) (n : Nat) (v : Word) : State × Bool :=
  let s0 := s
  let old := s.reg (Reg.CMP_CTRL n)
  let was := s.cmpOn n
  let mode := satTo 4 (wbits v 2 3)
  let new := wput (wput (wput (wput (wput (wput (wput (wput old 0 1 (wbits v 0 1)) 2 3 mode) 5 2 (wbits v 5 2)) 8 4 (wbits v 8 4))
    12 2 (wbits v 12 2)) 14 1 (if n % 2 = 0 then wbits v 14 1 else 0)) 15 2 (wbits v 15 2)) 17 1 (wbits v 17 1)
  let diff (lo len : Nat) : Bool := decide (wbits old lo len ≠ wbits new lo len)
  let s := s.setReg (Reg.CMP_CTRL n) new
  let on := s.cmpOn n
  let q := wbit v 1
  let change := diff 2 3 || diff 8 4 || diff 5 2 || diff 14 1
  let clear := was && on && wbit old 1 && !q
  let passes := s0.cmpPasses n
  let s := if was && !on then s.cmpStop n
    else if !was && on then s.cmpStart n
    else
      let s := if clear then s.cmpClear n else s
      if on && (q || change) then s.cmpQuar n else s
  let s := if n % 2 = 0 && diff 14 1 && s.cmpOn (n + 1) then s.cmpQuar (n + 1) else s
  (s.cmpEval n, clear && !passes)

/-- The wake line of comparator `n` (R240): asserted by its output, unless marked; FAST and TURBO drive none. -/
def State.cmpWake (s : State) (n : Nat) : Bool :=
  s.cmpOn n && s.flag (F.CMP_CTRL_WAKE n) && decide (s.get (F.CMP_CTRL_MODE (s.cmpLead n)) ≤ 2) && !s.cmpMarked n &&
  (let e := s.get (F.CMP_CTRL_EDGE n)
   ((decide (e = 0) || decide (e = 2)) && s.cmpOut n) || (decide (e = 1) && !s.cmpOut n))

end Sys2Proof.Machine
end

