-- ==== Sys2Proof/Machine/Mode.lean ====
section
/-! DEFINITION. Power-flow modes, handover, headroom, curtailment and MPPT (spec/08). Arithmetic is exact, per unit; roots,
sines and quotients by zero are the Config functions. -/

namespace Sys2Proof.Machine

/-- a / b; where b is 0 the spec states no result. -/
def quot (a b : Rat) : Rat := if b = 0 then Config.overZero a else a / b

def ratClamp (lo hi x : Rat) : Rat := if x < lo then lo else if hi < x then hi else x

/-- A number in `len` bits with `frac` fraction bits, unsigned or signed, rounded and saturated. -/
def toFixed (len frac : Nat) (q : Rat) : Nat := satTo (2 ^ len - 1) (roundHalfUp (q * ((2 ^ frac : Nat) : Rat))).toNat
def toFixedI (len frac : Nat) (q : Rat) : Nat :=
  wrapBits len (clampInt (-((2 ^ (len - 1) : Nat) : Int)) (((2 ^ (len - 1) : Nat) : Int) - 1) (roundHalfUp (q * ((2 ^ frac : Nat) : Rat))))

/-! ### Complex numbers in the frame of the bearing -/

def Cx.zero : Cx := { d := 0, q := 0 }
def Cx.add (a b : Cx) : Cx := { d := a.d + b.d, q := a.q + b.q }
def Cx.sub (a b : Cx) : Cx := { d := a.d - b.d, q := a.q - b.q }
def Cx.scale (k : Rat) (a : Cx) : Cx := { d := k * a.d, q := k * a.q }
def Cx.mul (a b : Cx) : Cx := { d := a.d * b.d - a.q * b.q, q := a.d * b.q + a.q * b.d }
def Cx.norm2 (a : Cx) : Rat := a.d * a.d + a.q * a.q
def Cx.div (a b : Cx) : Cx :=
  let n := b.norm2
  { d := quot (a.d * b.d + a.q * b.q) n, q := quot (a.q * b.d - a.d * b.q) n }

/-- The vector of magnitude `m` at the angle `a` in bearing units. -/
def Cx.polar (m a : Rat) : Cx := { d := m * cosQ a, q := m * sinQ a }

/-! ### Taps (R114) -/

/-- The fixed C-path result of conversion channel `ch` (ADCX 0 to 7, then ADCI 0 to 9), as a fraction of full scale; none when
there is none or it carries UNS. -/
def State.tap (s : State) (ch : Nat) : Option Rat :=
  match (nth AdcCh.reset s.adc.ch ch).lastC with
  | some (v, _, false) => some ((v : Rat) / 8388608)
  | _ => none

/-- The ADCX channels of the phase currents and voltages after the SEQSWAP remap (R67): k = 0, 1, 2 for A, B, C. -/
def State.iChan (s : State) (k : Nat) : Nat := s.swapLeg k
def State.vChan (s : State) (k : Nat) : Nat := 4 + s.swapLeg k

/-- The nominal frequency of CPS_CFG.NOMF in Hz. -/
def State.nomHz (s : State) : Nat := if s.get F.CPS_CFG_NOMF = 1 then 60 else 50

/-- MODE's inputs: a tapped result, or the last value where it is absent (R170). -/
def State.modeInputs (s : State) : List Rat := (List.range 18).map (fun ch => (s.tap ch).getD (nth 0 s.mode.inp ch))

def State.inp (s : State) (ch : Nat) : Rat := nth 0 s.mode.inp ch

/-- Clarke and Park of three phase values in the frame of the bearing (R134). -/
def State.dq (s : State) (a b c : Rat) : Cx :=
  let al := (2 * a - b - c) / 3
  let be := (b - c) / sqrtQ 3
  let th : Rat := (s.bearing.toNat : Rat)
  { d := al * sinQ th - be * cosQ th, q := al * cosQ th + be * sinQ th }

def State.vBase (s : State) : Rat := (s.get F.MODE_CFG_VBASE : Rat) / 256
def State.iBase (s : State) : Rat := (s.get F.MODE_CFG_IBASE : Rat) / 256

/-- Voltage and current in pu. -/
def State.vPu (s : State) : Cx :=
  Cx.scale (quot 1 s.vBase) (s.dq (s.inp (s.vChan 0)) (s.inp (s.vChan 1)) (s.inp (s.vChan 2)))
def State.iPu (s : State) : Cx :=
  Cx.scale (quot 1 s.iBase) (s.dq (s.inp (s.iChan 0)) (s.inp (s.iChan 1)) (s.inp (s.iChan 2)))

/-- Active and reactive power (R169). -/
def powerOf (v i : Cx) : Rat × Rat := (v.d * i.d + v.q * i.q, v.q * i.d - v.d * i.q)

/-- Role and source of SPEC channel `n`. -/
def State.specRole (s : State) (n : Nat) : Nat := s.get (F.SPEC_BAND_ROLE n)
def State.specSrc (s : State) (n : Nat) : Nat := s.get (F.SPEC_BAND_SRC n)
/-- The channels below `k` that are on by their configuration (R145). -/
def State.specOnList (s : State) : Nat → List Nat
  | 0 => []
  | n + 1 =>
    let on := s.specOnList n
    if 8 ≤ s.specSrc n ∧ s.specSrc n ≤ 25 ∧ ¬ on.any (fun m => s.specRole m = s.specRole n) then on ++ [n] else on

def State.specOn (s : State) (n : Nat) : Bool := (s.specOnList 8).contains n

/-- The channel that holds a role. -/
def State.roleCh (s : State) (r : Nat) : Option Nat := (s.specOnList 8).find? (fun n => s.specRole n = r)

/-- SPEC_L of the channel of role VDC that is on, else 1.0 (R169). -/
def State.vdcScale (s : State) : Rat :=
  match s.roleCh 7 with
  | some n => F32.toRat (s.reg (Reg.SPEC_L n))
  | none => 1

/-! ### Requests and validity -/

def State.batt (s : State) : Bool := s.flag F.MODE_CFG_BATT
def State.modeActive (s : State) : Nat := s.get F.MODE_STAT_ACTIVE

/-- Z of R175. -/
def State.vimp (s : State) : Cx :=
  { d := (wbits (s.reg Reg.MODE_VIMP) 0 16 : Rat) / 4096, q := (wbits (s.reg Reg.MODE_VIMP) 16 16 : Rat) / 4096 }

/-- GFM is permitted (R172). -/
def State.gfmPermitted (s : State) : Bool := s.batt && decide (s.reg Reg.MODE_VIMP ≠ 0#32)

/-- GFL is valid (R174): while LOCKED, or for 10 cycles of the bearing after an unlock that holds it, and nothing has ended it. -/
def State.gflValid (s : State) : Bool :=
  !s.mode.gflBad && (s.flag F.CPS_STAT_LOCKED ||
    match s.mode.hold with | some a => decide (s.absBear < a + 10 * (turn52 : Int)) | none => false)

/-- A mode (0 STANDBY, 1 GFL, 2 GFM) is valid under R172 and R174. -/
def State.modeValid (s : State) (m : Nat) : Bool := if m = 1 then s.gflValid else if m = 2 then s.gfmPermitted else true

/-- A request is refused (R172); while the page is disabled it is stored. -/
def State.reqRefused (s : State) (req : Nat) : Bool :=
  s.live Pg.MODE &&
  ((decide (req = 2) && !s.gfmPermitted) || (decide (req = 3) && decide (s.get F.MODE_CFG_ISLPOL = 2) && !s.batt))

/-- The mode a request stands for now: AUTO is GFL if LOCKED, GFM otherwise (R172). -/
def State.reqMode (s : State) (req : Nat) : Nat := if req = 3 then (if s.flag F.CPS_STAT_LOCKED then 1 else 2) else req

/-- ACTIVE changes (R193). -/
def State.setActive (s : State) (m : Nat) : State :=
  if s.modeActive = m then s
  else
    let s := if m = 2 then { s with mode := { s.mode with gflBad := false } } else s
    (s.put F.MODE_STAT_ACTIVE m).note Pg.MODE 0

/-- MODE requests a controlled trip (R181): ABORT, the relay-open path, the shutdown at the next TB0 ZERO, STANDBY. -/
def State.modeTrip (s : State) : State :=
  let s := s.note Pg.MODE 2
  let s := { s with spec := { s.spec with tripPend := true } }
  (((s.dropAsk).putFlag F.MODE_STAT_BLEND false).relayOpen).setActive 0

/-- ACTIVE takes the requested mode with no handover (R172): ramps and E start from 0. -/
def State.modeStart (s : State) : State :=
  let req := s.get F.MODE_REQ_REQ
  let s := { s with
    mode := { s.mode with start := false, ask := none, blend := none, gflBad := false, e := Cx.zero, emag := 0 }
    ctl := { s.ctl with ramps := modAt 7 (fun _ => some (0#32, s.now)) (modAt 6 (fun _ => some (0#32, s.now)) s.ctl.ramps) } }
  let m := s.reqMode req
  if s.reqRefused req || (decide (m = 2) && !s.gfmPermitted) then s.putFlag F.MODE_STAT_HOREF true
  else s.setActive m

/-- An ARM completes (R172). -/
def State.modeArm (s : State) : State := if s.live Pg.MODE then s.modeStart else s

/-- MODE stops with PG_CTRL.EN = 0 (R171, R172). -/
def State.modeStop (s : State) : State :=
  let refs := s.mode.refs
  let refs := modAt 0 (fun _ => 0#32) (modAt 1 (fun _ => 0#32) (modAt 4 (fun _ => 0#32) refs))
  let s := { s with mode := { s.mode with next := none, refs := refs } }
  let s := ((s.dropAsk).put F.MODE_STAT_MPPT0 0).put F.MODE_STAT_MPPT1 0
  (s.putFlag F.MODE_STAT_BLEND false).setActive 0

/-- EN goes to 1: with the bridge ARMED the requested mode comes at the first update (R172). -/
def State.modeEnable (s : State) : State := { s with mode := { s.mode with start := s.gd.armed } }

/-- What the islanding policy gives (R177): 2 GFM, 4 TRIP. -/
def State.islandPolicy (s : State) : Nat :=
  let p := s.get F.MODE_CFG_ISLPOL
  if p = 0 then (if s.batt then 2 else 4) else if p = 2 then 2 else 4

/-- REQ is AUTO and the bridge is ARMED (R177). -/
def State.autoOn (s : State) : Bool := decide (s.get F.MODE_REQ_REQ = 3) && s.gd.armed && s.live Pg.MODE

/-- A trigger of GFL: the islanding policy at the next update under AUTO (R177). -/
def State.gflTrigger (s : State) : State :=
  if s.autoOn && decide (s.modeActive = 1) then { s with mode := { s.mode with ask := some .island } } else s

/-- An island decision from PROT: GFL is invalid at once, and AUTO's trigger (R174, R177). -/
def State.modeIsland (s : State) : State :=
  if s.modeActive = 1 then ({ s with mode := { s.mode with gflBad := true } }).gflTrigger else s

/-- The Compass unlocks with `cause` (R174): MAG and INPUT end GFL at once, the others hold it for 10 cycles. Where
GFL's end is not AUTO's to act on, the next update requests the trip. -/
def State.modeUnlock (s : State) (cause : Nat) : State :=
  if cause = 3 || cause = 4 then
    (if s.modeActive = 1 then ({ s with mode := { s.mode with gflBad := true, hold := none } }).gflTrigger
     else { s with mode := { s.mode with hold := none } })
  else { s with mode := { s.mode with hold := some s.absBear } }

/-- The Compass locks: GFL is valid. -/
def State.modeLock (s : State) : State := { s with mode := { s.mode with hold := none, gflBad := false } }

/-! ### Limits and curtailment -/

/-- PROT's RECON limit (R276), in pu. -/
def State.reconLimit (s : State) : Rat :=
  match s.prot.rampAt with
  | some t =>
    let len := s.get F.PROT_RECON_RAMP_RAMP * (ticksPerSec / 10)
    if len = 0 then 1 else ratClamp 0 1 (((s.now - t : Nat) : Rat) / (len : Rat))
  | none => if s.prot.rampOn then 1 else 0

/-- The SPEC current limit is in force (R163, R176), and its figure. -/
def State.derated (s : State) : Bool := decide (s.get F.SPEC_SUBST_SUBST ≠ 0) && decide (wbits (s.reg Reg.SPEC_DERATE) 0 8 < 100)
def State.ilim (s : State) : Rat := if s.derated then (wbits (s.reg Reg.SPEC_DERATE) 0 8 : Rat) / 100 else 1

def State.headroom (s : State) : Bool := s.flag F.MODE_STAT_HEADROOM

/-- The headroom policy in force (R184). -/
def State.headPol (s : State) : Nat := if s.flag F.PROT_STAT_FRT then 0 else min 2 (s.get F.MODE_HEADROOM_POL_POL)

/-- RP in Hz per pu. -/
def State.rp (s : State) : Rat := (s.get F.MODE_DROOP_P_RP : Rat) / 1000

/-- The heatsink limit (R192). -/
def State.tempLimit (s : State) : Rat :=
  let start : Rat := (s.get F.MODE_CURTAIL_TSTART : Rat) / 256
  let span : Rat := (max 1 (s.get F.MODE_CURTAIL_TSPAN) : Rat) / 256
  ratClamp 0 1 ((s.inp 15 - (start - span)) / span)

/-- ef of R173, in Hz. -/
def State.freqErr (s : State) : Rat := s.freqQ - (s.nomHz : Rat)
def State.dbf (s : State) : Rat := (s.get F.MODE_DROOP_P_DBF : Rat) / 1000

/-- The curtailment sources that hold, code and limit in ascending order of code (R190). `p` is the P ramp output. -/
def State.curtailSources (s : State) (mode : Nat) (p : Rat) : List (Nat × Rat) :=
  let pset : Rat := (signed 16 (wbits (s.reg Reg.MODE_P_SET) 0 16) : Rat) / 32768
  let gfl := decide (mode = 1)
  [(0, 1)] ++
  (if gfl && !s.batt then [(1, pset)] else []) ++
  (if gfl && s.flag F.MODE_CFG_FWEN && decide (s.dbf < s.freqErr) then [(2, p - quot (s.freqErr - s.dbf) s.rp)] else []) ++
  (if gfl && s.flag F.MODE_CFG_GUARDEN then
    (match s.mode.ml with | some x => [(3, x)] | none => []) ++ (match s.mode.revpwr with | some x => [(4, x)] | none => [])
   else []) ++
  (if gfl && s.flag F.MODE_CFG_TEMPEN then [(5, s.tempLimit)] else []) ++
  (if s.headroom && decide (s.headPol ≠ 1) then [(6, s.mode.kH * s.ilim)] else []) ++
  (if s.derated then [(7, s.ilim)] else []) ++
  (if gfl then [(8, s.reconLimit)] else []) ++
  (if s.flag F.PROT_STAT_FRT && gfl then [(9, s.prot.pFrt)] else [])

/-- The lowest limit; of equal sources the lower code (R190). -/
def lowestLimit (best : Nat × Rat) : List (Nat × Rat) → Nat × Rat
  | [] => best
  | x :: xs => lowestLimit (if x.2 < best.2 then x else best) xs

/-- LIMIT and LIMSRC take the winning source; CURTAIL and GUARD are raised (R190, R191). -/
def State.setLimit (s : State) (w : Nat × Rat) : State :=
  let old := s.get F.MODE_STAT_LIMSRC
  let s := (s.put F.MODE_STAT_LIMSRC w.1).put F.MODE_CURTAIL_LIMIT (toFixedI 16 15 w.2)
  let s := if w.1 ≠ old ∧ w.1 ≠ 0 then s.note Pg.MODE 5 else s
  if w.1 ≠ old ∧ (w.1 = 3 ∨ w.1 = 4) then s.note Pg.MODE 6 else s

/-- The current limit of R176, then kH under R184. Policy 0 never reduces i_q by kH: ILIM alone bounds it. -/
def State.limitCurrent (s : State) (i : Cx) : Cx :=
  let lim := s.ilim * s.mode.kH
  let pol := s.headPol
  let i := if lim * lim < i.norm2 then
      (if pol = 2 then Cx.scale (quot lim (sqrtQ i.norm2)) i
       else if pol = 0 then
         (let q := ratClamp (-s.ilim) s.ilim i.q
          let d := if lim * lim < q * q then 0 else sqrtQ (lim * lim - q * q)
          { d := ratClamp (-d) d i.d, q := q })
       else
         (let d := ratClamp (-lim) lim i.d
          let q := sqrtQ (lim * lim - d * d)
          { d := d, q := ratClamp (-q) q i.q }))
    else i
  if pol = 0 then { i with d := s.mode.kH * i.d }
  else if pol = 1 then { i with q := s.mode.kH * i.q }
  else Cx.scale s.mode.kH i

/-! ### Ramps (R136, R186) -/

/-- The output of ramp unit `n`, in pu. -/
def State.rampOut (s : State) (n : Nat) : Rat := match nth none s.ctl.ramps n with | some (y, _) => F32.toRat y | none => 0

/-- The ramp output is set to `y` now. -/
def State.setRamp (s : State) (n : Nat) (y : Rat) : State :=
  { s with ctl := { s.ctl with ramps := modAt n (fun _ => some (F32.ofRat y, s.now)) s.ctl.ramps } }

/-- A unit of R136 moves from `y` toward `x` by at most `l`. -/
def moveToward (y x l : F32) : F32 :=
  if l = F32.posInf then x
  else if l.isNaN || !F32.lt 0#32 l then y
  else if ratAbs (F32.toRat x - F32.toRat y) ≤ F32.toRat l then x
  else if F32.lt y x then F32.add y l else F32.sub y l

/-- r·Δt of R136: how far a ramp of rate `r` moves in `dt` ticks, capped at 0.1 s. -/
def rampReach (r : F32) (dt : Nat) : F32 :=
  if r = F32.posInf then r
  else F32.mul r (F32.ofRat (((min dt (ticksPerSec / 10) : Nat) : Rat) / (ticksPerSec : Rat)))

/-- One execution of ramp unit `n` toward `x`, at `rate` in 0.1 % per second, 0 for infinity: CTL_RAMP takes the rate (R186). -/
def State.rampStep (s : State) (n rate : Nat) (x : Rat) : State :=
  let s := s.blockSet (Reg.CTL_RAMP n) (if rate = 0 then F32.posInf else F32.ofRat ((rate : Rat) / 1000))
  let x := (F32.ofRat x).tame
  let y := match nth none s.ctl.ramps n with
    | none => x
    | some (y, t) => moveToward y x (rampReach (s.reg (Reg.CTL_RAMP n)) (s.now - t))
  { s with ctl := { s.ctl with ramps := modAt n (fun _ => some (y.tame, s.now)) s.ctl.ramps } }

/-- The shared setpoints are in use (R173). -/
def State.shared (s : State) : Bool := s.flag F.QDL_CFG_SHAREEN && s.flag F.QDL_STAT_IN_FORMATION

/-- Inputs of the P and Q ramps (R173). -/
def State.pInput (s : State) : Rat :=
  if s.batt then
    (if s.shared then (signed 16 (wbits (s.reg Reg.QDL_SHARE) 0 16) : Rat) / 32768
     else (signed 16 (wbits (s.reg Reg.MODE_P_SET) 0 16) : Rat) / 32768)
  else (powerOf s.vPu s.iPu).1 + 4 * quot (s.inp 8 - s.mode.vdcEff) s.mode.vdcEff
def State.qInput (s : State) : Rat :=
  if s.shared then (signed 16 (wbits (s.reg Reg.QDL_SHARE) 16 16) : Rat) / 32768
  else (signed 16 (wbits (s.reg Reg.MODE_Q_SET) 0 16) : Rat) / 32768

/-- The volt-var term (R173). -/
def State.voltVar (s : State) : Rat :=
  if !s.flag F.MODE_CFG_VVEN then 0
  else
    let v := quot ((wbits (s.reg Reg.CPS_MAG) 0 24 : Rat) / 8388608) s.vBase
    let e := v - 1
    let dbv : Rat := (s.get F.MODE_DROOP_Q_DBV : Rat) / 10000
    let rv : Rat := (s.get F.MODE_DROOP_Q_RV : Rat) / 10000
    let lim : Rat := (s.get F.MODE_DROOP_Q_QLIM : Rat) / 100
    if ratClamp (-dbv) dbv e = e then 0
    else ratClamp (-lim) lim (-(quot (if e < 0 then e + dbv else e - dbv) rv))

/-- Both setpoint ramps are executed, in every mode (R186). -/
def State.rampsStep (s : State) : State :=
  (s.rampStep 6 (s.get F.MODE_P_SET_PRAMP) s.pInput).rampStep 7 (s.get F.MODE_Q_SET_QRAMP) s.qInput

/-- The under-frequency term of R173 raises P*, to 1.0 pu at most. -/
def State.freqBoost (s : State) (p : Rat) : Rat :=
  let ef := s.freqErr
  if s.flag F.MODE_CFG_FWEN && s.batt && decide (ef < -s.dbf) then
    (let x := p - quot (ef + s.dbf) s.rp
     if 1 < x then 1 else x)
  else p

/-- The active-power limit of mode `m` (R190). -/
def State.limitOf (s : State) (m : Nat) : Nat × Rat := lowestLimit (0, 1) (s.curtailSources m (s.rampOut 6))

/-- The GFL reference from P* (R173), before the limits; PROT's demand replaces i_q* in ride-through (R273). -/
def State.gflRef (s : State) (p : Rat) : Cx :=
  let v := s.vPu
  let q := s.rampOut 7 + s.voltVar
  let m := if v.norm2 < 1 / 4 then 1 / 4 else v.norm2
  let i : Cx := { d := (p * v.d + q * v.q) / m, q := (p * v.q - q * v.d) / m }
  if s.flag F.PROT_STAT_FRT then
    (if s.flag F.PROT_STAT_MC then Cx.zero else { i with q := s.prot.iqDem })
  else i

/-- PROT's bias advances i* after all limits (R269); φ in 0.1°. -/
def State.biased (s : State) (i : Cx) : Cx :=
  if s.prot.ai.phi = 0 then i else Cx.mul i (Cx.polar 1 (s.prot.ai.phi * 4294967296 / 3600))

/-- E moves for one update (R175): magnitude by at most 0.1 pu a cycle, angle by at most 0.5° a cycle. -/
def State.emfStep (s : State) : State :=
  let n : Rat := (max 1 s.pwm.carN : Nat)
  let rv : Rat := (s.get F.MODE_DROOP_Q_RV : Rat) / 10000
  let target := 1 - rv * (s.mode.qF - s.rampOut 7)
  let m := s.mode.emag + ratClamp (-(1 / 10) / n) ((1 / 10) / n) (target - s.mode.emag)
  let m := ratClamp 0 (6 / 5) m
  let ang := atan2Q s.mode.e.q s.mode.e.d
  let d := (5965232 : Rat) / n
  let ang := if s.mode.e.norm2 = 0 then 0 else ang - ratClamp (-d) d ang
  { s with mode := { s.mode with emag := m, e := Cx.polar m ang } }

/-- CPS_DROOP = -RP·(P_f - P0), Q12.20 units per tick (R175). -/
def State.writeDroop (s : State) : State :=
  if s.domOn 3 then
    let hz := -(s.rp * (s.mode.pF - s.rampOut 6))
    s.blockSet Reg.CPS_DROOP (BitVec.ofNat 32 (wrapBits 32 (clampInt (-2147483648) 2147483647
      (roundHalfUp (hz * (turn52 : Rat) / (ticksPerSec : Rat))))))
  else s

/-- The GFM reference before the limits. -/
def State.gfmRef (s : State) : Cx := Cx.div (Cx.sub s.mode.e s.vPu) s.vimp

/-- What one mode gives in an update: its current reference, and the limit it works under (R190). -/
structure ModeOut where
  i : Cx
  lim : Nat × Rat
  deriving DecidableEq, Repr

/-- Nothing: the references of STANDBY. -/
def ModeOut.none : ModeOut := { i := Cx.zero, lim := (0, 1) }

/-- GFL's reference: a limit below the P ramp output pulls it down, and P* lies below the limit (R173, R186, R190). -/
def State.gflRun (s : State) : State × ModeOut :=
  let w := s.limitOf 1
  let p := s.freqBoost (s.rampOut 6)
  let s := if w.2 < s.rampOut 6 then s.setRamp 6 w.2 else s
  (s, { i := s.biased (s.limitCurrent (s.gflRef (if w.2 < p then w.2 else p))), lim := w })

/-- One mode's reference for this update, with its state advanced: STANDBY 0, GFL, GFM. -/
def State.modeRun (s : State) (m : Nat) : State × ModeOut :=
  if m = 1 then s.gflRun
  else if m = 2 then
    (let s := (s.emfStep).writeDroop
     (s, { i := s.limitCurrent s.gfmRef, lim := s.limitOf 2 }))
  else (s, ModeOut.none)

/-- The incoming mode `m` is set from the active output (R178). -/
def State.track (s : State) (m : Nat) (iOut : Cx) : State :=
  if m = 2 then
    let e := Cx.add s.vPu (Cx.mul s.vimp iOut)
    { s with mode := { s.mode with e := e, emag := sqrtQ e.norm2 } }
  else if m = 1 then (s.setRamp 6 s.mode.pF).setRamp 7 s.mode.qF
  else s

/-- E is held to 1.2 pu by the mode that computes from it (R175, R178). -/
def State.clampE (s : State) : State :=
  if 6 / 5 < s.mode.emag then
    { s with mode := { s.mode with emag := 6 / 5, e := Cx.scale (quot (6 / 5) s.mode.emag) s.mode.e } }
  else s

/-- The incoming reference of mode `m` from its tracked state, every limit of it applied (R178). -/
def State.incoming (s : State) (m : Nat) : State × ModeOut :=
  if m = 2 then
    (let s := s.clampE
     (s, { i := s.limitCurrent s.gfmRef, lim := s.limitOf 2 }))
  else if m = 1 then s.gflRun
  else (s, ModeOut.none)

/-- A handover is refused, with `old` as the mode to stay in (R181). -/
def State.handoverRefused (s : State) (old : Nat) : State :=
  let s := (s.note Pg.MODE 2).putFlag F.MODE_STAT_HOREF true
  let s := ({ s with mode := { s.mode with blend := none } }).putFlag F.MODE_STAT_BLEND false
  if s.modeValid old then s.setActive old else s.modeTrip

/-- A handover ends (R179, R180). -/
def State.handoverDone (s : State) : State :=
  ((({ s with mode := { s.mode with blend := none } }).putFlag F.MODE_STAT_BLEND false).putFlag F.MODE_STAT_HOREF false).note
    Pg.MODE 1

/-- A refused handover's output: the old mode's where it stays. -/
def State.stayOut (s : State) (old : Nat) (out : ModeOut) : State × ModeOut :=
  let s := s.handoverRefused old
  (s, if s.modeActive = old then out else ModeOut.none)

/-- A switch from the active mode to `m`, whose output is `out` in this update (R178, R179). Answers the update's output. -/
def State.switchTo (s : State) (m : Nat) (out : ModeOut) : State × ModeOut :=
  let old := s.modeActive
  if !s.modeValid m then s.stayOut old out
  else
    let (s', new) := (s.track m out.i).incoming m
    let d2 := (Cx.sub new.i out.i).norm2
    let tol : Rat := (wbits (s.reg Reg.MODE_HANDOVER_TOL) 0 16 : Rat) / 32768
    let ab : Rat := (wbits (s.reg Reg.MODE_HANDOVER_ABORT) 0 16 : Rat) / 32768
    if d2 ≤ tol * tol then ((s'.setActive m).handoverDone, new)
    else if d2 ≤ ab * ab then
      ((({ s' with mode := { s'.mode with blend := some (old, 0) } }).putFlag F.MODE_STAT_BLEND true).putFlag F.MODE_STAT_HOREF false
        |>.setActive m, { out with lim := new.lim })
    else s.stayOut old out

/-- One update of a blend (R180). -/
def State.blendStep (s : State) (old ticks : Nat) : State × ModeOut :=
  let m := s.modeActive
  if !s.modeValid m then
    (let s := s.handoverRefused old
     s.modeRun s.modeActive)
  else
    let (s, out) := s.modeRun old
    let (s, new) := s.modeRun m
    let total := max 1 (wbits (s.reg Reg.MODE_HANDOVER_RAMP) 0 8) * max 1 s.pwm.carN
    if total ≤ ticks + 1 then (s.handoverDone, new)
    else
      let w : Rat := ((ticks + 1 : Nat) : Rat) / (total : Rat)
      ({ s with mode := { s.mode with blend := some (old, ticks + 1) } },
        { new with i := Cx.add (Cx.scale (1 - w) out.i) (Cx.scale w new.i) })

/-- The mode that GFL's end asks for, where it is ACTIVE and no longer valid: 4 is the trip (R174, R177). -/
def State.gflEnd (s : State) : Option Nat :=
  if decide (s.modeActive = 1) && !s.gflValid then some (if s.autoOn then s.islandPolicy else 4) else none

/-- What has been asked for is judged (R172, R177, R182): answers the mode to be ACTIVE, 4 for the trip. A trigger of AUTO acts only
in the mode it is a trigger of. -/
def State.judgeAsk (s : State) : State × Option Nat :=
  let t := { s with mode := { s.mode with ask := none } }
  match s.mode.ask with
  | some (.request r) =>
    if s.reqRefused r then
      (({ t with mode := { t.mode with askRefused := true } }).putFlag F.MODE_STAT_HOREF true, s.gflEnd)
    else ((t.put F.MODE_REQ_REQ r).putFlag F.MODE_STAT_AUTO (decide (r = 3)), some (s.reqMode r))
  | some .island => (t, if s.autoOn && decide (s.modeActive = 1) then some s.islandPolicy else s.gflEnd)
  | some .genReturn =>
    (t, if s.autoOn && decide (s.modeActive = 2) && s.flag F.CPS_STAT_LOCKED then some 1 else s.gflEnd)
  | none => (t, s.gflEnd)

/-- The active mode's output, and the switch where one is wanted (R178 to R182). -/
def State.modeOutputs (s : State) : State × Cx :=
  if !(s.gd.armed && s.live Pg.MODE) then (s.setLimit (0, 1), Cx.zero)
  else
    let (s, out) := match s.mode.blend with
      | some (old, k) => s.blendStep old k
      | none => s.modeRun s.modeActive
    let (s, out) :=
      if s.mode.blend.isSome then (s, out)
      else
        let (s, w) := s.judgeAsk
        match w with
        | none => (s, out)
        | some 4 => if s.modeActive = 0 then (s, out) else (s.modeTrip, ModeOut.none)
        | some m => if m = s.modeActive then (s, out) else s.switchTo m out
    (s.setLimit out.lim, out.i)

/-! ### Headroom (R183 to R185) -/

def State.mMax (s : State) : Rat := (s.get F.MODE_M_MAX_M_MAX : Rat) / 16384

/-- A commit passes the modulators' figures (R183). -/
def State.modeCommit (s : State) (figs : List (Option Rat)) : State :=
  match figs.filterMap id with
  | [] => s
  | f :: fs =>
    if !s.live Pg.MODE then s
    else
      let m := fs.foldl (fun a b => if a < b then b else a) f
      let s := ({ s with mode := { s.mode with mfig := some m } }).put F.MODE_STAT_MFIG (toFixed 7 6 m)
      if s.mMax < m && !s.headroom then (s.putFlag F.MODE_STAT_HEADROOM true).note Pg.MODE 3 else s

/-- kH and Vdc*_eff of an update: VDCSET, and on top of it what HEADROOM has raised (R183, R185). -/
def State.headroomStep (s : State) : State :=
  let set : Rat := (s.get F.MODE_MPPT_CFG_VDCSET : Rat) / 256
  let top := set * (s.get F.MODE_HEADROOM_POL_VDCUP : Rat) / 100
  let rate := set / 100 / ((max 1 s.pwm.carN : Nat) : Rat)
  let up := ratClamp 0 top (if s.headroom then s.mode.vdcRise + rate else s.mode.vdcRise - rate)
  let s := { s with mode := { s.mode with vdcEff := set + up, vdcRise := up } }
  if !s.headroom then s
  else
    let f := s.mode.mfig.getD 0
    let hyst : Rat := (s.get F.MODE_HEADROOM_POL_HYST : Rat) / 256
    let k := s.mode.kH
    let up := decide (f ≤ s.mMax - hyst)
    let k := if s.mMax < f then ratClamp 0 1 (k - 1 / 64) else if up then ratClamp 0 1 (k + 1 / 256) else k
    let s := ({ s with mode := { s.mode with kH := k } }).put F.MODE_STAT_KH (roundHalfUp (256 * k)).toNat
    if up && decide (k = 1) then s.putFlag F.MODE_STAT_HEADROOM false else s

/-! ### The update (R170, R171) -/

/-- The coefficient of a first-order filter with a time constant of 2 cycles over `n` updates a cycle: 1 − exp(−1/(2n)) and the
forms that stand for it lie between these bounds (R170). -/
def filterGain (n : Nat) : Rat := ratClamp (1 / (2 * (n : Rat) + 1)) (1 / (2 * (n : Rat))) (Config.filterGain n)

/-- The filter of P and Q (R170). -/
def State.modeFilter (s : State) : State :=
  let (p, q) := powerOf s.vPu s.iPu
  let g := filterGain (max 1 s.pwm.carN)
  { s with mode := { s.mode with pF := s.mode.pF + g * (p - s.mode.pF), qF := s.mode.qF + g * (q - s.mode.qF) } }

/-- The tracker of string `k` runs (R187). -/
def State.trackerOn (s : State) (k : Nat) : Bool :=
  s.gd.armed && s.live Pg.MODE && (if k = 0 then s.flag F.MODE_CFG_MPPT0EN else s.flag F.MODE_CFG_MPPT1EN)

/-- A tracker that does not run keeps its Vref, VOC and step, and nothing of a period. -/
def Tracker.stop (t : Tracker) : Tracker :=
  { t with prev := none, dir := 0, curtail := false, run := false, sumV := 0, sumI := 0, n := 0, cyc := 0, due := none }

/-- One update of tracker `k`: CURTAIL is judged, its string's voltage and current are summed (R187, R188). -/
def State.trackerUpdate (s : State) (k : Nat) (t : Tracker) : Tracker :=
  if !s.trackerOn k then t.stop
  else
    let link := s.inp 8
    let t : Tracker := { t with
      curtail := if t.curtail then decide (101 / 100 * s.mode.vdcEff ≤ link) else decide (102 / 100 * s.mode.vdcEff < link) }
    if t.run then { t with sumV := t.sumV + s.inp (9 + 2 * k), sumI := t.sumI + s.inp (10 + 2 * k), n := t.n + 1 } else t

/-- An update of both trackers and of the sweep's point. -/
def State.trackerSums (s : State) : State :=
  let sw := s.mode.sweep.map (fun (w : Sweep) =>
    let v := s.inp (9 + 2 * w.strings.headD 0)
    let i := s.inp (10 + 2 * w.strings.headD 0)
    if w.begun then { w with sumV := w.sumV + v, sumP := w.sumP + v * i, n := w.n + 1 } else w)
  { s with mode := { s.mode with
      trackers := modAt 1 (s.trackerUpdate 1) (modAt 0 (s.trackerUpdate 0) s.mode.trackers), sweep := sw } }

/-- The tracker's Vref that channels 5 and 6 show: the sweep's point while it is swept. -/
def State.vrefOut (s : State) (k : Nat) : Rat := (nth Tracker.reset s.mode.trackers k).vref

/-- MODE_STAT.MPPTk and MODE_MPPT_STAT. -/
def State.showTracker (s : State) (k : Nat) : State :=
  let t := nth Tracker.reset s.mode.trackers k
  let sweeping := match s.mode.sweep with | some w => decide (w.strings.head? = some k) | none => false
  let st := if !s.trackerOn k then 0 else if sweeping then 3 else if t.curtail then 2 else 1
  let s := s.put (if k = 0 then F.MODE_STAT_MPPT0 else F.MODE_STAT_MPPT1) st
  s.setReg (Reg.MODE_MPPT_STAT k) (BitVec.ofNat 32 (toFixed 16 16 t.vref + 65536 * toFixed 16 16 t.voc))

/-- A sweep ends before its last point: the trackers go on from where they stand (R193). -/
def State.sweepDrop (s : State) : State :=
  if s.mode.sweep.isNone then s
  else ((({ s with mode := { s.mode with sweep := none } }).showTracker 0).showTracker 1).note Pg.MODE 4

/-- An update in the tick of a carrier-tick boundary (R170): inputs are read, and the set it gives becomes visible 400 ticks
on. -/
def State.modeUpdate (s : State) : State :=
  if !s.live Pg.MODE then s
  else
    let s := match s.mode.next with
      | some r => { s with mode := { s.mode with refs := r, next := none } }
      | none => s
    let s := { s with mode := { s.mode with inp := s.modeInputs } }
    let s := if s.gd.armed then s else s.sweepDrop
    let s := ((s.modeFilter).headroomStep).trackerSums
    let s := s.putFlag F.MODE_STAT_DERATE s.derated
    let s := if s.gd.armed && s.mode.start then s.modeStart else s
    let s := s.rampsStep
    let (s, i) := s.modeOutputs
    let s := (s.showTracker 0).showTracker 1
    let k := s.vdcScale
    let refs := [i.d * s.iBase, i.q * s.iBase, s.vPu.d * s.vBase, s.inp 8 * k,
      quot (s.mode.vdcEff - s.inp 8) s.mode.vdcEff, s.vrefOut 0, s.vrefOut 1, s.mode.vdcEff * k]
    { s with mode := { s.mode with next := some (refs.map F32.ofRat), nextAt := s.now + 400 } }

/-- The update ends: its set becomes visible (R170). -/
def State.modeUpdateEnd (s : State) : State :=
  match s.mode.next with
  | none => s
  | some r =>
    let s := s.elapseTo s.mode.nextAt
    { s with mode := { s.mode with refs := r, next := none } }

/-- A write of MODE_REQ (R172, R182): in a blend it is held for the update that ends it. Answers whether it was refused. -/
def State.modeRequest (s : State) (req : Nat) : State × Bool :=
  if s.mode.blend.isSome then ({ s with mode := { s.mode with ask := some (.request req), askRefused := false } }, false)
  else if s.reqRefused req then (s.putFlag F.MODE_STAT_HOREF true, true)
  else
    let s := (s.put F.MODE_REQ_REQ req).putFlag F.MODE_STAT_AUTO (decide (req = 3))
    if !(s.gd.armed && s.live Pg.MODE) || s.mode.start then
      ({ s with mode := { s.mode with askRefused := false } }, false)
    else if s.modeActive = s.reqMode req then ({ s with mode := { s.mode with ask := none, askRefused := false } }, false)
    else ({ s with mode := { s.mode with ask := some (.request req), askRefused := false } }, false)

/-! ### MPPT (R187 to R189) -/

def State.floorV (s : State) : Rat := s.mode.vdcEff / 10

def State.modTracker (s : State) (k : Nat) (f : Tracker → Tracker) : State :=
  { s with mode := { s.mode with trackers := modAt k f s.mode.trackers } }

/-- Vref held between the floor and 0.95 VOC; a tracker that reaches its floor holds there. -/
def State.clampVref (s : State) (voc x : Rat) : Rat :=
  let x := if 19 / 20 * voc < x then 19 / 20 * voc else x
  if x < s.floorV then s.floorV else x

/-- STEPMIN and STEPMAX in force. -/
def State.stepMin (s : State) : Rat := (max 1 (s.get F.MODE_MPPT_CFG_STEPMIN) : Nat)
def State.stepMax (s : State) : Rat := (max (max 1 (s.get F.MODE_MPPT_CFG_STEPMIN)) (s.get F.MODE_MPPT_CFG_STEPMAX) : Nat)

/-- sign of a number. -/
def ratSign (x : Rat) : Int := if x < 0 then -1 else if 0 < x then 1 else 0

/-- The direction of incremental conductance (R187). -/
def mpptDir (v i pv pi' : Rat) : Int :=
  let dv := v - pv
  let di := i - pi'
  if dv = 0 then ratSign di
  else
    let c := quot i v
    let g := di / dv + c
    if (if g < 0 then -g else g) ≤ c / 256 then 0 else ratSign g

/-- One step of a tracker from the means `v` and `i` of its period (R187); in CURTAIL, up by STEPMAX (R188). -/
def State.trackerStep (s : State) (t : Tracker) (v i : Rat) : Tracker :=
  let t0 : Tracker := { t with due := none, prev := some (v, i) }
  let unit : Rat := 1 / 16384
  if t.curtail then
    { t0 with vref := (let x := t.vref + s.stepMax * unit
                       let x := if 19 / 20 * t.voc < x then 19 / 20 * t.voc else x
                       if x < t.vref then t.vref else x) }
  else match t.prev with
    | none => { t0 with step := s.stepMin, vref := s.clampVref t.voc t.vref }
    | some (pv, pi') =>
      let dir := mpptDir v i pv pi'
      let step := if dir = 0 then t.step
        else if dir = t.dir then (if s.stepMax < 2 * t.step then s.stepMax else 2 * t.step)
        else if dir = -t.dir then (if t.step / 2 < s.stepMin then s.stepMin else t.step / 2)
        else t.step
      { t0 with dir := dir, step := step, vref := s.clampVref t.voc (t.vref + (dir : Rat) * step * unit) }

/-- The period of tracker `k` that has ended is judged (R187, R188). -/
def State.trackerPeriod (s : State) (k : Nat) : State :=
  match (nth Tracker.reset s.mode.trackers k).due with
  | some (v, i) => (s.modTracker k (fun t => s.trackerStep t v i)).showTracker k
  | none => s

def State.mpptPeriodEnd (s : State) : State := (s.trackerPeriod 0).trackerPeriod 1

/-- A cycle ends for a tracker: after PERIOD of them its means are taken; outside a period, one begins (R187). -/
def Tracker.cycle (t : Tracker) (period : Nat) : Tracker :=
  if !t.run then { t with run := true, sumV := 0, sumI := 0, n := 0, cyc := 0 }
  else if period ≤ t.cyc + 1 then
    { t with due := some (quot t.sumV (t.n : Rat), quot t.sumI (t.n : Rat)), sumV := 0, sumI := 0, n := 0, cyc := 0 }
  else { t with cyc := t.cyc + 1 }

/-- String `k` is being swept. -/
def State.sweeping (s : State) (k : Nat) : Bool :=
  match s.mode.sweep with | some w => decide (w.strings.head? = some k) | none => false

/-- Both trackers count a cycle; a string that is swept has no period. -/
def State.trackerCycle (s : State) (k : Nat) : State :=
  if s.trackerOn k && !s.sweeping k then s.modTracker k (fun t => t.cycle (max 1 (s.get F.MODE_MPPT_CFG_PERIOD))) else s

/-- What bars a sweep: a tracker in CURTAIL (BUSY_RESOURCE 0x04), the bridge not ARMED (NOT_READY 0x08), none (0). -/
def State.sweepBar (s : State) : Nat :=
  if !(s.gd.armed && s.live Pg.MODE) then 8 else if s.mode.trackers.any (fun t => t.curtail) then 4 else 0

/-- The boost of string `k` is held off, or let go (R189). -/
def State.holdBoost (s : State) (k : Nat) : State := s.modGd (5 + k) (fun l => l.hiOff s.fine)

/-- A sweep of `k :: ks` that takes VOC of string `k` first. -/
def Sweep.start (k : Nat) (ks : List Nat) (begun : Bool) : Sweep :=
  { strings := k :: ks, point := none, begun := begun, sumV := 0, sumP := 0, n := 0, best := none }

/-- A sweep of the strings of `mask` starts: its first cycle, the VOC of its first string, begins at the next BEAR_CYCLE increment
(R189). -/
def State.sweepStart (s : State) (mask : Nat) : State :=
  match [0, 1].filter (fun k => natBit mask k) with
  | [] => s
  | k :: ks => ({ s with mode := { s.mode with sweep := some (Sweep.start k ks false) } }).showTracker k

/-- V_k of point `j` (R189). -/
def sweepV (voc : Rat) (j : Nat) : Rat := voc * (1 / 2 + 9 / 20 * (j : Rat) / 63)

/-- The first point from `j` on that does not lie below the floor; `n` points are left. -/
def State.sweepNext (s : State) (voc : Rat) : Nat → Nat → Option Nat
  | 0, _ => none
  | n + 1, j => if sweepV voc j < s.floorV then s.sweepNext voc n (j + 1) else some j

/-- The sweep of the first string ends at its best point; the next string follows, or the sweep ends (R189). -/
def State.sweepStringEnd (s : State) (w : Sweep) (k : Nat) : State :=
  let v := (w.best.map Prod.fst).getD s.floorV
  let s := s.modTracker k (fun t =>
    { t with vref := v, step := s.stepMin, prev := none, dir := 0, run := true, sumV := 0, sumI := 0, n := 0, cyc := 0, due := none })
  match w.strings.drop 1 with
  | [] => (({ s with mode := { s.mode with sweep := none } }).showTracker k).note Pg.MODE 4
  | k' :: ks =>
    ((({ s with mode := { s.mode with sweep := some (Sweep.start k' ks true) } }).holdBoost k').showTracker k).showTracker k'

/-- The sweep goes to the first point at or after `j`, or ends on this string. -/
def State.sweepGo (s : State) (w : Sweep) (k j : Nat) (voc : Rat) : State :=
  match s.sweepNext voc (64 - j) j with
  | some p =>
    let s := s.modTracker k (fun t => { t with vref := sweepV voc p, voc := voc })
    ({ s with mode := { s.mode with sweep := some { w with point := some p, sumV := 0, sumP := 0, n := 0 } } }).showTracker k
  | none => s.sweepStringEnd w k

/-- A cycle of a sweep ends, or its first begins (R189). -/
def State.sweepPoint (s : State) : State :=
  match s.mode.sweep with
  | none => s
  | some w =>
    let k := w.strings.headD 0
    if !w.begun then ({ s with mode := { s.mode with sweep := some { w with begun := true } } }).holdBoost k
    else
      match w.point with
      | none =>
        let v := quot w.sumV (w.n : Rat)
        (s.modTracker k (fun t => { t with voc := v })).sweepGo w k 0 v
      | some p =>
        let voc := (nth Tracker.reset s.mode.trackers k).voc
        let power := quot w.sumP (w.n : Rat)
        let best := match w.best with
          | some (bv, bp) => if bp < power then some (sweepV voc p, power) else some (bv, bp)
          | none => some (sweepV voc p, power)
        s.sweepGo { w with best := best } k (p + 1) voc

/-- A BEAR_CYCLE increment: what an ended period gave is judged first, tracker periods count, a sweep takes its point. -/
def State.mpptCycle (s : State) : State :=
  if !(s.gd.armed && s.live Pg.MODE) then s
  else (((s.mpptPeriodEnd).trackerCycle 0).trackerCycle 1).sweepPoint

/-! ### Genset guards (R191) and plant-bus triggers (R177) -/

/-- The gensets that report their breaker closed, and the lowest load of theirs in percent. -/
def State.gensClosed (s : State) : List Nat :=
  (List.range 2).filter (fun n => s.flag (F.BUS_GEN_LOAD_VALID n) && s.flag (F.BUS_GEN_LOAD_BRK n))

/-- One evaluation of the guards with the lowest load `l` in percent (R191): MINLOAD binds while ML is set. -/
def State.guards (s : State) (l : Rat) : State :=
  let w := s.reg Reg.MODE_GEN_MINLOAD
  let k := quot (2 * (wbits w 16 8 : Rat)) (wbits w 24 8 : Rat)
  let ml : Rat := wbits w 0 8
  let rpg : Rat := wbits w 8 8
  let pNow := s.mode.pF
  let rev : Option Rat := if l < rpg then some (pNow + (l - rpg) / 100 * k) else none
  let start : Option Rat := if s.mode.ml.isNone && decide (l < ml) then some pNow else s.mode.ml
  let m : Option Rat := (start.map (fun x => x + 1 / 4 * (l - ml) / 100 * k)).filter (fun x => decide (x < 1))
  { s with mode := { s.mode with revpwr := rev, ml := m } }

/-- The lowest of the gensets' loads, in percent. -/
def minLoad (load : Nat → Rat) : List Nat → Option Rat
  | [] => none
  | n :: ns => match minLoad load ns with
    | none => some (load n)
    | some x => some (if load n < x then load n else x)

/-- The guards are evaluated where GUARDEN and a closed breaker ask for it. -/
def State.guardsUpdate (s : State) (load : Nat → Rat) : State :=
  match minLoad load s.gensClosed with
  | some l => if s.flag F.MODE_CFG_GUARDEN then s.guards l else s
  | none => s

/-- Genset loss and return (R177). A loss during a blend to GFL makes GFL invalid, and the blend stops (R180). -/
def State.gensetTriggers (s : State) : State :=
  let closed := s.gensClosed ≠ []
  let run := if closed then 0 else s.mode.genLoss + 1
  let s := { s with mode := { s.mode with genLoss := run } }
  if 2 ≤ run ∧ s.autoOn ∧ s.modeActive = 1 then
    (if s.mode.blend.isSome then { s with mode := { s.mode with gflBad := true } } else s.gflTrigger)
  else if closed ∧ (s.autoOn && s.flag F.CPS_STAT_LOCKED && s.flag F.MODE_CFG_GENRET) ∧ s.modeActive = 2 then
    { s with mode := { s.mode with ask := some .genReturn } }
  else s

/-- A plant-bus update has ended; `load n` gives genset n's load in percent, `fresh` whether the data is not stale. -/
def State.modePlant (s : State) (fresh : Bool) (load : Nat → Rat) : State :=
  let s := if s.domOn 4 then s.putFlag F.MODE_STAT_GENOK fresh else s
  if s.live Pg.MODE && fresh then (s.guardsUpdate load).gensetTriggers else s

end Sys2Proof.Machine
end

