-- ==== Sys2Proof/Machine/Prot.lean ====
section
/-! DEFINITION. Grid protection, anti-islanding and ride-through (spec/12). A voltage measure is held as the square of U_x in pu,
so that every comparison is exact. -/

namespace Sys2Proof.Machine

/-- PROT runs. -/
def State.protOn (s : State) : Bool := s.live Pg.PROT

def State.carN (s : State) : Nat := max 1 s.pwm.carN

/-- WARN bit `i` is set; source 85 where it goes from 0 to 1 (R280). -/
def State.protWarn (s : State) (i : Nat) : State :=
  if s.bitOf Reg.PROT_STAT (16 + i) then s else (s.setW1c Reg.PROT_STAT (16 + i)).note Pg.PROT 5

/-! ### Profiles (R255) -/

/-- PROT_PROFILE.SEAL: seal code S1 and S2; a seal fault gives 0. -/
def State.sealProfile (s : State) : Nat := if s.safe.fault then 0 else s.safe.code % 4

def State.profMis (s : State) : Bool := decide (s.get F.PROT_PROFILE_SEL ≠ s.sealProfile)

/-- WARN.PROFMIS where PROFMIS has become 1. -/
def State.warnProfile (s : State) (was : Bool) : State := if s.profMis && !was then s.protWarn 1 else s

/-! ### Measures (R256, R257) -/

/-- VNOM as a fraction of the VA full scale, the phase values of this boundary. -/
def State.vnomQ (s : State) : Rat := (s.get F.PROT_PROFILE_VNOM : Rat) / 65536
def State.phaseV (s : State) (x : Nat) : Option Rat := s.tap (s.vChan x)

/-- The sum of the squares of the samples present, and their number. -/
def squares : List (Option Rat) → Rat × Nat
  | [] => (0, 0)
  | some v :: xs => ((squares xs).1 + v * v, (squares xs).2 + 1)
  | none :: xs => squares xs

/-- Samples of phase `x` under VLL: the difference of two phases at each boundary. -/
def lineDiff : List (Option Rat) → List (Option Rat) → List (Option Rat)
  | some a :: as, some b :: bs => some (a - b) :: lineDiff as bs
  | _ :: as, _ :: bs => none :: lineDiff as bs
  | _, _ => []

/-- The square of U_x in pu over the newest H samples; none while fewer than H/2 are present. -/
def State.measure (s : State) (x : Nat) : Option Rat :=
  let h := max 1 (s.carN / 2)
  let vll := s.flag F.PROT_PROFILE_VLL
  let w (k : Nat) := nth [] s.prot.win k
  let samples := (if vll then lineDiff (w x) (w ((x + 1) % 3)) else w x).take h
  let (sum, n) := squares samples
  if 2 * n < h ∨ s.vnomQ = 0 then none
  else some (2 * sum / (n : Rat) / (s.vnomQ * s.vnomQ) / (if vll then 3 else 1))

/-- f at the boundary: CPS_FREQ in Hz; absent in SEARCH and with the synchroniser stopped. -/
def State.freqMeasure (s : State) : Option Rat :=
  if s.live Pg.CPS && s.cps.acquired then some (((s.reg Reg.CPS_FREQ).toNat : Rat) / 1048576) else none

/-- U_pos of R256. -/
def State.uPos (s : State) : Rat := quot ((wbits (s.reg Reg.CPS_MAG) 0 24 : Rat) / 8388608) s.vnomQ

/-- U compared with a threshold through the squares. -/
def u2Gt (u2 t : Rat) : Bool := decide (t < 0) || decide (t * t < u2)
def u2Lt (u2 t : Rat) : Bool := decide (0 < t) && decide (u2 < t * t)
def u2Le (u2 t : Rat) : Bool := !u2Gt u2 t
def u2Ge (u2 t : Rat) : Bool := !u2Lt u2 t

def listMin : List Rat → Option Rat
  | [] => none
  | x :: xs => match listMin xs with
    | none => some x
    | some y => some (if x < y then x else y)
def listMax : List Rat → Option Rat
  | [] => none
  | x :: xs => match listMax xs with
    | none => some x
    | some y => some (if y < x then x else y)

def State.uPresent (s : State) : List Rat := s.prot.u2.filterMap id
def State.uMin (s : State) : Option Rat := listMin s.uPresent
def State.uMax (s : State) : Option Rat := listMax s.uPresent

def optBelow (o : Option Rat) (t : Rat) : Bool := match o with | some u => u2Lt u t | none => false
def optAbove (o : Option Rat) (t : Rat) : Bool := match o with | some u => u2Gt u t | none => false
/-- Every present measure lies at or below, at or above, `t`, and one is present. -/
def optLe (o : Option Rat) (t : Rat) : Bool := match o with | some u => u2Le u t | none => false
def optGe (o : Option Rat) (t : Rat) : Bool := match o with | some u => u2Ge u t | none => false

/-- Samples join the windows and the measures are formed; VABS where one becomes absent (R257). -/
def State.takeMeasures (s : State) : State :=
  let win := (List.range 3).map (fun x => (s.phaseV x :: nth [] s.prot.win x).take (max 1 (s.carN / 2)))
  let old := s.prot.u2
  let s := { s with prot := { s.prot with win := win } }
  let u2 := (List.range 3).map s.measure
  let f := s.freqMeasure
  let lost := (List.range 3).any (fun x => (nth none old x).isSome && (nth none u2 x).isNone) || (s.prot.fHad && f.isNone)
  let absent := (List.range 3).map (fun x =>
    if (nth none u2 x).isNone && s.gd.armed then nth 0 s.prot.absent x + 1 else 0)
  let s := { s with prot := { s.prot with u2 := u2, absent := absent, fHad := f.isSome } }
  if lost then s.protWarn 3 else s

/-! ### Trips (R264, R265) -/

/-- The record of this tick's trip is replaced by one with a lower cause and the joined mask. -/
def State.tripMerge (s : State) (cause stage mask phases value : Nat) : State :=
  let low := min cause s.prot.tripCause
  let m := s.prot.tripMask ||| mask
  let old := 0x2000 + s.prot.tripCause
  let first := decide (cause < s.prot.tripCause)
  let staged := s.log.staged.map (fun (r : LogRec) =>
    if r.tick = s.now ∧ r.code = old then
      { r with code := 0x2000 + low, d0 := BitVec.ofNat 32 m, d1 := if first then BitVec.ofNat 32 value else r.d1 } else r)
  let s := { s with log := { s.log with staged := staged }, prot := { s.prot with tripCause := low, tripMask := m } }
  if first && s.prot.tripFirst then
    s.setReg Reg.PROT_TRIP_CAUSE (BitVec.ofNat 32 (cause + 16 * stage + 256 * phases + 65536 * satTo 65535 value))
  else s

/-- A trip with cause code 1 to 12 (R264): TRIPPED, RECONOK, PROT_TRIP_CAUSE, the record, EV48, EV51 and source 80. A second
cause in the tick joins the one record. -/
def State.protTrip (s : State) (cause stage mask phases value : Nat) : State :=
  if s.prot.tripAt = some s.now then s.tripMerge cause stage mask phases value
  else
    let first := !s.flag F.PROT_STAT_TRIPPED
    let s := { s with prot := { s.prot with tripAt := some s.now, tripFirst := first, tripCause := cause, tripMask := mask, recon := 0 } }
    let s := (s.putFlag F.PROT_STAT_TRIPPED true).putFlag F.PROT_STAT_RECONOK false
    let s := if first then
        s.setReg Reg.PROT_TRIP_CAUSE (BitVec.ofNat 32 (cause + 16 * stage + 256 * phases + 65536 * satTo 65535 value)) else s
    let s := s.logRec (0x2000 + cause) (BitVec.ofNat 32 mask) (BitVec.ofNat 32 (satTo 65535 value))
    (s.occurNext Pg.PROT 0).relayOpen

/-- A cause that stands acts once until it has gone (bit `b` of `stood`). -/
def State.standing (s : State) (b : Nat) (now : Bool) (act : State → State) : State :=
  let was := s.prot.stood.getLsbD b
  let s := { s with prot := { s.prot with
    stood := (s.prot.stood &&& ~~~(1#6 <<< b)) ||| (if now then 1#6 <<< b else 0#6) } }
  if now && !was then act s else s

/-! ### Stages (R258, R259) -/

/-- Stage word of stage `i`: OV0 to OV3, UV0 to UV3, OF0, OF1, UF0, UF1. -/
def stageAddr (i : Nat) : Nat := 0x20044 + 4 * i

/-- Cause code of stage `i`, and its index within its kind. -/
def stageCause (i : Nat) : Nat := if i < 4 then 1 else if i < 8 then 2 else if i < 10 then 3 else 4
def stageIndex (i : Nat) : Nat := if i < 8 then i % 4 else i % 2

def State.stageThr (s : State) (i : Nat) : Nat := wbits (s.reg (stageAddr i)) 0 16

/-- L in carrier ticks (R259). -/
def State.stageL (s : State) (i : Nat) : Nat :=
  let w := s.reg (stageAddr i)
  let m := match wbits w 30 2 with
    | 0 => 1
    | 1 => s.carN
    | 2 => 16 * s.carN
    | _ => 256 * s.carN
  wbits w 16 14 * m

/-- The stage's measures call for an excursion, for a recovery (R258). None: it holds its timer (R257). -/
def State.stageJudge (s : State) (i : Nat) : Option (Bool × Bool) :=
  let thr := s.stageThr i
  let u : Rat := (thr : Rat) / 16384
  let f : Rat := (thr : Rat) / 100
  if i < 4 then some (optAbove s.uMax u, optLe s.uMax (u - 1 / 100))
  else if i < 8 then some (optBelow s.uMin u, optGe s.uMin (u + 1 / 100))
  else match s.freqMeasure with
    | none => none
    | some x =>
      if i < 10 then some (decide (f < x), decide (x ≤ f - 1 / 50)) else some (decide (x < f), decide (f + 1 / 50 ≤ x))

/-- One stage at a boundary: `adv` where its timer counts bearing ticks (R259, R260). -/
def State.stageStep (s : State) (adv : Bool) (i : Nat) : State :=
  let t := nth { on := false, count := 0, tripped := false, due := false } s.prot.stages i
  let off : StageTimer := { on := false, count := 0, tripped := false, due := false }
  let t' : StageTimer :=
    if s.stageThr i = 0 then off
    else if 4 ≤ i ∧ i < 8 ∧ s.prot.uvWait.isSome then off
    else match s.stageJudge i with
      | none => { t with due := false }
      | some (exc, rec) =>
        if rec then off
        else if t.tripped then { t with due := false }
        else if t.on then
          (let n := if adv then t.count + 1 else t.count
           { t with count := n, due := decide (s.stageL i ≤ n) })
        else if exc then { off with on := true, due := decide (s.stageL i = 0) }
        else off
  { s with prot := { s.prot with stages := modAt i (fun _ => t') s.prot.stages } }

def State.stagesStep (s : State) (adv : Bool) : State := (List.range 12).foldl (fun s i => s.stageStep adv i) s

/-- Phases whose measure lies beyond the threshold of stage `i`, as bits. -/
def State.stagePhases (s : State) (i : Nat) : Nat :=
  let u : Rat := (s.stageThr i : Rat) / 16384
  if 8 ≤ i then 0
  else ((List.range 3).map (fun x =>
    match nth none s.prot.u2 x with
    | some v => if (if i < 4 then u2Gt v u else u2Lt v u) then 2 ^ x else 0
    | none => 0)).sum

/-- The measure at the trip in the stage's THR units: Q2.14 pu, or 10 mHz. -/
def State.stageValue (s : State) (i : Nat) : Nat :=
  if i < 8 then
    (match (if i < 4 then s.uMax else s.uMin) with | some v => sqrtRound (v * 268435456) | none => 0)
  else (match s.freqMeasure with | some f => (roundHalfUp (100 * f)).toNat | none => 0)

/-- Every stage whose count has reached L trips (R259, R264). -/
def State.stagesExpire (s : State) : State :=
  (List.range 12).foldl (fun s i =>
    let t := nth { on := false, count := 0, tripped := false, due := false } s.prot.stages i
    if t.on && t.due && !t.tripped then
      ({ s with prot := { s.prot with stages := modAt i (fun t => { t with tripped := true, due := false }) s.prot.stages } }).protTrip
        (stageCause i) (stageIndex i) (2 ^ i) (s.stagePhases i) (s.stageValue i)
    else s) s

/-! ### Fault ride-through (R271 to R274) -/

def State.vlent (s : State) : Rat := (s.get F.PROT_FRT_K_VLENT : Rat) / 200
def State.vhent (s : State) : Rat := (s.get F.PROT_FRT_K_VHENT : Rat) / 200
def State.vmc (s : State) : Rat := (s.get F.PROT_FRT_VMC_V_MC : Rat) / 16384

/-- The used point of a curve with the largest T_j at or below `t` carrier ticks: T_j and V_j (R272). -/
def State.curveAt (s : State) (base t : Nat) : Nat → Option (Nat × Nat)
  | 0 => none
  | n + 1 =>
    let w := s.reg (base + 4 * n)
    let tj := wbits w 16 16
    let rest := s.curveAt base t n
    if tj ≠ 0xFFFF ∧ tj * s.carN ≤ t then
      (match rest with
        | some (b, v) => if b < tj then some (tj, wbits w 0 16) else some (b, v)
        | none => some (tj, wbits w 0 16))
    else rest

/-- The bound in pu at the time since the start. -/
def State.frtBound (s : State) : Option Rat :=
  let base := if s.flag F.PROT_STAT_FRTHV then Reg.PROT_FRT_HV 0 else Reg.PROT_FRT_LV 0
  (s.curveAt base s.prot.frtT 8).map (fun p => (p.2 : Rat) / 16384)

/-- Every present U lies within the exit band. -/
def State.inExitBand (s : State) : Bool := optGe s.uMin (s.vlent + 1 / 100) && optLe s.uMax (s.vhent - 1 / 100)

/-- The curve of the ride-through in force is judged at its time t (R272). -/
def State.frtJudge (s : State) : State :=
  let hv := s.flag F.PROT_STAT_FRTHV
  let beyond := match s.frtBound with
    | none => false
    | some b => if hv then optAbove s.uMax b else s.prot.uvWait.isNone && optBelow s.uMin b
  let value := match (if hv then s.uMax else s.uMin) with | some v => sqrtRound (v * 268435456) | none => 0
  if hv then s.standing 5 beyond (fun s => s.protTrip 9 0 0 0 value)
  else s.standing 4 beyond (fun s => s.protTrip 8 0 0 0 value)

/-- Ride-through at a boundary: entry, time, exit count (R271), the curve's trip, which t = 0 may bring at once (R272). -/
def State.frtStep (s : State) (adv : Bool) : State :=
  if s.flag F.PROT_STAT_FRT then
    let t := if adv then s.prot.frtT + 1 else s.prot.frtT
    let post := if s.inExitBand then (if s.prot.post = 0 then 1 else if adv then s.prot.post + 1 else s.prot.post) else 0
    ({ s with prot := { s.prot with frtT := t, post := post } }).frtJudge
  else
    let lv := s.prot.uvWait.isNone && optBelow s.uMin s.vlent
    let hv := !lv && optAbove s.uMax s.vhent
    if lv || hv then
      let s := { s with prot := { s.prot with frtT := 0, post := 0, mcRise := none, stood := s.prot.stood &&& 0x0F#6 } }
      (((s.putFlag F.PROT_STAT_FRT true).putFlag F.PROT_STAT_FRTHV hv).occurNext Pg.PROT 2).frtJudge
    else s

/-- Momentary cessation at a boundary (R274). -/
def State.mcStep (s : State) (adv : Bool) : State :=
  let force := s.flag F.PROT_STAT_FRT && !s.flag F.PROT_STAT_FRTHV && decide (s.get F.MODE_STAT_ACTIVE = 1)
  if s.flag F.PROT_STAT_MC then
    if !force then s.putFlag F.PROT_STAT_MC false
    else if optGe s.uMin (s.vmc + 1 / 50) then
      ({ s with prot := { s.prot with mcRise := some 0 } }).putFlag F.PROT_STAT_MC false
    else s
  else if force && decide (0 < s.vmc) && optBelow s.uMin s.vmc then
    ({ s with prot := { s.prot with mcRise := none } }).putFlag F.PROT_STAT_MC true
  else if adv then { s with prot := { s.prot with mcRise := s.prot.mcRise.map (fun n => n + 1) } } else s

/-- The demands to MODE (R273, R274). -/
def State.frtDemands (s : State) : State :=
  let k : Rat := (min 60 (s.get F.PROT_FRT_K_K) : Nat)
  let k := k / 10
  if !(s.flag F.PROT_STAT_FRT && decide (s.get F.MODE_STAT_ACTIVE = 1)) then
    { s with prot := { s.prot with iqDem := 0, pFrt := 1 } }
  else if s.flag F.PROT_STAT_MC then { s with prot := { s.prot with iqDem := 0, pFrt := 0 } }
  else
    let x := if s.flag F.PROT_STAT_FRTHV then s.uPos - s.vhent else s.vlent - s.uPos
    let x := if x < 0 then 0 else x
    let iq := ratClamp (-1) 1 (if s.flag F.PROT_STAT_FRTHV then k * x else -(k * x))
    let p := s.uPos * sqrtQ (1 - iq * iq)
    let len := s.get F.PROT_FRT_VMC_RESTORE * s.carN
    let g : Rat := match s.prot.mcRise with
      | some n => if len ≤ n then 1 else (n : Rat) / (len : Rat)
      | none => 1
    { s with prot := { s.prot with iqDem := g * iq, pFrt := g * p } }

/-- Ride-through ends after POST cycles in the band (R271). -/
def State.frtExit (s : State) : State :=
  if s.flag F.PROT_STAT_FRT && decide (max 1 (s.get F.PROT_FRT_K_POST) * s.carN + 1 ≤ s.prot.post) then
    let s := { s with prot := { s.prot with post := 0, frtT := 0, mcRise := none } }
    let s := ((s.putFlag F.PROT_STAT_FRT false).putFlag F.PROT_STAT_FRTHV false).putFlag F.PROT_STAT_MC false
    (s.occur Pg.PROT 3).frtDemands
  else s

/-! ### Reconnection (R275 to R277) -/

/-- The conditions of a boundary that counts. -/
def State.reconGood (s : State) : Bool :=
  let f0 : Rat := s.nomHz
  s.flag F.CPS_STAT_LOCKED && s.prot.u2.all Option.isSome &&
  optGe s.uMin ((s.get F.PROT_RECON_WIN_VLO : Rat) / 200) && optLe s.uMax ((s.get F.PROT_RECON_WIN_VHI : Rat) / 200) &&
  (match s.freqMeasure with
    | some f => decide (f0 + (s.getI F.PROT_RECON_WIN_FLO : Rat) / 100 ≤ f) && decide (f ≤ f0 + (s.getI F.PROT_RECON_WIN_FHI : Rat) / 100)
    | none => false)

/-- The count returns to 0 and RECONOK is cleared. -/
def State.reconClear (s : State) : State :=
  ({ s with prot := { s.prot with recon := 0 } }).putFlag F.PROT_STAT_RECONOK false

def State.reconStep (s : State) : State :=
  if s.reconGood && decide (s.prot.tripAt ≠ some s.now) then { s with prot := { s.prot with recon := s.prot.recon + 1 } }
  else s.reconClear

/-- The count reaches RECON_WAIT × CAR_N. -/
def State.reconReady (s : State) : State :=
  if s.protOn && decide (0 < s.prot.recon) && decide (wbits (s.reg Reg.PROT_RECON_WAIT) 0 24 * s.carN ≤ s.prot.recon) &&
      !s.flag F.PROT_STAT_RECONOK then
    (s.putFlag F.PROT_STAT_RECONOK true).note Pg.PROT 4
  else s

/-- The RECON ramp ends (R276). -/
def State.rampEnd (s : State) : State :=
  match s.prot.rampAt with
  | none => s
  | some t =>
    let s := s.elapseTo (t + s.get F.PROT_RECON_RAMP_RAMP * (ticksPerSec / 10))
    { s with prot := { s.prot with rampAt := none, rampOn := true } }

/-- DEADBUS (R277). -/
def State.deadStep (s : State) : State :=
  let dead := optBelow s.uMax (1 / 10)
  let n := if dead then s.prot.dead + 1 else 0
  ({ s with prot := { s.prot with dead := n } }).putFlag F.PROT_STAT_DEADBUS (decide (s.carN ≤ n))

/-- The wait of UV stages and the LV curve after a dead-bus ARM ends at VLENT or after 50 cycles (R277). -/
def State.uvWaitStep (s : State) (adv : Bool) : State :=
  match s.prot.uvWait with
  | none => s
  | some n =>
    let left := if adv then n - 1 else n
    { s with prot := { s.prot with uvWait := if optGe s.uMin s.vlent || decide (left = 0) then none else some left } }

/-- An ARM completes (R264, R268, R276, R277). -/
def State.protArm (s : State) : State :=
  let dead := s.sealS4 && s.flag F.PROT_STAT_DEADBUS && !s.flag F.PROT_STAT_RECONOK
  let s := (s.putFlag F.PROT_STAT_TRIPPED false).putFlag F.PROT_STAT_ISLAND false
  { s with prot := { s.prot with rampAt := some s.now, rampOn := false, absent := List.replicate 3 0
                                 uvWait := if dead then some (50 * s.carN) else none } }

/-! ### Islanding (R261, R262, R268, R269) -/

/-- An island decision by PROT's own methods (R268); none in GFM. -/
def State.island (s : State) : State :=
  if s.get F.MODE_STAT_ACTIVE = 2 then s
  else
    let s := ((s.putFlag F.PROT_STAT_ISLAND true).logRec 0x2010 0#32 0#32).occurNext Pg.PROT 1
    let s := s.modeIsland
    if s.flag F.PROT_AI_CFG_ISLTRIP then s.protTrip 7 0 0 0 0 else s

/-- A passive stage acts under its ACT bit. -/
def State.passiveAct (s : State) (island : Bool) (cause value : Nat) : State :=
  if island then s.island else s.protTrip cause 0 0 0 value

/-- MODE is in STANDBY or GFL. -/
def State.passiveMode (s : State) : Bool := decide (s.get F.MODE_STAT_ACTIVE ≤ 1)

/-- ROCOF at a BEAR_CYCLE increment (R261): `lock` where the cycle ended LOCKED. A cycle in which the Compass locked is not one of
the LOCKED cycles. -/
def State.rocofCycle (s : State) (lock : Bool) : State :=
  let w := max 1 (wbits (s.reg Reg.PROT_ROCOF) 16 8)
  let mean := quot s.prot.sumF (s.prot.nF : Rat)
  let fm := ((mean, s.now) :: s.prot.fm).take 257
  let whole := lock && !s.prot.lockPart
  let cyc := if whole then s.prot.lockCyc + 1 else 0
  let has := decide (0 < s.prot.nF)
  let s := { s with prot := { s.prot with
    sumF := 0, nF := 0, fm := if whole && has then fm else [], lockCyc := if has then cyc else 0, lockPart := false } }
  let thr := s.get F.PROT_ROCOF_THR
  match s.prot.fm[0]?, s.prot.fm[w]? with
  | some (a, ta), some (b, tb) =>
    if thr = 0 ∨ !s.passiveMode ∨ s.prot.lockCyc < w + 1 then { s with prot := { s.prot with rocofRun := 0 } }
    else
      let rate := quot ((a - b) * (ticksPerSec : Rat)) ((ta - tb : Nat) : Rat)
      let mag := if rate < 0 then -rate else rate
      let run := if (thr : Rat) / 1000 < mag then s.prot.rocofRun + 1 else 0
      let s := { s with prot := { s.prot with rocofRun := run } }
      if run = max 1 (s.get F.PROT_ROCOF_TIME) then
        s.passiveAct (s.flag F.PROT_ROCOF_ACT) 5 (roundHalfUp (1000 * mag)).toNat
      else s
  | _, _ => { s with prot := { s.prot with rocofRun := 0 } }

/-- Vector shift at a Compass update (R262): `err` in degrees. -/
def State.vectorShift (s : State) (err : Rat) : State :=
  let thr := min 9000 (s.get F.PROT_VSHIFT_THR)
  if !s.protOn || decide (thr = 0) || !s.passiveMode then { s with prot := { s.prot with vsSign := 0 } }
  else
    let t : Rat := (thr : Rat) / 100
    let sign : Int := if t < err then 1 else if err < -t then -1 else 0
    let was := s.prot.vsSign
    let s := { s with prot := { s.prot with vsSign := sign } }
    if sign ≠ 0 ∧ sign = was then
      s.passiveAct (s.flag F.PROT_VSHIFT_ACT) 6 (roundHalfUp (100 * (if err < 0 then -err else err))).toNat
    else s

/-- A Compass update that gives no phase error: the run of R262 is broken. -/
def State.vectorGap (s : State) : State := { s with prot := { s.prot with vsSign := 0 } }

/-- The active method runs (R269). -/
def State.aiRuns (s : State) : Bool :=
  s.flag F.PROT_AI_CFG_AIEN && s.gd.armed && decide (s.get F.MODE_STAT_ACTIVE = 1) && s.flag F.CPS_STAT_LOCKED &&
  !s.flag F.PROT_STAT_FRT && s.protOn

/-- A run condition ends: φ and run become 0. -/
def State.aiStop (s : State) : State :=
  if s.aiRuns then s
  else ({ s with prot := { s.prot with
    ai := { on := false, plus := true, phi := 0, run := 0, prev := none, sum := 0, n := 0 } } }).putFlag F.PROT_STAT_AIRUN false

/-- A BEAR_CYCLE increment of the active method: a half-period ends or the method starts (R269). -/
def State.aiCycle (s : State) (cycle : Nat) : State :=
  let s := s.aiStop
  let n := max 1 (s.get F.PROT_AI_CFG_N)
  let phib : Rat := s.get F.PROT_AI_CFG_PHIB
  if !s.aiRuns ∨ cycle % n ≠ 0 then s
  else
    let a := s.prot.ai
    if !a.on then
      ({ s with prot := { s.prot with
        ai := { on := true, plus := true, phi := phib, run := 0, prev := none, sum := 0, n := 0 } } }).putFlag F.PROT_STAT_AIRUN true
    else
      let fh := quot a.sum (a.n : Rat)
      match a.prev with
      | none => { s with prot := { s.prot with ai := { a with prev := some fh, sum := 0, n := 0 } } }
      | some p =>
        let sg : Rat := if a.plus then 1 else -1
        let mag := sg * a.phi
        let score := sg * (fh - p)
        let good := decide ((s.get F.PROT_AI_CFG_DFTH : Rat) / 1000 ≤ score)
        let run := if good then a.run + 1 else 0
        let plus := if good then a.plus else !a.plus
        let mag := if good then (if 4 * phib < 2 * mag then 4 * phib else 2 * mag) else phib
        let s := { s with prot := { s.prot with
          ai := { a with plus := plus, phi := if plus then mag else -mag, run := run, prev := some fh, sum := 0, n := 0 } } }
        if 3 ≤ run then s.island else s

/-! ### Synchronisation check (R278) -/

/-- The sums of boundary `j` of the cycle. -/
def State.syncSample (s : State) (j : Nat) : State :=
  let th : Rat := (4294967296 * j : Nat) / ((s.carN : Nat) : Rat)
  let c := cosQ th
  let n := sinQ th
  let inv := s.tap 7
  let grid : Option Rat := match s.phaseV 0, s.phaseV 1 with
    | some a, some b => some (a - b)
    | _, _ => none
  let p := s.prot
  let x := 2 * inv.getD 0
  let g := grid.getD 0
  { s with prot := { p with invR := p.invR + x * c, invI := p.invI - x * n, gridR := p.gridR + g * c, gridI := p.gridI - g * n,
                            chanAbsent := p.chanAbsent || inv.isNone, j := p.j + 1 } }

/-- The check at a BEAR_CYCLE increment: `lock` where the Compass is LOCKED. -/
def State.syncCycle (s : State) (lock : Bool) : State :=
  let p := s.prot
  let k : Rat := 2 / ((s.carN : Nat) : Rat)
  let ir := k * p.invR
  let ii := k * p.invI
  let gr := k * p.gridR
  let gi := k * p.gridI
  let inv2 := ir * ir + ii * ii
  let grid2 := gr * gr + gi * gi
  let whole := decide (0 < p.j)
  let good := whole && !p.chanAbsent
  let dphi := wrapHalf (atan2Q ii ir - atan2Q gi gr)
  let slip := match p.dphi with
    | some d => some (wrapHalf (dphi - d) * s.freqQ / 4294967296)
    | none => none
  let sy := s.reg Reg.RLY_SYNC
  let lim (lo : Nat) : Rat := wbits sy lo 8
  let mi := sqrtQ inv2
  let mg := sqrtQ grid2
  let dU := quot (if mi < mg then mg - mi else mi - mg) mg
  let within (x l : Rat) : Bool := decide (-l ≤ x) && decide (x ≤ l)
  let slipOk := match slip with | some x => within x (lim 16 / 100) | none => false
  let pass := lock && good && within dU (lim 0 / 1000) && within dphi (lim 8 * 4294967296 / 3600) && slipOk
  let run := if pass then p.syncRun + 1 else 0
  let s := { s with prot := { p with invR := 0, invI := 0, gridR := 0, gridI := 0, chanAbsent := false, j := 0,
                                     dphi := if good then some dphi else none, syncRun := run,
                                     rho2 := if good && decide (0 < grid2) then some (inv2 / grid2) else none,
                                     grid2 := grid2, chanOk := good } }
  s.putFlag F.PROT_STAT_SYNCOK (decide (2 ≤ run) || (s.sealS4 && s.flag F.PROT_STAT_DEADBUS))

/-! ### The boundary (R256) and the fallback clock (R260) -/

/-- EVR_DEST[d] holds a valid selection of event `e` (R266). -/
def State.selected (s : State) (d e : Nat) : Bool :=
  (List.range 4).any (fun k => decide (wbits (s.reg (Reg.EVR_DEST d)) (8 * k) 8 % 64 = e) && wbit (s.reg (Reg.EVR_DEST d)) (8 * k + 7))

def State.routesOk (s : State) : Bool := s.selected 6 48 && s.selected 7 51

/-- P_nom in SYSCLK ticks (R260). -/
def State.pNom (s : State) : Nat := max 1 (roundHalfUp ((ticksPerSec : Rat) / ((s.carN * s.nomHz : Nat) : Rat))).toNat

/-- STAT.CLKFB follows LOCKED; WARN.CLKFB where the fallback comes into force. -/
def State.clkfb (s : State) : State :=
  let fb := !s.flag F.CPS_STAT_LOCKED
  let was := s.flag F.PROT_STAT_CLKFB
  let s := s.putFlag F.PROT_STAT_CLKFB fb
  if fb && !was then s.protWarn 4 else s

/-- The phases whose measure has been absent for CAR_N boundaries while ARMED, as bits (R257). -/
def State.vsensePhases (s : State) : Nat :=
  ((List.range 3).map (fun x => if s.carN ≤ nth 0 s.prot.absent x then 2 ^ x else 0)).sum

/-- PROT judges at carrier-tick boundary `j` of the cycle. What an earlier boundary has brought about, and no row has taken yet,
comes first. -/
def State.protJudge (s : State) (j : Nat) : State :=
  if !s.protOn then s
  else
    let s := ((s.stagesExpire).frtExit).reconReady
    let adv := s.flag F.CPS_STAT_LOCKED
    let s := s.clkfb
    let s := (s.takeMeasures).syncSample j
    let f := s.freqMeasure.getD 0
    let s := if s.freqMeasure.isSome then
        { s with prot := { s.prot with sumF := s.prot.sumF + f, nF := s.prot.nF + 1
                                       ai := { s.prot.ai with sum := s.prot.ai.sum + f, n := s.prot.ai.n + 1 } } } else s
    let s := (s.uvWaitStep adv).deadStep
    let s := s.stagesStep adv
    let ph := s.vsensePhases
    let s := s.standing 0 (decide (ph ≠ 0)) (fun s => s.protTrip 10 0 0 ph 0)
    let s := s.standing 1 (s.gd.armed && s.flag F.CPS_STAT_SEQ_WRONG) (fun s => s.protTrip 11 0 0 0 0)
    let c := s.get F.PROT_PROFILE_CMPSEL
    let s := s.standing 2 (s.flag F.PROT_PROFILE_CMPEN && s.cmpSync c && s.cmpOn c && !s.cmpMarked c) (fun s => s.protTrip 12 0 0 0 0)
    let s := ((s.frtStep adv).mcStep adv).frtDemands
    let s := s.reconStep
    let s := s.aiStop
    s.standing 3 (s.gd.armed && !s.routesOk) (fun s => (s.relayOpen).protWarn 0)

/-- One tick of the fallback clock: every running timer advances (R260). -/
def State.fallbackTick (s : State) : State :=
  if !s.protOn || s.flag F.CPS_STAT_LOCKED then s
  else
    let s := s.elapseTo s.prot.fbAt
    let s := { s with prot := { s.prot with fbAt := s.now + s.pNom } }
    let held := s.freqMeasure.isNone
    let s := (List.range 12).foldl (fun s i =>
      if 8 ≤ i && held then s
      else
        let l := s.stageL i
        { s with prot := { s.prot with stages := modAt i (fun (t : StageTimer) =>
            if t.on && !t.tripped then { t with count := t.count + 1, due := decide (l ≤ t.count + 1) } else t) s.prot.stages } }) s
    let s := (s.uvWaitStep true)
    if s.flag F.PROT_STAT_FRT then
      { s with prot := { s.prot with frtT := s.prot.frtT + 1, post := if s.prot.post = 0 then 0 else s.prot.post + 1
                                     mcRise := s.prot.mcRise.map (fun n => n + 1) } }
    else s

/-- The Compass unlocks (R260, R261, R275). -/
def State.protUnlock (s : State) : State :=
  if !s.protOn then s
  else
    let s := { s with prot := { s.prot with fbAt := s.now + s.pNom, rocofRun := 0, lockCyc := 0, fm := [] } }
    ((s.clkfb).reconClear).aiStop

/-- The Compass locks: any partial interval of the fallback clock is discarded. -/
def State.protLock (s : State) : State :=
  if s.protOn then ({ s with prot := { s.prot with lockPart := true, vsSign := 0 } }).clkfb else s

/-- PROT starts: its counts are fresh, and STAT shows nothing of before but trips, island decisions and warnings. -/
def State.protStart (s : State) : State :=
  let s := s.setReg Reg.PROT_STAT (s.reg Reg.PROT_STAT &&& 0xFFFFFC03#32)
  { s with prot := { ProtSt.reset with fbAt := s.now + s.pNom, rampAt := s.prot.rampAt, rampOn := s.prot.rampOn } }

/-- What of R266 bars an ARM. -/
def State.protBars (s : State) : Bool :=
  !s.protOn || !s.routesOk || s.profMis || s.flag F.PROT_PROFILE_PROFERR ||
  !(s.flag F.PROT_STAT_RECONOK || (s.sealS4 && s.flag F.PROT_STAT_DEADBUS))

/-- PG_STAT.STATE of PROT (R281). -/
def State.protState (s : State) : Nat :=
  if !s.pageEn Pg.PROT then 0
  else if s.flag F.PROT_STAT_FRT then 4
  else if s.gd.armed then 3
  else if s.flag F.PROT_STAT_RECONOK then 2 else 1

end Sys2Proof.Machine
end

