-- ==== Sys2Proof/Machine/Nvm.lean ====
section
/-! DEFINITION. The NVM controller (spec/22 R478 to R482), images (R483, R485), and the safety set (R487). -/

namespace Sys2Proof.Machine

/-- The region of an NVM offset (R478); 8 for the factory region. -/
def nvmRegion (o : Nat) : Nat :=
  if o < 0x8000 then 0 else if o < 0x10000 then 1 else if o < 0x14000 then 2 else if o < 0x1C000 then 3
  else if o < 0x3C000 then 4 else if o < 0x5C000 then 5 else if o < 0x6C000 then 6 else if o < 0x7C000 then 7 else 8

/-- The sector of an offset. -/
def nvmSector (o : Nat) : Nat := o / 0x1000

/-- The bytes from `a` up to `b` of NVM lie wholly within regions 6 and 7 (R478). -/
def nvmHostRange (a len : Nat) : Bool := decide (0x5C000 ≤ a) && decide (a + len ≤ 0x7C000)

/-- A byte as the read window shows it: the factory region and the key records read as 0 (R478). -/
def State.nvmShown (s : State) (o : Nat) : Byte :=
  if nvmRegion o = 8 then 0#8
  else if nvmRegion o = 2 && decide (8 ≤ o % 0x800) && decide (o % 0x800 < 0x14) then 0#8
  else s.nvmByte o

/-- The sector of the offset is being programmed or erased, or its erase is suspended (R479, R481). -/
def State.nvmBusySector (s : State) (o : Nat) : Bool :=
  let hit (r : Option NvmRun) : Bool := match r with | some x => decide (nvmSector x.op.off = nvmSector o) | none => false
  hit s.nvmc.cur || hit s.nvmc.susp

/-! ### Operations (R480, R481) -/

/-- The maximum time of an operation in ticks: 60 ms for an erase, 2.5 ms for a program. -/
def NvmOp.maxTicks (o : NvmOp) : Nat := if o.erase then 60 * ticksPerMs else 5 * ticksPerMs / 2

/-- A change-log or event-log program goes ahead of the queue. -/
def NvmOp.ahead (o : NvmOp) : Bool := !o.erase && (o.owner == .clog || o.owner == .elog)

def State.nvmAdd (s : State) (o : NvmOp) : State := { s with nvmc := { s.nvmc with queue := s.nvmc.queue ++ [o] } }

/-- The operation to start next, and what is left of the queue. A change-log program goes before an event-log program. -/
def nvmPick (q : List NvmOp) : Option (NvmOp × List NvmOp) :=
  match q.find? (fun o => o.ahead && o.owner == .clog) with
  | some o => some (o, q.erase o)
  | none => match q.find? NvmOp.ahead with
    | some o => some (o, q.erase o)
    | none => match q with
      | [] => none
      | o :: rest => some (o, rest)

/-- NVM_STAT and PG_STAT show what runs. -/
def State.nvmShow (s : State) : State :=
  ((s.putFlag F.NVM_STAT_BUSY (s.nvmc.cur.isSome || s.nvmc.susp.isSome)).putFlag F.NVM_STAT_SUSP s.nvmc.susp.isSome).setReg
    Reg.NVM_STAT (wput (wput (wput (s.reg Reg.NVM_STAT) 8 8 (satTo 255 s.nvmc.queue.length)) 0 1
      (s.nvmc.cur.isSome || s.nvmc.susp.isSome).toNat) 1 1 s.nvmc.susp.isSome.toNat)

/-- An operation begins now. -/
def State.nvmBegin (s : State) (o : NvmOp) (rest : List NvmOp) : State :=
  ({ s with nvmc := { s.nvmc with queue := rest, cur := some { op := o, at' := s.now, left := o.maxTicks } } }).nvmShow

/-- The controller starts its next operation, or suspends an erase for a log program (R481). -/
def State.nvmStart (s : State) : State :=
  if !s.domReady 1 then s
  else match s.nvmc.cur with
    | some r =>
      if r.op.erase && s.nvmc.queue.any NvmOp.ahead then
        match nvmPick s.nvmc.queue with
        | some (o, rest) =>
          ({ s with nvmc := { s.nvmc with susp := some { r with left := r.left - (s.now - r.at') }, cur := none } }).nvmBegin o rest
        | none => s
      else s
    | none =>
      match s.nvmc.susp with
      | some r =>
        (match s.nvmc.queue.any NvmOp.ahead, nvmPick s.nvmc.queue with
          | true, some (o, rest) => s.nvmBegin o rest
          | _, _ => ({ s with nvmc := { s.nvmc with cur := some { r with at' := s.now }, susp := none } }).nvmShow)
      | none =>
        match nvmPick s.nvmc.queue with
        | some (o, rest) => s.nvmBegin o rest
        | none => s

/-- One more erase of a sector. -/
def wearAdd (n : Nat) : List (Nat × Nat) → List (Nat × Nat)
  | [] => [(n, 1)]
  | (k, c) :: m => if k = n then (k, c + 1) :: m else (k, c) :: wearAdd n m

/-- The erase count of a sector: before shipment, and since. -/
def State.sectorWear (s : State) (n : Nat) : Nat :=
  (Config.factoryWear n).val + (match s.nvmc.wear.find? (fun e => e.1 = n) with | some e => e.2 | none => 0)

/-- Sectors of a region (R478). -/
def regionSectors (r : Nat) : List Nat :=
  (List.range 128).filter (fun n => nvmRegion (n * 0x1000) = r)

/-- NVM_WEAR[r] (R482, R491). -/
def State.nvmWear (s : State) (r : Nat) : Word :=
  BitVec.ofNat 32 (satTo 0x1FFFF ((regionSectors r).foldl (fun m n => max m (s.sectorWear n)) 0))

/-- What an operation does to the array. -/
def State.nvmApply (s : State) (o : NvmOp) : State :=
  if o.erase then
    let n := nvmSector o.off
    let s := s.nvmEraseIf (fun a => decide (nvmSector a = n))
    { s with nvmc := { s.nvmc with wear := wearAdd n s.nvmc.wear } }
  else s.nvmProgram o.off o.data

/-- A run of bytes takes free values: an operation that did not complete leaves them undefined (R480). -/
def State.nvmScramble (s : State) (o : Nat) : Nat → State
  | 0 => s
  | n + 1 =>
    let (w, s) := s.freeVal
    ((s.setNvmByte o (w.extractLsb' 0 8))).nvmScramble (o + 1) n

/-- The unit or sector of an operation is left undefined. -/
def State.nvmUndefined (s : State) (o : NvmOp) : State :=
  if o.erase then s.nvmScramble (nvmSector o.off * 0x1000) 0x1000 else s.nvmScramble (o.off / 256 * 256) 256

/-- The status and record of a failed operation (R480). -/
def State.nvmFailed (s : State) (o : NvmOp) : State :=
  let s := (s.setFlag F.NVM_STAT_PFAIL).put F.NVM_ERRADDR_NVM o.off
  (s.note Pg.NVM 2).logRec 0x2810 0#32 0#32

/-- Programs of a list of bytes from an offset, cut at program units. -/
def nvmPrograms (owner : NvmOwner) : Nat → Nat → List Byte → List NvmOp
  | 0, _, _ => []
  | n + 1, o, bs =>
    let k := 256 - o % 256
    if bs = [] then [] else { erase := false, off := o, data := bs.take k, owner := owner } :: nvmPrograms owner n (o + k) (bs.drop k)

/-- `len` bytes programmed from offset `o`. -/
def State.nvmProgramOps (s : State) (owner : NvmOwner) (o : Nat) (bs : List Byte) : State :=
  { s with nvmc := { s.nvmc with queue := s.nvmc.queue ++ nvmPrograms owner (bs.length + 1) o bs } }

/-- `n` sectors erased from sector `k`. -/
def State.nvmEraseOps (s : State) (owner : NvmOwner) (k n : Nat) : State :=
  let ops : List NvmOp := (List.range n).map (fun i => { erase := true, off := (k + i) * 0x1000, data := [], owner := owner })
  { s with nvmc := { s.nvmc with queue := s.nvmc.queue ++ ops } }

/-! ### Images (R483, R485) -/

def imageBase (img : Nat) : Nat := if img = 0 then 0 else 0x8000

/-- The first check an image fails: 1 MAGIC or FORMAT, 2 device, 3 COUNT, 4 CRC; 0 where it is valid. -/
def State.imageCheck (s : State) (img : Nat) : Nat :=
  let b := imageBase img
  let count := (s.nvmWord (b + 0x10)).toNat
  if s.nvmWord b ≠ 0xE5C60410#32 ∨ s.nvmByte (b + 4) ≠ 1#8 then 1
  else if s.nvmByte (b + 5) ≠ 0xB0#8 ∨ s.nvmWord (b + 8) ≠ 0x410#32 then 2
  else if 4088 < count then 3
  else if crc32c (s.nvmBytes b 0x3C ++ s.nvmBytes (b + 0x40) (8 * count)) ≠ s.nvmWord (b + 0x3C) then 4
  else 0

/-- The entries of an image, in order. -/
def State.imageEntries (s : State) (img : Nat) : List (Nat × Word) :=
  let b := imageBase img
  (List.range (s.nvmWord (b + 0x10)).toNat).map (fun i =>
    ((s.nvmWord (b + 0x40 + 8 * i)).toNat, s.nvmWord (b + 0x44 + 8 * i)))

def State.imageGen (s : State) (img : Nat) : Nat := (s.nvmWord (imageBase img + 0xC)).toNat
def State.imageCrc (s : State) (img : Nat) : Word := s.nvmWord (imageBase img + 0x3C)

/-! ### The safety set (R487) -/

def placeOff (k : Nat) : Nat := 0x10000 + 0x800 * k

/-- A place holds a whole set. -/
def State.placeValid (s : State) (k : Nat) : Bool :=
  decide (crc32c (s.nvmBytes (placeOff k) 0x7FC) = s.nvmWord (placeOff k + 0x7FC))

/-- Of place `n` and the place `r` found below it, the one in use: `n` where it is valid and has the higher generation. -/
def State.newerPlace (s : State) (n : Nat) : Bool → Option Nat → Option Nat
  | false, r => r
  | true, none => some n
  | true, some k => if (s.nvmWord (placeOff k)).toNat < (s.nvmWord (placeOff n)).toNat then some n else some k

/-- The valid place with the highest generation, from place `n - 1` down. -/
def State.safetyPlace (s : State) : Nat → Option Nat
  | 0 => none
  | n + 1 => s.newerPlace n (s.placeValid n) (s.safetyPlace n)

def State.safetySet (s : State) : Option Nat := s.safetyPlace 8

/-- Profile `p` of the set in use: its 36 words, where its CRC holds. -/
def State.profileWords (s : State) (p : Nat) : Option (List Word) :=
  match s.safetySet with
  | none => none
  | some k =>
    let o := placeOff k + 0x40 + 0x100 * p
    if crc32c (s.nvmBytes o 0x90) = s.nvmWord (o + 0x90) then some ((List.range 36).map (fun i => s.nvmWord (o + 4 * i))) else none

/-- `n` zero bytes. -/
def zeros (n : Nat) : List Byte := List.replicate n 0#8

/-- The bytes of one profile's 256 bytes: none is written as failing. -/
def profileBytes (ws : Option (List Word)) : List Byte :=
  let ws' := ws.getD (List.replicate 36 0#32)
  let crc := crc32cWords ws'
  ws'.flatMap wbytes ++ wbytes (if ws.isSome then crc else ~~~crc) ++ zeros (0x100 - 0x94)

/-- The 2 KiB of a place. -/
def setBytes (gen : Word) (code : Nat) (key : BitVec 64) (profiles : List (Option (List Word))) : List Byte :=
  let k := wbytes (key.extractLsb' 0 32) ++ wbytes (key.extractLsb' 32 32)
  let body := wbytes gen ++ wbytes (BitVec.ofNat 32 code) ++ k ++ wbytes (crc32c k) ++ zeros (0x40 - 0x14) ++
    profiles.flatMap profileBytes ++ zeros (0x7FC - 0x440)
  body ++ wbytes (crc32c body)

/-- The set to write next: its place, and the operations that write it; its sector is erased before its first place is used. -/
def State.writeSet (s : State) (owner : NvmOwner) (code : Nat) (key : BitVec 64) (profiles : List (Option (List Word))) : State :=
  let (place, gen) := match s.safetySet with
    | some k => ((k + 1) % 8, s.nvmWord (placeOff k) + 1#32)
    | none => (0, 0#32)
  let s := if place % 2 = 0 then s.nvmEraseOps owner (nvmSector (placeOff place)) 1 else s
  s.nvmProgramOps owner (placeOff place) (setBytes gen code key profiles)

/-- The four profiles of the set in use. -/
def State.profiles (s : State) : List (Option (List Word)) := (List.range 4).map s.profileWords

/-- The CRC of the active profile's record as stored. -/
def State.profileCrc (s : State) (p : Nat) : Word :=
  match s.safetySet with
  | some k => s.nvmWord (placeOff k + 0x40 + 0x100 * p + 0x90)
  | none => 0xFFFFFFFF#32

end Sys2Proof.Machine
end

