-- ==== Sys2Proof/Machine/Log.lean ====
section
/-! DEFINITION. The event log's ring in NVM (spec/25 R537 to R544): record bytes, the scan, programming and reading. -/

namespace Sys2Proof.Machine

/-- The 16 bytes of a record (R537): CRC-8 over bytes 0 to 10 and 12 to 15. -/
def LogRec.bytes (r : LogRec) : List Byte :=
  let a := wbytes r.d0 ++ wbytes r.d1 ++ (wbytes (BitVec.ofNat 32 (r.code + 65536 * r.flags))).take 3
  let b := (wbytes r.sec).take 2 ++ (wbytes r.cyc).take 2
  a ++ [crc8 0#8 (a ++ b)] ++ b

/-- The NVM offset of ring index `i` (R541). -/
def ringOff (i : Nat) : Nat := 0x1C000 + 16 * (i % 8192)

/-- The 16 bytes of a slot; whether it is empty (R537), and whether its CRC holds. -/
def State.slot (s : State) (i : Nat) : List Byte := s.nvmBytes (ringOff i) 16
def State.slotEmpty (s : State) (i : Nat) : Bool := (s.slot i).all (fun b => b = 0xFF#8)
def State.slotGood (s : State) (i : Nat) : Bool :=
  let bs := s.slot i
  decide (crc8 0#8 (bs.take 11 ++ bs.drop 12) = nth 0#8 bs 11)

/-- The first slot of ring sector `n` is used. -/
def State.sectorUsed (s : State) (n : Nat) : Bool := !s.slotEmpty (256 * (n % 32))

/-- Head and tail by the scan of R543. -/
def State.scanHead (s : State) : Nat × Nat :=
  match (List.range 32).find? (fun n =>
      s.sectorUsed n && (!s.sectorUsed (n + 1) || !s.slotGood (256 * ((n + 1) % 32)))) with
  | none => (0, 0)
  | some n =>
    let head := match (List.range 256).find? (fun i => s.slotEmpty (256 * n + i)) with
      | some i => 256 * n + i
      | none => 256 * ((n + 1) % 32)
    let tail := match (List.range 32).find? (fun k => decide (k ≠ 0) && s.sectorUsed (n + 1 + k)) with
      | some k => 256 * ((n + 1 + k) % 32)
      | none => 256 * n
    (head, tail)

def State.logHead (s : State) : Nat := wbits (s.reg Reg.LOG_HEAD) 0 13
def State.logTail (s : State) : Nat := wbits (s.reg Reg.LOG_TAIL) 0 13

/-- The LOG erases ring sector `n` (R541): records in it are lost, and the tail moves on. -/
def State.ringErase (s : State) (n : Nat) : State :=
  let n := n % 32
  let s := s.nvmAdd { erase := true, off := ringOff (256 * n), data := [], owner := .elog }
  if s.sectorUsed n then
    let w := s.reg Reg.LOG_TAIL
    ((s.setReg Reg.LOG_TAIL (wput (wput w 0 13 (256 * ((n + 1) % 32))) 16 16 (wbits w 16 16 + 1)))).note Pg.LOG 1
  else s

/-- The scan ends (R543, R549): the page becomes ready, staged records wait no longer. A program under way ends first. -/
def State.logScan (s : State) : State :=
  if s.flag F.LOG_STAT_SCANNED || !s.domReady 1 || s.log.running ≠ 0 then s
  else
    let (h, t) := s.scanHead
    let s := (s.setReg Reg.LOG_HEAD (wput (s.reg Reg.LOG_HEAD) 0 13 h)).setReg Reg.LOG_TAIL (wput (s.reg Reg.LOG_TAIL) 0 13 t)
    let next := h / 256 + 1
    let s := if s.sectorUsed next && !s.slotGood (256 * (next % 32)) then
        s.nvmAdd { erase := true, off := ringOff (256 * (next % 32)), data := [], owner := .elog } else s
    ({ s with log := { s.log with scanned := true } }).putFlag F.LOG_STAT_SCANNED true

/-- The LOG asks for a program of what is staged in the present unit (R542): the first slot of a ring sector takes an anchor
(R538). Nothing is asked while one is under way, before the scan, or with EN = 0. -/
def State.logAsk (s : State) : State :=
  if s.log.running ≠ 0 || !s.flag F.LOG_STAT_SCANNED || !s.live Pg.LOG then s
  else match s.log.staged with
    | [] => s
    | r :: _ =>
      let h := s.logHead
      let staged := if h % 256 = 0 ∧ r.code ≠ 0x3000 then r.anchor :: s.log.staged else s.log.staged
      let n := min staged.length (16 - h % 16)
      let s := { s with log := { s.log with staged := staged, running := n } }
      (s.nvmAdd { erase := false, off := ringOff h, data := (staged.take n).flatMap LogRec.bytes, owner := .elog }).putFlag
        F.LOG_STAT_BUSY true

/-- The head moves to `h`; entering a ring sector, it has the sector after that one erased (R541). -/
def State.logMoveHead (s : State) (h : Nat) : State :=
  let s := s.setReg Reg.LOG_HEAD (wput (s.reg Reg.LOG_HEAD) 0 13 (h % 8192))
  if h % 256 = 0 then s.ringErase (h / 256 + 1) else s

/-- A log program has been verified, or has failed. -/
def State.logProgrammed (s : State) (ok : Bool) : State :=
  let n := s.log.running
  let h := s.logHead
  let s := s.putFlag F.LOG_STAT_BUSY false
  if !s.flag F.LOG_STAT_SCANNED then
    { s with log := { s.log with staged := if ok then s.log.staged.drop n else s.log.staged, running := 0 } }
  else if ok then
    let w := s.reg Reg.LOG_HEAD
    let s := s.setReg Reg.LOG_HEAD (wput w 16 16 (wbits w 16 16 + n))
    ({ s with log := { s.log with staged := s.log.staged.drop n, running := 0 } }).logMoveHead (h + n)
  else ({ s with log := { s.log with running := 0 } }).logMoveHead ((h / 16 + 1) * 16)

/-- The end of a log program (R542); where that leaves room after a drop, the record 0x3001 is staged (R540). -/
def State.logDone (s : State) (ok : Bool) : State :=
  let s := s.logProgrammed ok
  s.logDropped (s.logMake 0x3001 0#32 0#32)

/-- Staged records of the ring index `i` on: programmed slots, then staging (R544). -/
def State.logRecordAt (s : State) (i : Nat) : List Byte :=
  let ahead := (i + 8192 - s.logHead) % 8192
  if ahead < s.log.staged.length then ((s.log.staged[ahead]?).map LogRec.bytes).getD (s.slot i) else s.slot i

/-- The index after the newest record, staged ones included. -/
def State.logEnd (s : State) : Nat := (s.logHead + s.log.staged.length) % 8192

/-- What LOG_READ copies from ring index `i`, at most `n` records (R544). -/
def State.logCopy (s : State) (i : Nat) : Nat → List (List Byte)
  | 0 => []
  | n + 1 => if i % 8192 = s.logEnd then [] else s.logRecordAt (i % 8192) :: s.logCopy (i + 1) n

/-- ARG0 lies from the tail up to the head. -/
def State.logInRing (s : State) (i : Nat) : Bool :=
  decide ((i + 8192 - s.logTail) % 8192 ≤ (s.logEnd + 8192 - s.logTail) % 8192)

/-- D1 CORE becomes ready: the records held for it are created (R539). -/
def State.logRelease (s : State) : State :=
  let held := s.log.held
  held.foldl (fun s e => s.logNow e.1 e.2.1 e.2.2) { s with log := { s.log with held := [] } }

end Sys2Proof.Machine
end

