-- ==== Sys2Proof/Machine/Safe.lean ====
section
/-! DEFINITION. Safety configuration (spec/13 R282 to R292, R555): groups, seals, the unlock window, lockout, the change log,
profiles. -/

namespace Sys2Proof.Machine

/-- The safety group of a register address (R282). -/
def safetyGroup (a : Nat) : Option Nat :=
  if a = 0x20040 then some 0
  else if 0x20044 ≤ a ∧ a ≤ 0x20078 then some 1
  else if a = 0x2007C then some 2
  else if 0x20080 ≤ a ∧ a ≤ 0x200C4 then some 3
  else if a = 0x22040 ∨ a = 0x22044 ∨ a = 0x22048 then some 4
  else if a = 0x200C8 ∨ a = 0x200CC ∨ a = 0x200D0 then some 5
  else none

/-- The unlock window is open (R287, R288): up to and including its last tick. -/
def State.windowOpen (s : State) : Bool :=
  match s.safe.window with | some t => decide (s.now ≤ t) | none => false

/-- Lockout is in force (R288): up to and including its last LPO tick. -/
def State.lockedOut (s : State) : Bool :=
  match s.safe.lockout with | some k => decide (s.pwr.lpo ≤ k) | none => false

/-- The change log has room for `n` entries: free places, none of them in a sector being erased, no NVM failure, no SEAL entry
waiting (R283, R286, R291). -/
def State.clogRoom (s : State) (n : Nat) : Bool :=
  decide (s.safe.used + n ≤ 512) && !s.safe.nvmErr && s.safe.sealPend.isNone &&
  (List.range n).all (fun i => !(s.safe.erasing.contains ((s.safe.seq + i) % 512 / 64)))

/-- What R283 asks of a write to group `g`, room for `n` entries aside. -/
def State.groupOpen (s : State) (g : Nat) : Bool := s.windowOpen && !s.safe.fault && (decide (g = 0) || !s.sealS3)

def State.groupAccepts (s : State) (g n : Nat) : Bool := s.groupOpen g && s.clogRoom n

/-- The 64 bytes of a change-log entry (R290). -/
def clogBytes (seq : Nat) (rtc cycle : Word) (who : Who) (kind group addr : Nat) (old new batch : Word) : List Byte :=
  let w := BitVec.ofNat 32 (who.ctx.toNat + 256 * who.master.toNat + 65536 * kind + 16777216 * group)
  let body := [BitVec.ofNat 32 seq, rtc, cycle, w, BitVec.ofNat 32 addr, old, new, batch, 0#32, 0#32, 0#32, 0#32, 0#32, 0#32, 0#32].flatMap
    wbytes
  body ++ wbytes (crc32c body)

/-- The offset of the slot of entry `seq`. -/
def clogOff (seq : Nat) : Nat := 0x14000 + 64 * (seq % 512)

/-- One entry is created now, staged and put to the NVM controller; NEAR and FULL (R290, R291). -/
def State.clogAdd (s : State) (who : Who) (kind group addr : Nat) (old new : Word) (batch : Option Nat) : State :=
  let n := s.safe.seq
  let cyc := if s.domOn 3 then s.reg Reg.CPS_BEAR_CYCLE else 0#32
  let bs := clogBytes n (s.reg Reg.SYS_RTC_SEC) cyc who kind group addr old new (BitVec.ofNat 32 (batch.getD n))
  let s := s.nvmAdd { erase := false, off := clogOff n, data := bs, owner := .clog }
  let used := s.safe.used + 1
  let s := { s with safe := { s.safe with seq := n + 1, used := used } }
  let s := if used = 480 then s.note Pg.SAFE 4 else s
  if used = 512 then s.note Pg.SAFE 5 else s

/-- The device itself (R290). -/
def deviceWho : Who := { master := 0x40#8, ctx := 0xFF#8 }

/-- The entry of an accepted write (KIND 1) to a group register. -/
def State.clogWrite (s : State) (who : Who) (a : Nat) (old new : Word) (batch : Option Nat) : State :=
  s.clogAdd who 1 ((safetyGroup a).getD 0xFF) a old new batch

/-! ### The unlock window (R287 to R289) -/

def State.safeEn (s : State) : Bool := s.live Pg.SAFE

/-- LPO ticks of 3,600 s under the calibration in force. -/
def State.lockoutTicks (s : State) : Nat := ceilDiv (3600 * 2 ^ 32) (max 1 (s.get F.SYS_LPO_CAL_INC))

/-- The key registers, and both cleared. -/
def State.keyRegs (s : State) : BitVec 64 := s.reg Reg.SAFE_KEY1 ++ s.reg Reg.SAFE_KEY0
def State.clearKeys (s : State) : State := (s.setReg Reg.SAFE_KEY0 0#32).setReg Reg.SAFE_KEY1 0#32

/-- A write of 1 to UNLOCK (R287): refused in lockout (answer false), not judged with SEAL_FAULT. -/
def State.unlock (s : State) : State × Bool :=
  if s.lockedOut then (s, false)
  else if !s.safeEn || s.safe.fault then (s, true)
  else
    let hit := decide (s.keyRegs = s.safe.key)
    let s := s.clearKeys
    if hit then
      (({ s with safe := { s.safe with window := some (s.now + 600 * ticksPerSec), fail := 0 } }).note Pg.SAFE 0, true)
    else
      let f := s.safe.fail + 1
      let s := { s with safe := { s.safe with fail := satTo 7 f, mismatches := s.safe.mismatches + 1 } }
      let s := (s.note Pg.SAFE 1).logRec 0x2101 0#32 0#32
      if f = 5 then
        (({ s with safe := { s.safe with lockout := some (s.pwr.lpo + s.lockoutTicks) } }).note Pg.SAFE 1 |>.logRec 0x2102 0#32 0#32, true)
      else (s, true)

/-- The window closes. -/
def State.closeWindow (s : State) : State := { s with safe := { s.safe with window := none } }

/-- The 600 s run out: the window is closed in the tick after its last (R288). -/
def State.windowEnd (s : State) : State :=
  match s.safe.window with
  | some t => (s.elapseTo (t + 1)).closeWindow
  | none => s

/-- Lockout expires (R288). -/
def State.lockoutEnd (s : State) : State :=
  match s.safe.lockout with
  | some k =>
    let s := s.elapseLpo (k + 1)
    { s with safe := { s.safe with lockout := none, fail := 0 } }
  | none => s

/-- A write of 1 to NEWKEY (R289). Answers whether it was accepted. -/
def State.newKey (s : State) (who : Who) : State × Bool :=
  if !s.safeEn then (s, true)
  else if !(s.groupAccepts 0 1) || decide (s.keyRegs = 0#64) || decide (s.keyRegs = BitVec.allOnes 64) then (s, false)
  else
    let k := s.keyRegs
    let s := s.clearKeys
    let ps := s.profiles
    let s := s.clogAdd who 2 0xFF 0 0#32 0#32 none
    let s := { s with safe := { s.safe with key := k, defKey := false } }
    (s.writeSet .safety s.safe.code k ps, true)

/-! ### Seals (R284 to R286, R555) -/

/-- The code a pin reads from its ratio r of VKEEP, in 1/65,536 (R284): |r - (c + 0.5)/16| ≤ 1/64. -/
def sealCode (r : Nat) : Option Nat :=
  (List.range 16).find? (fun c => decide (2048 * (2 * c + 1) ≤ r + 1024) && decide (r ≤ 2048 * (2 * c + 1) + 1024))

/-- The pair is valid: its code. -/
def sealPair (a b : Option Nat) : Option Nat :=
  match a, b with
  | some x, some y => if x + y = 15 then some x else none
  | _, _ => none

/-- SAFE_SEAL as it reads (R301). -/
def State.safeSeal (s : State) : Word :=
  let a := s.safe.sealA
  let b := s.safe.sealB
  BitVec.ofNat 32 (s.safe.code + 16 * a.getD 0 + 256 * b.getD 0 + 4096 * a.isSome.toNat + 8192 * b.isSome.toNat +
    16384 * (sealPair a b).isSome.toNat + 32768 * s.safe.changed.toNat)

/-- The event of a finding: now, or when the SAFE page next becomes ready (R555). -/
def State.sealEvent (s : State) : State :=
  if s.pageReady Pg.SAFE then s.note Pg.SAFE 3 else { s with safe := { s.safe with eventWaits := true } }

/-- SEAL_FAULT latches at a run-time sample (R285). -/
def State.sealFault (s : State) : State :=
  let s := { s with safe := { s.safe with fault := true, window := none } }
  let s := (s.relayOpen).disarm
  (s.logRec 0x2103 s.safeSeal 0#32).sealEvent

/-- A sample of both pins, once every LPO second (R284, R285). -/
def State.sealSample (s : State) (ra rb : Nat) : State :=
  let s := s.elapseLpo s.safe.nextSample
  let a := sealCode ra
  let b := sealCode rb
  let s := { s with safe := { s.safe with sealA := a, sealB := b, nextSample := s.pwr.lpo + lpoHz } }
  if s.safe.fault then s
  else match sealPair a b with
    | some c => if c = s.safe.code then s else s.sealFault
    | none => s.sealFault

/-- The sample at a reset (R284, R285): the code latches, or SEAL_FAULT does. -/
def State.sealReset (s : State) (ra rb : Nat) : State :=
  let a := sealCode ra
  let b := sealCode rb
  let s := { s with safe := { s.safe with
    sealA := a, sealB := b, changed := false, window := none, nextSample := s.pwr.lpo + lpoHz, eventWaits := false } }
  match sealPair a b with
  | some c => { s with safe := { s.safe with code := c, fault := false } }
  | none =>
    let s := { s with safe := { s.safe with code := a.getD 0, fault := true } }
    (s.logRec 0x2103 s.safeSeal 0#32).sealEvent

/-- The SEAL entry, and the new safety set with the code (R286). -/
def State.sealEntry (s : State) (old : Word) (new : Nat) : State :=
  let ps := s.profiles
  let s := s.clogAdd deviceWho 5 0xFF Reg.SAFE_SEAL old (BitVec.ofNat 32 new) none
  s.writeSet .safety new s.safe.key ps

/-- The valid reset code against the stored one, and the stored key (R286, R487), once D1 CORE is ready. -/
def State.sealCompare (s : State) : State :=
  let old : Word := match s.safetySet with
    | some k => s.nvmWord (placeOff k + 4) &&& 0xF#32
    | none => 0xFFFFFFFF#32
  let key : Option (BitVec 64) := s.safetySet.map (fun k => s.nvmWord (placeOff k + 12) ++ s.nvmWord (placeOff k + 8))
  let s := { s with safe := { s.safe with key := key.getD Config.serial, defKey := decide (key.getD Config.serial = Config.serial) } }
  if s.safe.fault || decide (old = BitVec.ofNat 32 s.safe.code) then s
  else
    let s := ({ s with safe := { s.safe with changed := true } }).sealEvent
    if s.clogRoom 1 then s.sealEntry old s.safe.code
    else { s with safe := { s.safe with sealPend := some (old.toNat, s.safe.code) } }

/-- A waiting SEAL entry is written once room exists (R286). -/
def State.sealRetry (s : State) : State :=
  match s.safe.sealPend with
  | some (old, new) =>
    let s' := { s with safe := { s.safe with sealPend := none } }
    if s'.clogRoom 1 then s'.sealEntry (BitVec.ofNat 32 old) new else s
  | none => s

/-- The stored change-log entry in slot `i`: its SEQ, where its CRC holds. -/
def State.clogSlot (s : State) (i : Nat) : Option Nat :=
  let o := 0x14000 + 64 * i
  if crc32c (s.nvmBytes o 0x3C) = s.nvmWord (o + 0x3C) then some (s.nvmWord o).toNat else none

/-- The next sequence number and the entries in use, as the change log shows them at a reset: the newest entry whose CRC
holds. -/
def State.clogScan (s : State) : State :=
  let seqs := (List.range 512).filterMap s.clogSlot
  match seqs.max?, seqs.min? with
  | some hi, some _ => { s with safe := { s.safe with seq := hi + 1, used := seqs.length } }
  | _, _ => { s with safe := { s.safe with seq := 0, used := 0 } }

/-! ### Profiles (R255) -/

/-- PROT offset of profile word `i` (R487). -/
def profileAddr (i : Nat) : Nat := 0x20044 + 4 * i

/-- The active profile goes into the registers, without entries (R255). -/
def State.profileCopy (s : State) : State :=
  if s.safe.fault then s
  else match s.profileWords s.sealProfile with
    | some ws => ((ws.zipIdx).foldl (fun s e => s.setReg (profileAddr e.2) e.1) s).putFlag F.PROT_PROFILE_PROFERR false
    | none => (s.putFlag F.PROT_PROFILE_PROFERR true).protWarn 2

/-- The registers the copy would change, with their new values. -/
def State.profileDiff (s : State) : List (Nat × Word) :=
  match s.profileWords s.sealProfile with
  | some ws => ((ws.zipIdx).map (fun e => (profileAddr e.2, e.1))).filter (fun e => decide (s.reg e.1 ≠ e.2))
  | none => []

/-- What R255 asks of a LOAD, beyond the G0 write itself: room for the entries of the changed registers and of the write. -/
def State.loadAccepts (s : State) : Bool :=
  s.windowOpen && !s.sealS3 && !s.gd.armed && s.clogRoom (s.profileDiff.length + 1)

/-- The copy of an accepted LOAD, each changed register logged (KIND 4). -/
def State.profileLoad (s : State) (who : Who) : State :=
  match s.profileWords s.sealProfile with
  | none => (s.putFlag F.PROT_PROFILE_PROFERR true).protWarn 2
  | some _ =>
    (s.profileDiff.foldl (fun t e =>
      (t.clogAdd who 4 ((safetyGroup e.1).getD 0xFF) e.1 (t.reg e.1) e.2 none).setReg e.1 e.2) s).putFlag F.PROT_PROFILE_PROFERR false

/-- The present values of G1, G2, G3 and G5 as a profile. -/
def State.presentProfile (s : State) : List Word := (List.range 36).map (fun i => s.reg (profileAddr i))

/-! ### LOG_ARCHIVE (R291) -/

/-- The sectors whose 64 slots all hold entries with SEQ at or below `ack`. -/
def State.archiveSectors (s : State) (ack : Nat) : List Nat :=
  (List.range 8).filter (fun n => (List.range 64).all (fun i =>
    match s.clogSlot (64 * n + i) with
    | some q => decide (q ≤ ack)
    | none => false))

/-- The host has proved that it holds entry `ack`: it has been used, and `crc` is the CRC of the stored entry. -/
def State.archiveProven (s : State) (ack : Nat) (crc : Word) : Bool :=
  decide (ack < s.safe.seq) && decide (s.clogSlot (ack % 512) = some ack) && decide (s.nvmWord (clogOff ack + 0x3C) = crc)

/-- A sector of the change log has been erased by an archive: 64 entries are free again. -/
def State.archiveErased (s : State) (n : Nat) : State :=
  ({ s with safe := { s.safe with used := s.safe.used - 64, erasing := s.safe.erasing.erase n, nvmErr := false } }).sealRetry

end Sys2Proof.Machine
end

