-- ==== Sys2Proof/Machine/Adc.lean ====
section
/-! DEFINITION. Conversion (spec/05): the C-path and M-path results of the 18 channels, step samples and trigger groups,
settling, quarantine, overload and stuck streams. Channels 0 to 7 are ADCX 0 to 7, channels 8 to 17 are ADCI 0 to 9. -/

namespace Sys2Proof.Machine

def adcPage (ch : Nat) : Nat := if ch < 8 then Pg.ADCX else Pg.ADCI
/-- The address of an array register of channel `ch`: `o` is its offset in the page. -/
def adcReg (o ch : Nat) : Nat := adcPage ch * 0x1000 + o + 4 * (if ch < 8 then ch else ch - 8)
def adcCtrl (ch : Nat) : Nat := adcReg 0x080 ch
def adcStat (ch : Nat) : Nat := adcReg 0x0C0 ch
def adcCRes (ch : Nat) : Nat := adcReg 0x100 ch
def adcMRes (ch : Nat) : Nat := adcReg 0x140 ch

def State.adcCh (s : State) (ch : Nat) : AdcCh := nth AdcCh.reset s.adc.ch ch
def State.modAdc (s : State) (ch : Nat) (f : AdcCh → AdcCh) : State := { s with adc := { s.adc with ch := modAt ch f s.adc.ch } }

/-- The channel runs (R47, R115). -/
def State.adcOn (s : State) (ch : Nat) : Bool := s.live (adcPage ch) && s.bitOf (adcCtrl ch) 0
def State.adcMen (s : State) (ch : Nat) : Bool := s.bitOf (adcCtrl ch) 3

/-- SYSCLK ticks per modulator clock: 5, 10, 20 or 25 MHz; ADCI 10 MHz (R99, R102). -/
def clkTicks (rate : Nat) : Nat := if rate = 0 then 80 else if rate = 1 then 40 else if rate = 2 then 20 else 16
def State.modClk (s : State) (ch : Nat) : Nat :=
  if 8 ≤ ch then 40 else clkTicks (if ch < 4 then s.get F.ADCX_CLK_CFG_CK0RATE else s.get F.ADCX_CLK_CFG_CK1RATE)
/-- A Manchester channel (R101); ADCI has none. -/
def State.adcMan (s : State) (ch : Nat) : Bool := decide (ch < 8) && s.bitOf (adcCtrl ch) 2
/-- The ADCI channels. -/
def adciChans : List Nat := (List.range 10).map (fun n => n + 8)

/-! ### The clocks (R99, R100) -/

/-- FUNC of configurable pin k (R494), 5 to 7 acting as 0. -/
def State.pinFunc (s : State) (k : Nat) : Nat :=
  let f := wbits (s.reg (Reg.PINS_FUNC k)) 0 3
  if 5 ≤ f ∨ (f = 4 ∧ 3 ≤ k) then 0 else f

/-- SDCKk is driven at its pin (R99): D6 and D1 on, CKkEN, and the pin's primary function. -/
def State.sdckDriven (s : State) (k : Nat) : Bool :=
  s.domOn 6 && s.bitOf Reg.ADCX_CLK_CFG (8 + k) && s.domOn 1 && s.pageEn Pg.PINS && decide (s.pinFunc (3 + k) = 1)

/-- The period in force of SDCKk, and its level now: it rises at multiples of its period since power-on, and a changed rate waits for
the next multiple of 80 ticks, which ends a low phase of every rate (log entry 116). -/
def State.sdckPeriod (s : State) (k : Nat) : Nat :=
  let o := nth (20, 0) s.adc.ckOld k
  if s.now < o.2 then o.1 else clkTicks (if k = 0 then s.get F.ADCX_CLK_CFG_CK0RATE else s.get F.ADCX_CLK_CFG_CK1RATE)
def State.sdckLevel (s : State) (k : Nat) : Bool := decide (2 * (s.now % s.sdckPeriod k) < s.sdckPeriod k)

/-- The capture delay of a channel, modulo its clock's period (R100); an internal modulator has none. -/
def State.capDelay (s : State) (ch : Nat) : Nat :=
  if 8 ≤ ch then 0
  else (if ch < 4 then s.get F.ADCX_CLK_CFG_CK0DLY else s.get F.ADCX_CLK_CFG_CK1DLY) % s.modClk ch

/-- The first tick from `t` on in which the channel captures a bit. -/
def State.captureFrom (s : State) (ch t : Nat) : Nat :=
  let p := s.modClk ch
  t + (s.capDelay ch + p - t % p) % p

/-- VREF stands at VREFP (R102): in microvolts, 0 while it is not driven. -/
def State.vrefUv (s : State) : Nat := if s.domOn 7 && s.flag F.ADCI_CFG_REFEN then 2500000 else 0

/-- VREF ceases to be driven: REFRDY reads 0; and it is driven anew (R102). -/
def State.refOff (s : State) : State :=
  ({ s with adc := { s.adc with refAt := none } }).putFlag F.ADCI_CFG_REFRDY false
def State.refReview (s : State) : State :=
  if s.vrefUv = 0 then s.refOff
  else if s.adc.refAt.isSome then s
  else { s with adc := { s.adc with refAt := some s.now } }

/-- The C-path ratio and the M-path ratio. -/
def State.cosr (s : State) (ch : Nat) : Nat := 16 * 2 ^ wbits (s.reg (adcCtrl ch)) 4 3
def State.mosr (s : State) (ch : Nat) : Nat := 512 * 2 ^ wbits (s.reg (adcCtrl ch)) 8 2

/-- C-path output period and group delay in ticks (R106); M-path settling in ticks (R115) and delay (R110). -/
def State.cPeriod (s : State) (ch : Nat) : Nat := s.cosr ch * s.modClk ch
def State.cDelay (s : State) (ch : Nat) : Nat := 3 * s.cosr ch * s.modClk ch / 2
def State.mSettleTicks (s : State) (ch : Nat) : Nat := 40 * s.mosr ch * s.modClk ch
def State.mDelay (s : State) (ch : Nat) : Nat := 39 * s.mosr ch * s.modClk ch / 2

/-- The reference holds an ADCI channel's results unqualified (R102). -/
def State.refMissing (s : State) (ch : Nat) : Bool := decide (8 ≤ ch) && !s.flag F.ADCI_CFG_REFRDY

def State.adcStuck (s : State) (ch : Nat) : Bool := s.bitOf (adcStat ch) 5 || s.bitOf (adcStat ch) 6
def State.adcQuarBit (s : State) (ch : Nat) : Bool := s.bitOf (adcCtrl ch) 1

/-- A C-path output, an M-path sample, delivered now carries UNS (R112, R115). -/
def State.unsC (s : State) (ch : Nat) : Bool :=
  decide (0 < (s.adcCh ch).cSettle) || s.adcQuarBit ch || s.adcStuck ch || s.refMissing ch
def State.unsM (s : State) (ch : Nat) : Bool :=
  decide (s.now < (s.adcCh ch).mSettle) || s.adcQuarBit ch || s.adcStuck ch || s.refMissing ch

/-! ### From bits to a code (R103, R104, R106) -/

/-- The weight of bit `i` of a sinc3 window of ratio `n`: the coefficients of ((1 - z^-n)/(1 - z^-1))^3. -/
def sinc3Weight (n i : Nat) : Int :=
  let c (k : Int) : Int := if k < 0 then 0 else (k + 2) * (k + 1) / 2
  c i - 3 * c ((i : Int) - n) + 3 * c ((i : Int) - 2 * n)

/-- The weighted sum of the window: bit `i` of `bits` is its i-th modulator clock. -/
def sinc3Sum (n : Nat) (bits : Nat) : Nat → Int
  | 0 => 0
  | i + 1 => sinc3Sum n bits i + (if bits.testBit i then sinc3Weight n i else 0)

/-- The ones-density a sinc3 window of ratio `n` reads (DC gain 1). -/
def sinc3Density (n bits : Nat) : Rat := (sinc3Sum n bits (3 * n - 2) : Rat) / ((n * n * n : Nat) : Rat)

/-- The raw code of a density (R103). -/
def rawCode (ch : Nat) (p : Rat) : Rat :=
  if ch < 8 then (2 * p - 1) * 8388608 else (p - 1 / 10) / (8 / 10) * 8388608

/-- sat24(raw × GAIN + OFFS) (R103). -/
def State.resultData (s : State) (ch : Nat) (raw : Rat) : Int :=
  let gain : Rat := (wbits (s.reg (adcReg 0x180 ch)) 0 18 : Rat) / 65536
  let offs : Rat := signed 24 (wbits (s.reg (adcReg 0x1C0 ch)) 0 24)
  clampInt (-8388608) 8388607 (roundHalfUp (raw * gain + offs))

/-- The overload margin; the count of ones in 64 clocks is overloaded (R104). -/
def State.ovrm (s : State) (ch : Nat) : Nat := wbits (s.reg (adcCtrl ch)) 16 5
def overloaded (margin ones : Nat) : Bool := decide (64 ≤ ones + margin) || decide (ones ≤ margin)

/-- A clock of the window was overloaded: 63 clocks before it, `bits` holds the window's own from bit 63 on. -/
def windowOvr (margin bits : Nat) : Nat → Bool
  | 0 => false
  | i + 1 => overloaded margin (popCount 64 ((bits >>> i) % 2 ^ 64)) || windowOvr margin bits i

/-- The overload flag over the first `i` of the clocks whose 64 bits begin at bit 0, 1, ... of `bits`: its last value, and whether it
rose, starting from `was`. -/
def ovrScan (margin bits : Nat) (was : Bool) : Nat → Bool × Bool
  | 0 => (was, false)
  | i + 1 =>
    let a := ovrScan margin bits was i
    let o := overloaded margin (popCount 64 ((bits >>> i) % 2 ^ 64))
    (o, a.2 || (o && !a.1))

/-- No transition for 64 clocks up to the one whose 65 bits end it (R105), and at one of the first `i` clocks. -/
def stuckAt (bits i : Nat) : Bool := decide ((bits >>> i) % 2 ^ 65 = 0) || decide ((bits >>> i) % 2 ^ 65 = 2 ^ 65 - 1)
def stuckIn (bits : Nat) : Nat → Bool
  | 0 => false
  | i + 1 => stuckIn bits i || stuckAt bits i

/-! ### What reaches the filter (R100 to R102) -/

/-- The valid mid-bit transitions of a Manchester line at `t` ticks a bit, each with its bit (R86, R101): a change within 10 % of a
period after the last one. An earlier change lies between two bits; after a longer gap the decoder takes the change as its new
start. -/
def manDecode (t : Nat) : Option Nat → List (Nat × Bool) → List (Nat × Bool)
  | _, [] => []
  | none, e :: es => manDecode t (some e.1) es
  | some p, e :: es =>
    if 10 * (e.1 - p) < 9 * t then manDecode t (some p) es
    else if 10 * (e.1 - p) ≤ 11 * t then e :: manDecode t (some e.1) es
    else manDecode t (some e.1) es

/-- The level of a line in tick `t`. -/
def lineAt (edges : List (Nat × Bool)) (t : Nat) : Bool :=
  match (edges.filter (fun e => decide (e.1 ≤ t))).getLast? with
  | some e => e.2
  | none => match edges with
    | e :: _ => !e.2
    | [] => false

def bitsNat (bs : List Bool) : Nat := bs.foldr (fun b a => b.toNat + 2 * a) 0

/-- What an output's stream gives: the tick at which the output is visible, the ones-density its filter reads (none: not known), OVR of
its window, the live overload flag and whether it rose since the last output, the same for STUCK, and CLKLOSS. -/
structure CWindow where
  vis : Nat
  dens : Option Rat
  ovr : Bool
  live : Bool
  rose : Bool
  stuck : Bool
  stuckNow : Bool
  loss : Bool

/-- The bits of a filter window, with 63 before it (R103 to R106). -/
def State.bitWindow (s : State) (ch vis bits : Nat) : CWindow :=
  let n := s.cosr ch
  let new := bits >>> (2 * n - 2)
  let o := ovrScan (s.ovrm ch) new (s.bitOf (adcStat ch) 4) n
  let back := bits >>> (2 * n - 3)
  { vis := vis, dens := some (sinc3Density n (bits >>> 63)), ovr := windowOvr (s.ovrm ch) bits (3 * n - 2), live := o.1, rose := o.2,
    stuck := stuckIn back n, stuckNow := stuckAt back (n - 1), loss := false }

/-- The stream of a C-path output (R100 to R102). A clocked channel captures its pin on its clock, with its delay; where SDCK is not
driven its modulator stands still, and it captures one level (R105). A Manchester channel goes by the bits it decodes. An AIN pin's
density runs from 0.10 at VREFN to 0.90 at VREFP. -/
def State.cWindow (s : State) (ch : Nat) (x : Stream) : CWindow :=
  let n := s.cosr ch
  let len := 3 * n + 61
  let vis := (s.adcCh ch).nextOut
  let none' : CWindow := { vis := vis, dens := none, ovr := false, live := s.bitOf (adcStat ch) 4, rose := false, stuck := false,
                           stuckNow := s.bitOf (adcStat ch) 5, loss := true }
  let clocked (b : Nat) : CWindow :=
    s.bitWindow ch vis (if ch < 8 && !s.sdckDriven (ch / 4) then (if b.testBit 0 then 2 ^ len - 1 else 0) else b % 2 ^ len)
  match x with
  | .bits b => if s.adcMan ch then s.bitWindow ch vis (b % 2 ^ len) else clocked b
  | .line es =>
    let t := s.modClk ch
    if s.adcMan ch then
      let ds := manDecode t none es
      let w := ds.drop (ds.length - len)
      match w.getLast?, (w.drop 63).head? with
      | some z, some a =>
        if w.length < len then none'
        else
          let clk : Rat := ((z.1 - a.1 : Nat) : Rat) / ((3 * n - 3 : Nat) : Rat)
          let at' := roundHalfUp (((a.1 + z.1 : Nat) : Rat) / 2 + 3 * (n : Rat) / 2 * clk)
          let ws := w.drop (2 * n + 61)
          { s.bitWindow ch at'.toNat (bitsNat (w.map (fun e => e.2))) with
            loss := (ws.zip (ws.drop 1)).any (fun p => decide (4 * t ≤ p.2.1 - p.1.1)) || decide (z.1 + 4 * t ≤ at'.toNat) }
      | _, _ => none'
    else
      let last := vis - 3 * t / 2
      clocked (bitsNat ((List.range len).map (fun i => lineAt es (last - (len - 1 - i) * t))))
  | .pin uV =>
    if ch < 8 then none'
    else if s.vrefUv = 0 then { none' with loss := false }
    else
      let p := clampRat 0 1 (1 / 10 + 8 / 10 * (uV : Rat) / (s.vrefUv : Rat))
      let ones := p * 64
      let o := decide (64 - ((s.ovrm ch : Nat) : Rat) ≤ ones) || decide (ones ≤ ((s.ovrm ch : Nat) : Rat))
      let st := decide (p = 0) || decide (p = 1)
      { vis := vis, dens := some p, ovr := o, live := o, rose := o && !s.bitOf (adcStat ch) 4, stuck := st, stuckNow := st, loss := false }

/-! ### Settling and quarantine (R115 to R117) -/

/-- The channel settles from now: three outputs, 40 MRATE intervals. Its first output has the first N bits it captures, and is visible
a clock and a half after the last of them (R106; log entry 32). -/
def State.adcSettle (s : State) (ch : Nat) : State :=
  let m := s.now + s.mSettleTicks ch
  let o := s.captureFrom ch s.now + (s.cosr ch - 1) * s.modClk ch + 3 * s.modClk ch / 2
  s.modAdc ch (fun c => { c with cSettle := 3, mSettle := m, nextOut := o, qOut := 0, qRun := 0, qPass := false })

/-- The channel enters quarantine, or its test starts again; `held` for one entered by a write. -/
def State.adcQuar (s : State) (ch : Nat) (held : Bool) : State :=
  ((s.putBit (adcCtrl ch) 1 true).adcSettle ch).modAdc ch (fun c => { c with starting := false, held := held })

/-- The channel becomes enabled (R47, R112, R115); the indices of this cycle already passed are absent. -/
def State.adcStart (s : State) (ch : Nat) : State :=
  let s := (s.setReg (adcStat ch) (wput (s.reg (adcStat ch)) 24 8 0)).adcSettle ch
  let s := s.modAdc ch (fun c => { c with seqC := 0, seqM := 0, lastC := none, starting := s.pwr.muster, held := false, dropAt := none,
                                          ovrAt := none, nextI := s.resamp.top + 1, mLast := [],
                                          mNow := List.replicate ((s.resamp.top + 1) % 256).toNat none })
  if s.pwr.muster then s else s.adcQuar ch false

/-- The M-path has settled, or is not used (R115). -/
def State.mSettled (s : State) (ch : Nat) : Bool := !s.adcMen ch || decide ((s.adcCh ch).mSettle ≤ s.now)

/-- The channel leaves quarantine: QFAIL is cleared. After a host clear while it settles, UNS ends with the settling. -/
def State.adcClear (s : State) (ch : Nat) : State :=
  let settling := decide ((s.adcCh ch).cSettle ≠ 0) || !s.mSettled ch
  ((s.putBit (adcCtrl ch) 1 false).setReg (adcStat ch) (wput (s.reg (adcStat ch)) 12 4 0)).modAdc ch (fun c =>
    { c with held := false, starting := settling, qPass := false })

/-- Settling or the test ends where both paths are done: SETTLED is raised (R115, R116). Where a stuck stream or a missing reference
keeps UNS, the quarantine that its end brings raises it instead. -/
def State.adcSettled (s : State) (ch : Nat) : State :=
  let c := s.adcCh ch
  if s.adcQuarBit ch then
    (if !c.held && c.qPass && s.mSettled ch then (s.adcClear ch).note (adcPage ch) 3 else s)
  else if c.starting && decide (c.cSettle = 0) && s.mSettled ch && !s.adcStuck ch && !s.refMissing ch then
    (s.modAdc ch (fun c => { c with starting := false })).note (adcPage ch) 3
  else s

/-- The channel's test passes in this tick (R51, R116). -/
def State.adcPasses (s : State) (ch : Nat) : Bool :=
  s.adcOn ch && s.adcQuarBit ch && !(s.adcCh ch).held && (s.adcCh ch).qPass && s.mSettled ch

/-- One output of the qualification window (R116). -/
def State.adcTest (s : State) (ch : Nat) (settledBefore ovr : Bool) : State :=
  let c := s.adcCh ch
  if !(s.adcQuarBit ch) || c.held || !settledBefore then s
  else
    let run := if !ovr && !s.adcStuck ch then c.qRun + 1 else 0
    s.modAdc ch (fun c => { c with qOut := c.qOut + 1, qRun := run, qPass := c.qPass || (decide (16 ≤ run) && decide (c.qOut < 64)) })

/-- The window of 64 outputs ended without a pass: QFAIL goes up and the window opens again. -/
def State.adcWindowFail (s : State) (ch : Nat) : State :=
  let c := s.adcCh ch
  if s.adcOn ch && s.adcQuarBit ch && !c.held && !c.qPass && decide (64 ≤ c.qOut) then
    let q := wbits (s.reg (adcStat ch)) 12 4
    (s.setReg (adcStat ch) (wput (s.reg (adcStat ch)) 12 4 (satTo 15 (q + 1)))).modAdc ch (fun c => { c with qOut := 0, qRun := 0 })
  else s

/-! ### Trigger groups (R107 to R109) -/

/-- The members of group `g`. -/
def State.groupMembers (s : State) (g : Nat) : List Nat :=
  (List.range 18).filter (fun ch =>
    if ch < 8 then s.bitOf (Reg.ADCX_TRIG g) ch else s.bitOf (Reg.ADCI_TRIG g) (ch - 8))

/-- Group `g` waits for a step sample. -/
def State.groupWaits (s : State) (g : Nat) : Bool :=
  s.adc.ch.any (fun c => match c.mark with | some m => m.groups.getLsbD g | none => false)

/-- EV(32 + g) for each group of `gs` that waits for nothing any more. -/
def State.groupsReady (s : State) (gs : BitVec 4) : State :=
  (List.range 4).foldl (fun s g => if gs.getLsbD g && !s.groupWaits g then s.pulseIn 1 (32 + g) else s) s

/-- A pending step mark is taken off a channel; its groups are judged. -/
def State.dropMark (s : State) (ch : Nat) : State :=
  match (s.adcCh ch).mark with
  | some m => (s.modAdc ch (fun c => { c with mark := none })).groupsReady m.groups
  | none => s

/-- Channels lose all they hold, their marks discarded (R109, R118). -/
def State.adcWipe (s : State) (chs : List Nat) : State :=
  chs.foldl (fun s ch => (s.dropMark ch).modAdc ch (fun _ => AdcCh.reset)) s

/-- A trigger of group `g` reaches one member. Triggers of one tick count as one (R108). -/
def State.markStep (s : State) (g ch : Nat) : State :=
  if !s.adcOn ch then s
  else match (s.adcCh ch).mark with
    | some m =>
      if m.tick = s.now then s.modAdc ch (fun c => { c with mark := some { m with groups := m.groups ||| (1#4 <<< g) } })
      else if (s.adcCh ch).dropAt = some s.now then s
      else
        (s.setReg (adcStat ch) (wput (s.reg (adcStat ch)) 24 8 (wbits (s.reg (adcStat ch)) 24 8 + 1))).modAdc ch (fun c =>
          { c with dropAt := some s.now })
    | none => s.modAdc ch (fun c => { c with mark := some { tick := s.now, groups := 1#4 <<< g } })

/-- A mark of this tick's trigger of group `g` is pending on some channel. -/
def State.groupMarked (s : State) (g : Nat) : Bool :=
  s.adc.ch.any (fun c => match c.mark with | some m => decide (m.tick = s.now) && m.groups.getLsbD g | none => false)

/-- Group `g` is triggered now (R107). Members that drop the trigger are left out of its wait: with no member left,
EV(32 + g) pulses (R108, R109). -/
def State.adcTrigger (s : State) (g : Nat) : State :=
  let t := (s.groupMembers g).foldl (fun s ch => s.markStep g ch) s
  if t.groupMarked g then t else t.pulseIn 1 (32 + g)

/-! ### Stuck streams and overload (R104, R105) -/

/-- STUCK (bit 5) or CLKLOSS (bit 6) is set. -/
def State.adcLost (s : State) (ch b : Nat) : State :=
  if !s.adcOn ch || s.bitOf (adcStat ch) b then s
  else
    let s := ((s.putBit (adcStat ch) b true).setW1c (adcStat ch) 10).note (adcPage ch) 2
    s.modAdc ch (fun c => { c with qOut := 0, qRun := 0, qPass := false })

/-- CLKLOSS, on a Manchester channel only. -/
def State.adcClkLoss (s : State) (ch : Nat) : State := if s.adcMan ch then s.adcLost ch 6 else s

/-- STUCK, CLKLOSS return to 0 where asked: in the tick in which neither is left, a running channel enters quarantine. -/
def State.adcStuckClear (s : State) (ch : Nat) (stuck clk : Bool) : State :=
  let was := s.adcStuck ch
  let held := s.adcQuarBit ch && (s.adcCh ch).held
  let s := if stuck then s.putBit (adcStat ch) 5 false else s
  let s := if clk then s.putBit (adcStat ch) 6 false else s
  if was && !s.adcStuck ch && s.adcOn ch then s.adcQuar ch held else s

/-- The live OVR flag is `live`; `rose` where it has gone from 0 to 1 (R104, R119). -/
def State.adcOvrSet (s : State) (ch : Nat) (live rose : Bool) : State :=
  let s := if live || rose || s.bitOf (adcStat ch) 4 then s.modAdc ch (fun c => { c with ovrAt := some s.now }) else s
  let s := s.putBit (adcStat ch) 4 live
  if rose then (s.setW1c (adcStat ch) 9).note (adcPage ch) 1 else s

/-- The ones among the last 64 modulator clocks are `ones`: the live OVR flag (R104). -/
def State.adcOverload (s : State) (ch ones : Nat) : State :=
  if !s.adcOn ch then s
  else
    let o := overloaded (s.ovrm ch) ones
    s.adcOvrSet ch o (o && !s.bitOf (adcStat ch) 4)

/-- What an output's stream says of overload, of transitions and of the clock (R104, R105). -/
def State.streamJudge (s : State) (ch : Nat) (w : CWindow) : State :=
  let s := s.adcOvrSet ch w.live w.rose
  let s := if w.stuck then s.adcLost ch 5 else s
  let s := if w.loss then s.adcClkLoss ch else s
  if s.bitOf (adcStat ch) 5 && !w.stuckNow then s.adcStuckClear ch true false else s

/-! ### Results (R106, R112, R113) -/

/-- A result word. -/
def resultWord (data : Int) (ovr uns : Bool) (seq : Nat) : Word :=
  BitVec.ofNat 32 (wrapBits 24 data + 16777216 * ovr.toNat + 33554432 * uns.toNat + 134217728 * (seq % 32))

/-- NEW, OVERRUN and the event of a result written: `b` is the bit of NEW (0 for C, 1 for M). -/
def State.markNew (s : State) (ch b : Nat) : State :=
  let a := adcStat ch
  if s.bitOf a b then
    (if s.bitOf a (b + 2) then s else (s.setW1c a (b + 2)).note (adcPage ch) 0)
  else s.putBit a b true

/-- A C-path output becomes visible (R106). Answers the step mark it delivered. Where the stream gives no density (no clock, no
reference) the code is a free value (log entry 34). -/
def State.cOutput (s : State) (ch : Nat) (x : Stream) : State × Option StepMark :=
  if !s.adcOn ch then (s, none)
  else
    let w := s.cWindow ch x
    let s := (s.elapseTo w.vis).streamJudge ch w
    let (data, s) := match w.dens with
      | some p => (s.resultData ch (rawCode ch p), s)
      | none => (let (v, s) := s.freeVal; (signed 24 (wbits v 0 24), s))
    let uns := s.unsC ch
    let centre := s.now - s.cDelay ch
    let mark := (s.adcCh ch).mark.filter (fun m => decide (m.tick ≤ centre))
    let settled := decide ((s.adcCh ch).cSettle = 0)
    let period := s.cPeriod ch
    let s := s.modAdc ch (fun c => { c with lastC := some (data, w.ovr, uns), cSettle := c.cSettle - 1, nextOut := w.vis + period })
    let s := s.putBit (adcStat ch) 7 uns
    let s := if !s.bitOf (adcCtrl ch) 7 || mark.isSome then
        let s := s.modAdc ch (fun c => { c with seqC := c.seqC + 1 })
        (s.setReg (adcCRes ch) (resultWord data w.ovr uns (s.adcCh ch).seqC)).markNew ch 0 else s
    let s := (s.adcTest ch settled w.ovr).adcSettled ch
    let s := match mark with
      | some m => (s.modAdc ch (fun c => { c with mark := none })).groupsReady m.groups
      | none => s
    (s, mark)

/-- The BEAR_CYCLE to which index `i` of the resampler belongs (R111). -/
def State.indexCycle (s : State) (i : Int) : Word :=
  s.reg Reg.CPS_BEAR_CYCLE + BitVec.ofNat 32 s.cps.wrapPend.toNat - BitVec.ofNat 32 (wrapBits 32 (s.resamp.top / 256 - i / 256))

/-- Time passes until the angle has reached index `i`, the next one. -/
def State.runIndex (s : State) (i : Int) : State :=
  let d := (i * ((2 ^ 44 : Nat) : Int) - s.resamp.pos).toNat
  if i ≤ s.resamp.top then s
  else if s.domOn 3 then s.elapse (ticksToAdvance (s.reg Reg.CPS_BEAR_RATE).toNat s.slewMax s.cps.rem d)
  else if s.domOn 9 then s.elapse (ceilDiv d s.met.rate)
  else s

/-- The instant of index `i`, and whether a jump stepped over it. -/
def State.indexAt (s : State) (i : Int) : Nat × Bool :=
  match s.resamp.crossed.find? (fun x => decide (x.1 = i)) with
  | some x => x.2
  | none => (s.now, true)

/-- The channel's M-path window, which ends now, had an overloaded clock (R104, R110): 39 N clocks about the instant. -/
def State.mOvr (s : State) (ch : Nat) : Bool :=
  s.bitOf (adcStat ch) 4 ||
  (match (s.adcCh ch).ovrAt with
    | some t => decide (s.now ≤ t + 39 * s.mosr ch * s.modClk ch)
    | none => false)

/-- The resampler produces the channel's next sample (R111): time passes to the instant of its index and 19.5 N clocks more (R110).
`dens` is the ones-density of the band-limited input at that instant, in 2^-40. -/
def State.mSample (s : State) (ch : Nat) (dens : Int) : State :=
  if !(s.adcOn ch && s.adcMen ch) then s
  else
    let i := (s.adcCh ch).nextI
    let s := s.runIndex i
    let (t, skipped) := s.indexAt i
    let s := s.elapseTo (t + s.mDelay ch)
    let k := (i % 256).toNat
    let data := s.resultData ch (rawCode ch ((dens : Rat) / 1099511627776))
    let uns := s.unsM ch || skipped
    let v := if uns then none else some data
    let s := s.modAdc ch (fun c =>
      let ms := if k = 0 then [v] else c.mNow ++ [v]
      { c with seqM := c.seqM + 1, nextI := i + 1
               mNow := ms, mLast := if k = 255 then ms else c.mLast })
    let s := s.setReg (adcStat ch) (wput (wputBit (s.reg (adcStat ch)) 8 uns) 16 8 k)
    ((s.setReg (adcMRes ch) (resultWord data (s.mOvr ch) uns (s.adcCh ch).seqM)).markNew ch 1).adcSettled ch

/-- The consumer class of a master: 0 ENGINE, 1 DMA, 2 HOST (R113). -/
def consumerOf (m : Nat) : Nat := if m = 0x30 then 0 else if 0x10 ≤ m ∧ m ≤ 0x1F then 1 else 2

/-- A served read of a result register: its designated consumer clears NEW (R113). -/
def State.resultRead (s : State) (a master : Nat) : State :=
  let page := a / 0x1000
  let o := a % 0x1000
  if (page = Pg.ADCX ∨ page = Pg.ADCI) ∧ 0x100 ≤ o ∧ o < 0x180 then
    let ch := o % 0x40 / 4 + (if page = Pg.ADCI then 8 else 0)
    let m := if o < 0x140 then 0 else 1
    let cons := wbits (s.reg (adcCtrl ch)) (10 + 2 * m) 2
    if (if cons = 3 then 2 else cons) = consumerOf master then s.putBit (adcStat ch) m false else s
  else s

/-! ### The reference and writes -/

/-- ADC_REF_READY: VREF has settled, a free time of at most 500 µs after it was driven (R102): running ADCI channels enter
quarantine (R116). -/
def State.adcRefReady (s : State) : State :=
  match s.adc.refAt with
  | none => s
  | some t =>
   if s.flag F.ADCI_CFG_REFRDY then s
   else
    let s := (s.elapseTo (t + Config.refTicks.val)).putFlag F.ADCI_CFG_REFRDY true
    adciChans.foldl (fun s ch => if s.adcOn ch then s.adcQuar ch ((s.adcCh ch).held && s.adcQuarBit ch) else s) s

/-- The channel stops being enabled: no quarantine, no mark (R51, R109). QFAIL is cleared where that ends quarantine (R120); the live
flags of a stream that is no longer judged read 0 (log entry 35). -/
def State.adcStop (s : State) (ch : Nat) : State :=
  let st := s.reg (adcStat ch)
  let st := wput (if s.adcQuarBit ch then wput st 12 4 0 else st) 4 3 0
  (((s.setReg (adcStat ch) st).putBit (adcCtrl ch) 1 false).modAdc ch (fun c => { c with lastC := none, starting := false, held := false })).dropMark ch

/-- The channels of a page as it is enabled or stops. -/
def State.adcPageSet (s : State) (page : Nat) (on : Bool) : State :=
  let units := (List.range 18).filter (fun ch => adcPage ch = page && s.bitOf (adcCtrl ch) 0)
  units.foldl (fun s ch => if on then s.adcStart ch else s.adcStop ch) s

/-- A write to CH_CTRL of channel `ch` (R116, R120). Answers whether it was a host clear: a write of 0 to QUAR is one while it reads 1
(R50), also where the write changes a field that starts quarantine, which it then enters anew and not held (DESIGN CHOICE, log entry
112). A test that has passed by this tick ends first (R51); with MEN cleared only the C-path part is asked for (R116). -/
def State.adcCtrlWrite (s : State) (ch : Nat) (v : Word) : State × Bool :=
  let a := adcCtrl ch
  let was := s.adcOn ch
  let s := if was then s.adcSettled ch else s
  let old := s.reg a
  let cosr := if 4 < wbits v 4 3 then 2 else wbits v 4 3
  let ovrm := if wbits v 16 5 = 0 then 1 else wbits v 16 5
  let w := wput (wput old 0 1 (wbits v 0 1)) 2 1 (if ch < 8 then wbits v 2 1 else 0)
  let w := wput (wput (wput w 3 1 (wbits v 3 1)) 4 3 cosr) 7 1 (wbits v 7 1)
  let new := wput (wput (wput (wput w 8 2 (wbits v 8 2)) 10 2 (wbits v 10 2)) 12 2 (wbits v 12 2)) 16 5 ovrm
  let diff (lo len : Nat) : Bool := decide (wbits old lo len ≠ wbits new lo len)
  let s := s.setReg a new
  let on := s.adcOn ch
  let q := wbit v 1
  let change := diff 4 3 || diff 8 2 || diff 2 1 || diff 16 5
  let clear := was && on && wbit old 1 && !q
  let s := if was && !on then s.adcStop ch
    else if !was && on then (if q then (s.adcStart ch).adcQuar ch true else s.adcStart ch)
    else if on && q then s.adcQuar ch true
    else
      let s := if clear then s.adcClear ch else s
      if on && change then s.adcQuar ch false else if on then s.adcSettled ch else s
  (s, clear)

/-- A write to ADCX_CLK_CFG (R116): a changed rate or delay puts the running channels of the clock in quarantine. -/
def State.clkCfgWrite (s : State) (v : Word) : State :=
  let a := Reg.ADCX_CLK_CFG
  let old := s.reg a
  let new := wput (wput (wput (wput (wput (wput old 0 2 (wbits v 0 2)) 4 2 (wbits v 4 2)) 8 1 (wbits v 8 1)) 9 1 (wbits v 9 1))
    16 5 (wbits v 16 5)) 24 5 (wbits v 24 5)
  let diff (lo len : Nat) : Bool := decide (wbits old lo len ≠ wbits new lo len)
  let upTo (k len : Nat) : Nat × Nat := if diff (4 * k) len then (s.sdckPeriod k, (s.now / 80 + 1) * 80) else nth (20, 0) s.adc.ckOld k
  let s := ({ s with adc := { s.adc with ckOld := [upTo 0 2, upTo 1 2] } }).setReg a new
  let chs := (if diff 0 2 || diff 16 5 then [0, 1, 2, 3] else []) ++ (if diff 4 2 || diff 24 5 then [4, 5, 6, 7] else [])
  chs.foldl (fun s ch => if s.adcOn ch then s.adcQuar ch ((s.adcCh ch).held && s.adcQuarBit ch) else s) s

end Sys2Proof.Machine
end

