-- ==== Sys2Proof/Machine/Access.lean ====
section
/-! DEFINITION. What every access to the register region shares (spec/02): the judgement of a page, the record of a refusal,
the accepted-write counter, and the judged writes of the control engine to PWM (R137, R205). -/

namespace Sys2Proof.Machine

/-- Bits of PG_ERR (R52). -/
abbrev errNotOwner : Nat := 0
abbrev errLocked : Nat := 1
abbrev errDomainOff : Nat := 2
abbrev errRoWrite : Nat := 3
abbrev errNotReady : Nat := 4

/-! ### Domains that come up (R453, R454) -/

/-- The RUN mask: D0 AON and D1 CORE are always part of it (R450). -/
def runMask (s : State) : BitVec 12 := BitVec.ofNat 12 (wbits (s.reg Reg.PWR_DOMAIN_EN) 0 12 ||| 3)

/-- What a running transition still has to switch off and on besides D1 CORE. -/
def State.offLeft (s : State) (m : BitVec 12) : List Nat :=
  (List.range 12).reverse.filter (fun d => decide (1 < d) && s.pwr.on.getLsbD d && !m.getLsbD d)
def State.onLeft (s : State) (m : BitVec 12) : List Nat :=
  (List.range 12).filter (fun d => decide (1 < d) && m.getLsbD d && !s.domReady d)

/-- The domain that comes up next: in ascending number, after everything that goes off. After a reset D1 CORE waits for SYSPLL
and the other domains of the mask follow the image. -/
def State.nextOn (s : State) : Option Nat :=
  match s.pwr.trans with
  | some t =>
    if !(s.offLeft t.mask).isEmpty then none
    else if t.mask.getLsbD 1 && !s.domReady 1 then some 1
    else (s.onLeft t.mask).head?
  | none =>
    if s.pwr.inReset || !s.domOn 1 then none
    else if !s.domReady 1 then some 1
    else if s.get F.PWR_STATE_STATE = 1 then (s.onLeft (runMask s)).head? else none

/-- The page's standing for an access granted now (R29, R35 to R37): a domain that is being powered up is not ready. The domain is
judged before the muster window: a page whose domain is off answers DOMAIN_OFF within it too (DESIGN CHOICE, log entry 20). -/
def State.pageStatus (s : State) (p : Nat) : Status :=
  if !pageListed p then .unmapped
  else if !s.domOn (pageDomain p) then (if s.nextOn = some (pageDomain p) then .notReady else .domainOff)
  else if !s.pageReady p then .notReady
  else .ok

/-- A refusal is recorded on the page (R33, R35, R36, R40): while the page is off or not ready its latch holds it. -/
def State.refuse (s : State) (p : Nat) (st : Status) : State :=
  match st with
  | .domainOff => { s with pwr := { s.pwr with refOff := s.pwr.refOff ||| (1#64 <<< p) } }
  | .notReady =>
    if s.pageReady p then s.setW1c (pgErr p) errNotReady
    else { s with pwr := { s.pwr with refNR := s.pwr.refNR ||| (1#64 <<< p) } }
  | .locked => s.setW1c (pgErr p) errLocked
  | .notOwner => s.setW1c (pgErr p) errNotOwner
  | .roWrite => s.setW1c (pgErr p) errRoWrite
  | _ => s

/-- An accepted write counts in PG_SEQ (R41). -/
def State.countWrite (s : State) (p : Nat) : State := s.setReg (pgSeq p) (s.reg (pgSeq p) + 1#32)

/-- The page is in a soft reset (R43). -/
def State.inSrst (s : State) (p : Nat) : Bool := s.pwr.srst.getLsbD p

/-- The control engine, master 0x30, may write the shadow of leg `n`; another master may (R205). -/
def State.ownsShadow (s : State) (master n : Nat) : Bool :=
  let engine := decide (master = 0x30)
  match s.get F.PWM_CFG_OWNER with
  | 0 => true
  | 1 => engine
  | 2 => !engine
  | _ => if n < 3 then true else engine

/-- A write of `v` to PWM_SH_CMP of leg `n` by `master`: what it answers, and the state. -/
def State.shadowWrite (s : State) (master n : Nat) (v : Word) : State × Status :=
  match s.pageStatus Pg.PWM with
  | .ok =>
    if s.inSrst Pg.PWM then (s.refuse Pg.PWM .notReady, .notReady)
    else if s.ownsShadow master n then
      ((s.setReg (Reg.PWM_SH_CMP n) (BitVec.ofNat 32 (wbits v 0 21))).countWrite Pg.PWM, .ok)
    else (s.refuse Pg.PWM .notOwner, .notOwner)
  | st => (s.refuse Pg.PWM st, st)

/-- A write of 1 to PWM_LOAD.LOAD_ALL. -/
def State.loadWrite (s : State) : State × Status :=
  match s.pageStatus Pg.PWM with
  | .ok =>
    if s.inSrst Pg.PWM then (s.refuse Pg.PWM .notReady, .notReady) else ((s.countWrite Pg.PWM).loadAll, .ok)
  | st => (s.refuse Pg.PWM st, st)

end Sys2Proof.Machine
end

