-- ==== Sys2Proof/Machine/Spec.lean ====
section
/-! DEFINITION. Dead reckoning (spec/07): the channels of SPEC, the reckoning at a step's entry, the judgement of fixes,
qualification, missed fixes, sensor health, substitution and the controlled trip. What the engine does with a judgement is in
Machine/Ctl.lean. -/

namespace Sys2Proof.Machine

def State.specCh (s : State) (n : Nat) : SpecCh := nth SpecCh.reset s.spec.ch n
def State.modSpec (s : State) (n : Nat) (f : SpecCh → SpecCh) : State := { s with spec := { s.spec with ch := modAt n f s.spec.ch } }

def State.specBand (s : State) (n : Nat) : Nat := s.get (F.SPEC_BAND_BAND n)

/-- CFGERR where a channel's configuration puts it off (R145). -/
def State.specCfgErr (s : State) : State :=
  if (List.range 8).any (fun n => decide (s.specSrc n ≠ 0) && !s.specOn n) then s.setFlag F.SPEC_STAT_CFGERR else s

/-- Four-wire when a channel of role IN is on (R145). -/
def State.fourWire (s : State) : Bool := (s.roleCh 3).isSome

/-- The conversion channel of channel `n`'s sensor: the B and C inputs are exchanged with the remap (R67, R145). -/
def State.specSensor (s : State) (n : Nat) : Nat :=
  let c := s.specSrc n - 8
  if s.flag F.CPS_STAT_SWAPPED then
    (if c = 1 then 2 else if c = 2 then 1 else if c = 5 then 6 else if c = 6 then 5 else c)
  else c

/-- The fix deadline of channel `n`, in ticks from the trigger tick (R150). -/
def State.specDeadline (s : State) (n : Nat) : Nat :=
  if s.flag F.SPEC_FIXTMO_AUTO && s.specOn n then
    ceilDiv (5 * (s.cDelay (s.specSensor n) + s.cPeriod (s.specSensor n))) 4
  else s.get F.SPEC_FIXTMO_TMO

/-! ### Holding and qualification (R149) -/

def State.substituted (s : State) (n : Nat) : Bool := s.bitOf Reg.SPEC_SUBST n
def State.fixLost (s : State) (n : Nat) : Bool := s.bitOf Reg.SPEC_SUBST (8 + n)
def State.suspect (s : State) (n : Nat) : Bool := s.bitOf Reg.SPEC_STAT (16 + n)

/-- The channel is held. -/
def State.specHeld (s : State) (n : Nat) : Bool :=
  s.flag F.SPEC_STAT_VOID || s.flag F.SPEC_STAT_ELC || s.suspect n || s.substituted n || s.fixLost n

/-- SPEC_STAT.QUAL and DROFF show the channels' states. -/
def State.specShow (s : State) : State :=
  let bits (q : SpecQ) : Nat := ((List.range 8).map (fun n => if (s.specCh n).q = q then 2 ^ n else 0)).sum
  (s.put F.SPEC_STAT_QUAL (bits .qual)).put F.SPEC_STAT_DROFF (bits .droff)

/-- A QUAL channel that is held returns to LEARN. -/
def State.specHold (s : State) : State :=
  ((List.range 8).foldl (fun s n =>
    if s.specHeld n && decide ((s.specCh n).q = .qual) then s.modSpec n (fun c => { c with q := .learn, inrun := 0 }) else s) s).specShow

/-- The channel returns to LEARN. -/
def State.specLearn (s : State) (n : Nat) : State :=
  (s.modSpec n (fun c => { c with q := .learn, inrun := 0, outrun := 0 })).specShow

/-- The judgement of an in-time fix with residual in or out of the band. -/
def State.specQualify (s : State) (n : Nat) (inband : Bool) : State :=
  let c := s.specCh n
  match c.q with
  | .qual =>
    if inband then s.modSpec n (fun c => { c with outrun := 0 })
    else if max 1 (wbits (s.reg Reg.SPEC_RETRACTMAX) 0 8) ≤ c.outrun + 1 then
      ((s.modSpec n (fun c => { c with q := .droff, inrun := 0, outrun := c.outrun + 1 })).specShow).note Pg.SPEC 1
    else s.modSpec n (fun c => { c with outrun := c.outrun + 1 })
  | _ =>
    let run := if inband && !s.specHeld n then c.inrun + 1 else 0
    if max 1 (wbits (s.reg Reg.SPEC_QUALN) 0 8) ≤ run then
      (s.modSpec n (fun c => { c with q := .qual, inrun := run, outrun := 0 })).specShow
    else s.modSpec n (fun c => { c with inrun := run })

/-! ### The reckoning (R147) -/

/-- A binary32 model constant that is positive and finite. -/
def posFinite (w : F32) : Bool := w.finite && decide (0 < F32.toRat w)

/-- A code as a fraction of full scale; a code has 24 bits, so binary32 holds it exactly. -/
def codeF (c : Int) : F32 := F32.ofRat ((c : Rat) / 8388608)

/-- The reckoned voltage of phase `x` at the angle `th`, as a fraction of the VA full scale. -/
def State.vhat (s : State) (x : Nat) (th : Rat) : F32 :=
  F32.mul (codeF (wbits (s.reg Reg.CPS_MAG) 0 24 : Nat)) (F32.ofRat (sinQ (wrapTurn (th - (x : Rat) * 4294967296 / 3))))

/-- What segment `g` adds to the volt-second sum of phase `x` between the fine instants `a` and `b`, over the model constant `l`; the
bearing is that of the middle of what lies between them. -/
def State.segTerm (s : State) (vs l : F32) (x a b : Nat) (g : Seg) : F32 :=
  let lo := max a g.t0
  let hi := min b (g.t0 + g.len)
  if hi ≤ lo then 0#32
  else
    let t := F32.ofRat (((hi - lo : Nat) : Rat) / 32 / 400000000)
    let mid : Rat := s.bearingAt ((lo + hi) / 2) / 1048576
    let d (k : Nat) : F32 := F32.ofRat (nth 0 g.duty k)
    let dref := if s.fourWire then d 3 else F32.div (F32.add (F32.add (d 0) (d 1)) (d 2)) 0x40400000#32
    F32.mul (F32.div t l) (F32.sub (F32.mul (F32.sub (d x) dref) vs) (s.vhat x (wrapTurn mid)))

/-- The volt-second sum of phase `x` over the model constant `l`, from trigger tick `a` to trigger tick `b`, segment by segment in the
order of time. -/
def State.voltSum (s : State) (vs l : F32) (x a b : Nat) : F32 :=
  (s.segNow s.fine :: s.spec.segs).foldr (fun g acc => F32.add acc (s.segTerm vs l x (32 * a) (32 * b) g)) 0#32

/-- delta_x, with the model constants `ls`: 0 where that of the phase's channel is not positive and finite. -/
def State.phaseDelta (s : State) (ls : List Word) (vs : F32) (x a b : Nat) : F32 :=
  match s.roleCh x with
  | some m => if posFinite (nth 0#32 ls m) then s.voltSum vs (nth 0#32 ls m) x a b else 0#32
  | none => 0#32

/-- The model term of a role. -/
def State.modelTerm (s : State) (ls : List Word) (vs : F32) (role a b : Nat) : F32 :=
  let delta (x : Nat) : F32 := s.phaseDelta ls vs x a b
  if role < 3 then delta role
  else if role = 3 then F32.neg (F32.add (F32.add (delta 0) (delta 1)) (delta 2))
  else 0#32

/-- A fraction of full scale rounded to the nearest code and saturated (R148). -/
def fracCode (q : F32) : Int :=
  if q.isInf then (if q.sign then -8388608 else 8388607) else clampInt (-8388608) 8388607 (roundHalfUp (q.toRat * 8388608))

/-- Of the fixes `bs`, newest step first, the one a step numbered `rseq` reckons from: of one of the two reckoned steps before it
(R147). -/
def baseFor (bs : List SpecBase) (rseq : Nat) : Option SpecBase := bs.find? (fun b => decide (b.step < rseq ∧ rseq ≤ b.step + 2))

/-- A fix takes its place among the last four. -/
def pushBase (bs : List SpecBase) (b : SpecBase) : List SpecBase :=
  (bs.filter (fun x => decide (b.step < x.step)) ++ b :: bs.filter (fun x => decide (x.step < b.step))).take 4

/-- The base of channel `n` for the reckoned step numbered `rseq`. -/
def State.specBase (s : State) (n rseq : Nat) : Option SpecBase := baseFor (s.specCh n).bases rseq

/-- The DC link as a fraction of the VA full scale; a free number where the VDC role has no base. -/
def State.specVs (s : State) (ls : List Word) (rseq : Nat) : F32 :=
  match (s.roleCh 7).bind (fun m => (s.specBase m rseq).map (fun b => (m, b))) with
  | some (m, b) => if posFinite (nth 0#32 ls m) then F32.mul (codeF b.code) (nth 0#32 ls m) else 0#32
  | none => F32.ofRat (Config.freeRat s.freeIdx)

/-- The reckoning of channel `n` from base `b`, and its model term in codes. -/
def State.reckon (s : State) (ls : List Word) (vs : F32) (n trig : Nat) (theta : Word) (b : Option SpecBase) : Option Int × Rat :=
  let role := s.specRole n
  let c := F32.mul (s.specCh n).c (F32.ofRat (pow2 (-23)))
  if 4 ≤ role ∧ role ≤ 6 then (some (fracCode (F32.add (s.vhat (role - 4) (theta.toNat : Rat)) c)), 0)
  else match b with
    | some b =>
      let d := s.modelTerm ls vs role b.trig trig
      (some (fracCode (F32.add (F32.add (codeF b.code) d) c)), d.toRat * 8388608)
    | none => (none, 0)

/-- A report that carries the unqualified mark, of a leg whose duty the reckoning of `role` uses, falls into the interval from
trigger tick `a` to trigger tick `b` (R229). -/
def State.roleMarked (s : State) (role a b : Nat) : Bool :=
  let legs := if role < 3 then (if s.fourWire then [role, 3] else [0, 1, 2]) else if role = 3 then [0, 1, 2, 3] else []
  (s.segNow s.fine :: s.spec.segs).any (fun g =>
    decide (max (32 * a) g.t0 < min (32 * b) (g.t0 + g.len)) && legs.any (fun n => nth false g.unq n))

/-- Reckoned steps that are unresolved (R146). -/
def State.unresolved (s : State) : Nat := (s.ctl.steps.filter (fun r => r.reck && !r.resolved)).length

/-- A mark of the trigger tick stands on channel `n`'s sensor, or its sample has come already. -/
def State.specMarked (s : State) (n trig : Nat) : Bool :=
  (match (s.adcCh (s.specSensor n)).mark with
    | some m => decide (m.tick = trig)
    | none => false) ||
  (s.specCh n).samples.any (fun x => decide (x.1 = trig))

/-- A set of channels as bits. -/
def chanBits (p : Nat → Bool) : BitVec 8 := BitVec.ofNat 8 ((List.range 8).map (fun n => if p n then 2 ^ n else 0)).sum

/-- What SPEC reckons for a step (R146, R147), with the model constants it entered with (R168). -/
def State.specReckon (s : State) (r : StepRec) : StepRec :=
  let vs := s.specVs r.ls r.rseq
  let both := (List.range 8).map (fun n =>
    if s.specOn n then s.reckon r.ls vs n r.trig r.theta (s.specBase n r.rseq) else (none, 0))
  let predK := (List.range 8).map (fun n =>
    if s.specOn n && s.suspect n then (s.reckon r.ls vs n r.trig r.theta (baseFor (s.specCh n).kBases r.rseq)).1 else none)
  { r with pred := both.map Prod.fst, delta := both.map Prod.snd, predK := predK }

/-- The volt-second sums of the phase channels from the reckoned step before this one, with SPEC_L at 1 (R165). -/
def State.specVolt (s : State) (r : StepRec) : List Rat :=
  let vs := s.specVs r.ls r.rseq
  (List.range 8).map (fun n =>
    if s.specOn n && decide (s.specRole n < 3) && decide (r.rseq ≠ 0) then
      (s.voltSum vs 0x3F800000#32 (s.specRole n) s.spec.lastTrig r.trig).toRat else 0)

/-- Step `r` is the last reckoned step: the one SPEC_PRED shows (R157). -/
def State.lastReckoned (s : State) (r : StepRec) : Bool := r.reck && decide (r.rseq + 1 = s.spec.seq)

/-- SPEC_PRED of the channels that are on shows the reckoning of the last reckoned step (R157). -/
def State.showPred (s : State) (r : StepRec) : State :=
  if !s.lastReckoned r then s
  else (List.range 8).foldl (fun s n =>
    match nth none r.pred n with
    | some p => s.setReg (Reg.SPEC_PRED n) (BitVec.ofNat 32 (wrapBits 24 p + 33554432 * (nth none r.predK n).isSome.toNat))
    | none => s) s

/-- A step enters: SPEC reckons it where it is a reckoned step. -/
def State.specEntry (s : State) (r : StepRec) : State × StepRec :=
  let marked := chanBits (fun n => s.specOn n && s.specMarked n r.trig)
  let dead := (List.range 8).map s.specDeadline
  let reck := s.live Pg.SPEC && decide (r.input < 2) && natBit (s.get F.SPEC_CFG_INMASK) r.input
  let r := { r with marked := marked, dead := dead, reck := reck, rseq := s.spec.seq,
                    ls := (List.range 8).map (fun n => s.reg (Reg.SPEC_L n)), subst := chanBits s.substituted }
  if !reck then (s, r)
  else
    let room := decide (s.unresolved < 2)
    let r : StepRec := { s.specReckon r with volt := s.specVolt r }
    let s := { s with spec := { s.spec with seq := s.spec.seq + 1, lastTrig := r.trig } }
    let qual := chanBits (fun n =>
      room && s.specOn n && decide ((s.specCh n).q = .qual) && marked.getLsbD n &&
        (match s.specBase n r.rseq with
          | some b => !s.roleMarked (s.specRole n) b.trig r.trig
          | none => false) &&
        s.flag F.CTL_CFG_SPECEN && !s.specHeld n)
    let r := { r with qual := qual }
    let s := if (List.range 8).any (fun n => s.specOn n && !marked.getLsbD n) then s.setFlag F.SPEC_STAT_CFGERR else s
    let s := { s with freeIdx := s.freeIdx + 1 }
    ((s.specCfgErr).showPred r, r)

/-! ### Trips and substitution (R152, R163, R164) -/

/-- A controlled trip is requested over channel `n` with `cause` 1 PHOPEN, 2 SECOND, 3 FIXLOST. -/
def State.specTrip (s : State) (cause n : Nat) : State :=
  let s := (s.setFlag F.SPEC_SUBST_TRIP).put F.SPEC_SUBST_TRIPCAUSE cause
  let s := (s.note Pg.SPEC 8).logRec (0x1530 + cause) (BitVec.ofNat 32 n) (s.reg Reg.SPEC_SUBST)
  { s with spec := { s.spec with tripPend := true } }.relayOpen

/-- Roles of the other current channels of channel `n`'s reconstruction (R161). -/
def State.otherRoles (s : State) (n : Nat) : List Nat :=
  ((if s.fourWire then [0, 1, 2, 3] else [0, 1, 2]).filter (fun r => r ≠ s.specRole n))

/-- The reconstruction of channel `n` from the fixes of step `r`. -/
def State.reconstruct (s : State) (r : StepRec) (n : Nat) : Option Int :=
  (s.otherRoles n).foldl (fun acc role =>
    match acc, s.roleCh role with
    | some a, some m => if s.substituted m then none else (nth none r.fix m).map (fun c => a - c)
    | _, _ => none) (some 0)

/-- A reconstruction of channel `n` exists now: no other current role is substituted, and one of the last two reckoned steps has given
one (R161; log entry 40). -/
def State.canReconstruct (s : State) (n : Nat) : Bool :=
  (s.otherRoles n).all (fun role => match s.roleCh role with | some m => !s.substituted m | none => false) &&
  (baseFor (s.specCh n).kBases s.spec.seq).isSome

/-- A failed current sensor is substituted, or the trip SECOND is requested (R163). -/
def State.substitute (s : State) (n : Nat) (possible : Bool) : State :=
  if s.substituted n then s
  else if possible then
    ((((s.setW1c Reg.SPEC_SUBST n).note Pg.SPEC 6).logRec 0x1520 0#32 0#32)).specHold
  else s.specTrip 2 n

/-- A missed or absent fix of channel `n` in the reckoned step `r` (R149, R152). Whether a current role is then substituted is decided
once the other current fixes of the step have been judged. -/
def State.specMiss (s : State) (r : StepRec) (n : Nat) : State :=
  let s := s.setReg (Reg.SPEC_RESID n) (wputBit (s.reg (Reg.SPEC_RESID n)) 25 true)
  let two := decide ((s.specCh n).missAt.map (fun k => k + 1) = some r.rseq)
  let s := s.modSpec n (fun c =>
    { c with inrun := 0, missAt := some r.rseq, q := if c.q = .qual then .learn else c.q })
  let s := s.specShow
  if two && !s.fixLost n then
    let s := ((s.setW1c Reg.SPEC_SUBST (8 + n)).note Pg.SPEC 4).specHold
    if s.specRole n < 4 then s.modSpec n (fun c => { c with ask := some r.id }) else s.specTrip 3 n
  else s

/-- The outcomes of R163 that wait for the fixes of step `r` are decided where they are all judged. -/
def State.specDecide (s : State) (r : StepRec) : State :=
  (List.range 8).foldl (fun s n =>
    if decide ((s.specCh n).ask = some r.id) && (s.otherRoles n).all (fun role =>
        match s.roleCh role with | some m => !r.marked.getLsbD m || r.judged.getLsbD m | none => true) then
      (s.modSpec n (fun c => { c with ask := none })).substitute n (s.reconstruct r n).isSome
    else s) s

/-- The health and calibration sums of an in-time fix with residual `d` (R161, R165). -/
def State.specSums (s : State) (r : StepRec) (n : Nat) (d : Option Int) (code : Int) : State :=
  let delta := nth 0 r.delta n
  let s := if s.specRole n < 4 then
      (match d with
        | some d => s.modSpec n (fun c => { c with sumD := c.sumD + delta * delta, sumX := c.sumX + (d : Rat) * delta })
        | none => s) else s
  if s.spec.cal && decide (s.specRole n < 3) && !s.substituted n then
    let y (p : Int) : Rat := ((code - p : Int) : Rat) / 8388608
    let x := nth 0 r.volt n
    s.modSpec n (fun c =>
      match c.calPrev with
      | some (q, p) =>
        if q + 1 = r.rseq then
          { c with calXX := c.calXX + x * x, calXY := c.calXY + x * y p, calPrev := some (r.rseq, code), calN := c.calN + 1 }
        else { c with calPrev := some (r.rseq, code) }
      | none => { c with calPrev := some (r.rseq, code) })
  else s

/-- An in-time fix `code` of channel `n` in the reckoned step `r` is judged (R148, R149). -/
def State.specHit (s : State) (r : StepRec) (n : Nat) (code : Int) : State :=
  let s := s.modSpec n (fun c => { c with bases := pushBase c.bases { step := r.rseq, trig := r.trig, code := code } })
  match nth none r.pred n with
  | none => (s.setReg (Reg.SPEC_RESID n) (wputBit (s.reg (Reg.SPEC_RESID n)) 25 false)).specSums r n none code
  | some p =>
    let d := code - p
    let band := s.specBand n
    let inband := decide (d.natAbs ≤ band)
    let s := s.setReg (Reg.SPEC_RESID n) (BitVec.ofNat 32 (wrapBits 24 (clampInt (-8388608) 8388607 d) + 16777216 * (!inband).toNat))
    let s := s.specQualify n inband
    let ash := s.get F.SPEC_CFG_ASH
    let s := if inband && decide (ash ≠ 15) then
        s.modSpec n (fun c =>
          let q := F32.add c.c (F32.mul (F32.ofRat (pow2 (-(ash : Int)))) (F32.ofRat (d : Rat)))
          let lim := (band : Rat) / 4
          { c with c := F32.ofRat (ratClamp (-lim) lim q.toRat) })
      else s
    s.specSums r n (some d) code

/-- With the arrival of the fix of channel `m`, the current fixes of step `r` may be complete: each current channel takes its
reconstruction from them, and a suspect one its sums (R161, R162). -/
def State.specRecon (s : State) (r : StepRec) (m : Nat) : State :=
  (s.specOnList 8).foldl (fun s n =>
    if decide (s.specRole n < 4) && decide (s.specRole m < 4) then
      match s.reconstruct r n with
      | none => s
      | some q =>
        let s := s.modSpec n (fun c => { c with kBases := pushBase c.kBases { step := r.rseq, trig := r.trig, code := q } })
        match nth none r.fix n with
        | some f =>
          if s.suspect n && !s.substituted n then
            s.modSpec n (fun c =>
              let c := { c with nQ := c.nQ + 1, sSQ := c.sSQ + (f - q).natAbs, sS := c.sS + f.natAbs }
              match nth none r.predK n with
              | some k => { c with nK := c.nK + 1, sQK := c.sQK + (q - k).natAbs, sK := c.sK + k.natAbs }
              | none => c)
          else s
        | none => s
    else s) s

/-! ### The cycle (R158, R161, R162) -/

/-- A jump is applied: VOID until the second increment (R158). -/
def State.jumpVoid (s : State) : State :=
  if !s.live Pg.SPEC then s
  else (({ s with spec := { s.spec with voidLeft := 2, voidAt := s.now } }.putFlag F.SPEC_STAT_VOID true).note Pg.SPEC 2).specHold

/-- A BEAR_CYCLE increment counts toward the end of VOID, but for one in the jump tick itself. -/
def State.voidCycle (s : State) : State :=
  if s.spec.voidLeft = 0 ∨ s.spec.voidAt = s.now then s
  else
    let s := { s with spec := { s.spec with voidLeft := s.spec.voidLeft - 1 } }
    if s.spec.voidLeft = 0 then
      { s with spec := { s.spec with ch := s.spec.ch.map (fun (c : SpecCh) => { c with inrun := 0 }) } }.putFlag F.SPEC_STAT_VOID false
    else s

/-- SPEC_STAT.ELC follows the owner (R160). -/
def State.specElc (s : State) : State := (s.putFlag F.SPEC_STAT_ELC s.elcOn).specHold

/-- However OWNER or the page has changed, SPEC_STAT.ELC shows whether ELC is in force (R160). -/
def State.elcReview (s : State) : State :=
  if s.pageReady Pg.SPEC && !s.inSrst Pg.SPEC && (s.flag F.SPEC_STAT_ELC != s.elcOn) then s.specElc else s

/-- The cycle is judged for current channel `n`; its G (R161). -/
def State.healthJudged (s : State) (n : Nat) : Bool := decide ((8 * s.specBand n * s.specBand n : Nat) ≤ (s.specCh n).sumD)
def State.healthG (s : State) (n : Nat) : Rat := quot (s.specCh n).sumX (s.specCh n).sumD

/-- The cycle is a suspect one for channel `n`. -/
def State.suspectCycle (s : State) (n : Nat) : Bool :=
  let thr : Rat := (s.get F.SPEC_CFG_GTHR : Rat) / 256
  s.healthJudged n && decide (thr < ratAbs (s.healthG n)) &&
  (s.specOnList 8).all (fun m =>
    decide (m = n) || decide (4 ≤ s.specRole m) || !s.healthJudged m || decide (ratAbs (s.healthG m) ≤ thr / 4))

/-- Channel `n` becomes SUSPECT; with another current channel out of use a trip follows (R161, R164). -/
def State.setSuspect (s : State) (n : Nat) : State :=
  let other := (s.specOnList 8).any (fun m => decide (m ≠ n) && decide (s.specRole m < 4) && (s.substituted m || s.fixLost m))
  let s := (((s.setW1c Reg.SPEC_STAT (16 + n)).note Pg.SPEC 5).modSpec n (fun c =>
    { c with okRun := 0, nQ := 0, nK := 0, sQK := 0, sSQ := 0, sS := 0, sK := 0 })).specHold
  if other then s.specTrip 2 n else s

/-- The classification of a SUSPECT channel at the end of a cycle (R162). The means of |q - pK| and |pK| are over the fixes that have a
pK. -/
def State.classify (s : State) (n : Nat) : State :=
  let c := s.specCh n
  let band := s.specBand n
  if c.nQ < 16 ∨ s.substituted n then s
  else if c.nK ≠ 0 ∧ c.sQK ≤ band * c.nK ∧ band * c.nQ < c.sSQ then s.substitute n (s.canReconstruct n)
  else if s.specRole n < 3 ∧ c.sS ≤ band * c.nQ ∧ c.sSQ ≤ band * c.nQ ∧ c.nK ≠ 0 ∧ 2 * band * c.nK < c.sK ∧
      ¬ s.bitOf Reg.SPEC_SUBST (16 + n) then
    ((s.setW1c Reg.SPEC_SUBST (16 + n)).note Pg.SPEC 7).specTrip 1 n
  else s

/-- One current channel at a BEAR_CYCLE increment: `sus` is whether the cycle was suspect for it. -/
def State.healthCycle (s : State) (n : Nat) (judged sus : Bool) : State :=
  let was := s.suspect n
  let lim := max 1 (s.get F.SPEC_CFG_SUSPN)
  let s := if was then s.classify n else s
  if !judged then s
  else if sus then
    let s := s.modSpec n (fun c => { c with susRun := c.susRun + 1, okRun := 0 })
    if !was && decide (lim ≤ (s.specCh n).susRun) then s.setSuspect n else s
  else
    let s := s.modSpec n (fun c => { c with susRun := 0, okRun := c.okRun + 1 })
    if was && decide (lim ≤ (s.specCh n).okRun) then (s.putBit Reg.SPEC_STAT (16 + n) false).specLearn n else s

/-- SPEC at a BEAR_CYCLE increment. -/
def State.specCycle (s : State) : State :=
  let s := s.voidCycle
  let cur := (s.specOnList 8).filter (fun n => decide (s.specRole n < 4))
  let s := if s.live Pg.SPEC && s.flag F.SPEC_CFG_HEALTHEN && !s.flag F.SPEC_STAT_ELC then
      (cur.map (fun n => (n, s.healthJudged n, s.suspectCycle n))).foldl (fun s x => s.healthCycle x.1 x.2.1 x.2.2) s
    else s
  { s with spec := { s.spec with ch := s.spec.ch.map (fun (c : SpecCh) =>
      { c with sumD := 0, sumX := 0, nQ := 0, nK := 0, sQK := 0, sSQ := 0, sS := 0, sK := 0 }) } }

/-! ### Latches cleared by a host (R152, R163, R164), SPEC_BAND, calibration -/

/-- A write of 1s to SPEC_SUBST; a bit that has been set since the tick began stays (R39). -/
def State.substWrite (s : State) (val : Word) : State :=
  let v := val &&& s.regWas Reg.SPEC_SUBST
  let s := (List.range 8).foldl (fun s n =>
    if wbit v n && s.substituted n then
      ((((s.putBit Reg.SPEC_SUBST n false).putBit Reg.SPEC_STAT (16 + n) false).modSpec n (fun c =>
        { c with susRun := 0, okRun := 0 }))).specLearn n
    else s) s
  let s := (List.range 8).foldl (fun s n =>
    if wbit v (8 + n) then s.putBit Reg.SPEC_SUBST (8 + n) false else s) s
  let s := (List.range 8).foldl (fun s n => if wbit v (16 + n) then s.putBit Reg.SPEC_SUBST (16 + n) false else s) s
  if wbit v 27 then (s.putFlag F.SPEC_SUBST_TRIP false).put F.SPEC_SUBST_TRIPCAUSE 0 else s

/-- A write to SPEC_BAND of channel `n`: a change of ROLE or SRC returns the channel to LEARN with c = 0 (R148). -/
def State.bandWrite (s : State) (n : Nat) (v : Word) : State :=
  let old := s.reg (Reg.SPEC_BAND n)
  let s := (s.setReg (Reg.SPEC_BAND n) v)
  let s := if wbits old 24 8 ≠ wbits v 24 8 then
      (s.modSpec n (fun c => { SpecCh.reset with calPrev := c.calPrev })).specLearn n
    else s
  s.specCfgErr

/-- A calibration starts; its sums are cleared (R165). -/
def State.calStart (s : State) : State :=
  { s with spec := { s.spec with
      cal := true
      ch := s.spec.ch.map (fun (c : SpecCh) => { c with calPrev := none, calXX := 0, calXY := 0, calN := 0 }) } }

/-- The model constant a calibration finds for channel `n`, where it may be written. -/
def State.calResult (s : State) (n : Nat) : Option F32 :=
  let c := s.specCh n
  let old := s.reg (Reg.SPEC_L n)
  if !(s.specOn n) || decide (3 ≤ s.specRole n) || s.substituted n || decide (c.calXY = 0) then none
  else
    let l := c.calXX / c.calXY
    let w := F32.ofRat l
    if posFinite w && (!posFinite old || (decide (F32.toRat old / 4 ≤ F32.toRat w) && decide (F32.toRat w ≤ 4 * F32.toRat old))) then
      some w else none

/-- The calibration ends: the constants that pass are written, CALDONE is set; answers the channels that passed. -/
def State.calEnd (s : State) : State × Nat :=
  let found := (List.range 8).map (fun n => (n, s.calResult n))
  let s := found.foldl (fun s x => match x.2 with | some w => s.setReg (Reg.SPEC_L x.1) w | none => s) s
  let mask := (found.map (fun x => if x.2.isSome then 2 ^ x.1 else 0)).sum
  ({ s with spec := { s.spec with cal := false } }.setFlag F.SPEC_STAT_CALDONE, mask)

end Sys2Proof.Machine
end

