-- ==== Sys2Proof/Machine/Ctl.lean ====
section
/-! DEFINITION. The control engine (spec/06) and what it does with SPEC's judgements (spec/07 R150 to R155): triggers, step
entry, the entries of the step list, commit, recompute, replay, withdrawal, BEARTUNE. -/

namespace Sys2Proof.Machine

/-! ### Numbers that stay finite (R121, R122) -/

/-- A number with the mark that some result on the way to it was not finite. -/
abbrev Fp := F32 × Bool

def fpOf (x : F32) : Fp := (x.tame, !x.finite)
def fpAdd (x y : Fp) : Fp := let r := fpOf (F32.add x.1 y.1); (r.1, r.2 || x.2 || y.2)
def fpSub (x y : Fp) : Fp := let r := fpOf (F32.sub x.1 y.1); (r.1, r.2 || x.2 || y.2)
def fpMul (x y : Fp) : Fp := let r := fpOf (F32.mul x.1 y.1); (r.1, r.2 || x.2 || y.2)
def fpDiv (x y : Fp) : Fp := let r := fpOf (F32.div x.1 y.1); (r.1, r.2 || x.2 || y.2)
def fpNeg (x : Fp) : Fp := (F32.neg x.1, x.2)

/-- The larger, the smaller of two numbers; a NaN bound is no bound. -/
def F32.max (x y : F32) : F32 := if F32.lt x y then y else x
def F32.min (x y : F32) : F32 := if F32.lt y x then y else x

/-- min(max(x, lo), hi); a bound that is infinite, of either sign, is no bound (R122). -/
def F32.clamp (x lo hi : F32) : F32 :=
  let y := if lo.isInf then x else F32.max x lo
  if hi.isInf then y else F32.min y hi

abbrev F32.one : F32 := 0x3F800000#32
abbrev F32.half : F32 := 0x3F000000#32
abbrev F32.two : F32 := 0x40000000#32
abbrev F32.three : F32 := 0x40400000#32
abbrev F32.sqrt3 : F32 := 0x3FDDB3D7#32
abbrev F32.sqrt3Half : F32 := 0x3F5DB3D7#32

/-- The sine table with linear interpolation (R134). -/
def sineOf (phi : Word) : F32 :=
  let i := wbits phi 20 12
  let f := F32.ofRat ((wbits phi 0 20 : Rat) / 1048576)
  let a := sinTable i
  (F32.fma f (F32.sub (sinTable ((i + 1) % 4096)) a) a).tame
def cosineOf (phi : Word) : F32 := sineOf (phi + 0x40000000#32)

/-! ### The engine's state -/

def State.ctlVar (s : State) (i : Nat) : F32 := nth 0#32 s.ctl.v i
def State.setCtlVar (s : State) (i : Nat) (x : F32) : State := { s with ctl := { s.ctl with v := s.ctl.v.set i x } }
def State.ctlOn (s : State) : Bool := s.live Pg.CTL

/-- LISTERR, FPERR, NOTOWN: the flag is set, and its first setting is an event (R143). -/
def State.ctlFault (s : State) (f : Field) : State := if s.flag f then s else (s.setFlag f).note Pg.CTL 2

/-- A result is written to a variable of the run in progress. -/
def State.putVar (s : State) (id d : Nat) (x : Fp) : State :=
  let s := s.setCtlVar d x.1
  if x.2 then s.modStep id (fun r => { r with fperr := true }) else s

/-- The engine works for `n` ticks (R126). -/
def State.ctlSpend (s : State) (n : Nat) : State :=
  ({ s with ctl := s.ctl.spend n }).elapseTo (s.ctl.clock + n)

/-- RUN, PEND and FIXWAIT show what the engine does. -/
def State.ctlShow (s : State) : State :=
  let s := s.putFlag F.CTL_STAT_RUN s.ctl.run.isSome
  let s := s.putFlag F.CTL_STAT_PEND (s.ctl.pend.any Option.isSome)
  s.putFlag F.CTL_STAT_FIXWAIT (match s.ctl.run with | some r => !r.waiting.isEmpty | none => false)

def State.checkpoint (s : State) : Ckpt :=
  { slots := s.ctl.slots, lims := s.ctl.lims, ramps := s.ctl.ramps, v := s.ctl.v.drop 24 }

/-- An aborted step gives back its slot, limiter and ramp states; general variables keep what it wrote (R123, R129). -/
def State.restoreUnits (s : State) (k : Ckpt) : State :=
  { s with ctl := { s.ctl with slots := k.slots, lims := k.lims, ramps := k.ramps } }

def State.restoreCk (s : State) (k : Ckpt) : State :=
  let s := s.restoreUnits k
  { s with ctl := { s.ctl with v := s.ctl.v.take 24 ++ k.v } }

/-! ### Triggers (R124) -/

/-- A trigger reaches step input `i`. -/
def State.ctlTrigger (s : State) (i : Nat) : State :=
  if !(s.ctlOn && natBit (s.get F.CTL_CFG_TRIGEN) i) then s
  else if (nth none s.ctl.pend i).isSome then (s.inc F.CTL_STAT_DROPCNT).note Pg.CTL 4
  else (({ s with ctl := { s.ctl with pend := modAt i (fun _ => some (s.now, s.bearing)) s.ctl.pend } }).pulseIn 1 36).ctlShow

/-! ### Commit (R139) -/

/-- Step `r` commits: the committed view takes its run, and EV37 pulses `k` ticks from now. -/
def State.ctlCommit (s : State) (id k : Nat) : State :=
  match s.stepRec id with
  | none => s
  | some r =>
    if r.resolved then s
    else
      let s := s.modStep id (fun r => { r with resolved := true })
      let s := ((List.range 16).foldl (fun s k => s.setReg (Reg.CTL_OUT k) (nth 0#32 r.out k)) s)
      let s := (List.range 96).foldl (fun s k => s.setReg (Reg.CTL_SLOT_STATE (k / 3) (k % 3)) (nth 0#32 r.states k)) s
      let lim := r.modlim.any (fun b => b)
      let rise := (r.sat.isSome && !s.flag F.CTL_STAT_SAT) || (lim && !s.flag F.CTL_STAT_MODLIM)
      let s := ((s.putFlag F.CTL_STAT_SAT r.sat.isSome).put F.CTL_STAT_SATSLOT (r.sat.getD 0)).putFlag F.CTL_STAT_MODLIM lim
      let s := if rise then s.note Pg.CTL 1 else s
      let s := if r.fperr then s.ctlFault F.CTL_STAT_FPERR else s
      ((s.modeCommit r.mfig).note Pg.CTL 0).pulseIn k 37

/-- A run of step `id` has been asked for: the step does not commit before it (R155). -/
def State.redoes (s : State) (id : Nat) : Bool := s.ctl.redo.any (fun x => decide (x.1 = id))

/-- A step that used predictions commits once its list has ended and every used fix has come within its band (R153). -/
def State.tryCommit (s : State) (id : Nat) : State :=
  match s.stepRec id with
  | none => s
  | some r =>
    if r.ended && !r.resolved && !r.retracted && decide (r.used ≠ 0#8) && decide (r.used &&& r.judged = r.used) &&
        decide (r.used &&& r.missed = 0#8) && !s.redoes id then (s.ctlCommit id 1).pulseIn 1 38 else s

/-! ### SPEC's verdicts (R151, R153, R155) -/

/-- The step is declared UNFIXED (R151). What its runs made of non-finite results shows now (R122). -/
def State.unfix (s : State) (id : Nat) : State :=
  match s.stepRec id with
  | none => s
  | some r =>
    if r.resolved then s
    else
      let s := s.modStep id (fun r => { r with unfixed := true, resolved := true })
      let s := if r.fperr then s.ctlFault F.CTL_STAT_FPERR else s
      let s := ((s.setFlag F.SPEC_STAT_UNFIXED).inc F.SPEC_RETRACTCNT_UNFIXED).note Pg.SPEC 3
      { s with ctl := { s.ctl with redo := s.ctl.redo.filter (fun x => x.1 ≠ id),
                                   withdraw := s.ctl.withdraw ++ [(id, false)] } }

/-- The later steps that run again once step `id` has (R151, R155): the reckoned ones, and after a withdrawal (`loads`) every other one
whose LOAD has been granted. A step that is UNFIXED or aborted has left nothing to run again. -/
def State.laterSteps (s : State) (id : Nat) (loads : Bool) : List Nat :=
  (s.ctl.steps.filter (fun r =>
    decide (id < r.id) && !r.unfixed && !r.aborted && (r.reck || (loads && r.loaded.isSome)))).map StepRec.id

/-- Later steps are asked to run again, after what is asked for already; each commits when its new run does (R155). -/
def State.redoLater (s : State) (later : List Nat) (first : List (Nat × RunKind × Bool)) : State :=
  let keep := s.ctl.redo.filter (fun x => !later.contains x.1 && !first.any (fun y => y.1 = x.1))
  let s := later.foldl (fun s k => s.modStep k (fun r => { r with resolved := false, ended := false })) s
  { s with ctl := { s.ctl with redo := keep ++ first ++ later.map (fun k => (k, .step, false)) } }

/-- The step retracts; it runs again on fixed values, and the later ones after it (R153, R155). -/
def State.retract (s : State) (id : Nat) : State :=
  match s.stepRec id with
  | none => s
  | some r =>
    if r.retracted || r.resolved then s
    else
      let s := s.modStep id (fun r => { r with retracted := true, retractAt := some (r.retractAt.getD s.now) })
      let n := wbits (s.reg Reg.SPEC_RETRACTCNT) 0 16 + 1
      let s := ((s.setReg Reg.SPEC_RETRACTCNT (wput (s.reg Reg.SPEC_RETRACTCNT) 0 16 n)).note Pg.SPEC 0).pulse 39
      s.redoLater (s.laterSteps id false) [(id, .recompute, true)]

/-- A verdict waits for the next tick. The engine counts what it asks for from the tick `seen` of the fix. -/
def State.verdict (s : State) (id : Nat) (unfixed : Bool) (seen : Nat) : State :=
  { s with spec := { s.spec with verdicts := s.spec.verdicts ++ [(id, unfixed)] }
           ctl := { s.ctl with clock := if s.ctl.run.isNone then Nat.max s.ctl.clock seen else s.ctl.clock } }

/-- The verdicts of the tick just past take effect: a step is declared UNFIXED, or retracts, in the tick after its fix (R151, R153). -/
def State.takeVerdicts (s : State) : State :=
  match s.spec.verdicts with
  | [] => s
  | vs =>
    let s := { s.elapse 1 with spec := { s.spec with verdicts := [] } }
    vs.foldl (fun s v => if v.2 then s.unfix v.1 else s.retract v.1) s

/-- A fix in hand lies outside the band of its channel. -/
def State.outOfBand (s : State) (r : StepRec) (n : Nat) : Bool :=
  match nth none r.fix n, nth none r.pred n with
  | some c, some p => decide (s.specBand n < (c - p).natAbs)
  | _, _ => false

/-- The fix of channel `n` for step `id`, visible since the tick `seen`: its code, or none for an absent one (R149 to R153). -/
def State.fixArrive (s : State) (n id seen : Nat) (code : Option Int) : State :=
  match s.stepRec id with
  | none => s
  | some r =>
    if r.judged.getLsbD n || !r.marked.getLsbD n || decide (r.trig + nth 0 r.dead n < seen) then s
    else
      let bit : BitVec 8 := 1#8 <<< n
      let s := match s.ctl.run with
        | some run => if run.waiting.contains n && decide (run.step = id) then
            { s with ctl := { s.ctl with clock := Nat.max s.ctl.clock seen } } else s
        | none => s
      let s := s.modStep id (fun r => { r with fix := r.fix.set n code, judged := r.judged ||| bit,
                                               missed := if code.isSome then r.missed else r.missed ||| bit })
      if !r.reck then s
      else match s.stepRec id, code with
        | some r, none =>
          let s := (s.specMiss r n).specDecide r
          if r.used.getLsbD n then s.verdict id true seen else s
        | some r, some c =>
          let out := r.used.getLsbD n && s.outOfBand r n
          let s := ((s.specHit r n c).specRecon r n).specDecide r
          if out then
            (if r.retractAt.isSome || r.resolved then s
             else (s.modStep id (fun r => { r with retractAt := some seen })).verdict id false seen)
          else s.tryCommit id
        | none, _ => s

/-- A conversion channel delivers the step sample of the trigger tick `trig`, visible in the tick `seen`: SPEC's channels on that sensor
take it (R146). -/
def State.stepSample (s : State) (ach trig seen : Nat) (code : Option Int) : State :=
  (((s.specOnList 8).filter (fun n => s.specSensor n = ach)).foldl (fun s n =>
    let s := s.modSpec n (fun c => { c with samples := ((trig, seen, code) :: c.samples).take 8 })
    ((s.ctl.steps.filter (fun r => r.trig = trig)).map StepRec.id).foldl (fun s id => s.fixArrive n id seen code) s) s).takeVerdicts

/-- The fixes of step `id` on the channels `late` have not come by their deadlines (R151, R152). -/
def State.fixesMissed (s : State) (id : Nat) (late : List Nat) : State :=
  let bits := chanBits (fun n => late.contains n)
  let s := s.modStep id (fun r => { r with judged := r.judged ||| bits, missed := r.missed ||| bits })
  match s.stepRec id with
  | some r => (late.foldl (fun s n => s.specMiss r n) s).specDecide r
  | none => s

/-- A fix deadline passes: the earliest of a channel that still waits for its fix (R151). -/
def State.fixDeadline (s : State) : State :=
  let due := s.ctl.steps.flatMap (fun r =>
    if r.reck then ((List.range 8).filter (fun n => r.marked.getLsbD n && !r.judged.getLsbD n)).map (fun n =>
      (r.trig + nth 0 r.dead n, r.id)) else [])
  match (due.map Prod.fst).min? with
  | none => s
  | some t =>
    let s := s.elapseTo (t + 1)
    (due.filter (fun x => x.1 = t)).foldl (fun s x =>
      match s.stepRec x.2 with
      | none => s
      | some r =>
        let late := (List.range 8).filter (fun n => r.marked.getLsbD n && !r.judged.getLsbD n && decide (r.trig + nth 0 r.dead n ≤ t))
        let s := s.fixesMissed r.id late
        if late.any (fun n => r.used.getLsbD n) then s.unfix r.id else s) s

/-! ### BEARTUNE (R132, R133) -/

/-- The coefficients of R132 for slot `n` at the present BEAR_RATE, in binary32, operation by operation in the order written (R121).
Whether w·Ts reaches π is a comparison of HARM with CAR_N, and is made exactly (log entry 44). -/
def State.tuneCalc (s : State) (n : Nat) : TuneSet :=
  let kr := s.reg (Reg.CTL_SLOT_COEF n 3)
  let wc := s.reg (Reg.CTL_SLOT_COEF n 6)
  let harm := s.get (F.CTL_SLOT_CFG_HARM n)
  let steps := s.get F.PWM_CAR_N_CAR_N * (1 + s.get (F.CTL_SLOT_CFG_TSDIV n))
  let neg (x : F32) : Bool := !x.finite || decide (F32.toRat x < 0)
  if neg kr || neg wc || decide (steps ≤ 2 * harm) then { slot := n, ok := false, words := [], fperr := false }
  else
    let num (k : Nat) : Fp := fpOf (F32.ofRat (k : Rat))
    let f := fpOf (F32.ofRat s.freqQ)
    let w := fpMul (fpMul (fpOf (F32.ofRat (2 * piQ))) (num harm)) f
    let ts := fpDiv (num 1) (fpMul (fpMul (num (s.get F.PWM_CAR_N_CAR_N)) f) (num (1 + s.get (F.CTL_SLOT_CFG_TSDIV n))))
    let x := fpDiv (fpMul w ts) (num 2)
    let tn := fpOf (tanF x.1)
    let k := fpDiv w (tn.1, tn.2 || x.2)
    let c := fpOf wc
    let cc := fpMul (fpMul (num 2) c) k
    let k2 := fpMul k k
    let w2 := fpMul w w
    let d := fpAdd (fpAdd k2 cc) w2
    let b0 := fpDiv (fpMul (fpMul (fpMul (num 2) c) (fpOf kr)) k) d
    let a1 := fpDiv (fpMul (num 2) (fpSub w2 k2)) d
    let a2 := fpDiv (fpAdd (fpSub k2 cc) w2) d
    { slot := n, ok := true, words := [b0.1, 0#32, F32.neg b0.1, a1.1, a2.1], fperr := b0.2 || a1.2 || a2.2 }

/-- The slots with BEARTUNE = 1. -/
def State.tuneSlots (s : State) : List Nat := (List.range 32).filter (fun n => s.flag (F.CTL_SLOT_CFG_BEARTUNE n))

/-- What the tuning unit has finished by now waits to be placed; a start asked for while it worked is made then (R133). -/
def State.tuneAdvance (s : State) : State :=
  match s.ctl.tuneAt with
  | none => s
  | some t =>
    if s.now < t then s
    else
      let again := s.ctl.tuneStart && !s.tuneSlots.isEmpty
      { s with ctl := { s.ctl with
          tuneDone := s.ctl.tuneDone ++ s.ctl.tune, tuneStart := false
          tune := if again then s.tuneSlots.map s.tuneCalc else []
          tuneAt := if again then some (t + 40 * s.tuneSlots.length) else none } }

/-- The tuning unit starts `k` ticks from now: in the tick BEAR_CYCLE increments, or in the tick after BEARTUNE is written from 0 to 1,
which sees what is written now. Asked while it works, it starts again when it is done (R133). -/
def State.tuneBegin (s : State) (k : Nat) : State :=
  let s := s.tuneAdvance
  let ns := s.tuneSlots
  if !s.ctlOn || ns.isEmpty then s
  else if s.ctl.tuneAt.isSome then { s with ctl := { s.ctl with tuneStart := true } }
  else { s with ctl := { s.ctl with tune := ns.map s.tuneCalc, tuneAt := some (s.now + k + 40 * ns.length), tuneStart := false } }

/-- One finished set is placed, unless its slot's BEARTUNE reads 0 now. -/
def State.placeSet (s : State) (t : TuneSet) : State :=
  if !s.flag (F.CTL_SLOT_CFG_BEARTUNE t.slot) then s
  else if !t.ok then s.putFlag (F.CTL_SLOT_CFG_TUNEERR t.slot) true
  else
    let w (i : Nat) : Word := nth 0#32 t.words i
    let c := Reg.CTL_SLOT_COEF t.slot
    let s := (((((s.setReg (c 0) (w 0)).setReg (c 1) (w 1)).setReg (c 2) (w 2)).setReg (c 4) (w 3)).setReg (c 5) (w 4)).putFlag
      (F.CTL_SLOT_CFG_TUNEERR t.slot) false
    if t.fperr then s.ctlFault F.CTL_STAT_FPERR else s

/-- The finished sets are placed together. -/
def State.tunePlace (s : State) : State :=
  let s := s.tuneAdvance
  s.ctl.tuneDone.foldl State.placeSet { s with ctl := { s.ctl with tuneDone := [] } }

/-- The first tick after the unit finishes in which no run is in progress (R133). -/
def State.beartunePlace (s : State) : State :=
  if s.ctl.run.isSome then s
  else match s.ctl.tuneAt with
    | some t => (if s.ctl.tuneDone.isEmpty then s.elapseTo t else s).tunePlace
    | none => s.tunePlace

/-! ### Registers of the page (R131, R133, R141, R144) -/

/-- State word `j` of slot `n` is written between two runs: it stands also where a run that has ended commits later (R131, R139). -/
def State.slotStore (s : State) (n j : Nat) (v : Word) : State :=
  ({ s with ctl := { s.ctl with
      slots := s.ctl.slots.set (3 * n + j) v
      steps := s.ctl.steps.map (fun (r : StepRec) => { r with states := r.states.set (3 * n + j) v }) } }).setReg (Reg.CTL_SLOT_STATE n j) v

/-- The three states of slot `n` are set to 0. -/
def State.slotClear (s : State) (n : Nat) : State := (List.range 3).foldl (fun s j => s.slotStore n j 0#32) s

/-- A write of `v` to the CTL register at address `a` by `master` is granted: the state and what it answers. Offsets 0x100 and
above are granted only while no run is in progress. -/
def State.ctlStore (s : State) (master a : Nat) (v : Word) : State × Status :=
  let o := a % 0x1000
  if o = 0x040 then
    let s := s.setReg a (wput (wput (s.reg a) 0 5 (wbits v 0 5)) 16 16 (wbits v 16 16))
    ((List.range 4).foldl (fun s i => if wbit v (8 + i) then s.ctlTrigger i else s) s, .ok)
  else if o = 0x044 then (s.setReg a (s.reg a &&& ~~~(v &&& 0x700#32 &&& s.regWas a)), .ok)
  else if o = 0x04C then
    let s := s.setReg a (wput (s.reg a) 16 15 (wbits v 16 15))
    (if wbit v 31 then s.put F.CTL_LATMAX_MAX 0 else s, .ok)
  else if 0x200 ≤ o ∧ o < 0x280 then
    let n := (o - 0x200) / 4
    let was := s.flag (F.CTL_SLOT_CFG_BEARTUNE n)
    let harm := if wbits v 10 6 = 0 then 1 else wbits v 10 6
    let s := s.setReg a (wput (wput (wput (s.reg a) 0 4 (wbits v 0 4)) 6 4 (wbits v 6 4)) 10 6 harm)
    let s := if wbit v 4 then s.slotClear n else s
    (if wbit v 1 && !was then s.tuneBegin 1 else s, .ok)
  else if 0x400 ≤ o ∧ o < 0x800 then
    let n := (o - 0x400) / 0x20
    let k := o % 0x20 / 4
    if s.flag (F.CTL_SLOT_CFG_BEARTUNE n) && decide (k ≠ 3 ∧ k ≠ 6) && decide (master ≠ 0x30) then (s, .notOwner)
    else (s.setReg a v, .ok)
  else if 0x800 ≤ o ∧ o < 0xA00 then
    (s.slotStore ((o - 0x800) / 0x10) (o % 0x10 / 4) v, .ok)
  else (s.setReg a v, .ok)

/-- A held write is granted: the page is judged now (R37, R141). -/
def State.ctlGrant (s : State) (master a : Nat) (v : Word) : State × Status :=
  match s.pageStatus Pg.CTL with
  | .ok =>
    if s.inSrst Pg.CTL then (s.refuse Pg.CTL .notReady, .notReady)
    else
      let (t, st) := s.ctlStore master a v
      if st = .ok then (t.countWrite Pg.CTL, .ok) else (s.refuse Pg.CTL st, st)
  | st => (s.refuse Pg.CTL st, st)

/-- The engine becomes free: the writes that waited are granted in their order (R141). -/
def State.ctlFree (s : State) : State :=
  let held := s.ctl.held
  let s := { s with ctl := { s.ctl with held := [] } }
  held.foldl (fun s w => let (t, st) := s.ctlGrant w.1 w.2.2.1 w.2.2.2; { t with lastStatus := st }) s

/-! ### The end of a run -/

/-- The run in progress ends (R125): its results are kept; what commits now commits (R139, R155). -/
def State.runEnd (s : State) : State :=
  match s.ctl.run with
  | none => s
  | some run =>
    let id := run.step
    let s := s.put F.CTL_STAT_PC run.pc
    let s := { s with ctl := { s.ctl with run := none } }
    let s := s.modStep id (fun r => { r with ended := true, out := s.ctl.v.drop 48, states := s.ctl.slots })
    let s := match s.stepRec id with
      | none => s
      | some r => if s.redoes id then s else if run.fixes || decide (r.used = 0#8) then s.ctlCommit id 2 else s.tryCommit id
    s.ctlFree.ctlShow

/-- The run goes on with the next entry, or ends past the last one (R125). -/
def State.runNext (s : State) : State :=
  match s.ctl.run with
  | none => s
  | some run =>
    let pc := run.pc + 1
    if pc = 64 ∨ (run.low ∧ pc = 32) then s.runEnd
    else (({ s with ctl := { s.ctl with run := some { run with pc := pc } } }).put F.CTL_STAT_PC pc).ctlShow

/-! ### Entries (R127) -/

/-- Fields of an entry word. -/
def entryOp (w : Word) : Nat := wbits w 27 5
def entryD (w : Word) : Nat := wbits w 21 6
def entryA (w : Word) : Nat := wbits w 15 6
def entryB (w : Word) : Nat := wbits w 9 6

/-- The bits an opcode uses below its own five; every other is reserved. -/
def entryMask (op : Nat) : Word :=
  match op with
  | 0x01 => 0x07FFE000#32
  | 0x02 => 0x07FFFF1F#32
  | 0x03 => 0x07FF81FB#32
  | 0x04 => 0x07FFFE03#32
  | 0x05 => 0x001F8107#32
  | 0x07 => 0x07FF8007#32
  | 0x08 => 0x07FF8007#32
  | 0x09 => 0x07FF8000#32
  | 0x0A => 0x07FFFE00#32
  | 0x0B => 0x07FFFE00#32
  | 0x0C => 0x07FFFE00#32
  | 0x0D => 0x07FFFE00#32
  | 0x0E => 0x07FFFE00#32
  | 0x0F => 0x07E0FFFF#32
  | _ => 0#32

/-- How many variables an entry writes from its DST. -/
def entryOuts (w : Word) : Nat :=
  match entryOp w with
  | 0x03 => if wbits w 0 2 = 1 ∨ wbits w 0 2 = 2 then 2 else 3
  | 0x04 => 3
  | _ => 1

/-- The entry is legal (R123, R125, R128, R137). -/
def entryLegal (w : Word) : Bool :=
  let op := entryOp w
  let d := entryD w
  if 0x10 ≤ op ∨ (w &&& 0x07FFFFFF#32) &&& ~~~entryMask op ≠ 0#32 then false
  else if op = 0x00 ∨ op = 0x06 then true
  else if op = 0x01 then decide (d + wbits w 13 3 ≤ 7) && decide (wbits w 16 5 + wbits w 13 3 ≤ 25)
  else if op = 0x05 then decide (wbits w 0 3 ≠ 7)
  else if op = 0x03 ∨ op = 0x04 then
    decide (24 ≤ d) && decide (d + entryOuts w ≤ 64) && decide (entryA w + (if op = 0x04 then 3 else entryOuts w) ≤ 64)
  else decide (24 ≤ d)

/-- The entry the run in progress stands at, with its step; none while the engine is free or a FETCH waits. -/
def State.entryNow (s : State) : Option (CtlRun × StepRec × Word) :=
  match s.ctl.run with
  | none => none
  | some run =>
    if !run.waiting.isEmpty then none
    else (s.stepRec run.step).map (fun r => (run, r, s.reg (Reg.CTL_STEPLIST run.pc)))

/-- A variable as an operand; whatever it holds, what the engine passes on is finite (R122). -/
def State.varF (s : State) (i : Nat) : Fp := fpOf (s.ctlVar i)

/-- SLOT (R130, R131). -/
def State.opSlot (s : State) (id : Nat) (w : Word) : State :=
  let n := wbits w 0 5
  let cfg := s.reg (Reg.CTL_SLOT_CFG n)
  let c (k : Nat) : F32 := s.reg (Reg.CTL_SLOT_COEF n k)
  let st (j : Nat) : F32 := nth 0#32 s.ctl.slots (3 * n + j)
  let third := wbit cfg 0 && !wbit cfg 1
  let x := fpSub (s.varF (entryA w)) (s.varF (entryB w))
  let yu := fpOf (F32.fma (c 0) x.1 (st 0))
  let s1 := F32.fma (F32.neg (c 4)) yu.1 (F32.fma (c 1) x.1 (st 1))
  let s2 := F32.fma (F32.neg (c 5)) yu.1 (F32.fma (c 2) x.1 (if third then st 2 else 0#32))
  let s3 := if third then F32.fma (F32.neg (c 6)) yu.1 (F32.mul (c 3) x.1) else st 2
  let y := F32.clamp yu.1 (s.reg (Reg.CTL_SLOT_CLAMP n 0)) (s.reg (Reg.CTL_SLOT_CLAMP n 1))
  let clamped := F32.lt y yu.1 || F32.lt yu.1 y
  let awsh := wbits cfg 6 4
  let s1 := if clamped && decide (awsh ≠ 15) then
      F32.add s1 (F32.mul (F32.ofRat (pow2 (-(awsh : Int)))) (F32.sub y yu.1)) else s1
  let bad := !(s1.finite && s2.finite && s3.finite)
  let (s1, s2, s3) := if bad then (0#32, 0#32, 0#32) else (s1, s2, s3)
  let s := if wbit cfg 3 && s.headroom then s
    else { s with ctl := { s.ctl with slots := ((s.ctl.slots.set (3 * n) s1).set (3 * n + 1) s2).set (3 * n + 2) s3 } }
  let s := s.modStep id (fun r =>
    { r with fperr := r.fperr || bad || yu.2 || x.2,
             sat := if clamped then some (match r.sat with | some k => Nat.min k n | none => n) else r.sat })
  let d := entryD w
  let y' := fpOf y
  s.putVar id d (if wbit w 8 then fpAdd (s.varF d) y' else y')

/-- The angle of a Park transform: MUL times θs, or θs + ADV (R134). -/
def parkAngle (r : StepRec) (w : Word) : Word :=
  let mul := if wbits w 3 5 = 0 then 1 else wbits w 3 5
  let th := if wbits w 0 2 = 2 then r.theta + BitVec.ofNat 32 (r.adv * 65536) else r.theta
  let phi := BitVec.ofNat 32 mul * th
  if wbit w 8 then -phi else phi

/-- XFORM (R134): the inputs are read before an output is written. -/
def State.opXform (s : State) (r : StepRec) (w : Word) : State :=
  let a := entryA w
  let d := entryD w
  let v (k : Nat) : Fp := s.varF (a + k)
  let put (s : State) (k : Nat) (x : Fp) : State := s.putVar r.id (d + k) x
  match wbits w 0 2 with
  | 0 =>
    let al := fpDiv (fpSub (fpSub (fpMul (fpOf F32.two) (v 0)) (v 1)) (v 2)) (fpOf F32.three)
    let be := fpDiv (fpSub (v 1) (v 2)) (fpOf F32.sqrt3)
    let z := fpDiv (fpAdd (fpAdd (v 0) (v 1)) (v 2)) (fpOf F32.three)
    put (put (put s 0 al) 1 be) 2 z
  | 3 =>
    let h := fpMul (fpNeg (v 0)) (fpOf F32.half)
    let t := fpMul (fpOf F32.sqrt3Half) (v 1)
    put (put (put s 0 (fpAdd (v 0) (v 2))) 1 (fpAdd (fpAdd h t) (v 2))) 2 (fpAdd (fpSub h t) (v 2))
  | u =>
    let phi := parkAngle r w
    let sn := fpOf (sineOf phi)
    let cs := fpOf (cosineOf phi)
    if u = 1 then
      put (put s 0 (fpSub (fpMul (v 0) sn) (fpMul (v 1) cs))) 1 (fpAdd (fpMul (v 0) cs) (fpMul (v 1) sn))
    else
      put (put s 0 (fpAdd (fpMul (v 0) sn) (fpMul (v 1) cs))) 1 (fpAdd (fpNeg (fpMul (v 0) cs)) (fpMul (v 1) sn))

/-- MODU (R135). -/
def State.opModu (s : State) (id : Nat) (w : Word) : State :=
  let a := entryA w
  let d := entryD w
  let unit := wbits w 0 1
  let sine := wbit w 1
  let vdc := s.varF (entryB w)
  let put3 (s : State) (x y z : Fp) : State := ((s.putVar id d x).putVar id (d + 1) y).putVar id (d + 2) z
  if !F32.lt 0#32 vdc.1 then
    (put3 s (fpOf F32.half) (fpOf F32.half) (fpOf F32.half)).modStep id (fun r => { r with modlim := r.modlim.set unit true })
  else
    let hv := fpMul vdc (fpOf F32.half)
    let u (k : Nat) : Fp := fpDiv (s.varF (a + k)) hv
    let mm := F32.ofRat s.mMax
    let hi (x y z : F32) : F32 := F32.max (F32.max x y) z
    let lo (x y z : F32) : F32 := F32.min (F32.min x y) z
    let m := if sine then (hi (F32.abs (u 0).1) (F32.abs (u 1).1) (F32.abs (u 2).1), false)
      else fpDiv (fpSub (hi (u 0).1 (u 1).1 (u 2).1, false) (lo (u 0).1 (u 1).1 (u 2).1, false)) (fpOf F32.sqrt3)
    let lim := if sine then F32.min mm F32.one else mm
    let isOver := F32.lt lim m.1
    let l (k : Nat) : Fp := if isOver then fpDiv (fpMul (u k) (lim, false)) m else u k
    let u0 := if sine then fpOf 0#32
      else fpDiv (fpNeg (fpAdd (hi (l 0).1 (l 1).1 (l 2).1, false) (lo (l 0).1 (l 1).1 (l 2).1, false))) (fpOf F32.two)
    let duty (k : Nat) : Fp :=
      let x := fpDiv (fpAdd (fpAdd (fpOf F32.one) (l k)) u0) (fpOf F32.two)
      (F32.min (F32.max x.1 0#32) F32.one, x.2 || m.2)
    (put3 s (duty 0) (duty 1) (duty 2)).modStep id (fun r =>
      { r with modlim := if isOver then r.modlim.set unit true else r.modlim, mfig := r.mfig.set unit (some (F32.toRat m.1)) })

/-- RATE (R136). -/
def State.opRate (s : State) (id : Nat) (w : Word) : State :=
  let n := wbits w 0 3
  let x := s.ctlVar (entryA w)
  let y := match nth none s.ctl.lims n with
    | none => x
    | some y => moveToward y x (s.reg (Reg.CTL_RATELIM n))
  ({ s with ctl := { s.ctl with lims := s.ctl.lims.set n (some (y.tame)) } }).putVar id (entryD w) (fpOf y)

/-- RAMP (R136). -/
def State.opRamp (s : State) (id : Nat) (w : Word) : State :=
  let n := wbits w 0 3
  let x := s.ctlVar (entryA w)
  let r := s.reg (Reg.CTL_RAMP n)
  let y := match nth none s.ctl.ramps n with
    | none => x
    | some (y, t) =>
      moveToward y x (rampReach r (s.ctl.clock - t))
  ({ s with ctl := { s.ctl with ramps := s.ctl.ramps.set n (some (y.tame, s.ctl.clock)) } }).putVar id (entryD w) (fpOf y)

/-- CLAMP (R127). -/
def State.opClamp (s : State) (id : Nat) (w : Word) : State :=
  let l := F32.abs (s.ctlVar (entryB w))
  s.putVar id (entryD w) (fpOf (F32.min (F32.max (s.ctlVar (entryA w)) (F32.neg l)) l))

/-- A write of the engine to PWM is refused: no LOAD in the rest of the run (R137). -/
def State.writeRefused (s : State) : State :=
  let s := match s.ctl.run with
    | some run => { s with ctl := { s.ctl with run := some { run with refused := true } } }
    | none => s
  s.ctlFault F.CTL_STAT_NOTOWN

/-- PWMW (R137): a duty becomes a compare in the shadow of its leg. -/
def State.opPwmw (s : State) (id : Nat) (w : Word) : State :=
  let n := wbits w 0 3
  let v := s.varF (entryA w)
  let duty := if wbit w 8 then fpDiv (fpAdd (fpOf F32.one) v) (fpOf F32.two) else v
  let cmp := s.dutyToCmp n (F32.toRat duty.1)
  let (t, st) := s.shadowWrite 0x30 n (BitVec.ofNat 32 cmp)
  let t := if duty.2 then t.modStep id (fun r => { r with fperr := true }) else t
  if st = .ok then
    t.modStep id (fun r => { r with legs := if (nth none r.legs n).isSome then r.legs else
                                              r.legs.set n (some (s.reg (Reg.PWM_ACT_CMP n))) })
  else t.writeRefused

/-- The first LOAD of a step is granted: its latency (R138), and the compares in force before it (R151). In a recompute RECOMP stays
set (R140). -/
def State.firstLoad (s : State) (id : Nat) (recomp : Bool) : State :=
  match s.stepRec id with
  | none => s
  | some r =>
    if r.loaded.isSome then s
    else
      let lat := satTo 0xFFFF (s.ctl.clock - r.trig)
      let s := s.modStep id (fun r => { r with loaded := some s.ctl.clock
                                               legs := (List.range 7).map (fun n => (nth none r.legs n).map (fun _ => s.reg (Reg.PWM_ACT_CMP n))) })
      let s := ((s.put F.CTL_LAT_LAT lat).putFlag F.CTL_LAT_FIXONLY r.fixOnly).putFlag F.CTL_LAT_RECOMP recomp
      let s := if s.get F.CTL_LATMAX_MAX < lat then s.put F.CTL_LATMAX_MAX lat else s
      if r.limit ≠ 0 ∧ r.limit < lat then s.note Pg.CTL 3 else s

/-- LOAD (R137, R138). -/
def State.opLoad (s : State) (run : CtlRun) : State :=
  if run.refused then s
  else if decide (s.pageStatus Pg.PWM = .ok) && !s.inSrst Pg.PWM then
    (((s.countWrite Pg.PWM).firstLoad run.step (decide (run.kind = .recompute))).loadCopies).loadHorizon (some run.step)
  else ((s.loadWrite).1).writeRefused

/-! ### FETCH (R128, R129) -/

/-- The sources of a FETCH with their variables. -/
def fetchSources (w : Word) : List (Nat × Nat) :=
  (List.range (wbits w 13 3 + 1)).map (fun k => (entryD w + k, wbits w 16 5 + k))

/-- The channel's prediction is used for the step (R128, R149). -/
def predicted (run : CtlRun) (r : StepRec) (n : Nat) : Bool :=
  !run.fixes && r.qual.getLsbD n && (nth none r.pred n).isSome && !r.subst.getLsbD n

/-- The SPEC channels whose fixes a source still waits for. -/
def State.sourceWaits (s : State) (run : CtlRun) (r : StepRec) (n : Nat) : List Nat :=
  if 8 ≤ n || predicted run r n then []
  else if r.subst.getLsbD n then
    ((s.otherRoles n).filterMap s.roleCh).filter (fun m => !r.judged.getLsbD m)
  else if r.judged.getLsbD n then [] else [n]

/-- One source is read into its variable; an absent one leaves the variable and sets ABSENT. -/
def State.takeSource (s : State) (id var : Nat) (v : Option Int) : State :=
  match v with
  | some c => s.setCtlVar var (F32.ofRat ((c : Rat) / 8388608))
  | none => (s.modStep id (fun r => { r with absent := true })).putFlag F.CTL_STAT_ABSENT true

/-- A prediction is taken: its channel is used for the step. -/
def State.usePred (s : State) (id n : Nat) : State :=
  let s := s.modStep id (fun r => { r with used := r.used ||| (1#8 <<< n) })
  match s.stepRec id with
  | some r =>
    let s := if s.lastReckoned r then s.putFlag (F.SPEC_PRED_USED n) true else s
    if r.judged.getLsbD n && s.outOfBand r n then s.retract id else s
  | none => s

/-- The fixed C-path result of a conversion channel as a FETCH reads it. -/
def State.latestC (s : State) (ch : Nat) : Option Int :=
  match (s.adcCh ch).lastC with
  | some (d, _, false) => some d
  | _ => none

/-- The engine's read of a channel's C-path result clears NEW where the engine is its designated consumer (R113; log entry 46). -/
def State.fetchRead (s : State) (ch : Nat) : State := s.resultRead (if ch < 8 then Reg.ADCX_C_RES ch else Reg.ADCI_C_RES (ch - 8)) 0x30

/-- The sources are read, two ticks each. A conversion channel is read by its number: SEQSWAP, which exchanges the roles of the phases,
does not exchange it (DESIGN CHOICE, log entry 46). -/
def State.fetchTake (s : State) (run : CtlRun) (w : Word) : State :=
  (fetchSources w).foldl (fun s x =>
    let s := s.ctlSpend 2
    match s.stepRec run.step with
    | none => s
    | some r =>
      let n := x.2
      if 8 ≤ n then (s.takeSource r.id x.1 (s.latestC (n - 8))).fetchRead (n - 8)
      else if predicted run r n then (s.takeSource r.id x.1 (nth none r.pred n)).usePred r.id n
      else if r.subst.getLsbD n then
        s.takeSource r.id x.1 ((s.reconstruct r n).map (clampInt (-8388608) 8388607))
      else (s.takeSource r.id x.1 (nth none r.fix n)).fetchRead (s.specSensor n)) s

/-- FETCH executes, or waits for the fixes it needs. -/
def State.opFetch (s : State) (run : CtlRun) (r : StepRec) (w : Word) : State :=
  let waits := (fetchSources w).flatMap (fun x => s.sourceWaits run r x.2)
  if waits.isEmpty then (s.fetchTake run w).runNext
  else
    let s := s.modStep r.id (fun r => { r with fixOnly := true })
    ({ s with ctl := { s.ctl with run := some { run with waiting := waits } } }).ctlShow

/-- The last awaited fix is visible: the FETCH goes on (R126, R128). -/
def State.fetchResume (s : State) : State :=
  match s.ctl.run with
  | none => s
  | some run =>
    match s.stepRec run.step with
    | none => s
    | some r =>
      if run.waiting.isEmpty || !run.waiting.all (fun n => r.judged.getLsbD n) then s
      else
        let run := { run with waiting := [] }
        let s := { s with ctl := { s.ctl with run := some run } }
        s.opFetch run r (s.reg (Reg.CTL_STEPLIST run.pc))

/-- An awaited fix misses its deadline: the step ends at the FETCH (R129). -/
def State.fixTimeout (s : State) : State :=
  match s.ctl.run with
  | none => s
  | some run =>
    match s.stepRec run.step with
    | none => s
    | some r =>
      let open' := run.waiting.filter (fun n => !r.judged.getLsbD n)
      match (open'.map (fun n => r.trig + nth 0 r.dead n)).min? with
      | none => s
      | some t =>
        let s := s.elapseTo (t + 1)
        let late := open'.filter (fun n => r.reck && r.marked.getLsbD n && decide (r.trig + nth 0 r.dead n ≤ t))
        let s := s.fixesMissed r.id late
        let s := if r.fperr then s.ctlFault F.CTL_STAT_FPERR else s
        let s := (s.restoreUnits r.ck).putFlag F.CTL_STAT_ABORT true
        let s := (s.put F.CTL_STAT_PC run.pc)
        let s := { s with ctl := { s.ctl with run := none } }
        let s := if run.kind = .step then s.modStep r.id (fun r => { r with resolved := true, ended := true, aborted := true })
          else s.unfix r.id
        s.ctlFree.ctlShow

/-! ### Executing entries -/

/-- Ticks of an opcode (R127); a write entry of a replay costs one (R140). -/
def entryTicks (run : CtlRun) (op : Nat) : Nat :=
  match op with
  | 0x02 => 10
  | 0x03 => 8
  | 0x04 => 12
  | 0x05 => if run.kind = .replay then 1 else 2
  | 0x06 => if run.kind = .replay then 1 else 2
  | 0x07 => 4
  | 0x08 => 4
  | 0x00 => 0
  | _ => 2

/-- The effect of a legal entry that neither fetches nor ends the step. -/
def State.opPlain (s : State) (run : CtlRun) (r : StepRec) (w : Word) : State :=
  let a := s.varF (entryA w)
  let b := s.varF (entryB w)
  let d := entryD w
  match entryOp w with
  | 0x02 => s.opSlot r.id w
  | 0x03 => s.opXform r w
  | 0x04 => s.opModu r.id w
  | 0x05 => if run.kind = .replay then s else s.opPwmw r.id w
  | 0x06 => if run.kind = .replay then s else s.opLoad run
  | 0x07 => s.opRate r.id w
  | 0x08 => s.opRamp r.id w
  | 0x09 => s.putVar r.id d a
  | 0x0A => s.putVar r.id d (fpAdd a b)
  | 0x0B => s.putVar r.id d (fpSub a b)
  | 0x0C => s.putVar r.id d (fpMul a b)
  | 0x0D => s.putVar r.id d (fpOf (F32.fma a.1 b.1 (s.ctlVar d)))
  | 0x0E => s.opClamp r.id w
  | 0x0F => s.putVar r.id d (fpOf (F32.ofHalf (wbits w 0 16)))
  | _ => s

/-- The entry at the program counter executes. -/
def State.entryStep (s : State) : State :=
  match s.entryNow with
  | none => s
  | some (run, r, w) =>
    if !entryLegal w then (s.ctlFault F.CTL_STAT_LISTERR).runEnd
    else if entryOp w = 0x00 then s.runEnd
    else if entryOp w = 0x01 then s.opFetch run r w
    else ((s.ctlSpend (entryTicks run (entryOp w))).opPlain run r w).runNext

/-- The entry executes if it is a legal one with opcode `op`: the rows of the table, one an opcode. -/
def State.entryIf (s : State) (op : Nat) : State :=
  match s.entryNow with
  | some (_, _, w) => if entryLegal w && decide (entryOp w = op) then s.entryStep else s
  | none => s

/-- An illegal entry acts as END (R125). -/
def State.entryIllegal (s : State) : State :=
  match s.entryNow with
  | some (_, _, w) => if entryLegal w then s else s.entryStep
  | none => s

/-- Entries execute until the run ends or a FETCH waits. -/
def State.runList : Nat → State → State
  | 0, s => s
  | n + 1, s => if s.entryNow.isNone then s else State.runList n s.entryStep

/-! ### Starting runs (R124, R126, R140, R155) -/

/-- V8 to V19 at a step's entry (R123). -/
def State.entryVars (s : State) (theta : Word) : List F32 :=
  (List.range 8).map (fun k => nth 0#32 s.mode.refs k) ++
    [sineOf theta, cosineOf theta, F32.ofRat ((theta.toNat : Rat) / 4294967296), F32.ofRat s.freqQ]

/-- The run's own inputs are in place. -/
def State.setInputs (s : State) (vin : List F32) : State :=
  { s with ctl := { s.ctl with v := s.ctl.v.take 8 ++ vin ++ s.ctl.v.drop 20 } }

/-- A run of step `r` begins at its start entry. -/
def State.runBegin (s : State) (r : StepRec) (kind : RunKind) (fixes : Bool) : State :=
  let pc := if r.input < 2 then 0 else 32
  let run : CtlRun := { kind := kind, step := r.id, pc := pc, low := decide (r.input < 2), refused := false, fixes := fixes, waiting := [] }
  (({ s.setInputs r.vin with ctl := { (s.setInputs r.vin).ctl with run := some run } }).put F.CTL_STAT_PC pc).ctlShow

/-- Steps worth keeping: unresolved, still waiting for a fix, or among the last two (R140). -/
def keepSteps (steps : List StepRec) : List StepRec :=
  let n := steps.length
  (steps.zip (List.range n)).filterMap (fun (r, k) =>
    if !r.resolved || decide (n ≤ k + 2) || (r.reck && decide (r.marked &&& r.judged ≠ r.marked)) then some r else none)

/-- A step at its entry. -/
def StepRec.fresh (id input trig : Nat) (theta : Word) (ck : Ckpt) (vin : List F32) (adv limit : Nat) : StepRec where
  id := id
  input := input
  trig := trig
  theta := theta
  ck := ck
  vin := vin
  adv := adv
  limit := limit
  ls := []
  subst := 0#8
  reck := false
  rseq := 0
  pred := List.replicate 8 none
  delta := List.replicate 8 0
  predK := List.replicate 8 none
  dead := []
  volt := List.replicate 8 0
  qual := 0#8
  used := 0#8
  marked := 0#8
  fix := List.replicate 8 none
  judged := 0#8
  missed := 0#8
  fixOnly := false
  retracted := false
  ended := false
  unfixed := false
  resolved := false
  aborted := false
  retractAt := none
  loaded := none
  legs := List.replicate 7 none
  horizon := none
  out := []
  sat := none
  modlim := [false, false]
  mfig := [none, none]
  states := []
  fperr := false
  absent := false

/-- The engine, free, starts a step for the lowest pending input: eight ticks of entry (R124, R126). -/
def State.stepStartCtl (s : State) : State :=
  let due := s.ctl.withdraw.any Prod.snd
  match s.ctl.run, (List.range 4).find? (fun i => (nth none s.ctl.pend i).isSome) with
  | none, some i =>
    if due || !s.ctl.redo.isEmpty then s
    else match nth none s.ctl.pend i with
      | none => s
      | some (trig, theta) =>
        let s := { s with ctl := { s.ctl with pend := modAt i (fun _ => none) s.ctl.pend } }
        let s := s.tunePlace
        let s := ({ s with ctl := { s.ctl with clock := Nat.max s.ctl.clock trig } }).ctlSpend 8
        let id := s.ctl.nextId
        let r := StepRec.fresh id i trig theta s.checkpoint (s.entryVars theta) (s.get F.CTL_CFG_ADV) (s.get F.CTL_LATMAX_LIMIT)
        let (s, r) := s.specEntry r
        let s := { s with ctl := { s.ctl with nextId := id + 1, steps := keepSteps s.ctl.steps ++ [r] } }
        let s := (s.putFlag F.CTL_STAT_ABSENT false).putFlag F.CTL_STAT_ABORT false
        let s := s.runBegin r .step false
        ((List.range 8).foldl (fun s n =>
          ((s.specCh n).samples.filter (fun x => x.1 = trig)).foldl (fun s x => s.fixArrive n id x.2.1 x.2.2) s) s).takeVerdicts
  | _, _ => s

/-- The kind of a run that is asked for: of a later step, as its horizon stands when it starts; of a retraction, by whether its fix
was visible before the horizon tick or in or after it (R155). -/
def redoKind (r : StepRec) : RunKind → RunKind
  | .step => if r.horizon.isSome then .replay else .recompute
  | _ =>
    match r.horizon, r.retractAt with
    | some h, some t => if h ≤ t then .replay else .recompute
    | _, _ => .recompute

/-- A run SPEC has asked for starts, if its kind is `kind`, and executes its list (R140, R155). -/
def State.redoStart (s : State) (kind : RunKind) : State :=
  let due := s.ctl.withdraw.any Prod.snd
  match s.ctl.run, s.ctl.redo with
  | none, (id, k, fixes) :: rest =>
    if due then s
    else match s.stepRec id with
      | none => { s with ctl := { s.ctl with redo := rest } }
      | some r =>
        if redoKind r k ≠ kind then s
        else
          let s := ({ s with ctl := { s.ctl with redo := rest } }.tunePlace).ctlSpend 8
          let s := if fixes then s.restoreCk r.ck else s
          let ck := s.checkpoint
          let again : StepRec := { r with ck := ck, used := 0#8, retracted := false, retractAt := none, resolved := false }
          let r' := if fixes then r else if r.reck then s.specReckon again else again
          let s := s.modStep id (fun _ => { r' with ended := false, sat := none, modlim := [false, false], mfig := [none, none] })
          let s := s.showPred r'
          let s := if kind = .recompute then s.putFlag F.CTL_LAT_RECOMP true else s
          State.runList 64 (s.runBegin r' kind fixes)
  | _, _ => s

/-- The compares in force before the step's LOAD are written back, and loaded (R151). -/
def State.restoreLegs (s : State) (r : StepRec) : State :=
  let (s, ok) := (List.range 7).foldl (fun (x : State × Bool) n =>
    match nth none r.legs n with
    | none => x
    | some v =>
      let (t, st) := (x.1.ctlSpend 2).shadowWrite 0x30 n v
      if st = .ok then (t, x.2) else (t.ctlFault F.CTL_STAT_NOTOWN, false)) (s, true)
  let s := s.ctlSpend 2
  if !ok then s
  else
    let (t, st) := s.loadWrite
    if st = .ok then t else t.ctlFault F.CTL_STAT_NOTOWN

/-- At the TB0 ZERO or PERIOD after UNFIXED the engine withdraws the step (R151). Of several, the oldest comes first; one that is still
to be withdrawn entered on what this one leaves, and takes its checkpoint (log entry 45). -/
def State.stepWithdraw (s : State) : State :=
  match s.ctl.run, s.ctl.withdraw with
  | none, (id, true) :: rest =>
    let s := { s with ctl := { s.ctl with withdraw := rest } }
    match s.stepRec id with
    | none => s
    | some r =>
      let s := (s.ctlSpend 8).restoreCk r.ck
      let s := rest.foldl (fun s w => if id < w.1 then s.modStep w.1 (fun x => { x with ck := r.ck }) else s) s
      let loadedLater := s.ctl.steps.any (fun x => decide (id < x.id) && x.loaded.isSome)
      let s := if loadedLater then s else s.restoreLegs r
      s.redoLater (s.laterSteps id true) []
  | _, _ => s

end Sys2Proof.Machine
end

