-- ==== Sys2Proof/Machine/Dma.lean ====
section
/-! DEFINITION. DMA channels (spec/17): states, starts and stops, wait lines and doorbells, halts, quarantine. The instructions
themselves are in Machine/Reel.lean. -/

namespace Sys2Proof.Machine

def State.dmaCh (s : State) (n : Nat) : DmaCh := nth DmaCh.reset s.dma.ch n
def State.modDma (s : State) (n : Nat) (f : DmaCh → DmaCh) : State := { s with dma := { s.dma with ch := modAt n f s.dma.ch } }

/-- STATE codes (R357). -/
abbrev dmaIdle : Nat := 0
abbrev dmaRun : Nat := 1
abbrev dmaWait : Nat := 2
abbrev dmaPause : Nat := 3
abbrev dmaHalt : Nat := 4

def State.dmaState (s : State) (n : Nat) : Nat := s.get (F.DMA_CH_STAT_STATE n)
def State.dmaEn (s : State) (n : Nat) : Bool := s.flag (F.DMA_CH_CTRL_EN n)
def State.dmaOn (s : State) (n : Nat) : Bool := s.live Pg.DMA && s.dmaEn n
def State.dmaQuar (s : State) (n : Nat) : Bool := s.flag (F.DMA_CH_CTRL_QUAR n)
def State.dmaPc (s : State) (n : Nat) : Nat := s.get (F.DMA_CH_PC_PC n)
def State.dmaPtr (s : State) (n k : Nat) : Nat := wbits (s.reg (Reg.DMA_CH_PTR n k)) 0 24
def State.setDmaPtr (s : State) (n k v : Nat) : State := s.setReg (Reg.DMA_CH_PTR n k) (BitVec.ofNat 32 (v % 16777216))

/-- STATE changes; DMA_STAT shows it (R380). -/
def State.setDmaState (s : State) (n st : Nat) : State :=
  let s := s.put (F.DMA_CH_STAT_STATE n) st
  let busy := decide (st = dmaRun) || decide (st = dmaWait) || decide (st = dmaPause)
  (s.putBit Reg.DMA_STAT n busy).putBit Reg.DMA_STAT (16 + n) (decide (st = dmaHalt))

/-- The channel enters quarantine, or its test starts again (R378). -/
def State.dmaQuarEnter (s : State) (n : Nat) : State :=
  (s.putFlag (F.DMA_CH_CTRL_QUAR n) true).modDma n (fun c => { c with qAt := s.now, passes := 0 })

/-- The channel leaves quarantine. -/
def State.dmaQuarExit (s : State) (n : Nat) : State :=
  ((s.putFlag (F.DMA_CH_CTRL_QUAR n) false).put (F.DMA_CH_ERR_QFAIL n) 0).modDma n (fun c => { c with passes := 0 })

/-- The qualification window of R378 in ticks. -/
def State.dmaWindow (s : State) : Nat := max 1 (s.get F.DMA_CFG_QWIN) * 10 * ticksPerMs

/-- The windows that have ended without a pass before this tick: QFAIL counts each, and the test starts again (R378). -/
def State.dmaWindows (s : State) (n : Nat) : State :=
  let k := (s.now - 1 - (s.dmaCh n).qAt) / s.dmaWindow
  if k = 0 then s
  else (s.put (F.DMA_CH_ERR_QFAIL n) (min 15 (s.get (F.DMA_CH_ERR_QFAIL n) + k))).modDma n (fun c =>
    { c with qAt := c.qAt + k * s.dmaWindow, passes := 0 })

/-- A pass (R378): the QPASS-th ends the quarantine, unless its window has ended. -/
def State.dmaPass (s : State) (n : Nat) : State :=
  if !s.dmaQuar n then s
  else
  let s := s.dmaWindows n
  if max 1 (s.get F.DMA_CFG_QPASS) ≤ (s.dmaCh n).passes + 1 then s.dmaQuarExit n
  else s.modDma n (fun c => { c with passes := c.passes + 1 })

/-- The window has ended without a pass, a pass in its last tick included (R21). -/
def State.dmaWindowFail (s : State) (n : Nat) : State :=
  if s.dmaQuar n && s.dmaOn n then (s.elapseTo ((s.dmaCh n).qAt + s.dmaWindow + 1)).dmaWindows n else s

/-- The channel halts with `code`; source 109 is raised in the tick after (R377). -/
def State.dmaHaltWith (s : State) (n code : Nat) : State :=
  let s := (s.put (F.DMA_CH_ERR_CODE n) code).put (F.DMA_CH_ERR_EPC n) (s.dmaPc n)
  let s := (s.setW1c Reg.DMA_ERR (code - 1)).put F.DMA_ERR_CH n
  let s := s.modDma n (fun c =>
    { c with waitFrom := none, seenAt := none, target := none, units := 0, limAt := none, again := false, withheld := none, lost := false,
             cur := none, passes := 0 })
  (s.setDmaState n dmaHalt).noteNext Pg.DMA 5

/-- The channel enters PAUSE over the beat at `addr`; source 110 is raised in the tick after (R374). -/
def State.dmaPauseAt (s : State) (n addr : Nat) : State :=
  ((s.modDma n (fun c => { c with withheld := some addr, lost := false })).setDmaState n dmaPause).noteNext Pg.DMA 6

/-- The channel enters IDLE (R359). -/
def State.dmaIdleNow (s : State) (n : Nat) : State :=
  (s.modDma n (fun c => { c with waitFrom := none, seenAt := none, target := none, units := 0, limAt := none, again := false,
                                 withheld := none, lost := false, cur := none, stopping := false, heldGo := 0 })).setDmaState n dmaIdle

/-- A start that acts now: at START, or at the present PC. The starts of one tick count as one (R358). -/
def State.dmaStartNow (s : State) (n : Nat) (cont : Bool) : State :=
  let st := s.dmaState n
  if !s.dmaOn n || decide ((s.dmaCh n).goAt = some s.now) then s
  else
  let s := s.modDma n (fun c => { c with goAt := some s.now })
  if st = dmaIdle ∨ st = dmaHalt then
    let s := if st = dmaHalt then s.dmaQuarEnter n else s
    let s := s.put (F.DMA_CH_ERR_CODE n) 0
    let s := if cont then s
      else (s.put (F.DMA_CH_PC_PC n) (s.get (F.DMA_CH_CTRL_START n))).modDma n (fun c => { c with midMove := false })
    (s.modDma n (fun c => { c with stopping := false, stale := false })).setDmaState n dmaRun
  else s.inc (F.DMA_CH_ERR_DROPCNT n)

/-- GO or CONT: before the muster window ends the start is held (R358). -/
def State.dmaStart (s : State) (n : Nat) (cont : Bool) : State :=
  if !s.dmaOn n then s
  else if s.pwr.muster then s.modDma n (fun c => { c with heldGo := if c.heldGo = 0 then (if cont then 2 else 1) else c.heldGo })
  else s.dmaStartNow n cont

/-- The muster window ends: the starts held act. -/
def State.dmaMuster (s : State) : State :=
  (List.range 16).foldl (fun s n =>
    let h := (s.dmaCh n).heldGo
    if h = 0 then s else (s.modDma n (fun c => { c with heldGo := 0 })).dmaStartNow n (decide (h = 2))) s

/-- A stop: at once in WAIT and PAUSE, after its granted beats in RUN (R359). -/
def State.dmaStop (s : State) (n : Nat) : State :=
  let st := s.dmaState n
  let s := s.modDma n (fun c => { c with heldGo := 0 })
  if st = dmaRun then s.modDma n (fun c => { c with stopping := true })
  else if st = dmaWait ∨ st = dmaPause then s.dmaIdleNow n
  else s

/-- The last granted beat of a stopping channel completes. -/
def State.dmaStopDone (s : State) (n : Nat) : State := if (s.dmaCh n).stopping then s.dmaIdleNow n else s

/-- RING (R367). -/
def State.dmaRing (s : State) (n : Nat) : State := s.incSat (F.DMA_CH_PRIO_DBCNT n)

/-- SIGNAL kind 3 aimed at channel `n` (R370). -/
def State.dmaSignalled (s : State) (n : Nat) : State :=
  if s.flag (F.DMA_CH_CTRL_SIGRING n) then s.dmaRing n else s.dmaStart n false

/-- Bits of an instruction. -/
def ibits (i : BitVec 64) (lo len : Nat) : Nat := (i.toNat >>> lo) % 2 ^ len

/-- The last tick in which the condition of a held WAIT still passes it; none before a timeout in units has reached its limit,
and none without a timeout (R368). -/
def State.waitLimit (s : State) (n : Nat) (i : BitVec 64) : Option Nat :=
  let u := s.get (F.DMA_CH_WAITTMO_UNIT n)
  if ibits i 56 1 = 0 then none
  else if u = 1 ∨ u = 2 then (s.dmaCh n).limAt
  else (s.dmaCh n).waitFrom.map (fun t => t + s.get (F.DMA_CH_WAITTMO_COUNT n))

/-- The WAIT that holds channel `n` is still within its limit. -/
def State.waitInTime (s : State) (n : Nat) (i : BitVec 64) : Bool := (s.waitLimit n i).all (fun l => decide (s.now ≤ l))

/-- Destination D(20 + k) acts: WLPEND[k] of every channel. A WAIT whose condition came in an earlier tick does not take this
action with it (R367). -/
def State.dmaLine (s : State) (k : Nat) : State :=
  if s.domReady 2 then
    (List.range 16).foldl (fun s n => (s.setW1c (Reg.DMA_CH_STAT n) (4 + k)).modDma n (fun c =>
      match c.cur, c.seenAt with
      | some i, some t => if ibits i 57 3 = 1 ∧ ibits i 0 2 = k ∧ t < s.now then { c with again := true } else c
      | _, _ => c)) s
  else s

/-- Router event `e` pulses: the WAITs held for it see it, within their limits (R366, R368). -/
def State.dmaEvent (s : State) (e : Nat) : State :=
  { s with dma := { s.dma with ch := (List.range 16).map (fun n =>
      let c := s.dmaCh n
      match c.cur with
      | some i =>
        if s.dmaState n = dmaWait ∧ c.waitFrom.isSome ∧ ibits i 57 3 = 0 ∧ ibits i 0 6 = e ∧ c.seenAt.isNone ∧ s.waitInTime n i then
          { c with seenAt := some s.now } else c
      | none => c) } }

/-- The bearing angle of a WAIT, and the condition of a held one (R366). -/
def State.waitHolds (s : State) (n : Nat) (i : BitVec 64) : Bool :=
  let c := s.dmaCh n
  match ibits i 57 3 with
  | 0 => c.seenAt.isSome
  | 1 => natBit (s.get (F.DMA_CH_STAT_WLPEND n)) (ibits i 0 2)
  | 2 => s.irqPend (ibits i 0 7)
  | 3 => (match c.target with | some t => decide (t ≤ s.absBear) | none => false)
  | 4 => (match c.waitFrom with | some t => decide (t + ibits i 0 32 ≤ s.now) | none => false)
  | _ => decide (0 < s.get (F.DMA_CH_PRIO_DBCNT n))

/-- The held WAITs whose conditions hold in this tick, within their limits, are to pass (R366, R368). -/
def State.waitsSeen (s : State) : State :=
  { s with dma := { s.dma with ch := (List.range 16).map (fun n =>
      let c := s.dmaCh n
      match c.cur with
      | some i =>
        if s.dmaState n = dmaWait ∧ c.waitFrom.isSome ∧ c.seenAt.isNone ∧ s.waitHolds n i ∧ s.waitInTime n i then
          { c with seenAt := some s.now } else c
      | none => c) } }

/-- A bearing tick or a BEAR_CYCLE increment counts for the timeouts with that unit (R368). -/
def State.dmaUnits (s : State) (unit k : Nat) : State :=
  { s with dma := { s.dma with ch := (List.range 16).map (fun n =>
      let c := s.dmaCh n
      if s.dmaState n = dmaWait ∧ s.get (F.DMA_CH_WAITTMO_UNIT n) = unit then
        { c with units := c.units + k
                 limAt := if c.limAt.isNone ∧ s.get (F.DMA_CH_WAITTMO_COUNT n) ≤ c.units + k then some s.now else c.limAt }
      else c) } }

/-- The WAIT held by channel `n` needs the bearing: KIND 3, or a timeout with UNIT 1 or 2 (R369). -/
def State.needsNav (s : State) (n : Nat) (i : BitVec 64) : Bool :=
  let u := s.get (F.DMA_CH_WAITTMO_UNIT n)
  decide (ibits i 57 3 = 3) || (decide (ibits i 56 1 = 1) && (decide (u = 1) || decide (u = 2)))

/-- D3 NAV goes off: the waits that need the bearing halt (R369). -/
def State.dmaNavOff (s : State) : State :=
  (List.range 16).foldl (fun s n =>
    match (s.dmaCh n).cur with
    | some i => if s.dmaState n = dmaWait ∧ s.needsNav n i then s.dmaHaltWith n 9 else s
    | none => s) s

/-- The bearing stepped back: a WAIT for an angle waits for its next forward crossing (R366). -/
def State.dmaBackward (s : State) : State :=
  { s with dma := { s.dma with ch := s.dma.ch.map (fun c =>
      match c.cur, c.target with
      | some i, some t => if s.absBear < t then { c with target := some (s.nextCrossing (ibits i 0 32 * 1048576)) } else c
      | _, _ => c) } }

/-- The channel's enable goes on (R47), or off (R359). -/
def State.dmaEnable (s : State) (n : Nat) : State := if s.pwr.muster then s else s.dmaQuarEnter n
def State.dmaDisable (s : State) (n : Nat) : State := (s.dmaStop n).putFlag (F.DMA_CH_CTRL_QUAR n) false

/-- The page is enabled or disabled. -/
def State.dmaPage (s : State) (on : Bool) : State :=
  ((List.range 16).filter s.dmaEn).foldl (fun s n => if on then s.dmaEnable n else s.dmaDisable n) s

/-- A write to DMA_CH_CTRL of channel `n`. Answers whether it was a host clear. -/
def State.dmaCtrlWrite (s : State) (n : Nat) (v : Word) : State × Bool :=
  let a := Reg.DMA_CH_CTRL n
  let was := s.dmaOn n
  let quar := s.dmaQuar n
  let s := s.setReg a (wput (wput (wput (wput (s.reg a) 0 1 (wbits v 0 1)) 5 1 (wbits v 5 1)) 7 1 (wbits v 7 1)) 16 12 (wbits v 16 12))
  let on := s.dmaOn n
  let clear := was && on && quar && !wbit v 1
  let s := if was && !on then s.dmaDisable n
    else if !was && on then s.dmaEnable n
    else if on && wbit v 1 then s.dmaQuarEnter n
    else if clear then s.dmaQuarExit n
    else s
  let s := if wbit v 3 then s.dmaStop n else s
  let s := if wbit v 2 then s.dmaStart n false else if wbit v 6 then s.dmaStart n true else s
  (if wbit v 4 then s.dmaRing n else s, clear)

/-- A write to bank B1 reaches slot `k`: a channel that holds it prefetched fetches it again (R371). -/
def State.dmaSnoop (s : State) (k : Nat) : State :=
  { s with dma := { s.dma with ch := (List.range 16).map (fun n =>
      let c := s.dmaCh n
      let st := s.dmaState n
      let slot := if c.cur.isSome then (s.dmaPc n + 1) % 4096 else s.dmaPc n
      if (st = dmaRun ∨ st = dmaWait ∨ st = dmaPause) ∧ slot = k then { c with stale := true } else c) } }

end Sys2Proof.Machine
end

