-- ==== Sys2Proof/Machine/Cht.lean ====
section
/-! DEFINITION. The Chart (spec/04, R77 to R84): its waypoints, the records of what has fired in which cycle, late firings,
skips, and the actions a fired waypoint issues. -/

namespace Sys2Proof.Machine

/-- Repeat patterns (R79). -/
abbrev repOff : Nat := 0
abbrev repEvery : Nat := 1
abbrev repEveryN : Nat := 2
abbrev repOnce : Nat := 3

def State.wpMode (s : State) (n : Nat) : Nat := s.get (F.CHT_WP_REP_MODE n)
def State.wpArmed (s : State) (n : Nat) : Bool := decide (s.wpMode n ≠ repOff)
/-- The angle of waypoint `n`, in bearing units. -/
def State.wpAngle (s : State) (n : Nat) : Nat := (s.reg (Reg.CHT_WP_ANGLE n)).toNat

/-- The cycle, on the count of `absBear`, in which the bearing last passed the angle of waypoint `n`. -/
def State.wpCycle (s : State) (n : Nat) : Int :=
  (s.absBear - (((s.cps.bear + turn52 - s.wpAngle n * 1048576) % turn52 : Nat) : Int)) / (turn52 : Int)

/-- The present BEAR_CYCLE as a number. -/
def State.cycleNow (s : State) : Int := (((s.reg Reg.CPS_BEAR_CYCLE).toNat : Nat) : Int)

/-- Waypoint `n` has its bit in the record of cycle `cyc` (R77, R82); a cycle older than the records counts as used. -/
def State.wpUsed (s : State) (n : Nat) (cyc : Int) : Bool :=
  if cyc = s.cycleNow then s.bitOf (Reg.CHT_FIRED (n / 32)) (n % 32)
  else if cyc = s.cycleNow - 1 then s.cht.prev.getLsbD n
  else true

/-- The bit is set in the record of cycle `cyc`. -/
def State.wpMark (s : State) (n : Nat) (cyc : Int) : State :=
  if cyc = s.cycleNow then s.putBit (Reg.CHT_FIRED (n / 32)) (n % 32) true
  else { s with cht := { s.cht with prev := s.cht.prev ||| (1#64 <<< n) } }

/-- An EVERYN waypoint is due in cycle `cyc`; any other armed waypoint is (R79). -/
def State.wpDue (s : State) (n : Nat) (cyc : Int) : Bool :=
  if s.wpMode n = repEveryN then
    (match nth none s.cht.last n with
      | none => true
      | some l =>
        let gone := wrapBits 32 (cyc - (l.toNat : Int))
        decide (gone ≠ 0) && decide (gone % max 1 (s.get (F.CHT_WP_REP_N n)) = 0))
  else true

/-- The action codes of waypoint `n` (R78), in the order of the table. -/
def State.wpActions (s : State) (n : Nat) : List Nat :=
  (if s.flag (F.CHT_WP_ACT_EVT n) then [s.get (F.CHT_WP_ACT_EVLINE n)] else []) ++
  (if s.flag (F.CHT_WP_ACT_REEL n) then [8 + s.get (F.CHT_WP_ACT_REELCH n)] else []) ++
  (if s.flag (F.CHT_WP_ACT_ADC n) then [24 + s.get (F.CHT_WP_ACT_ADCGRP n)] else []) ++
  (if s.flag (F.CHT_WP_ACT_LOAD n) then [28] else []) ++
  (if s.flag (F.CHT_WP_ACT_STEP n) then [29 + s.get (F.CHT_WP_ACT_STEPLINE n)] else []) ++
  (if s.flag (F.CHT_WP_ACT_IRQ n) then [33 + s.get (F.CHT_WP_ACT_IRQLINE n)] else [])

/-- The forced actions of a skipped waypoint (R83). -/
def wpForced (code : Nat) : Bool := (decide (24 ≤ code) && decide (code < 28)) || (decide (29 ≤ code) && decide (code < 33))

/-- Actions wait for the next tick; identical ones merge (R78). -/
def State.wpQueue (s : State) (codes : List Nat) : State :=
  { s with cht := { s.cht with due := s.cht.due ++ codes.filter (fun c => !(s.cht.due.contains c)) } }

/-- An occurrence of waypoint `n` in cycle `cyc`: its record, and MODE of a ONCE waypoint (R79), unless a master's write of this tick
to CHT_WP_REP stands (R39). -/
def State.wpOccur (s : State) (n : Nat) (cyc : Int) : State :=
  let s := s.wpMark n cyc
  let s := { s with cht := { s.cht with last := modAt n (fun _ => some (BitVec.ofNat 32 (wrapBits 32 cyc))) s.cht.last } }
  if s.wpMode n = repOnce ∧ !s.mastered (Reg.CHT_WP_REP n) then s.put (F.CHT_WP_REP_MODE n) repOff else s

/-- The bearing has crossed the angle of waypoint `n` in cycle `cyc`: it fires where it is due, and the crossing is recorded
either way (R77). -/
def State.wpCross (s : State) (n : Nat) (cyc : Int) : State :=
  if s.wpUsed n cyc then s
  else if s.wpDue n cyc then (s.wpQueue (s.wpActions n)).wpOccur n cyc
  else s.wpMark n cyc

/-- Waypoint `n` fires late (R80, R81). -/
def State.wpLate (s : State) (n : Nat) (cyc : Int) : State :=
  let s := (s.wpQueue (s.wpActions n)).wpOccur n cyc
  let s := s.setReg Reg.CHT_LATECNT (s.reg Reg.CHT_LATECNT + 1#32)
  (s.put F.CHT_CFG_LASTLATE n).note Pg.CHT 4

/-- Waypoint `n` is skipped (R81, R83). -/
def State.wpSkip (s : State) (n : Nat) (cyc : Int) : State :=
  let s := if s.flag F.CHT_CFG_FORCECTL then s.wpQueue ((s.wpActions n).filter wpForced) else s
  let s := s.wpOccur n cyc
  let s := s.setReg Reg.CHT_SKIPCNT (s.reg Reg.CHT_SKIPCNT + 1#32)
  (s.put F.CHT_CFG_LASTSKIP n).note Pg.CHT 5

/-- One merged action is issued (R78). -/
def State.wpIssue (s : State) (code : Nat) : State :=
  if code < 8 then s.pulse (24 + code)
  else if code < 24 then s.dmaStart (code - 8) false
  else if code < 28 then s.adcTrigger (code - 24)
  else if code = 28 then s.loadAll
  else if code < 33 then s.ctlTrigger (code - 29)
  else s.note Pg.CHT (code - 33)

/-- The actions that wait are issued in this tick, each once however many waypoints ask for it. -/
def State.wpIssueAll (s : State) : State :=
  let before := if s.cht.issuedAt = s.now then s.cht.issued else []
  let codes := s.cht.due.filter (fun c => !(before.contains c))
  let s := { s with cht := { s.cht with due := [], issued := before ++ codes, issuedAt := s.now } }
  codes.foldl (fun s c => s.wpIssue c) s

/-- The next tick comes, if actions wait for it, and issues them. -/
def State.chtFlush (s : State) : State := if s.cht.due.isEmpty then s else (s.elapse 1).wpIssueAll

/-- A write arms waypoint `n` or moves its angle: it is judged at once (R80). -/
def State.chtJudge (s : State) (n : Nat) : State :=
  if !(s.live Pg.CHT && s.wpArmed n) || s.bitOf (Reg.CHT_FIRED (n / 32)) (n % 32) then s
  else
    let d := (s.bearing - s.reg (Reg.CHT_WP_ANGLE n)).toNat
    let cyc := s.wpCycle n
    if d ≤ (s.reg Reg.CHT_LATEWIN).toNat ∧ !s.wpUsed n cyc then
      (if s.wpDue n cyc then s.wpLate n cyc else s.wpMark n cyc)
    else s

/-- A forward jump steps over the absolute bearings (lo, hi], its new bearing being `fin`: the waypoints of cycle `cyc` in
that stretch are judged (R81). -/
def State.chtStretch (s : State) (cyc lo hi fin : Int) : State :=
  if !s.live Pg.CHT then s
  else
    (List.range 64).foldl (fun s n =>
      let p := cyc * (turn52 : Int) + ((s.wpAngle n * 1048576 : Nat) : Int)
      if s.wpArmed n && decide (lo < p) && decide (p ≤ hi) && !s.wpUsed n cyc then
        (if !s.wpDue n cyc then s.wpMark n cyc
         else if (fin - p) / 1048576 ≤ ((s.reg Reg.CHT_LATEWIN).toNat : Int) then s.wpLate n cyc
         else s.wpSkip n cyc)
      else s) s

/-- BEAR_CYCLE increments: the records move (R77). -/
def State.chtRotate (s : State) : State :=
  let w : BitVec 64 := BitVec.ofNat 64 ((s.reg (Reg.CHT_FIRED 0)).toNat + 2 ^ 32 * (s.reg (Reg.CHT_FIRED 1)).toNat)
  let s := { s with cht := { s.cht with prev := w } }
  (s.setReg (Reg.CHT_FIRED 0) 0#32).setReg (Reg.CHT_FIRED 1) 0#32

/-- The page is enabled: armed waypoints at or below the bearing are marked (R84). -/
def State.chtEnable (s : State) : State :=
  (List.range 64).foldl (fun s n =>
    if s.wpArmed n && decide (s.wpAngle n ≤ s.bearing.toNat) then s.putBit (Reg.CHT_FIRED (n / 32)) (n % 32) true else s) s

/-- A write of `v` to CHT_WP_ANGLE of waypoint `n`. -/
def State.chtAngleWrite (s : State) (n : Nat) (v : Word) : State := ((s.setReg (Reg.CHT_WP_ANGLE n) v).chtJudge n).chtFlush

/-- A write of `v` to CHT_WP_REP of waypoint `n`: a change from OFF arms it, and EVERYN counts from its arming (R79, R80). -/
def State.chtRepWrite (s : State) (n : Nat) (v : Word) : State :=
  let was := s.wpMode n
  let s := (s.put (F.CHT_WP_REP_MODE n) (wbits v 0 2)).put (F.CHT_WP_REP_N n) (wbits v 16 16)
  let s := if was = repOff ∨ (was ≠ repEveryN ∧ s.wpMode n = repEveryN) then
      { s with cht := { s.cht with last := modAt n (fun _ => none) s.cht.last } } else s
  if was = repOff then (s.chtJudge n).chtFlush else s

/-- CNTCLR (R97). -/
def State.chtCntClr (s : State) : State := (s.setReg Reg.CHT_LATECNT 0#32).setReg Reg.CHT_SKIPCNT 0#32

end Sys2Proof.Machine
end

