-- ==== Sys2Proof/Machine/Qdl.lean ====
section
/-! DEFINITION. The Quadrille (spec/04, R85 to R96): the link's frames, echoes and edges, forming and leaving a formation, and
the lead's split of the plant setpoints. -/

namespace Sys2Proof.Machine

/-- PG_STAT.STATE of the QDL page (R89). -/
abbrev qdlOff : Nat := 0
abbrev qdlListen : Nat := 1
abbrev qdlSlew : Nat := 2
abbrev qdlHold : Nat := 3
abbrev qdlFormed : Nat := 4
abbrev qdlLead : Nat := 5
abbrev qdlClaim : Nat := 6

/-- Causes of R93. -/
abbrev causeLeadLost : Nat := 1
abbrev causeAlign : Nat := 2
abbrev causeDupRank : Nat := 3
abbrev causeCollision : Nat := 4
abbrev causeQwin : Nat := 5
abbrev causeDelay : Nat := 6
abbrev causeCrc : Nat := 7

def State.modQdl (s : State) (f : QdlSt → QdlSt) : State := { s with qdl := f s.qdl }
def State.qdlOn (s : State) : Bool := s.live Pg.QDL
/-- The unit takes part in the link: it is not OFF. -/
def State.qdlRuns (s : State) : Bool := s.qdlOn && decide (s.qdl.state ≠ qdlOff)
/-- SLEW, HOLD or FORMED. -/
def State.qdlFollows (s : State) : Bool := decide (qdlSlew ≤ s.qdl.state) && decide (s.qdl.state ≤ qdlFormed)

/-- A recorded BEAR_CYCLE is the cycle `cur`, the one before it, or (an edge just before 0) the one after. -/
def recentCycle (cur : Word) (c : Option Word) : Bool :=
  match c with
  | none => false
  | some w => decide (((cur + 1#32) - w).toNat ≤ 2)

/-- A valid lead bearing in the cycle `cur` (R89), and now. -/
def State.leadValidIn (s : State) (cur : Word) : Bool :=
  s.qdlRuns && !s.qdl.leadGone && s.qdl.lead.isSome && recentCycle cur s.qdl.edgeCyc && recentCycle cur s.qdl.frameCyc
def State.leadValid (s : State) : Bool := s.leadValidIn (s.reg Reg.CPS_BEAR_CYCLE)

/-- `n` turns have gone by since the absolute bearing `from0` (R9). -/
def State.turnsGone (s : State) (from0 : Int) (n : Nat) : Bool := decide (from0 + ((n * turn52 : Nat) : Int) ≤ s.absBear)

/-- QDL reports a valid lead bearing to the Compass (R89). -/
def State.qdlReports (s : State) : Bool := s.leadValid && s.qdlFollows

/-- A frame of rank `r` came in the last 8 cycles. -/
def State.rankSeen (s : State) (r : Nat) : Bool :=
  match nth none s.qdl.heard r with
  | none => false
  | some w => decide ((s.reg Reg.CPS_BEAR_CYCLE - w).toNat < 8)

/-- The registers follow the role, the state and the lead heard. The spec gives no rule for ROLE in LISTEN: it shows FOLLOWER where a
lead frame was heard within the last 8 cycles, else NONE (DESIGN CHOICE, log entry 31). -/
def State.qdlShow (s : State) : State :=
  let st := s.qdl.state
  let role := if st = qdlLead then 1
    else if s.qdlFollows || (decide (st = qdlListen) && s.qdl.lead.isSome && !s.turnsGone s.qdl.silentAt 8) then 2 else 0
  let s := s.put F.QDL_ROLE_ROLE role
  let s := s.putFlag F.QDL_ROLE_QUAR (decide (qdlListen ≤ st) && decide (st ≤ qdlHold))
  let s := s.putFlag F.QDL_ROLE_LEADVALID s.leadValid
  let form := decide (st = qdlFormed) || decide (st = qdlLead)
  let s := (s.putFlag F.QDL_STAT_IN_FORMATION form).putFlag (F.QDL_UNIT_INFORM s.qdl.rank) form
  (List.range 8).foldl (fun s r => s.putFlag (F.QDL_UNIT_SEEN r) (s.rankSeen r)) s

/-- Share 0 (R91). -/
def State.noShare (s : State) : State := s.setReg Reg.QDL_SHARE 0#32

/-- The unit enters LISTEN. -/
def State.toListen (s : State) : State :=
  (s.modQdl (fun q => { q with state := qdlListen, validRun := 0, silentAt := s.absBear, alignRun := 0, crcRun := 0,
                               lostAt := none, takeover := false, echoOf := none })).noShare.qdlShow

/-- QDL_FAULT with its cause (R93). -/
def State.qdlFault (s : State) (cause : Nat) : State := (s.put F.QDL_STAT_CAUSE cause).note Pg.QDL 1

/-- An exit of R93 to LISTEN. -/
def State.qdlExit (s : State) (cause : Nat) : State := (s.qdlFault cause).toListen

/-- An exit of R93 to OFF, until QDL_RANK is written. -/
def State.dupExit (s : State) : State :=
  (((s.qdlFault causeDupRank).modQdl (fun q => { q with state := qdlOff, dupHold := true, takeover := false })).noShare).qdlShow

/-- The unit enters FORMED (R91, R92). -/
def State.toFormed (s : State) : State :=
  (((s.modQdl (fun q => { q with state := qdlFormed, alignRun := 0, crcRun := 0, lostAt := none })).put F.QDL_STAT_QFAIL 0).note
    Pg.QDL 0).qdlShow

/-- The unit enters HOLD: its window opens (R92). -/
def State.toHold (s : State) : State :=
  ((s.modQdl (fun q => { q with state := qdlHold, winFrom := s.absBear })).put F.QDL_STAT_HOLDCNT 0).qdlShow

/-! ### The power share (R96) -/

/-- Rank `r` is IN_FORMATION, as the lead knows it. -/
def State.inFormation (s : State) (r : Nat) : Bool := decide (r = s.qdl.rank) || s.flag (F.QDL_UNIT_INFORM r)

/-- The part of rank `r` once a ramp is over: its weight over those of the formation. A write of WEIGHT while this unit leads shows
in the split at once: the spec gives ramps only for a unit that enters or leaves FORMED (DESIGN CHOICE, log entry 31). -/
def State.allocGoal (s : State) (r : Nat) : Rat :=
  let w (k : Nat) : Nat := if s.inFormation k then s.get (F.QDL_UNIT_WEIGHT k) else 0
  let total := (List.range 8).foldl (fun a k => a + w k) 0
  if total = 0 then 0 else (w r : Rat) / (total : Rat)

/-- The part of rank `r` now, along the ramp. -/
def State.alloc (s : State) (r : Nat) : Rat :=
  let ms := wbits (s.reg Reg.QDL_SHARE_RAMP) 0 16
  let t := s.now - s.qdl.rampAt
  if ms * ticksPerMs ≤ t then s.allocGoal r
  else
    let x : Rat := (t : Rat) / ((ms * ticksPerMs : Nat) : Rat)
    nth 0 s.qdl.allocOld r + (s.allocGoal r - nth 0 s.qdl.allocOld r) * x

/-- The formation changes by `f`: a ramp starts from the present parts, a rank that has left having none. -/
def State.reshare (s : State) (f : State → State) : State :=
  let parts := (List.range 8).map s.alloc
  let t := f s
  t.modQdl (fun q => { q with rampAt := t.now,
                              allocOld := (List.range 8).map (fun r => if t.inFormation r then nth 0 parts r else 0) })

/-- The shares of the ranks below `r` together, in Q1.15: the part of a plant setpoint, rounded once. -/
def State.shareBelow (s : State) (r : Nat) (setpoint : Rat) : Int :=
  roundHalfUp (((List.range r).map s.alloc).foldl (fun a x => a + x) 0 * setpoint)

/-- The share of rank `r`: the sums are rounded, not the parts, so that the sum of the shares is the same all along a ramp (R96; log
entry 115). -/
def State.share (s : State) (r : Nat) (setpoint : Rat) : Int :=
  clampInt (-32768) 32767 (s.shareBelow (r + 1) setpoint - s.shareBelow r setpoint)
def State.shareP (s : State) (r : Nat) : Int := s.share r (signed 16 (wbits (s.reg Reg.MODE_P_SET) 0 16))
def State.shareQ (s : State) (r : Nat) : Int := s.share r (signed 16 (wbits (s.reg Reg.MODE_Q_SET) 0 16))
def shareWord (p q : Int) : Word := BitVec.ofNat 32 (wrapBits 16 p + 65536 * wrapBits 16 q)

/-- The unit becomes LEAD (R90, R94): its parts start from the last lead's shares, that lead's own taken away. -/
def State.toLead (s : State) : State :=
  let old : List Rat := match s.qdl.lead with
    | none => (List.range 8).map (fun r => if r = s.qdl.rank then 1 else 0)
    | some l =>
      let total : Int := l.shares.foldl (fun a x => a + x) 0
      (List.range 8).map (fun r => if r = l.rank ∨ total = 0 then 0 else ((nth (0 : Int) l.shares r : Int) : Rat) / (total : Rat))
  let s := match s.qdl.lead with
    | some l => s.putFlag (F.QDL_UNIT_INFORM l.rank) false
    | none => s
  let s := s.modQdl (fun q => { q with state := qdlLead, takeover := false, leadGone := false, lead := none, allocOld := old,
                                       rampAt := s.now, echoOf := none, dlyOut := none, joins := 0#8, joinServed := 0#8, leadSent := false, lostAt := none,
                                       pingOrder := (List.range 8).map (fun k => (q.rank + 1 + k) % 8) })
  ((s.note Pg.QDL 0).put F.QDL_ROLE_LEADRANK s.qdl.rank).qdlShow

/-! ### Frames (R86, R87) -/

def byteOf (n : Nat) : Byte := BitVec.ofNat 8 n
def bytes16 (n : Nat) : List Byte := [byteOf n, byteOf (n / 256)]
/-- A frame's data bytes with their CRC. -/
def withCrc (bs : List Byte) : List Byte := bs ++ wbytes (crc32c bs)
/-- The data of a frame of `n` bytes and a CRC, where the CRC holds. -/
def frameData (n : Nat) (bs : List Byte) : Option (List Byte) :=
  if bs.length = n + 4 ∧ wbytes (crc32c (bs.take n)) = bs.drop n then some (bs.take n) else none
def frameByte (bs : List Byte) (i : Nat) : Nat := (nth 0#8 bs i).toNat
def frameWord (bs : List Byte) (i : Nat) : Word := BitVec.ofNat 32 (bytesNat ((bs.drop i).take 4))

/-- Ticks of a data byte on BSHARE at 10 Mbit/s, and of the two preamble bytes and the start byte. -/
abbrev qdlByteTicks : Nat := 320
abbrev qdlHeadTicks : Nat := 960

/-- A frame on the wire: two preamble bytes, the start byte, the data and the CRC (R86). -/
def wireBytes (bs : List Byte) : List Byte := [0x55#8, 0x55#8, 0xA7#8] ++ bs

/-- The level of the Manchester-coded bytes `bs`, each least significant bit first, `t` ticks after the first bit begins: a 0 is
high and then low, a 1 low and then high, 20 ticks each (R86). -/
def manchester (bs : List Byte) (t : Nat) : Bool :=
  let b := (nth 0#8 bs (t / qdlByteTicks)).getLsbD (t % qdlByteTicks / 40)
  if t % 40 < 20 then !b else b

/-- BSHARE is pulled low by this unit now: its frame's bits, or the 100 ns of its echo (R86, R88). -/
def State.bshareLow (s : State) : Bool :=
  s.qdlRuns &&
    ((match s.qdl.sentAt with
      | some t => decide (t ≤ s.now) && decide (s.now < t + (wireBytes s.qdl.sent).length * qdlByteTicks) &&
          !manchester (wireBytes s.qdl.sent) (s.now - t)
      | none => false) ||
     (match s.qdl.echoAt with
      | some t => decide (s.now < t + 40)
      | none => false))

/-- BSYNC is pulled low by this unit now: as the LEAD, for 1.0 µs from a forward crossing of 0 by its bearing (R85). -/
def State.bsyncLow (s : State) : Bool :=
  s.qdlOn && decide (s.qdl.state = qdlLead) && (match s.cps.zeroAgo with | some k => decide (k < 400) | none => false)

/-- The rank to ping (R88): one that has sent JOIN and not been pinged for it yet, in rank order, else the one whose last ping is the
oldest (log entry 31). -/
def State.pingRank (s : State) : Nat :=
  match (List.range 8).find? (fun r => s.qdl.joins.getLsbD r && decide (r ≠ s.qdl.rank)) with
  | some r => r
  | none => (s.qdl.pingOrder.find? (fun r => decide (r ≠ s.qdl.rank))).getD 0

/-- The data bytes of the lead frame, as the bearing stands (R87). -/
def State.leadData (s : State) (ping : Nat) : List Byte :=
  let flags := (decide (s.modeActive = 2)).toNat + 2 * (decide (s.get F.CPS_SRC_ACTIVE = 0)).toNat
  let form := (List.range 8).foldl (fun a r => if s.inFormation r then a + 2 ^ r else a) 0
  let (dr, dly) := match s.qdl.dlyOut with
    | some (r, d) => (128 + r, d)
    | none => (0, 0)
  [byteOf (16 + s.qdl.rank), byteOf flags] ++ wbytes s.bearing ++ wbytes (s.reg Reg.CPS_BEAR_RATE) ++
    [byteOf form, byteOf (128 + ping), byteOf dr] ++ bytes16 dly ++ [0#8] ++
    (List.range 8).flatMap (fun r => bytes16 (wrapBits 16 (s.shareP r)) ++ bytes16 (wrapBits 16 (s.shareQ r)))

/-- What a lead frame of rank `other` does to a LEAD (R93, R95). -/
def State.otherLead (s : State) (other : Nat) : State :=
  if other = s.qdl.rank then s.dupExit
  else
    let s := s.setReg Reg.QDL_ERRCNT (wput (s.reg Reg.QDL_ERRCNT) 16 16 (wbits (s.reg Reg.QDL_ERRCNT) 16 16 + 1))
    if other < s.qdl.rank then s.qdlExit causeCollision else s

/-- The lead frame goes out in the lead slot (R86 to R88). `other` is the rank of another unit that sends one too. -/
def State.leadFrameSend (s : State) (other : Option Nat) : State :=
  if !(s.qdlOn && decide (s.qdl.state = qdlLead)) || s.qdl.leadSent then s
  else
    let s := if 0x02000000 ≤ s.bearing.toNat then s else s.elapseToAngle (0x02000000 * 1048576)
    let at0 := s.now
    let s := s.elapse 660
    let ping := s.pingRank
    let data := s.leadData ping
    let s := s.setReg Reg.QDL_SHARE (shareWord (s.shareP s.qdl.rank) (s.shareQ s.qdl.rank))
    let s := s.elapse (qdlHeadTicks - 660 + 52 * qdlByteTicks)
    let s := s.modQdl (fun q => { q with leadSent := true, sent := withCrc data, sentAt := some at0, frameAt := s.now, echoOf := some ping,
                                         dlyOut := none, pingOrder := q.pingOrder.filter (fun r => decide (r ≠ ping)) ++ [ping],
                                         joins := q.joins &&& ~~~(1#8 <<< ping),
                                         joinServed := q.joinServed ||| (q.joins &&& (1#8 <<< ping)) })
    match other with
    | some r => s.otherLead r
    | none => s

/-- LISTEN becomes SLEW after 8 consecutive cycles of valid lead bearing, with a delay measured (R91). -/
def State.slewStart (s : State) : State :=
  if s.qdl.state = qdlListen ∧ 8 ≤ s.qdl.validRun ∧ s.flag F.QDL_STAT_DELAYOK then
    s.modQdl (fun q => { q with state := qdlSlew })
  else s

/-- A lead frame is taken by a listener or follower (R87 to R91). -/
def State.leadTake (s : State) (d : List Byte) : State :=
  let r := frameByte d 0 % 8
  let info : LeadInfo :=
    { rank := r, bearing := frameWord d 2,
      rate := frameWord d 6, formation := BitVec.ofNat 8 (frameByte d 10),
      shares := (List.range 8).map (fun k => signed 16 (bytesNat ((d.drop (16 + 4 * k)).take 2))) }
  let cyc := s.reg Reg.CPS_BEAR_CYCLE
  let me := s.qdl.rank
  let s := s.modQdl (fun q => { q with
    lead := some info, frameCyc := some cyc, frameAt := s.now, crcRun := 0, silentAt := s.absBear, leadGone := false, takeover := false,
    pinged := natBit (frameByte d 11) 7 && decide (frameByte d 11 % 8 = me), echoed := false,
    heard := modAt r (fun _ => some cyc) q.heard, state := if q.state = qdlClaim then qdlListen else q.state })
  let s := (s.putFlag F.QDL_STAT_LINKOK true).put F.QDL_ROLE_LEADRANK r
  let s := (List.range 8).foldl (fun s k => s.putFlag (F.QDL_UNIT_INFORM k) (info.formation.getLsbD k)) s
  let s := if natBit (frameByte d 12) 7 && decide (frameByte d 12 % 8 = me) then
      (s.setReg Reg.QDL_DELAY (BitVec.ofNat 32 (2147483648 + bytesNat ((d.drop 13).take 2)))).putFlag F.QDL_STAT_DELAYOK true
    else s
  let s := if s.qdl.state = qdlFormed then s.setReg Reg.QDL_SHARE (frameWord d (16 + 4 * me)) else s
  let s := if s.leadValid then s.modQdl (fun q => { q with lostAt := none }) else s
  s.slewStart.qdlShow

/-- A lead frame is received; its last bit comes now. A bad CRC counts as absent (R86, R93). -/
def State.leadFrameReceive (s : State) (bs : List Byte) : State :=
  if !s.qdlRuns then s
  else
    match frameData 48 bs with
    | none =>
      let s := (s.inc F.QDL_ERRCNT_CRC).modQdl (fun q => { q with crcRun := q.crcRun + 1 })
      if s.qdl.state = qdlFormed ∧ 8 ≤ s.qdl.crcRun then s.qdlExit causeCrc else s
    | some d =>
      if frameByte d 0 / 16 ≠ 1 then s
      else if s.qdl.state = qdlLead then s.otherLead (frameByte d 0 % 8)
      else if s.qdl.state = qdlFormed ∧ frameByte d 0 % 8 = s.qdl.rank then s.dupExit
      else s.leadTake d

/-- The data bytes of the follower frame (R87). -/
def State.followerData (s : State) : List Byte :=
  let st := s.qdl.state
  let status := (s.flag F.QDL_ROLE_QUAR).toNat + 2 * (s.flag F.QDL_STAT_IN_FORMATION).toNat + 4 * (decide (st = qdlListen)).toNat
    + 8 * (s.flag F.QDL_STAT_DELAYOK).toNat + 16 * st
  [byteOf (32 + s.qdl.rank), byteOf status] ++ wbytes (s.reg Reg.QDL_ALIGN)

/-- The unit sends its frame in its rank's slot, timed from the last BSYNC edge at the lead's rate (R86, R91). -/
def State.followerFrameSend (s : State) : State :=
  if !(s.qdlRuns && decide (s.qdl.state ≤ qdlFormed)) || s.qdl.slotDone then s
  else match s.qdl.edgeAt, s.qdl.lead with
    | some t, some l =>
      let s := s.elapseTo (t + ceilDiv ((s.qdl.rank + 1) * 2 ^ 48) l.rate.toNat)
      let s := s.modQdl (fun q => { q with slotDone := true, sent := withCrc s.followerData, sentAt := some s.now })
      s.elapse (qdlHeadTicks + 10 * qdlByteTicks)
    | _, _ => s

/-- A follower frame is received (R87, R91). -/
def State.followerFrameReceive (s : State) (bs : List Byte) : State :=
  if !s.qdlRuns then s
  else match frameData 6 bs with
    | none => s.inc F.QDL_ERRCNT_CRC
    | some d =>
      let r := frameByte d 0 % 8
      if frameByte d 0 / 16 ≠ 2 then s
      else if r = s.qdl.rank then
        (if s.qdl.state = qdlFormed ∨ s.qdl.state = qdlLead then s.dupExit else s)
      else
        let st := frameByte d 1
        let cyc := s.reg Reg.CPS_BEAR_CYCLE
        let s := s.modQdl (fun q => { q with heard := modAt r (fun _ => some cyc) q.heard })
        let s := s.putFlag (F.QDL_UNIT_RQUAR r) (natBit st 0)
        let set (s : State) : State := s.putFlag (F.QDL_UNIT_INFORM r) (natBit st 1)
        let s := if s.qdl.state = qdlLead ∧ s.flag (F.QDL_UNIT_INFORM r) ≠ natBit st 1 then s.reshare set else set s
        let s := if s.qdl.state = qdlLead then
            (if natBit st 2 then s.modQdl (fun q => { q with joins := q.joins ||| ((1#8 <<< r) &&& ~~~q.joinServed) })
             else s.modQdl (fun q => { q with joinServed := q.joinServed &&& ~~~(1#8 <<< r) }))
          else s
        s.qdlShow

/-! ### Edges and echoes (R88, R89) -/

/-- A falling edge of BSYNC now (R89, R91, R93). Answers the target less the bearing, where the lead's rate is known. -/
def State.bsyncEdge (s : State) : State :=
  if !(s.qdlRuns && decide (s.qdl.state ≠ qdlLead)) then s
  else
    let b := s.bearing
    let c := s.reg Reg.CPS_BEAR_CYCLE
    let cyc := if b.msb then c + 1#32 else c
    let s := s.modQdl (fun q => { q with edgeCyc := some cyc, edgeAt := some s.now, slotDone := false })
    match s.qdl.lead with
    | none => s.qdlShow
    | some l =>
      let target := roundHalfUp ((((wbits (s.reg Reg.QDL_DELAY) 0 16) * l.rate.toNat : Nat) : Rat) / 2097152)
      let a := signed 32 (wrapBits 32 (target - (b.toNat : Int)))
      let s := s.setReg Reg.QDL_ALIGN (BitVec.ofNat 32 (wrapBits 32 a))
      let s := s.modQdl (fun q => { q with edgeTgt := (((s.cps.bear : Int) + a * 1048576) % (turn52 : Int)).toNat })
      let st := s.qdl.state
      let s := if s.qdlFollows && decide (s.get F.CPS_SRC_ACTIVE = 2) then
          ({ s with cps := { s.cps with rem := a * 1048576 } }).putFlag F.CPS_SRC_BLEND (decide (a ≠ 0) || s.flag F.CPS_SRC_BLEND)
        else s
      let s := if st = qdlHold then
          (if a.natAbs ≤ 0x91A2B then
            (if 15 ≤ s.get F.QDL_STAT_HOLDCNT then (s.put F.QDL_STAT_HOLDCNT 16).toFormed
             else s.inc F.QDL_STAT_HOLDCNT)
           else s.put F.QDL_STAT_HOLDCNT 0)
        else if st = qdlFormed then
          (let run := if 0x5B05B0 < a.natAbs then s.qdl.alignRun + 1 else 0
           let s := s.modQdl (fun q => { q with alignRun := run })
           if 4 ≤ run then s.qdlExit causeAlign else s)
        else s
      s.qdlShow

/-- The pinged follower's echo goes out 5.000 µs after the last bit (R88). -/
def State.echoSend (s : State) : State :=
  if s.qdlRuns && s.qdl.pinged && !s.qdl.echoed && decide (s.qdl.state ≠ qdlLead) then
    (s.elapseTo (s.qdl.frameAt + 2000)).modQdl (fun q => { q with echoed := true, echoAt := some (s.qdl.frameAt + 2000) })
  else s

/-- The echo's falling edge comes `m` ticks after the lead's last bit (R88). A tick of m is one unit of 1.25 ns of delay. -/
def State.echoReceive (s : State) (m : Nat) : State :=
  match s.qdl.echoOf with
  | none => s
  | some r =>
    if !(s.qdlOn && decide (s.qdl.state = qdlLead)) || decide (3600 < m) then s
    else
      let s := s.elapseTo (s.qdl.frameAt + m)
      let delay := m - 2000
      let s := s.modQdl (fun q => { q with echoOf := none })
      if 1600 < delay then s.qdlFault causeDelay else s.modQdl (fun q => { q with dlyOut := some (r, delay) })

/-- No echo by 9.000 µs (R88). -/
def State.echoTimeout (s : State) : State :=
  if s.qdlOn && decide (s.qdl.state = qdlLead) && s.qdl.echoOf.isSome then
    (s.elapseTo (s.qdl.frameAt + 3600)).modQdl (fun q => { q with echoOf := none })
  else s

/-! ### Cycles (R90 to R94) -/

/-- The lead bearing of a FORMED follower is not valid: since when (R93). -/
def State.lostJudge (s : State) : State :=
  s.modQdl (fun q => { q with lostAt := if q.state ≠ qdlFormed || s.leadValid then none else if q.lostAt.isSome then q.lostAt else some s.absBear })

/-- QDL at a BEAR_CYCLE increment: the rank takes effect, a successor takes over, and the cycle that has ended counts where its lead
bearing was valid. -/
def State.qdlCycle (s : State) : State :=
  if !s.qdlOn then s
  else
    let rank := wbits (s.reg Reg.QDL_RANK) 0 3
    let valid := s.leadValidIn (s.reg Reg.CPS_BEAR_CYCLE - 1#32)
    let s := if rank ≠ s.qdl.rank then s.putFlag (F.QDL_UNIT_INFORM s.qdl.rank) false else s
    let s := s.modQdl (fun q => { q with rank := rank, leadSent := false, validRun := if valid then q.validRun + 1 else 0 })
    let s := if s.qdl.takeover then s.toLead else s
    ((s.slewStart.lostJudge).putFlag F.QDL_STAT_LINKOK false).qdlShow

/-- OFF ends once the muster window has and LOCKED has been seen (R90). -/
def State.qdlWake (s : State) : State :=
  if s.qdlOn && decide (s.qdl.state = qdlOff) && !s.pwr.muster && s.qdl.seenLock && !s.qdl.dupHold then s.toListen else s

/-- LOCKED reads 1 (R90). -/
def State.qdlLocked (s : State) : State := if s.qdlOn then (s.modQdl (fun q => { q with seenLock := true })).qdlWake else s

/-- 8 cycles without a good lead frame (R90). -/
def State.listenTimeout (s : State) : State :=
  if s.qdlOn && decide (s.qdl.state = qdlListen) && s.turnsGone s.qdl.silentAt 8 && s.flag F.QDL_CFG_LEADOK then
    (s.modQdl (fun q => { q with state := qdlClaim, claimAt := s.absBear })).qdlShow
  else s

/-- A claim stands: its cycles are over at the absolute bearing `b` (R90). -/
def State.claimDue (s : State) (b : Int) : Bool :=
  s.qdlOn && decide (s.qdl.state = qdlClaim) && decide (s.qdl.claimAt + ((2 * s.qdl.rank * turn52 : Nat) : Int) ≤ b)

/-- No valid lead bearing for 2 cycles (R93). -/
def State.leadLost (s : State) : State :=
  match s.qdl.lostAt with
  | some a =>
    if s.qdlOn && decide (s.qdl.state = qdlFormed) && s.turnsGone a 2 && !s.qdl.takeover then s.qdlExit causeLeadLost else s
  | none => s

/-- Neither an edge nor a good frame of this cycle has come (R94). -/
def State.leadSilent (s : State) : Bool :=
  let c := s.reg Reg.CPS_BEAR_CYCLE
  s.qdlOn && s.qdlFollows && decide (s.qdl.edgeCyc ≠ some c) && decide (s.qdl.frameCyc ≠ some c)

/-- The lead is judged missing at 22.5° (R94): the lowest rank of the formation, the lead left out, takes over. -/
def State.leadMissing (s : State) : State :=
  if !s.leadSilent then s
  else
    let next := match s.qdl.lead with
      | none => none
      | some l => (List.range 8).find? (fun r => l.formation.getLsbD r && decide (r ≠ l.rank))
    let mine := decide (s.qdl.state = qdlFormed) && decide (next = some s.qdl.rank)
    ((s.modQdl (fun q => { q with leadGone := true, takeover := mine })).lostJudge).qdlShow

/-- A window of HOLD ends without a pass (R92). -/
def State.qdlWindowFail (s : State) : State :=
  if s.qdlOn && decide (s.qdl.state = qdlHold) && s.turnsGone s.qdl.winFrom (s.get F.QDL_CFG_QUALWIN) then
    let s := (s.incSat F.QDL_STAT_QFAIL).put F.QDL_STAT_HOLDCNT 0
    let s := s.modQdl (fun q => { q with winFrom := q.winFrom + ((s.get F.QDL_CFG_QUALWIN * turn52 : Nat) : Int) })
    if s.get F.QDL_STAT_QFAIL = 4 then s.qdlFault causeQwin else s
  else s

/-- The page is enabled (R90), or disabled. -/
def State.qdlPage (s : State) (on : Bool) : State :=
  let keep := s.qdl.rank
  let s := { s with qdl := { QdlSt.reset with rank := keep, seenLock := on && s.flag F.CPS_STAT_LOCKED } }
  (s.noShare.putFlag F.QDL_STAT_LINKOK false).qdlShow.qdlWake

/-- A write of 1 to the QUAR field (R47, R91), or of 0 (R50, R92). Answers whether it was a host clear. -/
def State.qdlQuarWrite (s : State) (v : Bool) : State × Bool :=
  if !s.qdlRuns then (s, false)
  else if v then (s.toListen, false)
  else if s.flag F.QDL_ROLE_QUAR then (s.toFormed, true)
  else (s, false)

/-- A write to QDL_RANK (R93, spec/04 Rank written while FORMED). -/
def State.qdlRankWrite (s : State) (v : Word) : State :=
  ((s.setReg Reg.QDL_RANK (BitVec.ofNat 32 (wbits v 0 3))).modQdl (fun q =>
    { q with dupHold := false, rank := if q.state = qdlOff then wbits v 0 3 else q.rank })).qdlWake

end Sys2Proof.Machine
end

