-- ==== Sys2Proof/Machine/Pins.lean ====
section
/-! DEFINITION. The pins (spec/23 R493 to R499, R512, R513): what drives each, the boundary cells of the test-access port, the
levels GPIO reads, the edges that pulse EV57 to EV59, and the writes refused while ARMED. -/

namespace Sys2Proof.Machine

/-- What the PX410 drives a pin to. -/
inductive Drive where
  /-- high-impedance -/
  | off
  | level (b : Bool)
  /-- driven, at a level the spec does not fix at a tick (a clock, a serial line that is sending) -/
  | moving
  deriving DecidableEq, Repr

/-- Open-drain pins: IRQ_A, IRQ_B, BSYNC, BSHARE. -/
def pinOd (k : Nat) : Bool := decide (5 ≤ k) && decide (k ≤ 8)

/-- Pin k as a GPIO. -/
def State.gpioDrive (s : State) (k : Nat) : Drive :=
  if s.bitOf Reg.PINS_GPIO_DIR k then .level (s.bitOf Reg.PINS_GPIO_OUT k) else .off

/-- Pin k in its primary function (R496). -/
def State.primaryDrive (s : State) (k : Nat) : Drive :=
  if k < 3 then s.gpioDrive k
  else if k = 3 ∨ k = 4 then (if s.domOn 6 && s.bitOf Reg.ADCX_CLK_CFG (5 + k) then .level (s.sdckLevel (k - 3)) else .off)
  else if k = 5 ∨ k = 6 then (if 0 < s.irqStart.irqCount (k - 5) then .level false else .off)
  else if k = 7 then (if s.bsyncLow then .level false else .off)
  else if k = 8 then (if s.bshareLow then .level false else .off)
  else if k = 9 ∨ k = 12 then
    (if !s.domOn 10 then .off
     else if s.flag (if k = 9 then F.BUS_U1_STAT_BUSY else F.BUS_U2_STAT_BUSY) then .moving else .level true)
  else if k = 11 ∨ k = 14 then
    (if !s.domOn 10 then .off
     else if s.flag (if k = 11 then F.BUS_U1_STAT_BUSY else F.BUS_U2_STAT_BUSY) then .moving else .level false)
  else .off

/-- What the functions drive configurable pin k to (R494 to R496, R513). An open-drain pin is released by a 1. -/
def State.funcDrive (s : State) (k : Nat) : Drive :=
  if !s.domOn 1 || !s.pageEn Pg.PINS then .off
  else
    let d := match s.pinFunc k with
      | 1 => s.primaryDrive k
      | 2 => s.gpioDrive k
      | 3 => .level ((nth { level := false, until? := none } s.cmp.out (wbits (s.reg (Reg.PINS_FUNC k)) 4 2)).level)
      | _ => .off
    if pinOd k && decide (d = .level true) then .off else d

/-! ### Boundary cells (R512) -/

/-- The package pin of configurable pin k (R493). -/
def pinOfIndex (k : Nat) : Nat :=
  if k < 3 then 72 + k else if k = 3 then 29 else if k = 4 then 34 else if k = 5 then 87 else if k = 6 then 88
  else if k = 7 then 70 else if k = 8 then 71 else if k < 15 then 86 + k else if k < 19 then 15 + k else 16 + k

/-- The configurable pin at a package pin. -/
def indexOfPin (p : Nat) : Option Nat := (List.range 23).find? (fun k => pinOfIndex k = p)

/-- Digital signal pins without a test-access function: those have an input cell. GATE_HS0 and GATE_HS1 have no input cell. -/
def pinDigital (p : Nat) : Bool :=
  (decide (29 ≤ p) && decide (p ≤ 38)) || (decide (41 ≤ p) && decide (p ≤ 47)) || (decide (52 ≤ p) && decide (p ≤ 63)) ||
  (decide (66 ≤ p) && decide (p ≤ 74)) || decide (p = 76) || (decide (81 ≤ p) && decide (p ≤ 88)) ||
  (decide (93 ≤ p) && decide (p ≤ 100))

/-- Outputs that EXTEST can only release or switch off: gates, relay drives, GATE_HSn. -/
def pinPower (p : Nat) : Bool :=
  p = 48 || p = 49 || (decide (52 ≤ p) && decide (p ≤ 63)) || (decide (66 ≤ p) && decide (p ≤ 69))

/-- Pins that can drive: those have an output and an enable cell. -/
def pinDrives (p : Nat) : Bool :=
  (indexOfPin p).isSome || pinPower p || (decide (83 ≤ p) && decide (p ≤ 86)) || p = 93 || p = 94

/-- The cells of one pin. -/
inductive CellKind where
  | input
  | output
  | enable
  deriving DecidableEq, Repr

/-- The boundary register from TDI to TDO: pins in descending number, input, output, enable. -/
def boundaryCells : List (Nat × CellKind) :=
  ((List.range 101).reverse).flatMap (fun p =>
    (if pinDigital p then [(p, CellKind.input)] else []) ++
    (if pinDrives p then [(p, CellKind.output), (p, CellKind.enable)] else []))

/-- The latched value of a cell; a cell nothing has loaded holds 0. -/
def State.cellLatch (s : State) (p : Nat) (k : CellKind) : Bool :=
  ((boundaryCells.zip s.jtag.latch).find? (fun e => decide (e.1 = (p, k)))).elim false Prod.snd

/-- What EXTEST drives pin `p` to. Power-stage pins can only be released or held at their off level. -/
def State.extestDrive (s : State) (p : Nat) : Drive :=
  if !s.cellLatch p .enable then .off
  else if pinPower p then .level false
  else
    let b := s.cellLatch p .output
    if (match indexOfPin p with | some k => pinOd k | none => p = 93 || p = 94) && b then .off else .level b

/-- EXTEST is in force (R512). -/
def State.extest (s : State) : Bool := s.domReady 1 && decide (s.jtag.ir = 0#4)

/-- What the PX410 drives configurable pin k to. -/
def State.pinDrive (s : State) (k : Nat) : Drive :=
  if s.extest then s.extestDrive (pinOfIndex k) else s.funcDrive k

/-- What the functions drive a package pin to (R423, R441, R499). -/
def State.padDrive (s : State) (p : Nat) : Drive :=
  match indexOfPin p with
  | some k => s.funcDrive k
  | none =>
    if 52 ≤ p ∧ p ≤ 63 then
      (if s.domReady 5 && (s.bridgeOn || s.gd.sdLow.isSome) then .level (natBit s.gateLevels (p - 52)) else .off)
    else if 66 ≤ p ∧ p ≤ 69 then
      (if s.domReady 5 && s.pageEn Pg.RLY && s.estopActive then .level false
       else if s.domReady 5 && s.pageEn Pg.RLY then
        (let d := nth (false, false) s.rly.drive ((p - 66) / 2)
         .level (if p % 2 = 0 then d.1 else d.2))
       else .off)
    else if p = 48 ∨ p = 49 then
      (if s.domReady 10 && s.pageEn Pg.HSW then
        (if s.get (F.HSW_STAT_STATE (p - 48)) ∈ [2, 3] then .moving else .level false) else .off)
    else if p = 93 then (if s.sb.held.isSome then .level false else .off)
    else .off

/-- A capture of the boundary cells. The level at a pin that nothing in the state fixes is free. -/
def State.tapCapture (s : State) : List Bool × State :=
  let one (i : Nat) (c : Nat × CellKind) : Bool :=
    let free := (Config.freeWord (s.freeIdx + i / 32)).getLsbD (i % 32)
    let d := if s.extest && pinDrives c.1 then s.extestDrive c.1 else s.padDrive c.1
    match c.2, d with
    | .enable, .off => false
    | .enable, _ => true
    | .output, .level b => b
    | .output, .off => free
    | .output, .moving => free
    | .input, .level b => b
    | .input, .moving => free
    | .input, .off =>
      if 72 ≤ c.1 ∧ c.1 ≤ 74 then s.pins.gpio.getLsbD (c.1 - 72) else if c.1 = 47 then !s.gd.estopPin else free
  let n := boundaryCells.length
  (((List.range n).zip boundaryCells).map (fun e => one e.1 e.2), { s with freeIdx := s.freeIdx + (n + 31) / 32 })

/-- The instruction register is loaded (R512): EXTEST while ARMED acts as BYPASS, as do codes without a meaning. -/
def State.tapLoad (s : State) (ir : BitVec 4) : State :=
  if !s.domReady 1 then s
  else
    let ir := if ir = 2#4 ∨ (ir = 0#4 ∧ !s.gd.armed) then ir else 0xF#4
    { s with jtag := { s.jtag with ir := ir } }

/-- A scan of the boundary register under EXTEST or SAMPLE/PRELOAD: captured, then loaded. -/
def State.tapScan (s : State) (cells : List Bool) : State :=
  if s.domReady 1 && (s.jtag.ir = 0#4 || s.jtag.ir = 2#4) then
    let (c, t) := s.tapCapture
    { t with jtag := { t.jtag with captured := c, latch := cells } }
  else s

/-! ### GPIO -/

/-- The level of GPIO0, GPIO1 or GPIO2: the PX410's own where it drives the pin, the board's elsewhere. -/
def State.gpioLevel (s : State) (k : Nat) : Bool :=
  match s.pinDrive k with
  | .level b => b
  | _ => s.pins.gpio.getLsbD k

/-- PINS_GPIO_IN as it reads. Bits of pins that nothing in the state fixes are free. -/
def State.gpioIn (s : State) : Word × State :=
  let (free, t) := s.freeVal
  let bit (k : Nat) : Bool := match s.pinDrive k with
    | .level b => b
    | .off => if k < 3 then s.pins.gpio.getLsbD k else free.getLsbD k
    | .moving => free.getLsbD k
  (BitVec.ofNat 32 ((List.range 23).map (fun k => if bit k then 2 ^ k else 0)).sum, t)

/-- The levels of GPIO0 to GPIO2. -/
def State.gpioLevels (s : State) : BitVec 3 :=
  BitVec.ofNat 3 ((List.range 3).map (fun k => if s.gpioLevel k then 2 ^ k else 0)).sum

/-- Edges of GPIO0 to GPIO2 selected in PINS_GPIO_IRQ pulse EV57 to EV59 (R495). -/
def State.gpioReview (s : State) : State :=
  if !s.domReady 1 then s
  else
    let lv := s.gpioLevels
    let t := { s with pins := { s.pins with seen := lv } }
    (List.range 3).foldl (fun t k =>
      let sel := wbits (s.reg Reg.PINS_GPIO_IRQ) (2 * k) 2
      let was := s.pins.seen.getLsbD k
      let up := !was && lv.getLsbD k && natBit sel 0
      let down := was && !lv.getLsbD k && natBit sel 1
      if up || down then t.pulse (57 + k) else t) t

/-- A PINS_FUNC write that is refused while the bridge is ARMED (R218, R497). -/
def State.funcRefused (s : State) (k : Nat) (v : Word) : Bool :=
  let change := decide (wbits v 0 3 ≠ wbits (s.reg (Reg.PINS_FUNC k)) 0 3)
  s.gd.armed && ((change && (decide (k = 3) || decide (k = 4) || (decide (15 ≤ k) && decide (k ≤ 22)))) ||
    (decide (k < 3) && s.elcOn && decide (s.pinFunc k = 4) && decide (wbits v 0 3 ≠ 4)))

/-- GPIO0 to GPIO2 have their ELC function (R218). -/
def State.elcPins (s : State) : Bool := s.pageEn Pg.PINS && (List.range 3).all (fun k => decide (s.pinFunc k = 4))

end Sys2Proof.Machine
end

