-- ==== Sys2Proof/Machine/Met.lean ====
section
/-! DEFINITION. The Sextant (spec/15): metering cycles, energy, intervals, harmonics, sequence and missing neutral, and the
meter angle. -/

namespace Sys2Proof.Machine

/-! ### Samples and phasors -/

/-- The conversion channels the Sextant takes, by the place of their samples: IA to IN, VA to VC, VN (R316). -/
def metChans : List Nat := [0, 1, 2, 3, 4, 5, 6, 16]

/-- The Sextant works: D9 MET is ready and a page of it is enabled. -/
def State.metWorks (s : State) : Bool := s.live Pg.MET || s.live Pg.HRM

/-- A channel delivers M-path samples (R316, R317). -/
def State.metTakes (s : State) (ch : Nat) : Bool := s.adcOn ch && s.adcMen ch

/-- Full scales (R316, R333). -/
def State.vfs (s : State) : Rat := (max 1 (s.get F.MET_CFG_VFS) : Nat)
def State.ifs (s : State) : Rat := (max 1 (s.get F.MET_CFG_IFS) : Nat)

/-- The value of a code at place `c`, in volts or amperes (R316). -/
def State.metScale (s : State) (c : Nat) (code : Int) : Rat :=
  if c < 4 then (code : Rat) / 8388608 * s.ifs
  else if c < 7 then (code : Rat) / 8388608 * s.vfs
  else ((code : Rat) / 4194304 - 1) * s.vfs

/-- The samples of place `c` in the cycle to be closed; all absent where the channel gave none. -/
def State.metCodes (s : State) (c : Nat) : List (Option Int) :=
  match nth [] s.met.got c with
  | (_, xs) :: _ => xs
  | [] => List.replicate 256 none
def State.metVals (s : State) (c : Nat) : List (Option Rat) := (s.metCodes c).map (Option.map (s.metScale c))

/-- Pairs of samples both present. -/
def pairUp : List (Option Rat) → List (Option Rat) → List (Rat × Rat)
  | some a :: as, some b :: bs => (a, b) :: pairUp as bs
  | _ :: as, _ :: bs => pairUp as bs
  | _, _ => []

def ratSum (xs : List Rat) : Rat := xs.foldl (fun a x => a + x) 0
def ratMean (xs : List Rat) : Rat := quot (ratSum xs) (xs.length : Rat)
/-- The mean square of the samples present. -/
def meanSq (xs : List (Option Rat)) : Rat := ratMean ((xs.filterMap id).map (fun x => x * x))
def allPresent {α : Type} (xs : List (Option α)) : Bool := xs.all Option.isSome

/-- Bin `m` of a transform over `n` samples, as an rms phasor (R318, R323). -/
def rmsBin (xs : List Rat) (m n : Nat) : Cx :=
  let ang (k : Nat) : Rat := ((m * k % n : Nat) : Rat) * 4294967296 / (n : Rat)
  let z := (List.range n).foldl (fun (a : Cx) k =>
    { d := a.d + nth 0 xs k * cosQ (ang k), q := a.q - nth 0 xs k * sinQ (ang k) }) Cx.zero
  z.scale (quot (sqrtQ 2) (n : Rat))

def Cx.conj (a : Cx) : Cx := { d := a.d, q := -a.q }
def Cx.abs (a : Cx) : Rat := sqrtQ a.norm2
/-- The argument in bearing units. -/
def Cx.arg (a : Cx) : Rat := atan2Q a.q a.d

/-- Multiplication by a = exp(+j·120°) and by a². -/
def rot120 : Cx := { d := -1 / 2, q := sqrtQ 3 / 2 }
def rot240 : Cx := { d := -1 / 2, q := -sqrtQ 3 / 2 }
def posSeq (a b c : Cx) : Cx := ((a.add (rot120.mul b)).add (rot240.mul c)).scale (1 / 3)
def negSeq (a b c : Cx) : Cx := ((a.add (rot240.mul b)).add (rot120.mul c)).scale (1 / 3)

/-! ### Cycles (R317) -/

/-- A cycle of the angle ends now (a BEAR_CYCLE increment, or a turn of the meter angle). -/
def State.metCycleEnd (s : State) : State :=
  let m := s.met
  { s with met := { m with
      ended := if s.metWorks then m.ended ++ [(s.now, s.now - m.openAt, !s.domOn 3)] else m.ended
      openAt := s.now } }

/-- A channel's cycle of samples is complete. -/
def State.metGot (s : State) (ch : Nat) : State :=
  match metChans.findIdx? (fun x => x = ch) with
  | none => s
  | some c =>
    if s.metWorks then
      { s with met := { s.met with got := modAt c (fun q => q ++ [(s.now, (s.adcCh ch).mLast)]) s.met.got } }
    else s

/-- Sample k of the cycle arrives, at the tap too (R111, R114). -/
def State.mArrive (s : State) (ch : Nat) (dens : Int) : State :=
  let t := s.mSample ch dens
  if s.metTakes ch && decide ((s.adcCh ch).nextI % 256 = 255) then t.metGot ch else t

/-- Every channel waited for has given the cycle to be closed. -/
def State.metReady (s : State) : Bool :=
  !s.met.ended.isEmpty &&
  (List.range 8).all (fun c => !s.metTakes (nth 0 metChans c) || !(nth [] s.met.got c).isEmpty)

/-- The close tick: 4,096 ticks after the last index became visible. -/
def State.metCloseAt (s : State) : Nat :=
  let e := match s.met.ended with
    | (t, _) :: _ => t
    | [] => s.now
  4096 + (List.range 8).foldl (fun a c => match nth [] s.met.got c with
    | (t, _) :: _ => max a t
    | [] => a) e

/-! ### One cycle's values (R318, R319) -/

/-- The phasor of place `c`: held where a sample is absent. -/
def State.metPhasor (s : State) (c : Nat) (last : Cx) : Cx :=
  let xs := s.metVals c
  if allPresent xs then rmsBin (xs.filterMap id) 1 256 else last

/-- Phase `x`: its values, what is kept, whether its energy is lost. -/
def State.metPhase (s : State) (x : Nat) : MetVals × MetPhase × Bool :=
  let old := nth MetPhase.zero s.met.phases x
  let v := s.metVals (s.vChan x)
  let i := s.metVals (s.iChan x)
  let v1 := s.metPhasor (s.vChan x) old.v1
  let i1 := s.metPhasor (s.iChan x) old.i1
  let s1 := v1.mul i1.conj
  let pairs := pairUp v i
  let v2 := meanSq v
  let i2 := meanSq i
  let ok := decide (128 ≤ pairs.length)
  let run := if ok then 0 else old.run + 1
  let lost := decide (8 < run)
  let p := if ok then ratMean (pairs.map (fun a => a.1 * a.2)) else if lost then 0 else old.p
  let q1 := if ok then s1.q else if lost then 0 else old.q1
  let ss := if ok then sqrtQ v2 * sqrtQ i2 else if lost then 0 else old.s
  let q := sqrtQ (if ss * ss - p * p < 0 then 0 else ss * ss - p * p)
  ({ v2 := v2, i2 := i2, p := p, p1 := s1.d, q := if q1 < 0 then -q else q, q1 := q1, s := ss, s1 := v1.abs * i1.abs },
   { v1 := v1, i1 := i1, p := p, q1 := q1, s := ss, run := run }, lost)

def MetVals.add (a b : MetVals) : MetVals :=
  { v2 := a.v2 + b.v2, i2 := a.i2 + b.i2, p := a.p + b.p, p1 := a.p1 + b.p1, q := a.q + b.q, q1 := a.q1 + b.q1, s := a.s + b.s,
    s1 := a.s1 + b.s1 }
def MetVals.scale (k : Rat) (a : MetVals) : MetVals :=
  { v2 := k * a.v2, i2 := k * a.i2, p := k * a.p, p1 := k * a.p1, q := k * a.q, q1 := k * a.q1, s := k * a.s, s1 := k * a.s1 }

/-- Three-wire: IN and VN take no part (R316, R318). -/
def State.wire3 (s : State) : Bool := s.flag F.MET_CFG_WIRE3

/-- Index 3: the totals, and the neutral's mean squares. -/
def State.metTotal (s : State) (xs : List MetVals) : MetVals :=
  let t := xs.foldl MetVals.add MetVals.zero
  { t with v2 := if s.wire3 then 0 else meanSq (s.metVals 7), i2 := if s.wire3 then 0 else meanSq (s.metVals 3) }

/-! ### Energy (R320, R321) -/

/-- `e` units of 0.001 Wh go to accumulator `k`; what is below a unit is carried. -/
def MetSt.credit (m : MetSt) (k : Nat) (e : Rat) : MetSt :=
  let r := nth 0 m.res k + e
  { m with acc := modAt k (fun a => (a + r.floor.toNat) % 2 ^ 64) m.acc, res := modAt k (fun _ => r - (r.floor : Rat)) m.res }

/-- The energy of index `p` in a cycle of `t` ticks. -/
def MetSt.energy (m : MetSt) (p : Nat) (v : MetVals) (t : Nat) : MetSt :=
  let part (x : Rat) : Rat := x * (t : Rat) / 400000
  let e := part v.p / 3600
  let q := part v.q1 / 3600
  let m := if 0 < e then m.credit (4 * p) e else if e < 0 then m.credit (4 * p + 1) (-e) else m
  if 0 < q then m.credit (4 * p + 2) q else if q < 0 then m.credit (4 * p + 3) (-q) else m

/-- MET_ENERGY shows the accumulators, and bank B4 holds them anew. -/
def State.metShow (s : State) : State :=
  let s := { s with met := { s.met with touched := false } }
  (List.range 32).foldl (fun s k =>
    let a := nth 0 s.met.acc (k / 8 * 4 + k % 8 / 2)
    s.setReg (Reg.MET_ENERGY (k / 8) (k % 8)) (BitVec.ofNat 32 (if k % 2 = 0 then a else a / 2 ^ 32))) s

/-- Every accumulator and residue becomes 0. -/
def State.metZero (s : State) : State :=
  ({ s with met := { s.met with acc := List.replicate 16 0, res := List.replicate 16 0 } }).metShow

/-- ECLR (R321): what a close of the same tick adds is cleared too (spec/15 At the edges). -/
def State.eclr (s : State) (master ctx : BitVec 8) : State :=
  let s := { s with met := { s.met with clearAt := some s.now } }
  s.metZero.logRec 0x1C02 0#32 (BitVec.ofNat 32 (master.toNat * 256 + ctx.toNat))

/-- D9 MET powers up, or a reset has ended (R321): `lost` says that bank B4 kept nothing. -/
def State.metRestore (s : State) (lost : Bool) : State :=
  if lost || s.met.touched then
    (s.metZero.setFlag F.MET_STAT_ELOST).logRec 0x1C01 (if lost then 1#32 else 2#32) 0#32
  else s.metShow

/-! ### Sequence, unbalance, neutral (R328, R329) -/

/-- An indicator of R329: none where it is not evaluated. -/
def State.ndisp (s : State) : Option Bool :=
  if (s.metVals 7).any Option.isSome then
    let t : Rat := ((2 * s.get F.MET_CFG_NDTHR : Nat) : Rat)
    some (decide (t * t < meanSq (s.metVals 7)))
  else none

/-- Differences of samples both present. -/
def lineVals : List (Option Rat) → List (Option Rat) → List (Option Rat)
  | a :: as, b :: bs => (match a, b with | some x, some y => some (x - y) | _, _ => none) :: lineVals as bs
  | _, _ => []

def spread (xs : List Rat) : Rat := (listMax xs).getD 0 - (listMin xs).getD 0

def State.nspread (s : State) : Option Bool :=
  let v (x : Nat) := s.metVals (s.vChan x)
  if [0, 1, 2].all (fun x => (v x).any Option.isSome) then
    let ph := [0, 1, 2].map (fun x => sqrtQ (meanSq (v x)))
    let ln := [(0, 1), (1, 2), (2, 0)].map (fun (a : Nat × Nat) => sqrtQ (meanSq (lineVals (v a.1) (v a.2))))
    some (decide (15 / 100 * ratMean ph < spread ph) && decide (spread ln ≤ 5 / 100 * ratMean ln))
  else none

def State.ncons (s : State) : Option Bool :=
  let i (x : Nat) := s.metVals x
  if s.wire3 || !([0, 1, 2, 3].all (fun x => (i x).any Option.isSome)) then none
  else
    let sums := (List.range 256).filterMap (fun n =>
      match nth none (i 0) n, nth none (i 1) n, nth none (i 2) n, nth none (i 3) n with
      | some a, some b, some c, some d => some (a + b + c + d)
      | _, _, _, _ => none)
    let top := (listMax ([0, 1, 2].map (fun x => meanSq (i x)))).getD 0
    some (decide (25 / 10000 * top < ratMean (sums.map (fun x => x * x))) && decide (25 / 10000 * (s.ifs * s.ifs / 2) ≤ top))

def State.setNeutral (s : State) (v : Bool) : State :=
  if s.flag F.MET_STAT_NEUTRAL = v then s
  else
    let s := (s.putFlag F.MET_STAT_NEUTRAL v).note Pg.MET 2
    if v then s.logRec 0x1C10 0#32 0#32 else s

/-- The missing-neutral judgement of a close. -/
def State.neutral (s : State) : State :=
  let a := s.ndisp
  let b := s.nspread
  let c := s.ncons
  let s := ((s.putFlag F.MET_STAT_NDISP (a.getD false)).putFlag F.MET_STAT_NSPREAD (b.getD false)).putFlag F.MET_STAT_NCONS
    (c.getD false)
  let seen := ([a, b, c].filter Option.isSome).length
  let hold := ([a, b, c].filter (fun x => x = some true)).length
  let enough := if s.wire3 then a.isSome && b.isSome else decide (2 ≤ seen)
  let suspect := if s.wire3 then decide (a = some true) && decide (b = some true) else decide (2 ≤ hold)
  let s := if enough then
      { s with met := { s.met with suspect := if suspect then s.met.suspect + 1 else 0
                                   clean := if hold = 0 then s.met.clean + 1 else 0 } } else s
  if !s.flag F.MET_CFG_NEUTEN then s.setNeutral false
  else if 3 ≤ s.met.suspect then s.setNeutral true
  else if 10 ≤ s.met.clean then s.setNeutral false
  else s

/-- MET_STAT.SEQ (R328). -/
def State.metSeq (s : State) : State :=
  if s.domOn 3 && (s.flag F.MET_STAT_SEQ != s.flag F.CPS_STAT_SEQ_WRONG) then
    (s.putFlag F.MET_STAT_SEQ (s.flag F.CPS_STAT_SEQ_WRONG)).note Pg.MET 1
  else s

/-! ### Intervals (R322) -/

/-- A quotient that reads 0 where its divisor is 0 (R318). -/
def quotZero (a b : Rat) : Rat := if b = 0 then 0 else a / b

def lo16 (x : Int) : Nat := wrapBits 16 (clampInt (-32768) 32767 x)
def half2 (a b : Nat) : Word := BitVec.ofNat 32 (a + 65536 * b)

/-- The registers of index `p` take the interval's values. -/
def State.metPut (s : State) (p : Nat) (t : Rat) (v : MetVals) : State :=
  let m := v.scale (quot 1 t)
  let u16 (x : Rat) : Nat := satTo 65535 (roundHalfUp x).toNat
  let s := s.setReg (Reg.MET_VRMS p) (BitVec.ofNat 32 (sqrtRound (m.v2 * 1000000)))
  let s := s.setReg (Reg.MET_IRMS p) (BitVec.ofNat 32 (sqrtRound (m.i2 * 1000000)))
  let s := s.setReg (Reg.MET_P p) (half2 (lo16 (roundHalfUp (m.p / 10))) (lo16 (roundHalfUp (m.p1 / 10))))
  let s := s.setReg (Reg.MET_Q p) (half2 (lo16 (roundHalfUp (m.q / 10))) (lo16 (roundHalfUp (m.q1 / 10))))
  let s := s.setReg (Reg.MET_S p) (half2 (u16 (m.s / 10)) (u16 (m.s1 / 10)))
  s.setReg (Reg.MET_PF p) (half2 (lo16 (roundHalfUp (quotZero m.p m.s * 32768))) (lo16 (roundHalfUp (quotZero m.p1 m.s1 * 32768))))

/-- The interval ends. -/
def State.metInterval (s : State) : State :=
  let m := s.met
  let t : Rat := (m.ticks : Rat)
  let s := (List.range 4).foldl (fun s p => s.metPut p t (nth MetVals.zero m.sums p)) s
  let s := s.setReg Reg.MET_FREQ (BitVec.ofNat 32 (roundHalfUp (quot ((m.n : Rat) * 400000000 * 1048576) t)).toNat)
  let s := (s.put F.MET_STAT_GAP m.gap.toNat).putFlag F.MET_STAT_NOLOCK m.noLock
  let s := s.put F.MET_STAT_VUNB (satTo 255 (roundHalfUp (1000 * quot m.unb (m.unbN : Rat))).toNat)
  let s := (s.inc F.MET_INTERVAL_COUNT).noteNext Pg.MET 0
  { s with met := { s.met with n := 0, ticks := 0, sums := List.replicate 4 MetVals.zero, gap := 0#4, noLock := false, unb := 0, unbN := 0 } }

/-- LEN as an interval takes it. -/
def State.metLen (s : State) (field : Nat) : Nat := if field = 0 then (if s.nomHz = 60 then 12 else 10) else field

/-- A metering cycle of `t` ticks closes. -/
def State.metClose (s : State) (t : Nat) : State :=
  let held := !([4, 5, 6].all (fun c => allPresent (s.metVals c)))
  let ph := (List.range 3).map s.metPhase
  let vals := ph.map (fun x => x.1)
  let all := vals ++ [s.metTotal vals]
  let gap (x : Nat) : Bool :=
    if x < 3 then !(allPresent (s.metVals (s.vChan x)) && allPresent (s.metVals (s.iChan x)))
    else !((s.wire3 || allPresent (s.metVals 3)) && allPresent (s.metVals 7))
  let gaps := (List.range 4).foldl (fun a x => if gap x then a + 2 ^ x else a) 0
  let v (x : Nat) : Cx := (nth MetPhase.zero (ph.map (fun y => y.2.1)) x).v1
  let vn := (negSeq (v 0) (v 1) (v 2)).abs
  let vp := (posSeq (v 0) (v 1) (v 2)).abs
  let m := s.met
  let m := { m with
    len := if m.n = 0 then s.metLen (s.get F.MET_INTERVAL_LEN) else m.len
    phases := ph.map (fun y => y.2.1)
    n := m.n + 1
    ticks := m.ticks + t
    sums := (List.range 4).map (fun p => (nth MetVals.zero m.sums p).add ((nth MetVals.zero all p).scale (t : Rat)))
    gap := m.gap ||| BitVec.ofNat 4 gaps
    noLock := m.noLock || !s.flag F.CPS_STAT_LOCKED
    unb := if held then m.unb else m.unb + quot vn vp
    unbN := if held then m.unbN else m.unbN + 1
    argPrev := m.arg
    arg := if allPresent (s.metVals 4) then some (v 0).arg else none }
  let m : MetSt := if s.met.clearAt = some s.now then m else (List.range 4).foldl (fun (m : MetSt) p => m.energy p (nth MetVals.zero all p) t) m
  let s : State := ({ s with met := m } : State).metShow
  let s : State := if ph.any (fun y => y.2.2) then s.setFlag F.MET_STAT_ELOSS else s
  let s := (s.putFlag F.MET_STAT_FREE (!s.domOn 3)).metSeq.neutral
  if s.met.len ≤ s.met.n then s.metInterval else s

/-! ### Harmonics (R323 to R327) -/

/-- The place of HRM channel `c`: VA, VB, VC, VN, IA, IB, IC, IN, after the remap. -/
def State.hrmPlace (s : State) (c : Nat) : Nat :=
  if c < 3 then s.vChan c else if c = 3 then 7 else if c < 7 then s.iChan (c - 4) else 3

/-- The highest order of the channel at place `c`, with the shortest cycle of the window `t` ticks (R324). -/
def State.hrmMax (s : State) (c t : Nat) : Nat :=
  let ch := nth 0 metChans c
  min 63 ((2 * t) / (5 * s.modClk ch * s.mosr ch))

/-- G_h squared (R323). -/
def groupSq (xs : List Rat) (w grp h : Nat) : Rat :=
  let n := 256 * w
  let bin (i : Int) : Rat := (rmsBin xs (((h * w : Nat) : Int) + i).toNat n).norm2
  if grp = 2 then bin 0
  else if grp = 1 then bin (-1) + bin 0 + bin 1
  else
    (List.range (2 * w + 1)).foldl (fun (a : Rat) (k : Nat) =>
      let i : Int := (k : Int) - (w : Int)
      if 2 * i.natAbs < w then a + bin i else if 2 * i.natAbs = w then a + bin i / 2 else a) 0

/-- The results of one channel over a window. -/
def State.hrmCalc (s : State) (c w grp t : Nat) (xs : List Rat) : HrmCh :=
  let hmax := s.hrmMax (s.hrmPlace c) t
  let g (h : Nat) : Rat := sqrtQ (groupSq xs w grp h)
  let n := 256 * w
  let ph1 := (rmsBin xs w n).arg
  let ph (h : Nat) : Rat := (rmsBin xs (h * w) n).arg - (h : Rat) * ph1
  let sumSq := (List.range 62).foldl (fun (a : Rat) k => if k + 2 ≤ hmax then a + groupSq xs w grp (k + 2) else a) 0
  let word (h : Nat) : Word :=
    if hmax < h then 0#32
    else BitVec.ofNat 32 (satTo 16777215 (roundHalfUp (g h * 1000)).toNat
      + 16777216 * satTo 255 (roundHalfUp (1000 * quot (g h) (g 1))).toNat)
  let pct (x : Rat) : Nat := satTo 65535 (roundHalfUp (10000 * x)).toNat
  let il : Rat := (s.get F.HRM_CFG_IL : Rat) / 10
  { mag := (List.range 63).map (fun k => word (k + 1))
    ph := (List.range 63).map (fun k =>
      if k = 0 ∨ hmax < k + 1 then 0 else wrapBits 16 (roundHalfUp (ph (k + 1) / 65536)))
    hmax := hmax
    thd := if g 1 = 0 then 0#32 else BitVec.ofNat 32 (65536 + pct (sqrtQ sumSq / g 1))
    tdd := if c < 4 ∨ il = 0 then 0#32 else BitVec.ofNat 32 (65536 + pct (sqrtQ sumSq / il))
    skipped := false }

/-- The next channel in numeric order whose MASK bit is 1 (R327). -/
def State.hrmNext (s : State) : Nat :=
  if !s.flag F.HRM_CFG_AUTO then s.get F.HRM_SEL_CH
  else
    let mask := s.get F.HRM_SEL_MASK
    match (List.range 8).find? (fun k => natBit mask ((s.hrm.shown + 1 + k) % 8)) with
    | some k => (s.hrm.shown + 1 + k) % 8
    | none => s.hrm.shown

/-- The results are placed together (R325). -/
def State.hrmPlaceNow (s : State) : State :=
  match s.hrm.ready with
  | none => s
  | some (_, chs, noLock, w, grp, cyc) =>
    let s := { s with hrm := { s.hrm with ch := chs, ready := none, placed := (w, grp, cyc) } }
    let c := s.hrm.shown
    let r := nth HrmCh.reset chs c
    let s := (List.range 62).foldl (fun s k =>
      (s.setReg (Reg.HRM_MAG k) (nth 0#32 r.mag (k + 1))).setReg (Reg.HRM_PHASE k) (BitVec.ofNat 32 (nth 0 r.ph (k + 1)))) s
    let s := (List.range 8).foldl (fun s k => s.setReg (Reg.HRM_THD k) (nth HrmCh.reset chs k).thd) s
    let s := (List.range 4).foldl (fun s k => s.setReg (Reg.HRM_TDD k) (nth HrmCh.reset chs (k + 4)).tdd) s
    let s := ((s.put F.HRM_STAT_HMAX r.hmax).putFlag F.HRM_STAT_NOLOCK noLock).putFlag F.HRM_STAT_SKIPPED r.skipped
    let s := if r.skipped then s.inc F.HRM_STAT_SKIPCNT else s
    (((s.inc F.HRM_STAT_WINCNT).put F.HRM_SEL_SHOWN c).putFlag F.HRM_STAT_FREE (!s.domOn 3)).noteNext Pg.HRM 0

/-- The window's last cycle has closed: the results, to be placed. -/
def State.hrmWindow (s : State) : State :=
  let h := s.hrm
  let grp := s.get F.HRM_CFG_GROUP
  let chs := (List.range 8).map (fun c =>
    let xs := nth [] h.win (s.hrmPlace c)
    let old := nth HrmCh.reset h.ch c
    if h.free || !allPresent xs then
      { old with skipped := true, thd := old.thd &&& 0xFFFEFFFF#32, tdd := old.tdd &&& 0xFFFEFFFF#32 }
    else s.hrmCalc c h.w grp h.tMin ((List.range xs.length).map (fun k =>
      s.metScale (s.hrmPlace c) ((nth none xs k).getD 0))))
  { s with hrm := { h with n := 0, win := List.replicate 8 [],
                           ready := some (s.now, chs, h.noLock, h.w, grp, s.reg Reg.CPS_BEAR_CYCLE) } }

/-- A cycle of `t` ticks closes for the harmonic windows; `free` on the meter angle. -/
def State.hrmClose (s : State) (t : Nat) (free : Bool) : State :=
  let s := s.hrmPlaceNow
  let h := s.hrm
  let first := decide (h.n = 0)
  let h := { h with
    w := if first then s.metLen (s.get F.HRM_CFG_WIN) else h.w
    shown := if first then s.hrmNext else h.shown
    n := h.n + 1
    win := (List.range 8).map (fun c => (if first then [] else nth [] h.win c) ++ s.metCodes c)
    tMin := if first then t else min h.tMin t
    noLock := (!first && h.noLock) || !s.flag F.CPS_STAT_LOCKED
    free := (!first && h.free) || free }
  let s := ({ s with hrm := h }).putFlag F.HRM_STAT_FREE (!s.domOn 3)
  if h.w ≤ h.n then s.hrmWindow else s

/-- HRM_WINDOW_PLACE: at the latest 25,600 ticks after the close (R325). -/
def State.hrmWindowPlace (s : State) : State :=
  match s.hrm.ready with
  | none => s
  | some r => if s.live Pg.HRM then (s.elapseTo (r.1 + 25600)).hrmPlaceNow else s

/-- The Sextant closes a cycle (R317). -/
def State.metCycleClose (s : State) : State :=
  if !(s.metWorks && s.metReady) then s
  else
    let s := s.elapseTo s.metCloseAt
    match s.met.ended with
    | [] => s
    | (_, t, free) :: rest =>
      let s := if s.live Pg.MET then s.metClose t else s
      let s := if s.live Pg.HRM then s.hrmClose t free else s
      { s with met := { s.met with ended := rest, got := s.met.got.map (fun q => q.drop 1) } }

/-! ### The pages and the meter angle (R322, R323, R330) -/

/-- MET or HRM is enabled or disabled. -/
def State.metPage (s : State) (on : Bool) : State :=
  let m := s.met
  let keep := s.live Pg.HRM
  { s with met := { m with
      n := 0, ticks := 0, sums := List.replicate 4 MetVals.zero, gap := 0#4, noLock := false, unb := 0, unbN := 0, suspect := 0,
      clean := 0
      ended := if keep || on then m.ended else []
      got := if keep || on then m.got else List.replicate 8 [] } }
def State.hrmPage (s : State) (on : Bool) : State :=
  let h := s.hrm
  let keep := s.live Pg.MET || on
  let s := { s with hrm := { h with n := 0, win := List.replicate 8 [], ready := none, shown := s.get F.HRM_SEL_CH } }
  if keep then s else { s with met := { s.met with ended := [], got := List.replicate 8 [] } }

/-- D3 NAV goes off: the meter angle takes over (R330). -/
def State.meterStart (s : State) : State :=
  let s := { s with met := { s.met with ang := s.cps.bear, rate := (s.reg Reg.CPS_BEAR_RATE).toNat, turned := false } }
  if s.domOn 9 then (s.putFlag F.MET_STAT_FREE true).putFlag F.HRM_STAT_FREE true else s

/-- D3 NAV comes on: the present turn closes, what is missing of it being absent. -/
def State.meterStop (s : State) : State :=
  let next := (s.resamp.top / 256 + 1) * 256
  let s := (List.range 18).foldl (fun s ch =>
    if s.metTakes ch then
      let s := s.modAdc ch (fun c =>
        let xs := c.mNow ++ List.replicate (256 - c.mNow.length) none
        { c with mLast := xs, mNow := [], nextI := next })
      s.metGot ch
    else s) s
  let m := s.met
  let s := { s with met := { m with
      ended := if s.metWorks then m.ended ++ [(s.now, s.now - m.openAt, true)] else m.ended
      openAt := s.now, turned := false } }
  if s.domOn 9 then (s.putFlag F.MET_STAT_FREE false).putFlag F.HRM_STAT_FREE false else s

/-- The meter angle completes a turn, and its rate is corrected (R330). -/
def State.meterTurn (s : State) : State :=
  if s.domOn 3 || !s.domOn 9 then s
  else
    let s := if s.met.turned then s else s.elapse (ceilDiv (turn52 - s.met.ang) s.met.rate)
    let t := s.now - s.met.openAt
    let s := ({ s with met := { s.met with turned := false } }).metCycleEnd
    match s.met.arg, s.met.argPrev with
    | some a, some b =>
      let d := signed 32 (wrapBits 32 (roundHalfUp (a - b)))
      let df := ratClamp (-1 / 5) (1 / 5) (quot ((d : Rat) / 4294967296) ((t : Rat) / 400000000))
      let f := ratClamp 40 72 ((s.met.rate : Rat) * 400000000 / (turn52 : Rat) + df)
      { s with met := { s.met with rate := (roundHalfUp (f * (turn52 : Rat) / 400000000)).toNat } }
    | _, _ => s

end Sys2Proof.Machine
end

