-- ==== Sys2Proof/Machine/Nav.lean ====
section
/-! DEFINITION. The bearing's sources and blends (R69 to R72), and what its movement does: BEAR_CYCLE increments (R55),
bearing ticks (R56), jumps (R64, R81, R82, R158, R200). -/

namespace Sys2Proof.Machine

/-! ### Sources (R68 to R72) -/

abbrev srcGrid : Nat := 0
abbrev srcVirtual : Nat := 1
abbrev srcQuadrille : Nat := 2

def State.source (s : State) : Nat := s.get F.CPS_SRC_ACTIVE

/-- The tracking range in Q12.20 units per tick: 40.000 Hz and 72.000 Hz (R58). -/
abbrev rateMin : Nat := 450359963
abbrev rateMax : Nat := 810647933
def clampRate (r : Int) : Nat := (clampInt (rateMin : Int) (rateMax : Int) r).toNat

/-- CPS_VIRT_RATE + CPS_DROOP, not clamped (R68). -/
def State.virtSum (s : State) : Int := ((s.reg Reg.CPS_VIRT_RATE).toNat : Int) + signed 32 (s.reg Reg.CPS_DROOP).toNat

/-- The AUTO choice (R69), and the source that is to be active (R70); VIRTUAL while the page is not enabled (R73). Where GRID unlocks
while QDL reports a valid lead, R70 with R69 gives QUADRILLE and R72 says VIRTUAL: the model follows R70 (DESIGN CHOICE, log
entry 28). -/
def State.autoSource (s : State) : Nat :=
  if s.qdlReports then srcQuadrille
  else if s.modeActive = 2 then srcVirtual
  else if s.flag F.CPS_STAT_LOCKED then srcGrid
  else srcVirtual
def State.wantedSource (s : State) : Nat :=
  if !s.live Pg.CPS then srcVirtual
  else match s.get F.CPS_SRC_REQ with
  | 1 => if s.flag F.CPS_STAT_LOCKED then srcGrid else s.autoSource
  | 2 => srcVirtual
  | 3 => if s.qdlReports then srcQuadrille else s.autoSource
  | _ => s.autoSource

/-- An offset in 2^-20 bearing unit, under R6: exactly half a turn reads as behind. -/
def offset52 (d : Int) : Int := signed 52 (wrapBits 52 d)

/-- The offset of the bearing from the active source's target: θg, or the lead's compensated bearing. -/
def State.sourceOffset (s : State) : Int :=
  if s.source = srcGrid then offset52 ((s.cps.thG : Int) - (s.cps.bear : Int))
  else if s.source = srcQuadrille then
    (match s.qdl.edgeAt, s.qdl.lead with
      | some e, some l =>
        offset52 ((s.qdl.edgeTgt : Int) + (((s.now - e) * clampRate (l.rate.toNat : Int) : Nat) : Int) - (s.cps.bear : Int))
      | _, _ => 0)
  else 0

/-- The remaining offset of a blend is `d`; BLEND shows whether one runs. -/
def State.setBlend (s : State) (d : Int) : State :=
  ({ s with cps := { s.cps with rem := d } }).putFlag F.CPS_SRC_BLEND (decide (d ≠ 0))

/-- The rate held for a transfer into VIRTUAL is written to CPS_VIRT_RATE: with VHOLD the mean of the last qualifying cycle,
without it the last rate received from a lead that is being left (R68, R94). A master's write of this tick stands (R39). -/
def State.holdRate (s : State) (old : Nat) : State :=
  let r : Option Nat :=
    if s.flag F.CPS_CFG_VHOLD then (if old = srcVirtual then none else s.cps.held)
    else if old = srcQuadrille then s.qdl.lead.map (fun l => l.rate.toNat)
    else none
  match (if s.mastered Reg.CPS_VIRT_RATE then none else r) with
  | some x => s.setReg Reg.CPS_VIRT_RATE (BitVec.ofNat 32 (clampRate (x : Int)))
  | none => s

/-- SLEW becomes HOLD in the tick the blend ends, which is that of the source change where there is nothing to close (R91). -/
def State.slewEnd (s : State) : State :=
  if s.qdlOn && decide (s.qdl.state = qdlSlew) && decide (s.source = srcQuadrille) && !s.flag F.CPS_SRC_BLEND then s.toHold else s

/-- The active source becomes `new` (R71, R74). -/
def State.setSource (s : State) (new : Nat) : State :=
  let old := s.source
  if new = old then s
  else if new = srcVirtual then
    (((s.holdRate old).put F.CPS_SRC_ACTIVE new).setBlend 0).note Pg.CPS 5
  else
    let s := s.put F.CPS_SRC_ACTIVE new
    (s.setBlend s.sourceOffset).slewEnd

/-- The source follows its conditions (R69, R70). -/
def State.srcReview (s : State) : State := if s.domOn 3 then s.setSource s.wantedSource else s

/-- Ticks until the remaining offset is closed. -/
def State.blendTicks (s : State) : Nat := if s.slewMax = 0 then 0 else ceilDiv s.cps.rem.natAbs s.slewMax

/-- The slew has closed what it was set to: the blend ends where the target has been reached. Between a source change and the next
update the bearing still runs at its old rate, so the target may have moved off: what is left goes on (log entry 28). -/
def State.blendClosed (s : State) : State :=
  if s.flag F.CPS_SRC_BLEND && decide (s.cps.rem = 0) then
    (s.setBlend s.sourceOffset).slewEnd
  else s

/-- BLEND_END (R71): the final tick closes the offset. -/
def State.blendEnd (s : State) : State :=
  if !(s.domOn 3 && s.flag F.CPS_SRC_BLEND) then s
  else
    (s.elapse s.blendTicks).blendClosed

/-! ### BEAR_CYCLE increments -/

/-- The positive-sequence fundamental of the last cycle's M-path samples of VA to VC, where all are present (R58, R62). -/
def State.mpathFund (s : State) : Option (Rat × Rat) :=
  let xs (x : Nat) := (s.adcCh (s.vChan x)).mLast
  if [0, 1, 2].all (fun x => s.metTakes (s.vChan x) && decide ((xs x).length = 256) && allPresent (xs x)) then
    let v (x : Nat) : Cx := rmsBin ((xs x).map (fun a => ((a.getD 0 : Int) : Rat))) 1 256
    let p := posSeq (v 0) (v 1) (v 2)
    some (sqrtQ 2 * p.abs, (signed 32 (wrapBits 32 (roundHalfUp (p.arg + 1073741824))) : Rat))
  else none

/-- The quarantine tests of the legs count a cycle (R228); they hold while the bridge is not ARMED. -/
def State.legsCycle (s : State) : State :=
  if s.gd.armed then
    { s with gd := { s.gd with legs := s.gd.legs.map (fun (l : GdLeg) => { l with cycles := if l.quar then l.cycles + 1 else 0 }) } }
  else s

/-- A BEAR_CYCLE increment counts for every command that waits or is timed in cycles (R408). -/
def State.ctxCycle (s : State) : State :=
  { s with ctx := { s.ctx with flight := s.ctx.flight.map (fun (c : Cmd) =>
      { c with cycles := c.cycles + 1
               dueAt := if c.dueAt.isNone ∧ c.dlUnit = 2 ∧ c.dlVal ≤ c.cycles + 1 then some s.now else c.dueAt }) } }

/-- D3 NAV goes off: every deadline in cycles is reached (R408). -/
def State.ctxNavOff (s : State) : State :=
  { s with ctx := { s.ctx with flight := s.ctx.flight.map (fun (c : Cmd) =>
      if c.dueAt.isNone ∧ c.dlUnit = 2 then { c with dueAt := some s.now } else c) } }

/-- BEAR_CYCLE increments now, and every function that counts cycles takes the new one (R55). -/
def State.cycleIncrement (s : State) : State :=
  let c := s.reg Reg.CPS_BEAR_CYCLE + 1#32
  let s := s.setReg Reg.CPS_BEAR_CYCLE c
  let s := { s with
    cps := { s.cps with wrapPend := false, incAt := some s.now, nextTick := 0 } }
  let s := s.chtRotate.carApply
  let mp := s.mpathFund
  let s := { s with cps := { s.cps with mp := mp } }
  let s := match mp with
    | some (m, _) => s.setReg Reg.CPS_MAG (wput (s.reg Reg.CPS_MAG) 0 24 (satTo 16777215 (roundHalfUp m).toNat))
    | none => s
  let lock := s.flag F.CPS_STAT_LOCKED
  let s := ((s.qdlCycle.tuneBegin 0).specCycle).mpptCycle
  let s := ((s.rocofCycle lock).aiCycle c.toNat).syncCycle lock
  let s := s.rlyCycle.legsCycle
  ((s.metCycleEnd).dmaUnits 2 1).ctxCycle

/-- A crossing of 0 that has not been counted yet is counted first. -/
def State.catchUp (s : State) : State := if s.cps.wrapPend then s.cycleIncrement else s

/-- BEAR_CYCLE_INCREMENT: time passes to the bearing's next forward crossing of 0 that counts; nothing more where this tick's
increment has been made already. -/
def State.bearCycle (s : State) : State :=
  if !s.domOn 3 then s
  else if s.cps.wrapPend then s.cycleIncrement
  else if s.cps.incAt = some s.now then s
  else (s.elapseToAbs ((s.cycleNow + 1) * (turn52 : Int))).catchUp

/-! ### Bearing ticks (R56) -/

/-- Carrier-tick boundary `k` of a cycle, in bearing units. -/
def State.boundary (s : State) (k : Nat) : Nat := (2 * k * 4294967296 + s.carN) / (2 * s.carN)

/-- The legs in their blend count a bearing tick (R228). -/
def State.legsTick (s : State) : State :=
  if s.gd.armed then
    { s with gd := { s.gd with legs := s.gd.legs.map (fun (l : GdLeg) => if l.stage = .blend then { l with ticks := l.ticks + 1 } else l) } }
  else s

/-- TB0 uses boundary `k`: every second one under halving, counted from 0° (R198). -/
def State.tb0Uses (s : State) (k : Nat) : Bool := !s.pwm.half || decide (k % 2 = 0)

/-- Boundary `k` is delivered as a bearing tick; in a jump tick TB0 is placed by R200 and starts no period here. -/
def State.bearingTick (s : State) (k : Nat) (jump : Bool) : State :=
  let s := { s with cps := { s.cps with nextTick := k + 1 } }
  let s := (s.dmaUnits 1 1).legsTick
  let s := s.modeUpdate
  let s := if !jump && s.tb0Uses k then s.tb0Zero else s
  s.protJudge k

/-- The next boundary ahead of the bearing, where it has been delivered before a backward jump: its absolute bearing and its number.
It is no bearing tick again (R56), but TB0 starts a period at it (R198). -/
def State.recross (s : State) : Option (Int × Nat) :=
  let c := s.absBear / (turn52 : Int)
  let r := (s.absBear % (turn52 : Int)).toNat
  let k0 := r * s.carN / turn52
  let (c, k) := match [k0, k0 + 1, k0 + 2].find? (fun k => decide (k < s.carN ∧ r < s.boundary k * 1048576)) with
    | some k => (c, k)
    | none => (c + 1, 0)
  if c < s.cycleNow ∨ (c = s.cycleNow ∧ k < s.cps.nextTick) then some (c * (turn52 : Int) + ((s.boundary k * 1048576 : Nat) : Int), k)
  else none

/-- BEARING_TICK: time passes to the next boundary, and it is delivered. While TB0 runs, a boundary that is crossed again after a
backward jump comes first, and only starts a period of TB0. -/
def State.nextBoundary (s : State) : State :=
  if !s.domOn 3 then s
  else match (if s.tb0On then s.recross else none) with
  | some (t, k) => let s := s.elapseToAbs t; if s.tb0Uses k then s.tb0Zero else s
  | none =>
    let s := if s.carN ≤ s.cps.nextTick then (s.elapseToAbs ((s.cycleNow + 1) * (turn52 : Int))).catchUp else s
    let k := s.cps.nextTick
    (s.elapseToAbs (s.cycleNow * (turn52 : Int) + ((s.boundary k * 1048576 : Nat) : Int))).bearingTick k false

/-- Every boundary of this cycle at or before the absolute bearing `b` is delivered in a jump tick. -/
def State.jumpTicks (s : State) (b : Int) : State :=
  let c := s.cycleNow
  (List.range s.carN).foldl (fun s k =>
    if s.cps.nextTick ≤ k ∧ c * (turn52 : Int) + ((s.boundary k * 1048576 : Nat) : Int) ≤ b then s.bearingTick k true else s) s

/-! ### Jumps of the bearing -/

/-- The bearing steps by `step` bearing units (R64): the Chart, BEAR_CYCLE, bearing ticks, TB0, SPEC and waiting reels follow
in the jump tick. -/
def State.navJump (s : State) (step : Int) : State :=
  let s := s.catchUp
  let a := s.absBear
  let b := a + step * 1048576
  let c := a / (turn52 : Int)
  let crosses := decide (b / (turn52 : Int) ≠ c)
  let over0 := (List.range s.carN).any (fun k => s.tb0Uses k &&
    (let d := ((s.boundary k * 1048576 : Nat) : Int) - s.absBear
     decide (0 < d % (turn52 : Int) ∧ d % (turn52 : Int) ≤ step * 1048576)))
  let bear := (b % (turn52 : Int)).toNat
  if 0 < step then
    let counts := crosses && !s.cps.owe
    let s := { s with
      cps := { s.cps with bear := bear, step := 0, wrapPend := counts, owe := s.cps.owe && !crosses,
                          zeroAgo := if crosses then some 0 else s.cps.zeroAgo }
      resamp := s.resamp.jump s.now (step * 1048576) }
    let s := s.chtStretch c a b b
    let s := s.jumpTicks b
    let s := if counts then s.cycleIncrement else s
    let s := if crosses then s.chtStretch (c + 1) a b b else s
    let s := if counts then s.jumpTicks b else s
    (s.pwmJump over0).jumpVoid
  else
    let s := { s with cps := { s.cps with bear := bear, step := 0, owe := s.cps.owe || crosses }
                      resamp := s.resamp.jump s.now (step * 1048576) }
    ((s.pwmJump false).jumpVoid).dmaBackward

/-! ### Waypoints and the claim, which time brings about -/

/-- WAYPOINT_FIRE (R77, R78): a crossing in the tick just past is taken at once, BEAR_CYCLE's increment first where the tick made
one; else time passes to the next crossing. -/
def State.waypointFire (s : State) (n : Nat) : State :=
  if !(s.domOn 3 && s.live Pg.CHT && s.wpArmed n) then s
  else
    let s := s.catchUp
    let d := (s.cps.bear + turn52 - s.wpAngle n * 1048576) % turn52
    if d < s.cps.step ∧ !s.wpUsed n (s.wpCycle n) then (s.wpCross n (s.wpCycle n)).chtFlush
    else if s.cht.issuedAt = s.now ∧ d < 2 * s.cps.step ∧ !s.wpUsed n (s.wpCycle n) then
      (s.wpCross n (s.wpCycle n)).wpIssueAll
    else
      let s := (s.elapseToAbs (s.nextCrossing (s.wpAngle n * 1048576))).catchUp
      (s.wpCross n (s.wpCycle n)).chtFlush

/-- Time passes until `n` turns have gone by since the absolute bearing `from0` (R9), where that lies within a turn from now. -/
def State.runTurns (s : State) (from0 : Int) (n : Nat) : State :=
  let s := s.catchUp
  let t := from0 + ((n * turn52 : Nat) : Int)
  if s.domOn 3 && decide (s.absBear < t) && decide (t ≤ s.absBear + (turn52 : Int)) then (s.elapseToAbs t).catchUp else s

/-- CLAIM_LEAD (R90): with its cycles in CLAIM over, the unit becomes LEAD at its next crossing of 0. -/
def State.claimLead (s : State) : State :=
  if !(s.domOn 3 && s.claimDue ((s.cycleNow + 1) * (turn52 : Int))) then s
  else
    let s := if s.cps.wrapPend then s else s.elapseToAbs ((s.cycleNow + 1) * (turn52 : Int))
    (s.toLead).catchUp

/-- QDL_LISTEN_TIMEOUT (R90), QDL_LEADLOST (R93) and the end of a window of HOLD (R92): time passes to the limit first. -/
def State.listenTimeoutAt (s : State) : State :=
  (if s.qdlOn && decide (s.qdl.state = qdlListen) then s.runTurns s.qdl.silentAt 8 else s).listenTimeout
def State.leadLostAt (s : State) : State :=
  (match s.qdl.lostAt with | some a => s.runTurns a 2 | none => s).leadLost
def State.qdlWindowEnd (s : State) : State :=
  (if s.qdlOn && decide (s.qdl.state = qdlHold) then s.runTurns s.qdl.winFrom (s.get F.QDL_CFG_QUALWIN) else s).qdlWindowFail

/-- LEAD_MISSING (R94): 22.5° of a cycle in which nothing was heard; from 45° on, the next cycle's. -/
def State.leadMissingAt (s : State) : State :=
  if !(s.domOn 3 && s.qdlOn && s.qdlFollows) || s.qdl.leadGone then s
  else if 0x10000000 ≤ s.bearing.toNat ∧ s.bearing.toNat < 0x20000000 then s.leadMissing
  else ((s.elapseToAbs (s.nextCrossing (0x10000000 * 1048576))).catchUp).leadMissing

end Sys2Proof.Machine
end

