-- ==== Sys2Proof/Machine/Cps.lean ====
section
/-! DEFINITION. The Compass synchroniser (spec/03, R57 to R66, R73): the update every 10 µs, lock and unlock, jumps, sequence. -/

namespace Sys2Proof.Machine

/-- Binary32 constants of R57: tu = 10 µs, 2π, π, ks = 1.414. -/
abbrev f32Tu : F32 := 0x3727C5AC#32
abbrev f32TwoPi : F32 := 0x40C90FDB#32
abbrev f32Pi : F32 := 0x40490FDB#32
abbrev f32Ks : F32 := 0x3FB4FDF4#32

def State.modCps (s : State) (f : CpsSt → CpsSt) : State := { s with cps := f s.cps }
def State.cpsEn (s : State) : Bool := s.live Pg.CPS
def State.locked (s : State) : Bool := s.flag F.CPS_STAT_LOCKED

/-- PG_STAT.STATE of the CPS page (spec/03 States). -/
def State.cpsState (s : State) : Nat :=
  if !s.cpsEn then 0 else if s.locked then 3 else if s.cps.acquired then 2 else 1

/-- A frequency in Q12.20 units per tick: f × 2^52 / f_SYSCLK, rounded. -/
def hzToRate (f : Rat) : Nat := (roundHalfUp (f * (turn52 : Rat) / 400000000)).toNat

/-- The nominal frequency as a binary32: 50 or 60 Hz. -/
def State.nomF32 (s : State) : F32 := if s.nomHz = 60 then 0x42700000#32 else 0x42480000#32

/-- The magnitude floor in codes (CPS_CFG.VMIN). -/
def State.vminCodes (s : State) : Nat := s.get F.CPS_CFG_VMIN * 32768

/-- A gain that may be taken: finite and not negative. -/
def gainOk (x : F32) : Bool := x.finite && !decide (x.toRat < 0)
def State.gainErr (s : State) : Bool := !(gainOk (s.reg Reg.CPS_LOOP_KP) && gainOk (s.reg Reg.CPS_LOOP_KI))

/-- Radians as bearing units. -/
def radUnits (x : F32) : Rat := x.toRat / f32TwoPi.toRat * 4294967296

/-- One turn off an angle beyond half a turn. -/
def wrapPi (x : F32) : F32 :=
  if F32.lt f32Pi x then F32.sub x f32TwoPi
  else if F32.lt x (F32.neg f32Pi) then F32.add x f32TwoPi
  else x

/-- A new cycle of θg is opened. -/
def CpsSt.newCycle (c : CpsSt) (fresh : Bool) : CpsSt :=
  { c with n := 0, nErr := 0, nAdv := 0, sumErr := 0, sumF := 0, sumPos := 0, sumNeg := 0, sumRate := 0, adv := 0, meas := none,
           okIn := true, okMag := true, okClamp := true, allClamp := true, fresh := fresh, thWrap := false }

/-! ### Lock and unlock (R59, R61, R72) -/

/-- No cross-check is passing: MPATH_OK is 0 and the run of failures ends (R62). -/
def State.mpathOff (s : State) : State := (s.putFlag F.CPS_STAT_MPATH_OK false).modCps (fun c => { c with mpRun := 0 })

/-- The Compass declares lock. -/
def State.declareLock (s : State) : State :=
  let s := (s.putFlag F.CPS_STAT_LOCKED true).put F.CPS_STAT_LOCKCNT 3
  let s := s.modCps (fun c => { c with phRun := 0, fqRun := 0, mpRun := 0, jumpSign := 0 })
  (((s.note Pg.CPS 0).modeLock.protLock).qdlLocked).srcReview

/-- A LOCKED Compass unlocks with `cause`; the source follows in the same tick. -/
def State.unlockCps (s : State) (cause : Nat) : State :=
  if !s.locked then s
  else
    let s := (((s.putFlag F.CPS_STAT_LOCKED false).put F.CPS_STAT_UNLOCK_CAUSE cause).put F.CPS_STAT_LOCKCNT 0).mpathOff
    let s := s.modCps (fun c => { c with phRun := 0, fqRun := 0, mpRun := 0, jumpSign := 0, jumpErr := none, fresh := false
                                         srchRun := 0
                                         acquired := !(decide (cause = 3) || decide (cause = 4) || decide (cause = 7)) })
    (((s.note Pg.CPS 1).modeUnlock cause).protUnlock).srcReview

/-- The synchroniser falls back to SEARCH. -/
def State.toSearch (s : State) : State :=
  (s.put F.CPS_STAT_LOCKCNT 0).modCps (fun c => { c with acquired := false, srchRun := 0 })

/-- The sequence judgement of a cycle (R66). A cycle with an input absent at some update is not judged: that update has no mag_neg
and no mag_pos (DESIGN CHOICE, log entry 28). -/
def State.seqJudge (s : State) : State :=
  let c := s.cps
  if c.n = 0 || !c.okIn || !c.okMag then s
  else
    let wrong := decide (c.sumPos < c.sumNeg)
    let s := s.modCps (fun c => { c with seqWrongRun := if wrong then c.seqWrongRun + 1 else 0
                                         seqRightRun := if wrong then 0 else c.seqRightRun + 1 })
    let was := s.flag F.CPS_STAT_SEQ_WRONG
    if !was && decide (3 ≤ s.cps.seqWrongRun) then (s.putFlag F.CPS_STAT_SEQ_WRONG true).note Pg.CPS 4
    else if was && decide (3 ≤ s.cps.seqRightRun) then s.putFlag F.CPS_STAT_SEQ_WRONG false
    else s

/-- The phase error of the cycle in bearing units, and its frequency error in Hz (spec/03 Lock); none where they are not
defined. -/
def CpsSt.phaseErr (c : CpsSt) : Option Rat := if c.nErr = 0 then none else some (c.sumErr / (c.nErr : Rat))
def CpsSt.freqErr (c : CpsSt) : Option Rat :=
  if c.nErr = 0 || c.nAdv = 0 then none
  else some (ratAbs (c.sumF / (c.nErr : Rat) - c.adv / 4294967296 / ((c.nAdv : Rat) / 100000)))

def overLimit (x : Option Rat) (t : Rat) : Option Bool := x.map (fun a => decide (t < a))

/-- The M-path cross-check of a cycle (R62): its run of failures. With no check made, MPATH_OK reads 0 (log entry 28). -/
def State.mpathCheck (s : State) : State :=
  if !(s.flag F.CPS_CFG_MPCHK && decide (s.source = srcGrid)) then s.mpathOff
  else match s.cps.mp with
    | none => s.mpathOff
    | some (_, ph) =>
      let bad := decide ((0x16C16C1 : Rat) < ratAbs ph)
      (s.putFlag F.CPS_STAT_MPATH_OK (!bad)).modCps (fun c => { c with mpRun := if bad then c.mpRun + 1 else 0 })

/-- A cycle of θg is judged (R59, R61). Answers the causes to unlock that it gives. A cycle that an unlock has interrupted is not
fresh; LOCKCNT counts in ACQUIRE. -/
def State.judgeCycle (s : State) : State × List Nat :=
  let s := s.seqJudge
  let c := s.cps
  let pe := c.phaseErr
  let fe := c.freqErr
  let qual := c.fresh && c.okIn && c.okMag && c.okClamp && decide (0 < c.n) &&
    (match pe, fe with
      | some p, some f => decide (p < 0x5B05B0) && decide (f < 2 / 100)
      | _, _ => false)
  let s := if qual then
      s.modCps (fun c => { c with held := some (roundHalfUp ((c.sumRate : Rat) / (c.n : Rat))).toNat }) else s
  let s := s.mpathCheck
  if s.locked then
    let s := s.modCps (fun c => { c with
      phRun := match overLimit pe 0x16C16C1 with | some true => c.phRun + 1 | some false => 0 | none => c.phRun
      fqRun := match overLimit fe (1 / 10) with | some true => c.fqRun + 1 | some false => 0 | none => c.fqRun })
    let c := s.cps
    (s, (if 2 ≤ c.phRun then [1] else []) ++ (if 2 ≤ c.fqRun ∨ (c.allClamp ∧ 0 < c.n) then [2] else []) ++
        (if 2 ≤ c.mpRun then [5] else []))
  else if s.cps.acquired then
    (if qual then
      (let s := s.inc F.CPS_STAT_LOCKCNT
       if 3 ≤ s.get F.CPS_STAT_LOCKCNT then s.declareLock else s, [])
     else (s.put F.CPS_STAT_LOCKCNT 0, []))
  else (s.put F.CPS_STAT_LOCKCNT 0, [])

/-- The first update at or after a wrap of θg judges the cycle, and opens the next, which is whole: fresh until an unlock. -/
def State.cycleCheck (s : State) : State × List Nat :=
  if !s.cps.thWrap then (s, [])
  else
    let (s, causes) := s.judgeCycle
    (s.modCps (fun c => c.newCycle true), causes)

/-! ### The computations of R57 -/

/-- One quadrature generator: its error, and the new in-phase and quadrature outputs. -/
def sogi (tw v d q : F32) : F32 × F32 × F32 :=
  let e := F32.sub v d
  let d' := F32.add d (F32.mul tw (F32.sub (F32.mul f32Ks e) q))
  (e, d', F32.add q (F32.mul tw d'))

/-- gamma = 46 × 2^(FLLG - 4), FLLG at most 7. -/
def State.fllGain (s : State) : F32 := F32.ofRat (46 * pow2 ((min 7 (s.get F.CPS_CFG_FLLG) : Nat) - 4))

/-- The larger of zero and the finite: a step that would not be finite is discarded. -/
def keepFinite (old new : F32) : F32 := if new.finite then new else old

/-- C-path group delay of the VA channel in seconds. -/
def State.tauc (s : State) : F32 := F32.ofRat ((s.cDelay 4 : Rat) / 400000000)

/-- Quadrature generators and sequence separation on the three results. -/
def State.cpsSeq (s : State) (va vb vc : F32) : State × F32 × F32 × F32 × F32 :=
  let c := s.cps
  let valpha := F32.div (F32.sub (F32.sub (F32.mul F32.two va) vb) vc) F32.three
  let vbeta := F32.div (F32.sub vb vc) F32.sqrt3
  let w := F32.mul f32TwoPi c.fhat
  let tw := F32.mul f32Tu w
  let (ea, da, qa) := sogi tw valpha c.dA c.qA
  let (eb, db, qb) := sogi tw vbeta c.dB c.qB
  let h (x : F32) : F32 := F32.div x F32.two
  let ap := h (F32.sub da qb)
  let bp := h (F32.add qa db)
  let am := h (F32.add da qb)
  let bm := h (F32.sub db qa)
  let mag (x y : F32) : F32 := F32.sqrt (F32.add (F32.mul x x) (F32.mul y y))
  let mp := mag ap bp
  let num := F32.mul (F32.mul (F32.mul s.fllGain f32Tu) (F32.add (F32.mul ea qa) (F32.mul eb qb))) w
  let fhat := F32.sub c.fhat (F32.div num (F32.mul mp mp))
  let zero := decide (mp.finite ∧ mp.toRat = 0)
  (s.modCps (fun c => { c with dA := da, qA := qa, dB := db, qB := qb, magPos := mp, magNeg := mag am bm
                               fhat := if zero then c.fhat else keepFinite c.fhat fhat }),
   ap, bp, mp, mag am bm)

/-- The phase loop. In the update of a jump, θg has stepped by `jump` in this tick: err is still taken against the θg before the
step, and nothing is integrated (R63). Answers theta_meas and err. -/
def State.cpsLoop (s : State) (ap bp : F32) (jump : Option Int) : State × F32 × F32 :=
  let c := s.cps
  let from52 : Nat := (((c.thG : Int) - jump.getD 0 * 1048576) % (turn52 : Int)).toNat
  let th := F32.add (atan2F ap (F32.neg bp)) (F32.mul (F32.mul f32TwoPi c.fhat) s.tauc)
  let thg := F32.mul (F32.ofRat ((from52 : Rat) / (turn52 : Rat))) f32TwoPi
  let err := wrapPi (wrapPi (F32.sub th thg))
  let integ := if jump.isSome then c.integ else keepFinite c.integ (F32.add c.integ (F32.mul (F32.mul c.ki err) f32Tu))
  let nl := F32.add (F32.add c.fhat (F32.mul c.kp err)) integ
  let beyond := F32.lt nl 0x42200000#32 || F32.lt 0x42900000#32 nl
  let fl := F32.max 0x42200000#32 (F32.min nl 0x42900000#32)
  (s.modCps (fun c => { c with integ := integ
                               fclamp := if nl.finite then beyond else c.fclamp
                               floop := if nl.finite then fl else c.floop }), th, err)

/-- CPS_MAG after an update (R58, R75). -/
def State.showMag (s : State) : State :=
  let mp := s.cps.magPos.toRat
  let mn := s.cps.magNeg.toRat
  let unbal := if mn = 0 then 0 else if mp = 0 then 255 else satTo 255 (mn / mp * 256).floor.toNat
  let peak := if s.cps.mp.isSome then wbits (s.reg Reg.CPS_MAG) 0 24 else satTo 16777215 (roundHalfUp mp).toNat
  s.setReg Reg.CPS_MAG (BitVec.ofNat 32 (peak + 16777216 * unbal))

/-- The advance of theta_meas since the last update, in bearing units, unwrapped: exact, within half a turn either way. -/
def unwrapped (a b : F32) : Rat := wrapHalf (radUnits a - radUnits b)

/-- An update joins the cycle's sums. -/
def CpsSt.tally (c : CpsSt) (rate : Nat) (low : Bool) (loop : Option (F32 × F32)) : CpsSt :=
  let c := { c with n := c.n + 1, sumPos := c.sumPos + c.magPos.toRat, sumNeg := c.sumNeg + c.magNeg.toRat,
                    sumRate := c.sumRate + rate, okMag := c.okMag && !low }
  match loop with
  | none => { c with meas := none }
  | some (th, err) =>
    { c with nErr := c.nErr + 1, sumErr := c.sumErr + ratAbs (radUnits err), sumF := c.sumF + c.floop.toRat
             adv := match c.meas with | some m => c.adv + unwrapped th m | none => c.adv
             nAdv := if c.meas.isSome then c.nAdv + 1 else c.nAdv
             meas := some th }

/-- Jump detection at an update (R63, R65): the second excess of one sign gives the step of the next update, or the cause
JUMPBIG. With JUMPEN 0 no jump is measured, so that none is above 90° either (DESIGN CHOICE, log entry 28). -/
def State.jumpDetect (s : State) (err : F32) : State × List Nat :=
  let e := radUnits err
  let sign : Int :=
    if !s.flag F.CPS_CFG_JUMPEN || decide (ratAbs e ≤ ((s.reg Reg.CPS_JUMP_THR).toNat : Rat)) then 0 else if 0 < e then 1 else -1
  if sign = 0 || sign ≠ s.cps.jumpSign then (s.modCps (fun c => { c with jumpSign := sign }), [])
  else if 1073741824 < ratAbs e then (s.modCps (fun c => { c with jumpSign := 0 }), [6])
  else (s.modCps (fun c => { c with jumpSign := 0, jumpErr := some (roundHalfUp e) }), [])

/-- The state machine of the synchroniser after an update with its inputs present. Answers causes to unlock. The update of a jump
detects none: its err is the one the jump answers. -/
def State.cpsStates (s : State) (low : Bool) (mp : Rat) (loop : Option (F32 × F32)) (jump : Bool) : State × List Nat :=
  let run := if low then s.cps.magRun + 1 else 0
  let s := s.modCps (fun c => { c with magRun := run })
  if s.locked then
    let mag := if 64 ≤ run then [3] else []
    match loop, jump with
    | some (_, err), false => let (s, big) := s.jumpDetect err; (s, mag ++ big)
    | _, _ => (s.modCps (fun c => { c with jumpSign := 0 }), mag)
  else if s.cps.acquired then (if 64 ≤ run then s.toSearch else s, [])
  else
    let ok := decide (5 * (s.vminCodes : Rat) ≤ 4 * mp)
    let s := s.modCps (fun c => { c with srchRun := if ok then c.srchRun + 1 else 0 })
    (if 64 ≤ s.cps.srchRun then s.modCps (fun c => { c with acquired := true }) else s, [])

/-- The update's computations on the latest results; `jump` where θg steps in this update. Answers causes to unlock, and err where
the loop ran. -/
def State.cpsCompute (s : State) (jump : Option Int) : State × List Nat × Option F32 :=
  match s.latestC (s.vChan 0), s.latestC (s.vChan 1), s.latestC (s.vChan 2) with
  | some va, some vb, some vc =>
    let kp := s.reg Reg.CPS_LOOP_KP
    let ki := s.reg Reg.CPS_LOOP_KI
    let s := s.modCps (fun c => { c with kp := if gainOk kp then kp else c.kp, ki := if gainOk ki then ki else c.ki })
    let f (x : Int) : F32 := F32.ofRat (x : Rat)
    let (s, ap, bp, mp, _) := s.cpsSeq (f va) (f vb) (f vc)
    let zero := decide (mp.finite ∧ mp.toRat = 0)
    let (s, loop) := if zero then (s, none) else (let (t, th, err) := s.cpsLoop ap bp jump; (t, some (th, err)))
    let low := decide (mp.toRat < (s.vminCodes : Rat))
    let s := (s.showMag).putFlag F.CPS_STAT_MAG_LOW low
    let rate := (s.reg Reg.CPS_BEAR_RATE).toNat
    let s := s.modCps (fun c => c.tally rate low loop)
    let (s, causes) := s.cpsStates low mp.toRat loop jump.isSome
    (s, causes, loop.map (fun x => x.2))
  | _, _, _ =>
    let s := s.modCps (fun c => { c with okIn := false, meas := none, srchRun := 0, magRun := 0, jumpSign := 0 })
    if s.locked then (s, [4], none) else if s.cps.acquired then (s.toSearch, [], none) else (s, [], none)

/-! ### Jumps (R63, R64) -/

/-- θg steps by `step` bearing units, and the bearing with it in source GRID with no blend. -/
def State.applyJump (s : State) (step : Int) : State :=
  let g : Int := (s.cps.thG : Int) + step * 1048576
  let fwd := decide ((turn52 : Int) ≤ g)
  let back := decide (g < 0)
  let s := s.modCps (fun c => { c with
    thG := (g % (turn52 : Int)).toNat, jumpErr := none
    thWrap := c.thWrap || (fwd && !c.thOwe), thOwe := (c.thOwe && !fwd) || back })
  let applied := decide (s.source = srcGrid) && !s.flag F.CPS_SRC_BLEND
  let s := (s.setReg Reg.CPS_JUMP_LAST (BitVec.ofNat 32 (wrapBits 32 step))).putFlag F.CPS_STAT_JUMP_APPLIED applied
  let s := s.note Pg.CPS 2
  if applied then s.navJump step else s

/-! ### The update -/

/-- The rate of the active source (R57, R68, R89). -/
def State.sourceRate (s : State) : Nat :=
  if s.source = srcGrid then hzToRate s.cps.floop.toRat
  else if s.source = srcQuadrille then
    (match s.qdl.lead with | some l => clampRate (l.rate.toNat : Int) | none => (s.reg Reg.CPS_BEAR_RATE).toNat)
  else clampRate s.virtSum

/-- BEAR_RATE for the next update interval: a source change within this update, other than an unlock, leaves it (R71, R72). -/
def State.takeRate (s : State) (before : Nat) (unlocked : Bool) : State :=
  if s.source ≠ before ∧ !unlocked then s
  else s.setReg Reg.CPS_BEAR_RATE (BitVec.ofNat 32 s.sourceRate)

/-- CLAMP is judged (R58). -/
def State.clampJudge (s : State) (en : Bool) : State :=
  let v := s.virtSum
  let vclamp := decide (v < (rateMin : Int)) || decide ((rateMax : Int) < v)
  let clamp := (en && s.cps.fclamp) || (decide (s.source = srcVirtual) && vclamp)
  let was := s.flag F.CPS_STAT_CLAMP
  let s := s.putFlag F.CPS_STAT_CLAMP clamp
  let s := if clamp && !was then s.note Pg.CPS 3 else s
  s.modCps (fun c => { c with okClamp := c.okClamp && !clamp, allClamp := c.allClamp && clamp })

/-- What an update does once its tick has come. -/
def State.cpsUpdateNow (s : State) : State :=
  let en := s.cpsEn
  let before := s.source
  let jump := if en then s.cps.jumpErr else none
  let s := match jump with
    | some step => s.applyJump step
    | none => s
  let (s, causes, err) :=
    if en then
      (let (s, c1) := s.cycleCheck
       let (s, c2, e) := s.cpsCompute jump
       (s, c1 ++ c2, e))
    else (s, [], none)
  let cause := causes.min?
  let wasLocked := s.locked
  let s := match cause with
    | some k => s.unlockCps k
    | none => s
  let s := match err with
    | some e => if s.locked || (wasLocked && decide (cause = some 6)) then s.vectorShift (radUnits e * 360 / 4294967296) else s
    | none => s.vectorGap
  let s := s.srcReview
  let s := (s.takeRate before (wasLocked && !s.locked)).clampJudge en
  let s := if decide (s.source = srcGrid) && s.flag F.CPS_SRC_BLEND && decide (s.cps.rem ≠ 0) then s.setBlend s.sourceOffset else s
  if en then
    let s := s.setReg Reg.CPS_FREQ (BitVec.ofNat 32 (roundHalfUp (s.cps.floop.toRat * 1048576)).toNat)
    -- both angles are cut to their 32-bit integer part, as CPS_BEARING shows it (log entry 27)
    let s := s.setReg Reg.CPS_PHERR (BitVec.ofNat 32 (wrapBits 32 (((s.cps.thG / 1048576 : Nat) : Int) - (s.bearing.toNat : Int))))
    s.modCps (fun c => { c with thRate := hzToRate c.floop.toRat })
  else s

/-- CPS_UPDATE (R57): time passes to the next multiple of 4,000 ticks, and the Compass updates. -/
def State.cpsUpdate (s : State) : State :=
  if !s.domOn 3 then s
  else
    let s := s.elapseTo ((s.cps.lastUpd / 4000 + 1) * 4000)
    let s := s.modCps (fun c => { c with lastUpd := s.now })
    (s.blendClosed.cpsUpdateNow).chtFlush

/-! ### The page (R67, R73) -/

/-- The remap in force follows SEQSWAP while the bridge is not ARMED. -/
def State.seqSwap (s : State) : State :=
  if s.gd.armed then s else s.putFlag F.CPS_STAT_SWAPPED (s.flag F.CPS_CFG_SEQSWAP)

/-- EN goes from 0 to 1: the synchroniser starts afresh. What is left of θg's turn is no cycle: the first that can qualify begins at
its next wrap (log entry 28). -/
def State.cpsEnable (s : State) : State :=
  let c := s.cps
  let f := s.nomF32
  let c' : CpsSt := { CpsSt.reset with
    bear := c.bear, rem := c.rem, step := c.step, wrapPend := c.wrapPend, owe := c.owe, nextTick := c.nextTick, incAt := c.incAt
    lastUpd := c.lastUpd, kp := c.kp, ki := c.ki, mp := c.mp, thG := c.bear, thRate := hzToRate f.toRat, fhat := f, floop := f
    allClamp := true }
  (({ s with cps := c' }).put F.CPS_STAT_LOCKCNT 0 |>.putFlag F.CPS_STAT_SEQ_WRONG false).mpathOff

/-- EN goes from 1 to 0: cause HOST, and the bearing runs VIRTUAL. -/
def State.cpsDisable (s : State) : State :=
  ((s.unlockCps 7).put F.CPS_STAT_LOCKCNT 0).modCps (fun c =>
    { c with acquired := false, fclamp := false, jumpErr := none, jumpSign := 0, fresh := false }) |>.srcReview

/-- SRST of the page: its registers have their reset values already; the bearing and BEAR_CYCLE go on (R73). -/
def State.cpsSrst (s : State) : State :=
  let c := s.cps
  let c' : CpsSt := { CpsSt.reset with
    bear := c.bear, step := c.step, wrapPend := c.wrapPend, owe := c.owe, nextTick := c.nextTick, incAt := c.incAt
    lastUpd := c.lastUpd, mp := c.mp }
  { s with cps := c' }

/-- D3 NAV powers up: the bearing starts at 0 in source VIRTUAL (R73). -/
def State.cpsPowerUp (s : State) : State :=
  ({ s with cps := { CpsSt.reset with lastUpd := s.now }, resamp := s.resamp.align s.now 0 }).setReg Reg.CPS_BEAR_RATE (BitVec.ofNat 32 (clampRate s.virtSum))

end Sys2Proof.Machine
end

