-- ==== Sys2Proof/Machine/Hsw.lean ====
section
/-! DEFINITION. Hot Swap (spec/14): samples, starts, the limit loop and its faults, retries, power-good and quarantine. -/

namespace Sys2Proof.Machine

def State.hswCh (s : State) (n : Nat) : HswCh := nth HswCh.reset s.hsw.ch n
def State.modHsw (s : State) (n : Nat) (f : HswCh → HswCh) : State := { s with hsw := { s.hsw with ch := modAt n f s.hsw.ch } }

/-- HSW_STAT.STATE values (R305). -/
abbrev hswOff : Nat := 0
abbrev hswPrecheck : Nat := 1
abbrev hswRamp : Nat := 2
abbrev hswIsOn : Nat := 3
abbrev hswRetryWait : Nat := 4
abbrev hswLatched : Nat := 5

/-- 64 µs, in ticks; a converter period of 10 µs. -/
abbrev hsw64us : Nat := 25600
abbrev hswPeriod : Nat := 4000

/-- 8 V and 4.5 V as codes of VGATE (5 mV a code). -/
abbrev code8V : Nat := 1600
abbrev code4V5 : Nat := 900

def State.hswState (s : State) (n : Nat) : Nat := s.get (F.HSW_STAT_STATE n)

/-- The channel is a unit that runs (R47). -/
def State.hswOn (s : State) (n : Nat) : Bool := s.live Pg.HSW && s.flag (F.HSW_CTRL_EN n)

/-- V_ILIM in codes of VSENSE (25 µV a code), by the SEL of the last sample. -/
def State.hswVlim (s : State) (n : Nat) : Nat := if wbit (s.hswCh n).ilim 0 then 2000 else 1000

/-- T_FLT, T_GATE, QTIME and TRETRY in ticks; 0 acts as 1. -/
def State.hswTflt (s : State) (n : Nat) : Nat := 40000 * max 1 (wbits (s.hswCh n).ilim 8 8)
def State.hswTgate (s : State) (n : Nat) : Nat := hswPeriod * max 1 (wbits (s.hswCh n).tgate 0 16)
def State.hswQtime (s : State) (n : Nat) : Nat := 10 * ticksPerMs * max 1 (wbits (s.hswCh n).tgate 16 8)
def State.hswTretry (s : State) (n : Nat) : Nat := 100 * ticksPerMs * max 1 (s.get (F.HSW_CTRL_TRETRY n))

/-- PG and PGQ take their values; a change raises source 95 (R310). -/
def State.hswSetPg (s : State) (n : Nat) (pg : Bool) : State :=
  let pgq := pg && !s.flag (F.HSW_CTRL_QUAR n)
  if (pg == s.flag (F.HSW_STAT_PG n)) && (pgq == s.flag (F.HSW_STAT_PGQ n)) then s
  else ((s.putFlag (F.HSW_STAT_PG n) pg).putFlag (F.HSW_STAT_PGQ n) pgq).note Pg.HSW 3

/-- PG falls. -/
def State.hswPgLost (s : State) (n : Nat) : State :=
  (s.modHsw n (fun c => { c with goodFrom := none, pgFrom := none })).hswSetPg n false

/-- The channel takes the state `st`. One that leaves ON with ARMREQ = 1 while the bridge is ARMED opens the relays and
disarms (R313). -/
def State.hswGo (s : State) (n st : Nat) : State :=
  let was := s.hswState n
  let t := s.put (F.HSW_STAT_STATE n) st
  let t := if st = hswIsOn then t
    else
      let t := t.hswPgLost n
      if st = hswRamp then t
      else (t.putFlag (F.HSW_STAT_LIMIT n) false).modHsw n (fun c =>
        { c with acc := 0, gateAcc := 0, gateFrom := none, passed := false, lowFrom := none, limFrom := none, pre := 0, high := 0,
                 retryAt := none })
  if was = hswIsOn && st != hswIsOn && t.flag (F.HSW_CTRL_ARMREQ n) && t.gd.armed then (t.relayOpen).disarm else t

/-- The fault source of channel `n` (R314). -/
def State.hswRaise (s : State) (n : Nat) : State := s.note Pg.HSW n

/-- A record of channel `n`. -/
def State.hswLog (s : State) (n code : Nat) : State := s.logRec code (BitVec.ofNat 32 n) (s.reg (Reg.HSW_MEAS n))

/-- PASS_SHORT (`false`, R306) or GATE_FAIL (`true`, R307): the channel latches and never retries. -/
def State.hswLatch (s : State) (n : Nat) (gate : Bool) : State :=
  let s := if gate then s.setFlag (F.HSW_STAT_GATE_FAIL n) else s.setFlag (F.HSW_STAT_PASS_SHORT n)
  let s := (s.hswGo n hswLatched).putFlag (F.HSW_CTRL_EN n) false
  let s := s.putFlag (F.HSW_CTRL_QUAR n) false
  let s := s.hswRaise n
  let s := if gate then s.note Pg.HSW 2 else s
  s.hswLog n (if gate then 0x2402 else 0x2401)

/-- OCTIMER, SHORT or I2T, by its bit of HSW_STAT (10, 11, 12): the gate goes off, and R311 follows. -/
def State.hswTrip (s : State) (n bit : Nat) : State :=
  let s := ((s.setW1c (Reg.HSW_STAT n) bit).hswRaise n).hswLog n (0x2403 + (bit - 10))
  let s := s.incSat (F.HSW_STAT_ATTEMPTS n)
  if s.get (F.HSW_STAT_ATTEMPTS n) ≤ s.get (F.HSW_CTRL_RETRYN n) then
    let ends := s.now + s.hswTretry n
    (s.hswGo n hswRetryWait).modHsw n (fun c => { c with retryAt := some ends })
  else
    (((s.hswGo n hswLatched).putFlag (F.HSW_CTRL_EN n) false).putFlag (F.HSW_CTRL_QUAR n) false).hswLog n 0x2406

/-- A start (R305): PRECHECK; after the muster window in quarantine, with its window from here (R312). -/
def State.hswStart (s : State) (n : Nat) : State :=
  let s := s.hswGo n hswPrecheck
  let s := s.modHsw n (fun c => { c with pre := 0, winFrom := s.now })
  if s.pwr.muster then s else s.putFlag (F.HSW_CTRL_QUAR n) true

/-- The gate timer runs in RAMP outside LIMIT, until the gate has passed 4.5 V: its deadline (R307). -/
def State.hswGateDue (s : State) (n : Nat) : Option Nat :=
  let c := s.hswCh n
  if decide (s.hswState n = hswRamp) && !c.passed then c.gateFrom.map (fun g => g + (s.hswTgate n - c.gateAcc)) else none

/-- The conditions that last 64 µs, by the tick they end at: PG (`true`) and the gate failure of R307 (`false`). -/
def State.hsw64Due (s : State) (n : Nat) : List (Nat × Bool) :=
  let c := s.hswCh n
  if s.hswState n = hswIsOn then
    (match c.goodFrom with
      | some g => if s.flag (F.HSW_STAT_PG n) then [] else [(g + hsw64us, true)]
      | none => []) ++
    (match c.lowFrom with | some l => [(l + hsw64us, false)] | none => [])
  else []

/-- Those of them that end by tick `t` take effect at their ticks. -/
def State.hsw64 (s : State) (n t : Nat) : State :=
  (s.hsw64Due n).foldl (fun s d =>
    if d.1 ≤ t then
      let s := s.elapseTo d.1
      if d.2 then (s.modHsw n (fun c => { c with pgFrom := some d.1 })).hswSetPg n true else s.hswLatch n true
    else s) s

/-- A sample in OFF with the page enabled, in PRECHECK (R306). -/
def State.hswIdleSample (s : State) (n v : Nat) : State :=
  let high := decide (s.hswVlim n ≤ 4 * v)
  if s.hswState n = hswOff then
    let run := if high then (s.hswCh n).high + 1 else 0
    let s := s.modHsw n (fun c => { c with high := run })
    if 100 ≤ run then s.hswLatch n false else s
  else if s.hswState n = hswPrecheck then
    if high then s.hswLatch n false
    else
      let k := (s.hswCh n).pre + 1
      if 10 ≤ k then
        let t := s.now
        (s.hswGo n hswRamp).modHsw n (fun c => { c with pre := 0, gateAcc := 0, gateFrom := some t, passed := false })
      else s.modHsw n (fun c => { c with pre := k })
  else s

/-- A sample in RAMP or ON: the gate against 4.5 V and 8 V (R305, R307, R310), then the fusing accumulator (R309). -/
def State.hswRunSample (s : State) (n v g : Nat) : State :=
  let t := s.now
  let lim := s.flag (F.HSW_STAT_LIMIT n)
  let s := if code4V5 ≤ g then s.modHsw n (fun c => { c with passed := true, gateFrom := none }) else s
  let s := if s.hswState n = hswRamp && decide (code8V ≤ g) && !lim then s.hswGo n hswIsOn else s
  let s := if s.hswState n = hswIsOn then
      let low := decide (g < code4V5) && !lim
      let s := s.modHsw n (fun c => { c with
        lowFrom := if low then some (c.lowFrom.getD t) else none
        goodFrom := if decide (code8V ≤ g) && !lim then some (c.goodFrom.getD t) else none })
      if decide (code8V ≤ g) && !lim then s else s.hswPgLost n
    else s
  let x : Rat := (v : Rat) / (s.hswVlim n : Rat)
  let kc : Rat := (wbits (s.hswCh n).i2t 16 8 : Rat) / 256
  let a := (s.hswCh n).acc + 10 * (x * x - kc * kc)
  let a := if a < 0 then 0 else a
  let limit := wbits (s.hswCh n).i2t 0 16
  let s := s.modHsw n (fun c => { c with acc := a })
  if decide (limit ≠ 0) && decide (((100 * limit : Nat) : Rat) ≤ a) then s.hswTrip n 12 else s

/-- T_GATE has been reached and the gate has not passed 4.5 V (R307): a crossing in its last tick is in time (R21). -/
def State.hswGateTimeout (s : State) (n : Nat) : State :=
  match s.hswGateDue n with
  | some t => (s.elapseTo (t + 1)).hswLatch n true
  | none => s

/-- The last tick of the fault timer, while it runs (R308). -/
def State.hswLimitDue (s : State) (n : Nat) : Option Nat := (s.hswCh n).limFrom.map (fun t => t + s.hswTflt n)

/-- The fault timer has reached T_FLT (R308): a release in its last tick is in time (R21). -/
def State.hswFaultTimer (s : State) (n : Nat) : State :=
  match s.hswLimitDue n with
  | some t => (s.elapseTo (t + 1)).hswTrip n 10
  | none => s

/-- What has lasted or run out before tick `t` has had its effect when something happens in `t` (R21, R24). -/
def State.hswLate (s : State) (n t : Nat) : State :=
  let s := s.hsw64 n t
  let s := match s.hswGateDue n with | some d => (if d < t then s.hswGateTimeout n else s) | none => s
  match s.hswLimitDue n with | some d => (if d < t then s.hswFaultTimer n else s) | none => s

/-- The next sample of channel `n` (R304): the codes of VSENSE and VGATE. -/
def State.hswSample (s : State) (n vsense vgate : Nat) : State :=
  if !s.domReady 10 then s
  else
    let at' := (max s.now ((s.hswCh n).sampleAt + 1) + (hswPeriod - 1)) / hswPeriod * hswPeriod
    let s := (s.hswLate n at').elapseTo at'
    let v := vsense % 4096
    let g := vgate % 4096
    let s := s.modHsw n (fun c =>
      { c with sampleAt := at', ilim := s.reg (Reg.HSW_ILIM n), tgate := s.reg (Reg.HSW_TGATE n), i2t := s.reg (Reg.HSW_I2T n) })
    let s := (s.put (F.HSW_MEAS_VSENSE n) v).put (F.HSW_MEAS_VGATE n) g
    if !s.live Pg.HSW then s
    else if s.hswState n = hswRamp || s.hswState n = hswIsOn then s.hswRunSample n v g
    else s.hswIdleSample n v

/-- The limit loop engages or releases (R308). -/
def State.hswLimit (s : State) (n : Nat) (on : Bool) : State :=
  let s := s.hswLate n s.now
  let st := s.hswState n
  if !(s.live Pg.HSW && (st = hswRamp || st = hswIsOn)) || on == s.flag (F.HSW_STAT_LIMIT n) then s
  else
    let t := s.now
    if on then
      ((s.putFlag (F.HSW_STAT_LIMIT n) true).modHsw n (fun c =>
        { c with limFrom := some t, lowFrom := none,
                 gateAcc := match c.gateFrom with | some g => c.gateAcc + (t - g) | none => c.gateAcc,
                 gateFrom := none })).hswPgLost n
    else
      (s.putFlag (F.HSW_STAT_LIMIT n) false).modHsw n (fun c =>
        { c with limFrom := none, gateFrom := if decide (st = hswRamp) && !c.passed then some t else none })

/-- The shunt voltage has been at 2 × V_ILIM for 1 µs (R308). -/
def State.hswShort (s : State) (n : Nat) : State :=
  let s := s.hswLate n s.now
  if s.live Pg.HSW && (s.hswState n = hswRamp || s.hswState n = hswIsOn) then s.hswTrip n 11 else s

/-- TRETRY expires (R311). -/
def State.hswRetry (s : State) (n : Nat) : State :=
  match (s.hswCh n).retryAt with
  | some t => (s.elapseTo t).hswStart n
  | none => s

/-- PG has held for 10 s (R311). -/
def State.hswAttemptsClear (s : State) (n : Nat) : State :=
  match (s.hswCh n).pgFrom with
  | some t => (s.elapseTo (t + 10 * ticksPerSec)).put (F.HSW_STAT_ATTEMPTS n) 0
  | none => s

/-- Quarantine ends; QFAIL is cleared. -/
def State.hswClear (s : State) (n : Nat) : State :=
  ((s.putFlag (F.HSW_CTRL_QUAR n) false).put (F.HSW_STAT_QFAIL n) 0).hswSetPg n (s.flag (F.HSW_STAT_PG n))

/-- The tick the qualification test passes, if PG holds; the tick its window ends (R312). -/
def State.hswPassAt (s : State) (n : Nat) : Option Nat :=
  (s.hswCh n).pgFrom.map (fun t => max t (s.hswCh n).winFrom + s.hswQtime n)
def State.hswWindowEnd (s : State) (n : Nat) : Nat := (s.hswCh n).winFrom + 4 * s.hswQtime n

/-- The test of channel `n` has passed by now, within its window (R21): a host clear in that tick is the test's exit (R51). -/
def State.hswPasses (s : State) (n : Nat) : Bool :=
  match s.hswPassAt n with
  | some t => decide (t ≤ s.now) && decide (t ≤ s.hswWindowEnd n)
  | none => false

/-- PG has held for QTIME (R312). -/
def State.hswQualify (s : State) (n : Nat) : State :=
  match s.hswPassAt n with
  | some t =>
    if s.hswOn n && s.flag (F.HSW_CTRL_QUAR n) && decide (t ≤ s.hswWindowEnd n) then (s.elapseTo t).hswClear n else s
  | none => s

/-- The window ends without a pass. -/
def State.hswWindowFail (s : State) (n : Nat) : State :=
  let ends := s.hswWindowEnd n
  let passes := match s.hswPassAt n with | some t => decide (t ≤ ends) | none => false
  if s.hswOn n && s.flag (F.HSW_CTRL_QUAR n) && !passes then
    let s := s.elapseTo ends
    (s.incSat (F.HSW_STAT_QFAIL n)).modHsw n (fun c => { c with winFrom := ends })
  else s

/-- Channel `n` enters quarantine by a write, or its test starts again. -/
def State.hswQuar (s : State) (n : Nat) : State :=
  let s := (s.putFlag (F.HSW_CTRL_QUAR n) true).modHsw n (fun c => { c with winFrom := s.now })
  s.hswSetPg n (s.flag (F.HSW_STAT_PG n))

/-- EN goes to 0 (R311): the gate is turned off and a wait ends. -/
def State.hswStop (s : State) (n : Nat) : State :=
  let s := s.putFlag (F.HSW_CTRL_QUAR n) false
  if s.hswState n = hswLatched then s else s.hswGo n hswOff

/-- A write to HSW_CTRL[n]. Answers whether it was a host clear. A write of EN = 1 to a LATCHED channel stores nothing. -/
def State.hswCtrlWrite (s : State) (n : Nat) (v : Word) : State × Bool :=
  if s.hswState n = hswLatched && wbit v 0 then (s.setFlag (F.HSW_STAT_REFUSED n), false)
  else
    let a := Reg.HSW_CTRL n
    let was := s.hswOn n
    let en := s.flag (F.HSW_CTRL_EN n)
    let quar := s.flag (F.HSW_CTRL_QUAR n)
    let passes := s.hswPasses n
    let s := s.setReg a (wput (wput (wput (wput (wput (s.reg a) 0 1 (wbits v 0 1)) 2 1 (wbits v 2 1)) 3 1 (wbits v 3 1))
      8 4 (wbits v 8 4)) 16 8 (wbits v 16 8))
    let on := s.hswOn n
    if !wbit v 0 then (s.hswStop n, false)
    else if !en then (if on then ((s.put (F.HSW_STAT_ATTEMPTS n) 0).hswStart n, false) else (s, false))
    else if was && on && wbit v 1 then (s.hswQuar n, false)
    else if was && on && quar then (s.hswClear n, !passes)
    else (s, false)

/-- A write to HSW_STAT[n]: the fault bits and REFUSED are cleared by ones; a LATCHED channel with no fault bit left is OFF. -/
def State.hswStatWrite (s : State) (n : Nat) (v : Word) : State :=
  let a := Reg.HSW_STAT n
  let s := s.setReg a (wput (s.reg a) 8 6 (wbits (s.reg a &&& ~~~(v &&& s.regWas a)) 8 6))
  if s.hswState n = hswLatched && decide (wbits (s.reg a) 8 5 = 0) then s.hswGo n hswOff else s

/-- The page is enabled, or stops: the page's enable starts no channel (R305), but a channel whose EN is 1 becomes enabled by
it and is in quarantine after the muster window (R47). -/
def State.hswPage (s : State) (on : Bool) : State :=
  if on then
    (List.range 2).foldl (fun s n => if s.flag (F.HSW_CTRL_EN n) && !s.pwr.muster then s.hswQuar n else s) s
  else (List.range 2).foldl (fun s n => s.hswStop n) s

/-- The device's starts by AUTOEN (R305): writes of EN = 1 as master 0x40. -/
def State.hswAuto (s : State) : State :=
  (List.range 2).foldl (fun s n =>
    if s.flag (F.HSW_CTRL_AUTOEN n) && !s.flag (F.HSW_CTRL_EN n) then
      ((s.hswCtrlWrite n (wputBit (s.reg (Reg.HSW_CTRL n)) 0 true)).1).countWrite Pg.HSW
    else s) s

end Sys2Proof.Machine
end

