-- ==== Sys2Proof/Machine/Ctx.lean ====
section
/-! DEFINITION. Contexts (spec/19 R399 to R405, R415 to R419): windows, doorbells, completion rings, fetch, the device queue,
quarantine of contexts. -/

namespace Sys2Proof.Machine

/-- Status codes of a completion entry (R403, R407 to R419). -/
abbrev stOk : Nat := 0x00
abbrev stAborted : Nat := 0x01
abbrev stTimeout : Nat := 0x02
abbrev stBadArg : Nat := 0x03
abbrev stBusy : Nat := 0x04
abbrev stLocked : Nat := 0x05
abbrev stDomainOff : Nat := 0x06
abbrev stNvmFail : Nat := 0x07
abbrev stNotReady : Nat := 0x08
abbrev stCancelled : Nat := 0x09
abbrev stQuarantined : Nat := 0x0A

/-- The device queue, as a context number (R406). -/
abbrev devCtx : Nat := 256

/-- The register of window `n` at offset `o` (R399), and its parts. -/
def ctxA (n o : Nat) : Nat := 0x40000 + 0x40 * n + o
def State.ctxReg (s : State) (n o : Nat) : Word := s.reg (ctxA n o)
def State.setCtxReg (s : State) (n o : Nat) (v : Word) : State := s.setReg (ctxA n o) v
def State.sqBase (s : State) (n : Nat) : Nat := wbits (s.ctxReg n 0x00) 0 24
def State.sqLog (s : State) (n : Nat) : Nat := wbits (s.ctxReg n 0x04) 0 4
def State.sqTail (s : State) (n : Nat) : Nat := wbits (s.ctxReg n 0x08) 0 8
def State.sqHead (s : State) (n : Nat) : Nat := wbits (s.ctxReg n 0x0C) 0 8
def State.cqBase (s : State) (n : Nat) : Nat := wbits (s.ctxReg n 0x10) 0 24
def State.cqLog (s : State) (n : Nat) : Nat := wbits (s.ctxReg n 0x14) 0 4
def State.cqHead (s : State) (n : Nat) : Nat := wbits (s.ctxReg n 0x18) 0 8
def State.cqTail (s : State) (n : Nat) : Nat := wbits (s.ctxReg n 0x1C) 0 8
def State.cqPhase (s : State) (n : Nat) : Bool := wbit (s.ctxReg n 0x1C) 8
def State.ctxEn (s : State) (n : Nat) : Bool := wbit (s.ctxReg n 0x20) 0
/-- CLASS 3 acts as 2. -/
def State.ctxClass (s : State) (n : Nat) : Nat := satTo 2 (wbits (s.ctxReg n 0x20) 1 2)
/-- MAXFL; 0 acts as 32. -/
def State.ctxMax (s : State) (n : Nat) : Nat := let m := wbits (s.ctxReg n 0x20) 8 8; if m = 0 then 32 else m

/-- The configuration is valid (R400). -/
def State.cfgOk (s : State) (n : Nat) : Bool :=
  let sl := s.sqLog n
  let cl := s.cqLog n
  let sb := s.sqBase n
  let cb := s.cqBase n
  let se := sb + 32 * 2 ^ sl
  let ce := cb + 16 * 2 ^ cl
  decide (1 ≤ sl) && decide (sl ≤ 8) && decide (1 ≤ cl) && decide (cl ≤ 8) &&
  decide (0xB0000 ≤ sb) && decide (se ≤ 0xB8000) && decide (sb % 32 = 0) &&
  decide (0xB0000 ≤ cb) && decide (ce ≤ 0xB8000) && decide (cb % 16 = 0) && (decide (se ≤ cb) || decide (ce ≤ sb))

/-- The context is enabled: its EN and the page's (R47). -/
def State.ctxOn (s : State) (n : Nat) : Bool := s.live Pg.CTX && s.ctxEn n

/-- The context is in quarantine: its bit of CTX_QUAR (R419). -/
def State.ctxQuar (s : State) (n : Nat) : Bool := s.bitOf (Reg.CTX_QUAR (n / 32)) (n % 32)

/-- The completion queue has no room (R402). -/
def State.cqFull (s : State) (n : Nat) : Bool := s.cfgOk n && decide ((s.cqTail n + 1) % 2 ^ s.cqLog n = s.cqHead n)

/-- Commands of a context in flight: fetched, completion entry not written (R404). -/
def State.ctxFlight (s : State) (n : Nat) : Nat :=
  (s.ctx.flight.filter (fun c => c.ctx = n)).length + (s.ctx.fin.filter (fun d => d.ctx = n)).length
def State.hostFlight (s : State) : Nat := (s.ctx.flight.filter (fun c => c.ctx ≠ devCtx)).length + s.ctx.fin.length
def State.devFlight (s : State) : Nat := s.ctxFlight devCtx

/-- The state word of a context, as its window shows it (R399). -/
def State.ctxState (s : State) (n : Nat) : Word :=
  let st := if s.ctxQuar n then 2 else if s.ctxEn n then 1 else 0
  let w := s.ctxReg n 0x24
  BitVec.ofNat 32 (st + 4 * (s.cqFull n).toNat + 8 * (s.cfgOk n).toNat + 256 * satTo 255 (s.ctxFlight n) +
    65536 * wbits w 16 8 + 16777216 * wbits w 24 4)

/-- CTX_INFLIGHT, CTX_STAT and CTX_CLASS_STAT as they read (R421). -/
def State.ctxInflight (s : State) : Word := BitVec.ofNat 32 (s.hostFlight + 65536 * s.devFlight)
def State.ctxLimit (s : State) : Bool := decide (248 ≤ s.hostFlight)
def State.ctxStat (s : State) : Word :=
  let w := s.reg Reg.CTX_STAT
  wput (wput (wput (wput w 0 1 (!s.ctx.flight.isEmpty).toNat) 1 1 s.pwr.muster.toNat) 2 1 s.ctxLimit.toNat) 3 1
    ((List.range 256).any s.cqFull).toNat

/-- CQFULL or LIMIT has gone from 0 to 1 since `t` (R420). -/
def State.fullFrom (s t : State) (n : Nat) : State :=
  if (s.cqFull n && !t.cqFull n) || (s.ctxLimit && !t.ctxLimit) then s.note Pg.CTX 2 else s

/-! ### Completion (R402) -/

/-- One completion entry is written. -/
def State.cqWrite (s : State) (d : Done) : State :=
  let n := d.ctx
  let tail := s.cqTail n
  let ph := s.cqPhase n
  let w0 := BitVec.ofNat 32 (d.tag + 65536 * d.status + 16777216 * d.op)
  let w1 := BitVec.ofNat 32 (s.sqHead n + 65536 * ph.toNat + 131072 * d.quar.toNat)
  let t := s.setSramWords (s.cqBase n + 16 * tail) [w0, w1, d.r0, d.r1]
  let next := (tail + 1) % 2 ^ s.cqLog n
  let ph' := if next = 0 then !ph else ph
  let t := t.setCtxReg n 0x1C (BitVec.ofNat 32 (next + 256 * ph'.toNat))
  let w := s.ctxReg n 0x20
  let t := if d.status = stOk then (if wbit w 4 && !d.noevt then t.note Pg.CTX 0 else t)
    else if wbit w 5 then t.note Pg.CTX 1 else t
  t.fullFrom s n

/-- Pending completions of context `n` are written as room allows, at most `k` of them. -/
def State.cqDrain (s : State) (n : Nat) : Nat → State
  | 0 => s
  | k + 1 =>
    match s.ctx.fin.find? (fun d => d.ctx = n) with
    | none => s
    | some d =>
      if s.cfgOk n && !s.cqFull n then
        (({ s with ctx := { s.ctx with fin := s.ctx.fin.erase d } }).cqWrite d).cqDrain n k
      else s

/-- A device command enters the flight (R415): at most 8 of them. -/
def State.devEnterNow (s : State) (d : DevCmd) : State :=
  let u := s.ctx.nextUid
  let c : Cmd := { uid := u, ctx := devCtx, cls := d.cls, op := d.op, tag := 0, fence := false, noevt := true, bad := false, dlVal := 0,
                   dlUnit := 3, args := d.args, fetchedAt := s.now, cycles := 0, dueAt := none, st := .queued, items := 0,
                   r0 := 0#32, r1 := 0#32, ops := d.ops, notes := [], stop := none }
  { s with ctx := { s.ctx with flight := s.ctx.flight ++ [c], nextUid := u + 1 } }

/-- The device enters a command: one that finds its 8 places in use waits; a periodic sweep (`drop`) is dropped (R415). -/
def State.devEnter (s : State) (d : DevCmd) (drop : Bool) : State :=
  if s.devFlight < 8 then s.devEnterNow d
  else if drop then s else { s with ctx := { s.ctx with dev := s.ctx.dev ++ [d] } }

/-- A place has become free: the command that waits longest takes it. -/
def State.devNext (s : State) : State :=
  match s.ctx.dev with
  | d :: rest => if s.devFlight < 8 then ({ s with ctx := { s.ctx with dev := rest } }).devEnterNow d else s
  | [] => s

/-- The command is out of the flight with its status and results: its completion entry follows as room allows; a device
command writes none (R402, R415). -/
def State.cmdFinish (s : State) (c : Cmd) (status : Nat) (r0 r1 : Word) : State :=
  let s := { s with ctx := { s.ctx with flight := s.ctx.flight.filter (fun x => x.uid ≠ c.uid) } }
  if c.ctx = devCtx then s.devNext
  else
    let d : Done := { ctx := c.ctx, tag := c.tag, op := c.op, noevt := c.noevt, status := status, quar := s.ctxQuar c.ctx, r0 := r0, r1 := r1 }
    ({ s with ctx := { s.ctx with fin := s.ctx.fin ++ [d] } }).cqDrain c.ctx 256

/-- A block reports the end of a command it serves. -/
def State.cmdReport (s : State) (uid status : Nat) (r0 r1 : Word) : State :=
  { s with ctx := { s.ctx with results := s.ctx.results ++ [(uid, status, r0, r1)] } }

def State.modCmd (s : State) (uid : Nat) (f : Cmd → Cmd) : State :=
  { s with ctx := { s.ctx with flight := s.ctx.flight.map (fun c => if c.uid = uid then f c else c) } }

/-! ### Quarantine of contexts (R419) -/

/-- Entries not fetched are discarded and counted. -/
def State.ctxDiscard (s : State) (n : Nat) : State :=
  let k := (s.sqTail n + 2 ^ s.sqLog n - s.sqHead n) % 2 ^ s.sqLog n
  let w := s.ctxReg n 0x24
  ((s.setCtxReg n 0x24 (wput w 16 8 (wbits w 16 8 + k))).setCtxReg n 0x0C (BitVec.ofNat 32 (s.sqTail n)))

/-- QUEUED commands of context `n` complete with `status`. -/
def State.dropQueued (s : State) (n status : Nat) : State :=
  (s.ctx.flight.filter (fun c => c.ctx = n && c.st == .queued)).foldl (fun s c => s.cmdFinish c status 0#32 0#32) s

/-- Context `n` enters quarantine, or its test starts again. -/
def State.ctxQuarEnter (s : State) (n : Nat) : State :=
  let s := s.putBit (Reg.CTX_QUAR (n / 32)) (n % 32) true
  let s := { s with ctx := { s.ctx with quar := (n, s.now) :: s.ctx.quar.filter (fun e => e.1 ≠ n) } }
  (s.dropQueued n stQuarantined).ctxDiscard n

/-- Context `n` leaves quarantine; QFAIL is kept by a cleared enable and cleared otherwise. -/
def State.ctxQuarExit (s : State) (n : Nat) : State :=
  let s := s.putBit (Reg.CTX_QUAR (n / 32)) (n % 32) false
  { s with ctx := { s.ctx with quar := s.ctx.quar.filter (fun e => e.1 ≠ n) } }
def State.ctxClear (s : State) (n : Nat) : State :=
  (s.ctxQuarExit n).setCtxReg n 0x24 (wput (s.ctxReg n 0x24) 24 4 0)

/-- The qualification test (R419). -/
def State.ctxPass (s : State) (n : Nat) : Bool :=
  s.ctxQuar n && s.ctxOn n && decide (s.ctxFlight n = 0) && s.cfgOk n && decide (s.cqHead n = s.cqTail n)
def State.ctxQualify (s : State) (n : Nat) : State := if s.ctxPass n then s.ctxClear n else s

/-- The window of context `n` has ended without a pass, one in its last tick included (R21): QFAIL goes up and the test starts
again. -/
def State.ctxWindowFail (s : State) (n : Nat) : State :=
  match s.ctx.quar.find? (fun e => e.1 = n) with
  | some e =>
    if s.ctxQuar n && s.ctxOn n && !s.ctxPass n then
      let ends := e.2 + ticksPerMs * max 1 (s.get F.CTX_CFG_QWIN)
      let s := s.elapseTo (ends + 1)
      let w := s.ctxReg n 0x24
      let s := s.setCtxReg n 0x24 (wput w 24 4 (satTo 15 (wbits w 24 4 + 1)))
      { s with ctx := { s.ctx with quar := (n, max ends (s.now - 1)) :: s.ctx.quar.filter (fun x => x.1 ≠ n) } }
    else s
  | none => s

/-- Context `n` becomes enabled, or stops (R47, R51). -/
def State.ctxStart (s : State) (n : Nat) : State := if s.pwr.muster then s else s.ctxQuarEnter n

/-- The page is enabled, or disabled. -/
def State.ctxPage (s : State) (on : Bool) : State :=
  ((List.range 256).filter s.ctxEn).foldl (fun s n => if on then s.ctxStart n else s.ctxQuarExit n) s

/-- A write to CTX_QUAR[k] (R47, R50, R51). Answers the contexts it was a host clear for. -/
def State.ctxQuarWrite (s : State) (k : Nat) (v : Word) : State × List Nat :=
  let on := (List.range 32).filter (fun b => s.ctxOn (32 * k + b))
  let clear := on.filter (fun b => !wbit v b && s.ctxQuar (32 * k + b) && !s.ctxPass (32 * k + b))
  let s := on.foldl (fun s b =>
    let n := 32 * k + b
    if wbit v b then s.ctxQuarEnter n else if s.ctxQuar n then s.ctxClear n else s) s
  (s, clear.map (fun b => 32 * k + b))

/-! ### Windows and doorbells (R399, R401) -/

/-- A doorbell is dropped for `cause` (R401). -/
def State.dropBell (s : State) (n cause : Nat) : State :=
  let w := s.reg Reg.CTX_ERRCTX
  let s := s.setReg Reg.CTX_ERRCTX (BitVec.ofNat 32 (n + 256 * cause + 65536 * ((wbits w 16 16 + 1) % 65536)))
  (s.setFlag F.CTX_STAT_DBERR).note Pg.CTX 3

/-- A doorbell of context `n` with tail `t` (R401). -/
def State.doorbell (s : State) (n t : Nat) : State :=
  if !s.ctxEn n then s.dropBell n 1
  else if s.ctxQuar n then s.dropBell n 2
  else if !s.cfgOk n then (s.dropBell n 4).ctxQuarEnter n
  else if 2 ^ s.sqLog n ≤ t then (s.dropBell n 3).ctxQuarEnter n
  else s.setCtxReg n 0x08 (BitVec.ofNat 32 t)

/-- An accepted write to a field marked RW* resets the ring pointers (R399). -/
def State.ctxRings (s : State) (n : Nat) : State :=
  (((s.setCtxReg n 0x08 0#32).setCtxReg n 0x0C 0#32).setCtxReg n 0x18 0#32).setCtxReg n 0x1C 0x100#32

/-- The writable bits of the configuration fields. -/
def ctxMask (o : Nat) : Word := if o = 0x00 || o = 0x10 then 0x00FFFFFF#32 else 0xF#32

/-- A write to a context window (R399, R401): what it answers, and the state. -/
def State.ctxWrite (s : State) (n o : Nat) (v : Word) : State × Status :=
  if o = 0x00 || o = 0x04 || o = 0x10 || o = 0x14 then
    if s.ctxEn n && !s.ctxQuar n then (s, .refused)
    else ((s.setCtxReg n o (v &&& ctxMask o)).ctxRings n, .ok)
  else if o = 0x08 then (s.doorbell n (wbits v 0 8), .ok)
  else if o = 0x18 then
    if 2 ^ s.cqLog n ≤ wbits v 0 8 then (s, .refused)
    else ((s.setCtxReg n 0x18 (BitVec.ofNat 32 (wbits v 0 8))).cqDrain n 256, .ok)
  else if o = 0x20 then
    let was := s.ctxOn n
    let s := s.setCtxReg n 0x20 (v &&& 0x0000FF37#32)
    let on := s.ctxOn n
    if !was && on then (s.ctxStart n, .ok) else if was && !on then (s.ctxQuarExit n, .ok) else (s, .ok)
  else (s, .roWrite)

/-- A read of a context window. -/
def State.ctxRead (s : State) (n o : Nat) : Word := if o = 0x24 then s.ctxState n else s.ctxReg n o

/-! ### Fetch (R404, R416) -/

/-- Entries fetched in the muster window by context `n`. -/
def State.musterFetched (s : State) (n : Nat) : Nat := ((s.ctx.fetched.find? (fun e => e.1 = n)).map Prod.snd).getD 0

/-- The engine may fetch an entry of context `n`. -/
def State.mayFetch (s : State) (n : Nat) : Bool :=
  s.ctxOn n && s.cfgOk n && !s.ctxQuar n && decide (s.sqHead n ≠ s.sqTail n) && !s.cqFull n && !s.ctxLimit &&
  decide (s.ctxFlight n < s.ctxMax n) && (!s.pwr.muster || decide (s.musterFetched n < 4))

/-- The next number after `p` in turn among `n`, for which `f` holds. -/
def nextInTurn (n : Nat) (p : Option Nat) (f : Nat → Bool) : Option Nat :=
  let first := match p with | some k => k + 1 | none => 0
  ((List.range n).map (fun i => (first + i) % n)).find? f

/-- The command that an entry's eight words spell (R403). -/
def State.cmdOf (s : State) (n : Nat) (ws : List Word) : Cmd :=
  let w0 := ws.headD 0#32
  let w1 := nth 0#32 ws 1
  let due := decide (wbits w1 30 2 = 2) && (decide (wbits w1 0 30 = 0) || !s.domOn 3)
  { uid := s.ctx.nextUid, ctx := n, cls := if wbits w0 0 8 = 0x7F then 0 else s.ctxClass n, op := wbits w0 0 8,
    tag := wbits w0 16 16, fence := wbit w0 8, noevt := wbit w0 9,
    bad := decide (wbits w0 10 6 ≠ 0), dlVal := wbits w1 0 30, dlUnit := wbits w1 30 2, args := ws.drop 2, fetchedAt := s.now,
    cycles := 0, dueAt := if due then some s.now else none, st := .queued, items := 0, r0 := 0#32, r1 := 0#32, ops := [], notes := [], stop := none }

/-- The engine fetches an entry from the next context in turn: eight words through the fabric (R404). -/
def State.cmdFetch (s : State) : State :=
  match nextInTurn 256 s.ctx.lastFetch s.mayFetch with
  | none => s
  | some n =>
    let h := s.sqHead n
    let ws := s.sramWords (s.sqBase n + 32 * h) 8
    let s' := s.elapse 8
    let c := s'.cmdOf n ws
    let t := s'.setCtxReg n 0x0C (BitVec.ofNat 32 ((h + 1) % 2 ^ s.sqLog n))
    let f := s.musterFetched n
    let t := { t with ctx := { t.ctx with
      flight := t.ctx.flight ++ [c], nextUid := t.ctx.nextUid + 1, lastFetch := some n
      fetched := if s.pwr.muster then (n, f + 1) :: t.ctx.fetched.filter (fun e => e.1 ≠ n) else t.ctx.fetched } }
    if t.ctxLimit && !s.ctxLimit then t.note Pg.CTX 2 else t

/-! ### The choice of a slice (R405, R406, R416) -/

/-- The commands of its context that were fetched before `c` and are not finished. -/
def State.earlier (s : State) (c : Cmd) : List Cmd :=
  (s.ctx.flight.takeWhile (fun x => x.uid ≠ c.uid)).filter (fun x => x.ctx = c.ctx)

/-- Within the muster window only the reads of class-0 contexts run. -/
def State.mayRun (s : State) (c : Cmd) : Bool :=
  !s.pwr.muster || (decide (c.ctx ≠ devCtx) && (decide (c.op = 0x01) || decide (c.op = 0x60)) && decide (c.cls = 0))

/-- The command may start or continue. An ABORT does not wait for commands queued before it. -/
def State.cmdReady (s : State) (c : Cmd) : Bool :=
  s.mayRun c &&
  match c.st with
  | .ready => true
  | .waiting _ => false
  | .queued =>
    (decide (c.op = 0x7F) || (s.earlier c).all (fun x => decide (x.st ≠ CmdState.queued) || decide (x.op = 0x7F))) &&
    (!c.fence || (s.earlier c).isEmpty)

/-- The ready commands of class `k`. -/
def State.readyIn (s : State) (k : Nat) : List Cmd := s.ctx.flight.filter (fun c => decide (c.cls = k) && s.cmdReady c)

/-- The class that is served next. -/
def State.classNext (s : State) : Option Nat :=
  if 15 ≤ s.ctx.bgDebt ∧ s.readyIn 2 ≠ [] then some 2 else [0, 1, 2].find? (fun k => s.readyIn k ≠ [])

/-- The command whose slice is next, with its class: the next context in turn, its oldest ready command. -/
def State.cmdNext (s : State) : Option (Nat × Cmd) :=
  if !s.live Pg.CTX then none
  else
    match s.classNext with
    | none => none
    | some k =>
      match nextInTurn 257 (nth none s.ctx.served k) (fun n => (s.readyIn k).any (fun c => c.ctx = n)) with
      | none => none
      | some n => ((s.readyIn k).find? (fun c => c.ctx = n)).map (fun c => (k, c))

/-- The choice takes 4 ticks; the turn of the class and BGDEBT follow, and the slice is counted. -/
def State.sliceTaken (s : State) (k : Nat) (c : Cmd) : State :=
  let debt := if k = 2 then 0 else if s.readyIn 2 ≠ [] then satTo 15 (s.ctx.bgDebt + 1) else s.ctx.bgDebt
  let w := s.reg Reg.CTX_STAT
  (({ s with ctx := { s.ctx with served := modAt k (fun (_ : Option Nat) => some c.ctx) s.ctx.served, bgDebt := debt } }).setReg
    Reg.CTX_STAT (wput w 16 16 (wbits w 16 16 + 1))).elapse 4

/-! ### Ends of the engine's work (R417, R418) -/

/-- Every context command in flight becomes a completion with CANCELLED_BY_RESET; device commands end. -/
def State.cancelled (s : State) : List Done :=
  (s.ctx.flight.filter (fun c => c.ctx ≠ devCtx)).map (fun c =>
    { ctx := c.ctx, tag := c.tag, op := c.op, noevt := c.noevt, status := stCancelled, quar := s.ctxQuar c.ctx, r0 := c.r0, r1 := c.r1 })

/-- Those completions are written while their queues have room, and the rest are discarded and counted (R418). -/
def State.cancelAll (s : State) : State :=
  let ds := s.ctx.fin ++ s.cancelled
  let s := { s with ctx := { s.ctx with flight := [], fin := [], dev := [], results := [] } }
  ds.foldl (fun s d =>
    if s.cfgOk d.ctx && !s.cqFull d.ctx then s.cqWrite d
    else
      let w := s.ctxReg d.ctx 0x24
      s.setCtxReg d.ctx 0x24 (wput w 16 8 (wbits w 16 8 + 1))) s

end Sys2Proof.Machine
end

