-- ==== Sys2Proof/Machine/Ldg.lean ====
section
/-! DEFINITION. The tenant ledger and the field buses (spec/16): UARTs and their protocols, slots, sweeps, intervals, shedding,
snapshots, the plant bus. -/

namespace Sys2Proof.Machine

/-! ### Slots (R340) -/

/-- The address of word `w` of slot `n`. -/
def slotA (n w : Nat) : Nat := 0x90000 + 0x20 * n + 4 * w
def State.slotW (s : State) (n w : Nat) : Word := s.sramWord (slotA n w)
def State.setSlotW (s : State) (n w : Nat) (v : Word) : State := s.setSramWord (slotA n w) v
/-- A field of W0, and its write. -/
def State.slotF (s : State) (n lo len : Nat) : Nat := wbits (s.slotW n 0) lo len
def State.putSlotF (s : State) (n lo len v : Nat) : State := s.setSlotW n 0 (wput (s.slotW n 0) lo len v)
def State.slotAddr (s : State) (n : Nat) : Nat := s.slotF n 0 8
/-- PROTO; 3 acts as 0. -/
def State.slotProto (s : State) (n : Nat) : Nat := let p := s.slotF n 8 2; if p = 3 then 0 else p
/-- The slot has a meter that can be addressed (R338, R339). -/
def State.slotUsed (s : State) (n : Nat) : Bool :=
  let a := s.slotAddr n
  match s.slotProto n with
  | 1 => decide (1 ≤ a) && decide (a ≤ 254)
  | 2 => decide (1 ≤ a) && decide (a ≤ 247)
  | _ => false

/-- The first slot from `k` on with a meter, among the next `left`. -/
def State.slotFrom (s : State) (k : Nat) : Nat → Option Nat
  | 0 => none
  | left + 1 => if s.slotUsed k then some k else s.slotFrom (k + 1) left

/-- A write of `v` to W0 of slot `n`: a change of ADDR or PROTO clears what the ledger holds of it (R340). -/
def State.slotChanged (s : State) (n : Nat) (old : Word) : State :=
  let v := s.slotW n 0
  if wbits old 0 10 = wbits v 0 10 then s
  else ((s.setSlotW n 0 (wput v 20 8 0)).setSramWords (slotA n 2) (List.replicate 6 0#32))
def State.slotWrite (s : State) (n : Nat) (v : Word) : State := (s.setSlotW n 0 v).slotChanged n (s.slotW n 0)

/-! ### UARTs (R335 to R339) -/

def State.u1On (s : State) : Bool := s.live Pg.BUS && s.flag F.BUS_U1_CFG_EN && !s.pwr.muster
def State.u2On (s : State) : Bool := s.live Pg.BUS && s.flag F.BUS_U2_CFG_EN && !s.pwr.muster

/-- Modbus rate of BAUD `b`, in baud. -/
def baudOf (b : Nat) : Nat := match b with | 1 => 19200 | 2 => 38400 | 3 => 57600 | 4 => 115200 | _ => 9600

/-- Ticks of `n` bits at `baud`. -/
def bitTicks (baud n : Nat) : Nat := ceilDiv (n * ticksPerSec) baud

/-- The idle gap before a request of `bits` bits a character: 3.5 characters, or 1.75 ms above 19,200 baud (R335). -/
def gapTicks (baud bits : Nat) : Nat := if 19200 < baud then 7 * ticksPerMs / 4 else ceilDiv (7 * bits * ticksPerSec) (2 * baud)

/-- Bytes of a 16-bit number, high byte first; a CRC-16 as it is sent, low byte first. -/
def be16 (n : Nat) : List Byte := [BitVec.ofNat 8 (n / 256), BitVec.ofNat 8 n]
def withCrc16 (bs : List Byte) : List Byte :=
  let c := crc16 0xFFFF#16 bs
  bs ++ [c.extractLsb' 0 8, c.extractLsb' 8 8]

/-- A Gen-1 request (R338). -/
def gen1Request (addr kind : Nat) : List Byte :=
  let b := [0xA5#8, BitVec.ofNat 8 addr, BitVec.ofNat 8 kind, 0#8, 0#8, 0#8, 0#8]
  b ++ [crc8 0#8 b]

/-- A Modbus read of `n` registers, by function 04 or 03 (R339, R349). -/
def readRequest (addr : Nat) (fc04 : Bool) (reg n : Nat) : List Byte :=
  withCrc16 ([BitVec.ofNat 8 addr, if fc04 then 4#8 else 3#8] ++ be16 reg ++ be16 n)

/-- The function of a Gen-2 request, and the request (R339). -/
def State.gen2Func (s : State) (n kind : Nat) : Nat :=
  if kind = 1 then (if s.slotF n 15 1 = 1 then 4 else 3) else if s.flag F.LDG_CFG_MB16 then 16 else 6
def State.gen2Request (s : State) (n kind : Nat) : List Byte :=
  let a := s.slotAddr n
  let w1 := s.slotW n 1
  if kind = 1 then readRequest a (s.slotF n 15 1 = 1) (wbits w1 0 16) 2
  else
    let reg := be16 (wbits w1 16 16)
    let v := be16 (if kind = 2 then 1 else 0)
    if s.flag F.LDG_CFG_MB16 then withCrc16 ([BitVec.ofNat 8 a, 16#8] ++ reg ++ be16 1 ++ [2#8] ++ v)
    else withCrc16 ([BitVec.ofNat 8 a, 6#8] ++ reg ++ v)

/-- What UART1 does next: the repetition that waits, the transactions that go first, the sweep's next READ (R342, R343). -/
def State.u1Next (s : State) : Option UartRun :=
  match s.ldg.u1 with
  | some r => if r.sent.isNone then some r else none
  | none =>
    let fresh (j : MeterJob) : UartRun := { job := j, left := s.get F.BUS_U1_CFG_RETRY, sent := none }
    match s.ldg.todo with
    | j :: _ => some (fresh j)
    | [] =>
      match s.ldg.sweep with
      | some k => (s.slotFrom k (256 - k)).map (fun n => fresh { slot := n, kind := 1, cmd := none })
      | none => none

/-- UART1 sends a request: after the idle gap DE goes high, one bit time ahead of the first start bit (R335). -/
def State.u1Start (s : State) : State :=
  match s.u1On, s.u1Next with
  | true, some r =>
    let n := r.job.slot
    let gen1 := decide (s.slotProto n = 1)
    let baud := if gen1 then 2400 else baudOf (s.get F.BUS_U1_CFG_BAUD)
    let bits := if gen1 then 10 else 11
    let bytes := if gen1 then gen1Request (s.slotAddr n) r.job.kind else s.gen2Request n r.job.kind
    let s := s.elapse (gapTicks baud bits)
    let ends := s.now + bitTicks baud (1 + bits * bytes.length)
    let l := s.ldg
    let l := { l with
      u1 := some { r with sent := some ends }, sent1 := bytes
      todo := if l.u1.isNone then l.todo.drop 1 else l.todo
      sweep := if l.u1.isNone && l.todo.isEmpty then some (n + 1) else l.sweep }
    ({ s with ldg := l }).putFlag F.BUS_U1_STAT_BUSY true
  | _, _ => s

/-- The ticks a response is awaited for. -/
def State.respTmo (s : State) (u : Nat) : Nat :=
  ticksPerMs * max 1 (s.get (if u = 0 then F.BUS_U1_CFG_RESPTMO else F.BUS_U2_CFG_RESPTMO))

/-- The error code of a Modbus response to function `fc` of station `addr`, with `n` registers read; 0 for a good one. A read
answers its byte count and data, a write of one register echoes six bytes (R337). -/
def modbusErr (addr fc n : Nat) (bs : List Byte) : Nat :=
  let len := if fc = 3 || fc = 4 then 5 + 2 * n else 8
  let exc := decide (frameByte bs 1 = fc + 128) && decide (bs.length = 5)
  if !(exc || decide (bs.length = len)) then 4
  else if withCrc16 (bs.take (bs.length - 2)) ≠ bs then 2
  else if frameByte bs 0 ≠ addr then 4
  else if exc then 3
  else if frameByte bs 1 ≠ fc then 4
  else if (fc = 3 || fc = 4) && decide (frameByte bs 2 ≠ 2 * n) then 4
  else 0

/-- The registers of a read, as one number, high register first. -/
def modbusValue (n : Nat) (bs : List Byte) : Nat := (List.range (2 * n)).foldl (fun a i => 256 * a + frameByte bs (3 + i)) 0

/-- The error code of a Gen-1 response (R338). -/
def gen1Err (addr : Nat) (bs : List Byte) : Nat :=
  if bs.length ≠ 8 then 4
  else if crc8 0#8 (bs.take 7) ≠ BitVec.ofNat 8 (frameByte bs 7) then 2
  else if frameByte bs 0 ≠ 0x5A || frameByte bs 1 ≠ addr then 4
  else 0

/-! ### Sweeps and readings (R341 to R343) -/

/-- A sweep with nothing left to do ends (R342). -/
def State.sweepCheck (s : State) : State :=
  match s.ldg.sweep with
  | some k =>
    if s.ldg.u1.isNone && s.ldg.todo.isEmpty && (s.slotFrom k (256 - k)).isNone then
      let good := s.ldg.good
      let cmd := s.ldg.sweepCmd
      let s := ((({ s with ldg := { s.ldg with sweep := none, sweepCmd := none } }).putFlag F.LDG_STAT_SWEEP false).inc
        F.LDG_STAT_SWEEPS).note Pg.LDG 0
      match cmd with
      | some u => s.cmdReport u 0 (BitVec.ofNat 32 good) 0#32
      | none => s
    else s
  | none => s

/-- A sweep starts (R342). -/
def State.ledgerSweep (s : State) (cmd : Option Nat) : State :=
  (({ s with ldg := { s.ldg with sweep := some 0, good := 0, sweepCmd := cmd } }).putFlag F.LDG_STAT_SWEEP true).sweepCheck

/-- A good reading `r` of slot `n` (R341). -/
def State.goodReading (s : State) (n : Nat) (r : Word) : State :=
  let d := r - s.slotW n 2
  let back := decide (2 ^ 31 ≤ d.toNat)
  let s := if back then (s.logRec 0x1E02 (BitVec.ofNat 32 n) 0#32).setSlotW n 3 r else s.setSlotW n 7 (s.slotW n 7 + d)
  let s := (s.setSlotW n 2 r).setSlotW n 5 (s.reg Reg.SYS_RTC_SEC)
  let w6 := s.slotW n 6
  let s := s.setSlotW n 6 (wput w6 0 16 (wbits w6 0 16 + 1))
  s.setSlotW n 0 (wput (wput (wput (wput (s.slotW n 0) 21 1 0) 22 1 back.toNat) 23 1 0) 24 4 0)

/-- The first good reading after a change of ADDR or PROTO is the BASE too (R340): READING, BASE and RTC are 0 until then. -/
def State.takeReading (s : State) (n : Nat) (r : Word) : State :=
  if decide (s.slotW n 2 = 0#32) && decide (s.slotW n 3 = 0#32) && decide (s.slotW n 5 = 0#32) then
    ((s.setSlotW n 2 r).setSlotW n 3 r).goodReading n r
  else s.goodReading n r

/-- A transaction of slot `n` has failed for good (R341, R346). -/
def State.meterFailed (s : State) (j : MeterJob) : State :=
  let n := j.slot
  let w6 := s.slotW n 6
  let s := s.setSlotW n 6 (wput w6 16 16 (wbits w6 16 16 + 1))
  if j.kind = 1 then
    let miss := satTo 15 (s.slotF n 24 4 + 1)
    let s := s.putSlotF n 24 4 miss
    if decide (max 1 (s.get F.BUS_U1_CFG_MISSMAX) ≤ miss) && decide (s.slotF n 23 1 = 0) then
      ((s.putSlotF n 23 1 1).logRec 0x1F01 0#32 0#32).note Pg.BUS 0
    else s
  else match j.cmd with
    | some u =>
      let k := ((s.ldg.fails.find? (fun e => e.1 = u)).map Prod.snd).getD 0
      { s with ldg := { s.ldg with fails := (u, k + 1) :: s.ldg.fails.filter (fun e => e.1 ≠ u) } }
    | none => s

/-- The shed state repeated after a READ (R343). -/
def State.repeatShed (s : State) (n : Nat) (status : Nat) : State :=
  let shed := decide (s.slotF n 20 1 = 1)
  let again := if s.slotProto n = 1 then decide (status % 2 = 1) != shed else shed
  if s.ldg.sweep.isSome && again then
    { s with ldg := { s.ldg with todo := s.ldg.todo ++ [{ slot := n, kind := if shed then 2 else 3, cmd := none }] } }
  else s

/-- The command `u` has no shed transaction left: it is reported with its failures (R346). -/
def State.shedCheck (s : State) (u : Nat) : State :=
  let mine (j : MeterJob) : Bool := decide (j.cmd = some u)
  if s.ldg.todo.any mine || (match s.ldg.u1 with | some r => mine r.job | none => false) then s
  else
    let k := ((s.ldg.fails.find? (fun e => e.1 = u)).map Prod.snd).getD 0
    ({ s with ldg := { s.ldg with fails := s.ldg.fails.filter (fun e => e.1 ≠ u) } }).cmdReport u 0 (BitVec.ofNat 32 k)
      (BitVec.ofNat 32 (s.get F.LDG_SHED_STAT_LEVEL))

/-- A transaction of UART1 has ended, for good: what waits for it goes on. -/
def State.u1End (s : State) (r : UartRun) : State :=
  let s := (({ s with ldg := { s.ldg with u1 := none } }).putFlag F.BUS_U1_STAT_BUSY false).inc F.BUS_U1_STAT_COUNT
  let s := match r.job.cmd with
    | some u => s.shedCheck u
    | none => s
  s.sweepCheck

/-- A transaction of UART `u` with station `addr` counts as failed, after its last repetition, with error `e` (R337). -/
def State.uartErr (s : State) (u e addr : Nat) : State :=
  let w := s.reg (Reg.BUS_ERRCNT u)
  let s := s.setReg (Reg.BUS_ERRCNT u)
    (if e = 1 then wput w 0 16 (wbits w 0 16 + 1) else wput w 16 16 (wbits w 16 16 + 1))
  s.put (if u = 0 then F.BUS_U1_STAT_ADDR else F.BUS_U2_STAT_ADDR) addr

/-- Un_STAT.ERR takes the error of a transaction that failed, one that is repeated too (R337). -/
def State.uartCode (s : State) (u e : Nat) : State := s.put (if u = 0 then F.BUS_U1_STAT_ERR else F.BUS_U2_STAT_ERR) e

/-- UART1's transaction fails with error `e`: it is repeated, or has failed for good. -/
def State.u1Fail (s : State) (r : UartRun) (e : Nat) : State :=
  let s := s.uartCode 0 e
  if 0 < r.left then { s with ldg := { s.ldg with u1 := some { r with left := r.left - 1, sent := none } } }
  else (((s.uartErr 0 e (s.slotAddr r.job.slot)).meterFailed r.job)).u1End r

/-- A response on UART1, its last character `delay` ticks after the request; `bad` for a parity or framing error or a gap. -/
def State.u1Response (s : State) (bs : List Byte) (delay : Nat) (bad : Bool) : State :=
  match s.ldg.u1 with
  | some r =>
    (match r.sent with
      | none => s
      | some t =>
        if s.respTmo 0 < delay || !s.u1On then s
        else
          let s := s.elapseTo (t + delay)
          let n := r.job.slot
          let gen1 := decide (s.slotProto n = 1)
          let e := if bad then 4
            else if gen1 then gen1Err (s.slotAddr n) bs
            else modbusErr (s.slotAddr n) (s.gen2Func n r.job.kind) 2 bs
          if e ≠ 0 then s.u1Fail r e
          else if r.job.kind = 1 then
            let v : Word := if gen1 then BitVec.ofNat 32 (bytesNat ((bs.drop 3).take 4))
              else BitVec.ofNat 32 (modbusValue 2 bs * (if s.slotF n 16 1 = 1 then 10 else 1))
            let s := (s.takeReading n v).repeatShed n (frameByte bs 2)
            ({ s with ldg := { s.ldg with good := if s.ldg.sweep.isSome then s.ldg.good + 1 else s.ldg.good } }).u1End r
          else
            let w6 := s.slotW n 6
            (s.setSlotW n 6 (wput w6 0 16 (wbits w6 0 16 + 1))).u1End r)
  | none => s

/-- No response in time on UART1 (R337): one that ends in the last tick of RESPTMO is in time. -/
def State.u1Timeout (s : State) : State :=
  match s.ldg.u1 with
  | some r =>
    (match r.sent with
      | none => s
      | some t => (s.elapseTo (t + s.respTmo 0 + 1)).u1Fail r 1)
  | none => s

/-! ### Intervals (R344, R345) -/

/-- The sum of IENERGY over the slots of phase `p` (3: three-phase). -/
def State.phaseEnergy (s : State) (p : Nat) : Nat :=
  ((List.range 256).map (fun n => if s.slotF n 10 2 = p then (s.slotW n 4).toNat else 0)).sum

/-- Step 1 of a close for slot `n`; `first` for a close that only sets the bases. -/
def State.closeSlot (s : State) (first : Bool) (n : Nat) : State :=
  let r := s.slotW n 2
  let e := if first then 0#32 else r - s.slotW n 3
  ((s.setSlotW n 4 e).setSlotW n 3 r).putSlotF n 21 1 1

/-- Phases that a slot with no good reading leaves incomplete. -/
def State.incomplete (s : State) : Nat :=
  (List.range 256).foldl (fun a n =>
    if s.slotProto n ≠ 0 && s.slotF n 21 1 = 1 then
      (let p := s.slotF n 10 2; if p = 3 then 7 else a ||| 2 ^ p) else a) 0

/-- Exports minus imports of phase `p`, in 0.001 Wh. -/
def State.metNet (s : State) (p : Nat) : Int := ((nth (0 : Nat) s.met.acc (4 * p) : Nat) : Int) - ((nth (0 : Nat) s.met.acc (4 * p + 1) : Nat) : Int)

/-- What a close finds of phase `p`: FEED, TEN, LOSS and U, and the remainder of the metering carried on. -/
def State.reconPhase (s : State) (p : Nat) : Int × Int × Int × Int × Int :=
  let milli := s.metNet p - nth 0 s.ldg.metLast p + nth 0 s.ldg.metRem p
  let ext := s.sramWord (0x92000 + 4 * p) - nth 0#32 s.ldg.extLast p
  let feed := milli / 1000 + (ext.toNat : Int)
  let ten := roundHalfUp ((s.phaseEnergy p : Rat) + (s.phaseEnergy 3 : Rat) / 3)
  let loss := roundHalfUp ((feed : Rat) * (s.get F.LDG_LOSS_LOSS : Rat) / 65536)
  (feed, ten, loss, feed - loss - ten, milli % 1000)

def wordI (x : Int) : Word := BitVec.ofNat 32 (wrapBits 32 x)

/-- Phase `p` is judged (R345): unaccounted, or negative. Answers whether it is unaccounted. -/
def State.judgePhase (s : State) (p : Nat) (feed u : Int) : State × Bool :=
  let bound : Rat :=
    let a := (s.get F.LDG_TOL_TOLF : Rat) / 1000 * (feed : Rat)
    let b : Rat := (s.get F.LDG_TOL_TOLA : Nat)
    if a < b then b else a
  if (u : Rat) > bound then ((s.setW1c Reg.LDG_STAT (6 + p)).logRec 0x1E01 (BitVec.ofNat 32 p) (wordI u), true)
  else if (u : Rat) < -bound then (s.setW1c Reg.LDG_STAT (9 + p), false)
  else (s, false)

/-- Snapshot units that are not erased, in the sector of unit `k`, among the units of `us`. -/
def State.unitDirty (s : State) (k : Nat) : Bool := !(s.nvmBytes (0x3C000 + 256 * k) 256).all (fun b => b = 0xFF#8)

/-- The bytes of a snapshot's header (R348). -/
def snapHeader (seq unit : Nat) (rtc count : Word) (data : List Byte) : List Byte :=
  let ws := [0x5AD60410#32, BitVec.ofNat 32 seq, rtc, count, BitVec.ofNat 32 unit] ++ List.replicate 58 0#32
  let body := ws.flatMap wbytes
  body ++ wbytes (crc32c (body ++ data))

/-- The NVM operations of a snapshot, data units first and the header last; a sector is erased before the first of its units
that is to be programmed, where one of those is not erased. -/
def State.snapOps (s : State) : List NvmOp :=
  let u := s.ldg.snapUnit
  let data := s.sramBytes 0x90000 0x2100
  let order := (List.range 33).map (fun i => (u + 1 + i) % 512) ++ [u]
  let hdr := snapHeader s.ldg.snapSeq u (s.reg Reg.SYS_RTC_SEC) (BitVec.ofNat 32 (s.get F.LDG_INTERVAL_COUNT)) data
  let prog (i k : Nat) : NvmOp :=
    { erase := false, off := 0x3C000 + 256 * k, data := if i = 33 then hdr else (data.drop (256 * i)).take 256, owner := .ledger }
  let wipe (i k : Nat) : List NvmOp :=
    let sec := k / 16
    if (order.take i).any (fun x => x / 16 = sec) then []
    else if order.any (fun x => decide (x / 16 = sec) && s.unitDirty x) then
      [{ erase := true, off := 0x3C000 + 4096 * sec, data := [], owner := .ledger }]
    else []
  (order.zipIdx).flatMap (fun e => wipe e.2 e.1 ++ [prog e.2 e.1])

/-- The opcode of a snapshot in the device queue (R415): no command of the table. -/
abbrev opSnapshot : Nat := 0x100

/-- A close writes a snapshot (R348). -/
def State.snapshot (s : State) : State :=
  if !s.flag F.LDG_CFG_SNAP then s
  else
    let ops := s.snapOps
    let l := s.ldg
    let s := { s with ldg := { l with snapSeq := l.snapSeq + 1, snapUnit := (l.snapUnit + 34) % 512 } }
    s.devEnter { cls := 2, op := opSnapshot, args := [], ops := ops } false

/-- A ledger interval closes now (R344, R345). -/
def State.ledgerClose (s : State) : State :=
  let first := !s.ldg.started
  let inc := if first then 0 else s.incomplete
  let s := (List.range 256).foldl (fun s n => s.closeSlot first n) s
  let found := (List.range 3).map s.reconPhase
  let zero : Int × Int × Int × Int × Int := (0, 0, 0, 0, 0)
  let s := (List.range 3).foldl (fun s p =>
    let (feed, ten, loss, u, _) := if first then zero else nth zero found p
    ((s.setReg (Reg.LDG_RECON p) (wordI u)).setSramWords (0x92010 + 12 * p) [wordI feed, wordI ten, wordI loss])) s
  let l := s.ldg
  let s := { s with ldg := { l with
    started := true, metLast := (List.range 3).map s.metNet
    metRem := if first then [0, 0, 0] else found.map (fun (f : Int × Int × Int × Int × Int) => f.2.2.2.2)
    extLast := (List.range 3).map (fun p => s.sramWord (0x92000 + 4 * p)) } }
  let s := (s.inc F.LDG_INTERVAL_COUNT).put F.LDG_STAT_INCOMP inc
  let (s, any) := if first then (s, false) else (List.range 3).foldl (fun (a : State × Bool) p =>
    if natBit inc p then a
    else
      let (feed, _, _, u, _) := nth zero found p
      let (t, hit) := a.1.judgePhase p feed u
      (t, a.2 || hit)) (s, false)
  (if any then s.note Pg.LDG 1 else s).snapshot

/-- SYS_RTC_SEC has become a multiple of LEN minutes (R344). -/
def State.intervalDue (s : State) : Bool :=
  let t := s.reg Reg.SYS_RTC_SEC
  s.live Pg.LDG && decide (t.toNat % (60 * max 1 (s.get F.LDG_INTERVAL_LEN)) = 0) && decide (s.ldg.closeSec ≠ some t)
def State.intervalClose (s : State) : State :=
  if s.intervalDue then (({ s with ldg := { s.ldg with closeSec := some (s.reg Reg.SYS_RTC_SEC) } } : State)).ledgerClose else s

/-- An automatic sweep is due (R342): SYS_RTC_SEC is a multiple of SWEEP minutes, or SWEEP is 0 and none runs. -/
def State.autoSweep (s : State) : State :=
  let t := s.reg Reg.SYS_RTC_SEC
  let k := s.get F.LDG_CFG_SWEEP
  let polls := s.ctx.flight.any (fun c => c.op = 0x31)
  let due := if k = 0 then s.ldg.sweep.isNone && !polls else decide (t.toNat % (60 * k) = 0) && decide (s.ldg.sweepSec ≠ some t)
  if s.live Pg.LDG && s.flag F.LDG_CFG_AUTOSWEEP && due then
    let s := { s with ldg := { s.ldg with sweepSec := some t } }
    if s.ldg.sweep.isSome || polls then s else s.devEnter { cls := 2, op := 0x31, args := [], ops := [] } true
  else s

/-! ### Shedding (R346, R347) -/

/-- Slots of rank `r` with a meter, in slot order. -/
def State.rankSlots (s : State) (r : Nat) : List Nat :=
  (List.range 256).filter (fun n => s.slotUsed n && decide (s.slotF n 12 3 = r))

/-- LEVEL becomes `lv`, for command `u`; `auto` for an automatic step (R346). -/
def State.setLevel (s : State) (lv u : Nat) (auto : Bool) : State :=
  let old := s.get F.LDG_SHED_STAT_LEVEL
  let up := decide (old < lv)
  let ranks := if up then ((List.range 8).filter (fun r => decide (8 - lv ≤ r) && decide (r < 8 - old))).reverse
    else (List.range 8).filter (fun r => decide (8 - old ≤ r) && decide (r < 8 - lv))
  let slots := ranks.flatMap s.rankSlots
  let s := s.put F.LDG_SHED_STAT_LEVEL lv
  let s := slots.foldl (fun s n => s.putSlotF n 20 1 up.toNat) s
  let jobs : List MeterJob := slots.map (fun n => { slot := n, kind := if up then 2 else 3, cmd := some u })
  let s := { s with ldg := { s.ldg with todo := s.ldg.todo ++ jobs } }
  let s := if wbit (s.reg Reg.LOG_CFG) 2 then s else s.logRec 0x1E10 (BitVec.ofNat 32 lv) (if auto then 1#32 else 0#32)
  s.note Pg.LDG 2

/-- Genset loads of those that are reported with a closed breaker, in 0.1 % (R347). -/
def State.closedLoads (s : State) : List Nat := s.gensClosed.map (fun n => wbits (s.reg (Reg.BUS_GEN_LOAD n)) 0 16)

/-- The margin: low (true), recovered (false), or neither (R347). -/
def State.genMargin (s : State) : Option Bool :=
  let soc := (s.reg (Reg.BUS_BMS 0)).toNat
  let lo := s.get F.LDG_SHED_STAT_SOCLO
  match s.closedLoads.max? with
  | some l =>
    if 10 * s.get F.LDG_CFG_SHEDHI ≤ l then some true else if l ≤ 10 * s.get F.LDG_CFG_RESTLO then some false else none
  | none => if soc ≤ lo then some true else if lo + 100 ≤ soc then some false else none

/-- A plant-bus update judges the margin (R347). -/
def State.marginJudge (s : State) : State :=
  let m := if s.bus.fresh && s.live Pg.LDG && s.flag F.LDG_CFG_AUTOSHED then s.genMargin else none
  let next := match m, s.ldg.margin with
    | some x, some (y, t) => if x = y then some (y, t) else some (x, s.now)
    | some x, none => some (x, s.now)
    | none, _ => none
  { s with ldg := { s.ldg with margin := next } }

/-- HOLD seconds of a low or recovered margin are over: an automatic step is entered in class 1 (R347). -/
def State.holdExpired (s : State) : State :=
  if !(s.live Pg.LDG && s.flag F.LDG_CFG_AUTOSHED && s.bus.fresh) then { s with ldg := { s.ldg with margin := none } }
  else match s.ldg.margin with
  | some (low, t) =>
    let s := s.elapseTo (t + ticksPerSec * max 1 (s.get F.LDG_SHED_STAT_HOLD))
    let s := { s with ldg := { s.ldg with margin := some (low, s.now) } }
    let lv := s.get F.LDG_SHED_STAT_LEVEL
    if low && decide (lv < 7) then
      (s.putFlag F.LDG_SHED_STAT_AUTO true).devEnter { cls := 1, op := 0x32, args := [BitVec.ofNat 32 (7 - lv)], ops := [] } false
    else if !low && decide (0 < lv) then
      (s.putFlag F.LDG_SHED_STAT_AUTO true).devEnter { cls := 1, op := 0x33, args := [BitVec.ofNat 32 (8 - lv)], ops := [] } false
    else s
  | none => s

/-! ### The plant bus (R349 to R351) -/

def State.mapAddr (s : State) (e : Nat) : Nat := s.get (F.BUS_PLANT_MAP_ADDR e)
def State.mapDest (s : State) (e : Nat) : Nat := s.get (F.BUS_PLANT_MAP_DEST e)
def State.mapUsed (s : State) : List Nat := (List.range 16).filter (fun e => decide (s.mapAddr e ≠ 0))
def State.mapWords (s : State) (e : Nat) : Nat := if s.flag (F.BUS_PLANT_MAP_WIDE e) then 2 else 1

/-- A change of what makes the data stale is shown: the data becomes stale, or is so no more (R350). -/
def State.staleShow (s : State) : State :=
  let limit := max 1 (s.get F.BUS_U2_CFG_MISSMAX)
  let bad := s.mapUsed.any (fun e => decide (s.mapDest e ≤ 3) && decide (limit ≤ nth 0 s.bus.runs e))
  let fresh := s.u2On && s.bus.ended && !bad
  if fresh = s.bus.fresh then s
  else
    let s := ({ s with bus := { s.bus with fresh := fresh } }).putFlag F.BUS_U2_STAT_STALE (!fresh)
    let s := if s.domOn 4 then s.putFlag F.MODE_STAT_GENOK fresh else s
    if fresh then s else ({ s with ldg := { s.ldg with margin := none } }.logRec 0x1F02 0#32 0#32).note Pg.BUS 1

/-- An update is due: every PERIOD × 10 ms of SYSCLK one starts, or is skipped as OVERRUN (R349). -/
def State.plantStart (s : State) : State :=
  if !s.u2On then s
  else
    let p := 10 * ticksPerMs * max 1 (s.get F.BUS_U2_CFG_PERIOD)
    let t := (max s.now (s.bus.lastDue + 1) + (p - 1)) / p * p
    let s := s.elapseTo t
    let b := { s.bus with lastDue := t }
    if s.bus.upd.isSome then
      let was := s.flag F.BUS_U2_STAT_OVERRUN
      let s := ({ s with bus := b }).setFlag F.BUS_U2_STAT_OVERRUN
      if was then s else s.note Pg.BUS 2
    else
      { s with bus := { b with upd := some s.mapUsed, loads := [none, none], brks := [none, none], bms := List.replicate 8 none,
                               failed := [] } }

/-- UART2 sends the request of the update's next entry, or repeats one (R349). -/
def State.u2Start (s : State) : State :=
  let next : Option UartRun := match s.bus.u2 with
    | some r => if r.sent.isNone then some r else none
    | none => match s.bus.upd with
      | some (e :: _) => some { job := { slot := e, kind := 1, cmd := none }, left := s.get F.BUS_U2_CFG_RETRY, sent := none }
      | _ => none
  match s.u2On, next with
  | true, some r =>
    let e := r.job.slot
    let baud := baudOf (s.get F.BUS_U2_CFG_BAUD)
    let bytes := readRequest (s.mapAddr e) (s.flag (F.BUS_PLANT_MAP_FC04 e)) (s.get (F.BUS_PLANT_MAP_REG e)) (s.mapWords e)
    let s := s.elapse (gapTicks baud 11)
    let ends := s.now + bitTicks baud (1 + 11 * bytes.length)
    let b := s.bus
    let s := { s with bus := { b with
      u2 := some { r with sent := some ends }, sent2 := bytes
      upd := if b.u2.isNone then b.upd.map (fun (es : List Nat) => es.drop 1) else b.upd } }
    s.putFlag F.BUS_U2_STAT_BUSY true
  | _, _ => s

/-- A load of raw value `v` by FMT, in 0.1 % (R349). -/
def State.genLoad (s : State) (fmt v : Nat) : Nat × State :=
  if fmt = 1 then
    let kva := wbits (s.reg Reg.MODE_GEN_MINLOAD) 16 8
    ((roundHalfUp (quot ((1000 * v : Nat) : Rat) ((2 * kva : Nat) : Rat))).toNat, s)
  else if fmt = 2 then (10 * v, s) else (v, s)

/-- Entry `e` has read the value `v`. -/
def State.mapTake (s : State) (e v : Nat) : State :=
  let d := s.mapDest e
  let fmt := s.get (F.BUS_PLANT_MAP_FMT e)
  let b := s.bus
  if d = 0 || d = 2 then
    if d = 0 && s.flag F.BUS_U2_CFG_GENSRC then s
    else { s with bus := { b with loads := b.loads.set (d / 2) (some (satTo 0xFFFF (s.genLoad fmt v).1)) } }
  else if d = 1 || d = 3 then
    { s with bus := { b with brks := b.brks.set (d / 2) (some (if fmt = 1 then decide (v = 0) else decide (v ≠ 0))) } }
  else if d ≤ 11 then { s with bus := { b with bms := b.bms.set (d - 4) (some v) } }
  else s

/-- UART2's transaction has ended, for good. -/
def State.u2End (s : State) : State :=
  (({ s with bus := { s.bus with u2 := none } }).putFlag F.BUS_U2_STAT_BUSY false).inc F.BUS_U2_STAT_COUNT

def State.u2Fail (s : State) (r : UartRun) (err : Nat) : State :=
  let s := s.uartCode 1 err
  if 0 < r.left then { s with bus := { s.bus with u2 := some { r with left := r.left - 1, sent := none } } }
  else
    let s := s.uartErr 1 err (s.mapAddr r.job.slot)
    ({ s with bus := { s.bus with failed := r.job.slot :: s.bus.failed } }).u2End

/-- A response on UART2, as on UART1. -/
def State.u2Response (s : State) (bs : List Byte) (delay : Nat) (bad : Bool) : State :=
  match s.bus.u2 with
  | some r =>
    (match r.sent with
      | none => s
      | some t =>
        if s.respTmo 1 < delay || !s.u2On then s
        else
          let s := s.elapseTo (t + delay)
          let e := r.job.slot
          let n := s.mapWords e
          let err := if bad then 4 else modbusErr (s.mapAddr e) (if s.flag (F.BUS_PLANT_MAP_FC04 e) then 4 else 3) n bs
          if err ≠ 0 then s.u2Fail r err else (s.mapTake e (modbusValue n bs)).u2End)
  | none => s

/-- No response in time on UART2. -/
def State.u2Timeout (s : State) : State :=
  match s.bus.u2 with
  | some r =>
    (match r.sent with
      | none => s
      | some t => (s.elapseTo (t + s.respTmo 1 + 1)).u2Fail r 1)
  | none => s

/-- A metering cycle closes: the P1 of channel 7 against VA is taken (R351). -/
def State.genCycle (s : State) : State :=
  let xs := (s.adcCh 7).mLast
  let v := s.metVals 4
  if s.flag F.BUS_U2_CFG_GENSRC && s.live Pg.BUS && decide (xs.length = 256) && allPresent xs && allPresent v then
    let i := rmsBin ((xs.filterMap id).map (fun (c : Int) => (c : Rat) / 8388608 * s.ifs)) 1 256
    let p := ((rmsBin (v.filterMap id) 1 256).mul i.conj).d
    { s with bus := { s.bus with genP := s.bus.genP + p, genN := s.bus.genN + 1 } }
  else s

/-- With GENSRC = 1 genset 0's load is 3 × the mean P1, in 0.1 % of 2 × GENKVA; with no cycle its entry fails (R351). -/
def State.genSource (s : State) : State :=
  if !s.flag F.BUS_U2_CFG_GENSRC then s
  else
    let b := s.bus
    let s := { s with bus := { b with genP := 0, genN := 0 } }
    if b.genN = 0 then { s with bus := { s.bus with failed := (s.mapUsed.filter (fun e => s.mapDest e = 0)) ++ s.bus.failed } }
    else
      let kva := wbits (s.reg Reg.MODE_GEN_MINLOAD) 16 8
      let p := 3 * (b.genP / (b.genN : Rat))
      let l := (roundHalfUp (quot p ((2 * kva : Nat) : Rat))).toNat
      { s with bus := { s.bus with loads := s.bus.loads.set 0 (some (satTo 0xFFFF l)) } }

/-- BUS_GEN_LOAD of genset `g` after an update. -/
def State.genWord (s : State) (g : Nat) : Word :=
  let old := s.reg (Reg.BUS_GEN_LOAD g)
  let names (d : Nat) : Bool := s.mapUsed.any (fun e => s.mapDest e = d)
  let load := nth none s.bus.loads g
  let brk := nth none s.bus.brks g
  let age := if load.isSome then 0 else satTo 255 (wbits old 24 8 + 1)
  BitVec.ofNat 32 (load.getD (wbits old 0 16) + 65536 * (brk.getD (wbit old 16)).toNat +
    131072 * (names (2 * g) && names (2 * g + 1)).toNat + 16777216 * age)

/-- A genset's load in percent. -/
def State.loadPct (s : State) (g : Nat) : Rat := (wbits (s.reg (Reg.BUS_GEN_LOAD g)) 0 16 : Rat) / 10

/-- An update ends: the values change together; guards, triggers and the generation margin are judged (R349, R191, R177,
R347). -/
def State.plantEnd (s : State) : State :=
  if !(s.u2On && decide (s.bus.upd = some []) && s.bus.u2.isNone) then s
  else
    let s := s.genSource
    let s := (List.range 2).foldl (fun s g => s.setReg (Reg.BUS_GEN_LOAD g) (s.genWord g)) s
    let s := (List.range 8).foldl (fun s i => match nth none s.bus.bms i with
      | some v => s.setReg (Reg.BUS_BMS i) (BitVec.ofNat 32 v)
      | none => s) s
    let b := s.bus
    let s := { s with bus := { b with
      upd := none, ended := true
      runs := (b.runs.zipIdx).map (fun (e : Nat × Nat) => if b.failed.contains e.2 then e.1 + 1 else 0) } }
    let s := s.staleShow
    (s.modePlant s.bus.fresh s.loadPct).marginJudge

/-- UARTs and pages stop: a transaction in progress is given up. -/
def State.busStop (s : State) : State :=
  let s := if s.u1On then s else
    ({ s with ldg := { s.ldg with u1 := none } }).putFlag F.BUS_U1_STAT_BUSY false
  if s.u2On then s else
    ((({ s with bus := { s.bus with u2 := none, upd := none } }).putFlag F.BUS_U2_STAT_BUSY false)).staleShow

/-! ### D10 FIELD powers up (R344, R348) -/

/-- A unit that is the header of a valid snapshot: its sequence number. -/
def State.snapAt (s : State) (k : Nat) : Option Nat :=
  let o := 0x3C000 + 256 * k
  if s.nvmWord o = 0x5AD60410#32 ∧ s.nvmWord (o + 16) = BitVec.ofNat 32 k ∧
      crc32c (s.nvmBytes o 252 ++ (List.range 33).flatMap (fun i => s.nvmBytes (0x3C000 + 256 * ((k + 1 + i) % 512)) 256)) =
        s.nvmWord (o + 252) then some (s.nvmWord (o + 4)).toNat
  else none

/-- The valid snapshot with the highest sequence number: that number and its header unit. -/
def State.snapBest (s : State) : Option (Nat × Nat) :=
  ((List.range 512).filterMap (fun k => (s.snapAt k).map (fun q => (q, k)))).foldl (fun (b : Option (Nat × Nat)) x =>
    match b with
    | some y => if y.1 < x.1 then some x else some y
    | none => some x) none

/-- The ledger as D10 FIELD powers up; `kept` where bank B2 was retained. -/
def State.ldgPowerUp (s : State) (kept : Bool) : State :=
  let best := s.snapBest
  let old := s.ldg
  let s := { s with ldg := { LdgSt.reset with
      snapSeq := (best.map (fun (b : Nat × Nat) => b.1 + 1)).getD 0,
      snapUnit := (best.map (fun (b : Nat × Nat) => (b.2 + 34) % 512)).getD 0 }, bus := BusSt.reset }
  let s := if s.domOn 4 then s.putFlag F.MODE_STAT_GENOK false else s
  let stale (s : State) : State := (List.range 256).foldl (fun s n => s.putSlotF n 21 1 1) s
  if kept then
    stale { s with ldg := { s.ldg with started := old.started, metLast := old.metLast, metRem := old.metRem, extLast := old.extLast } }
  else match best with
    | some (_, k) =>
      let data := (List.range 33).flatMap (fun i => s.nvmBytes (0x3C000 + 256 * ((k + 1 + i) % 512)) 256)
      stale ((s.setSramBytes 0x90000 data).setFlag F.LDG_STAT_FROMSNAP)
    | none =>
      ((s.setSramBytes 0x90000 (List.replicate 0x2100 0#8)).setFlag F.LDG_STAT_LOST).logRec 0x1E03 0#32 0#32

end Sys2Proof.Machine
end

