-- ==== Sys2Proof/Machine/Page.lean ====
section
/-! DEFINITION. Page enable and soft reset (R42 to R44), what each block does as it starts, stops or is reset, page-wide
quarantine (R47 to R51), and the page status words (R52). -/

namespace Sys2Proof.Machine

/-! ### Enable (R42) -/

/-- The bridge's outputs stop while it is not ARMED: a precharge in progress ends, every switch is off. -/
def State.bridgeStop (s : State) : State :=
  let s := if s.gd.arming then s.leaveArmed else s
  { s with gd := { s.gd with legs := s.gd.legs.map (GdLeg.allOff s.fine) } }

/-- Legs of GD as the page is enabled, or stops (R47, R51). -/
def State.gdPage (s : State) (on : Bool) : State :=
  let units := (List.range 7).filter s.legEn
  if on then units.foldl (fun s n => if s.pwr.muster then s else s.legQuar n) s
  else (units.foldl (fun s n => s.legUnquar n) s).bridgeStop

/-- PWM starts or stops (R196, R202): TB1 runs at once, TB0 from its next boundary. -/
def State.pwmPage (s : State) (on : Bool) : State :=
  if on then s.tb1Start
  else
    let s := s.bridgeStop
    { s with pwm := { s.pwm with legs := s.pwm.legs.map PwmLeg.disarm, tb0 := { s.pwm.tb0 with run := false },
                                 tb1 := { s.pwm.tb1 with run := false } } }

/-- RLY stops with its enable clear: what was driven has been opened, and no dropout check runs (R556). -/
def State.rlyStop (s : State) : State :=
  { s with rly := { s.rly with job := .idle, pos := .rest, stage := 0, weldStage := none, drop := [none, none], mask := [],
                               drive := [(false, false), (false, false)], closed := false } }

/-- CTL stops: a running step goes on to its last entry, and pending triggers are not served (R142). -/
def State.ctlStopPage (s : State) : State := ({ s with ctl := { s.ctl with pend := List.replicate 4 none } }).ctlShow

/-- What the block of page `p` does in the tick its EN becomes `on`. -/
def State.pageGo (s : State) (p : Nat) (on : Bool) : State :=
  match p with
  | 0x05 => s.ctxPage on
  | 0x08 => s.dmaPage on
  | 0x0C => if on then s.cpsEnable else s.cpsDisable
  | 0x0D => if on then s.chtEnable else s
  | 0x0E => s.qdlPage on
  | 0x10 => s.adcPageSet 0x10 on
  | 0x11 => s.adcPageSet 0x11 on
  | 0x12 => s.cmpPage on
  | 0x14 => if on then s else s.ctlStopPage
  | 0x16 => if on then s.modeEnable else s.modeStop
  | 0x18 => s.pwmPage on
  | 0x1A => s.gdPage on
  | 0x1C => s.metPage on
  | 0x1D => s.hrmPage on
  | 0x1E => if on then s else s.busStop
  | 0x1F => if on then s else s.busStop
  | 0x20 => if on then s.protStart else s
  | 0x22 => if on then s else s.rlyStop
  | 0x24 => s.hswPage on
  | 0x30 => if on then s.logAsk else s
  | _ => s

/-- PG_CTRL.EN of page `p` becomes `on`. Clearing RLY's is an opening under R298 (R556). -/
def State.pageSwitch (s : State) (p : Nat) (on : Bool) : State :=
  if s.pageEn p = on then s
  else
    let s := if p = Pg.RLY && !on then s.rlyOpen else s
    ((s.putBit (pgCtrl p) 0 on).pageGo p on)

/-- A write of `on` to EN that is refused (R142, R251, R266, R313, R395, R418, R513 and spec/09, spec/10 At the edges). -/
def State.enRefused (s : State) (p : Nat) (on : Bool) : Bool :=
  s.pageEn p && !on &&
  ((s.gd.armed && (decide (p = Pg.PWM) || decide (p = Pg.GD) || decide (p = Pg.PROT) || decide (p = Pg.EVR) || decide (p = Pg.IRQC) ||
      decide (p = Pg.HSW) || decide (p = Pg.PINS) || (decide (p = Pg.CTL) && decide (s.get F.PWM_CFG_OWNER = 1)))) ||
    (decide (p = Pg.CTX) && s.ctx.flight.any (fun c => decide (c.op = 0x50) || decide (c.op = 0x51))))

/-- EN reads 1 and ignores writes on these pages (R447, R473, R474, R490). -/
def enFixed (p : Nat) : Bool := decide (p = Pg.IDENT) || decide (p = Pg.SYS) || decide (p = Pg.PWR) || decide (p = Pg.HOST)

/-- A write of 1 to SRST that is refused (R44, R142, R251, R301, R313, R395, R418, R473, R474, R490, R513). -/
def State.srstRefused (s : State) (p : Nat) : Bool :=
  decide (p = Pg.IDENT) || decide (p = Pg.SYS) || decide (p = Pg.PWR) || decide (p = Pg.SAFE) ||
  (s.gd.armed && (decide (p = Pg.PWM) || decide (p = Pg.GD) || decide (p = Pg.PROT) || decide (p = Pg.RLY) || decide (p = Pg.EVR) ||
      decide (p = Pg.IRQC) || decide (p = Pg.HSW) || decide (p = Pg.PINS) ||
      (decide (p = Pg.CTL) && decide (s.get F.PWM_CFG_OWNER = 1)))) ||
  (decide (p = Pg.CTX) && s.ctx.flight.any (fun c => decide (c.op = 0x50) || decide (c.op = 0x51)))

/-! ### Soft reset (R43) -/

/-- Registers that a soft reset of their page leaves: those held in D0 AON (R444), the bearing's (R73), and the outcome of the
boot load (R491). -/
def srstKeeps (a : Nat) : Bool :=
  decide (a = Reg.HOST_LNK_WAKESEL) || decide (a = Reg.HOST_SB_ADDR) || decide (a = Reg.HOST_SB_STAT) ||
  decide (a = Reg.HOST_MBOX_STAT) || decide (a = Reg.CPS_BEAR_CYCLE) || decide (a = Reg.CPS_BEAR_RATE) ||
  decide (a = Reg.NVM_IMAGE)

/-- The block registers of page `p` take their reset values, its header too but for PG_SEQ. -/
def State.pageRegsReset (s : State) (p : Nat) : State :=
  { s with regs := Sparse.clearIf (fun a => decide (a / 0x1000 = p) && decide (a ≠ pgSeq p) && !srstKeeps a) s.regs }

/-- The logic of page `p` takes its state after reset. -/
def State.blockReset (s : State) (p : Nat) : State :=
  match p with
  | 0x04 => { s with host := HostSt.reset }
  | 0x05 => s.cancelAll
  | 0x06 => { s with irqc := IrqcSt.reset }
  | 0x07 => { s with cmp := { s.cmp with out := CmpSt.reset.out } }
  | 0x08 => { s with dma := DmaSt.reset }
  | 0x0C => s.cpsSrst
  | 0x0D => { s with cht := ChtSt.reset }
  | 0x0E => { s with qdl := QdlSt.reset }
  | 0x10 => s.adcWipe (List.range 8)
  | 0x11 => (s.adcWipe adciChans).refOff.refReview
  | 0x12 => { s with cmp := { s.cmp with ch := s.cmp.ch.map (fun (c : CmpCh) => { CmpCh.reset with uV := c.uV }) } }
  | 0x14 => { s with ctl := { CtlSt.reset with nextId := s.ctl.nextId } }
  | 0x15 => { s with spec := { SpecSt.reset with segs := s.spec.segs, highs := s.spec.highs } }
  | 0x16 => { s with mode := { ModeSt.reset with inp := s.mode.inp } }
  | 0x18 => { s.bridgeStop with pwm := PwmSt.reset }
  | 0x1A =>
    let s := s.bridgeStop
    { s with gd := { GdSt.reset with legs := s.gd.legs.map (fun (l : GdLeg) => { GdLeg.reset with hi := l.hi, lo := l.lo })
                                     estop := s.gd.estop, estopPin := s.gd.estopPin, estopSeen := s.gd.estopSeen } }
  | 0x1C => (s.metPage false).metShow
  | 0x1D => { s.hrmPage false with hrm := HrmSt.reset }
  | 0x1E => { s with ldg := { LdgSt.reset with snapSeq := s.ldg.snapSeq, snapUnit := s.ldg.snapUnit } }
  | 0x1F => ({ s with bus := BusSt.reset, ldg := { s.ldg with u1 := none } }).staleShow
  | 0x20 => { s with prot := ProtSt.reset }
  | 0x22 => { s with rly := { RlySt.reset with samp := s.rly.samp, est := s.rly.est, nextFb := s.rly.nextFb } }
  | 0x24 => { s with hsw := HswSt.reset }
  | 0x28 => s.nvmShow
  | 0x30 => s.putFlag F.LOG_STAT_BUSY (decide (s.log.running ≠ 0))
  | _ => s

/-- A soft reset of page `p` begins: everything of the page at reset, EN too; BUSY until it completes. What relies on the
stored registers (an opening of the relays, the mode shown) is done first. A soft reset of CTX with EN 0 returns EN to 1: the
contexts that this enables enter quarantine under R47 (DESIGN CHOICE, log entry 21). -/
def State.softReset (s : State) (p : Nat) : State :=
  let was := s.pageEn p
  let s := if p = Pg.RLY then s.rlyOpen else s
  let s := (s.pageRegsReset p).blockReset p
  let s := if p = Pg.CPS then s.srcReview else if p = Pg.PROT then s.protStart else if p = Pg.CTX && !was then s.ctxPage true else s
  { s with pwr := { s.pwr with srst := s.pwr.srst ||| (1#64 <<< p), srstAt := s.pwr.srstAt.set p s.now } }

/-- It completes. -/
def State.softResetEnd (s : State) (p : Nat) : State :=
  { s with pwr := { s.pwr with srst := s.pwr.srst &&& ~~~(1#64 <<< p) } }

/-- SOFT_RESET_DONE: within 64 ticks of its start; the model takes 64 (log entry 21). -/
def State.softResetDone (s : State) (p : Nat) : State :=
  if s.inSrst p then (s.elapseTo (nth 0 s.pwr.srstAt p + 64)).softResetEnd p else s

/-! ### Quarantine of units and pages (R47 to R51) -/

/-- PG_CAP.QUARABLE. -/
def pageQuarable (p : Nat) : Bool := (pageCap p).getLsbD 31

/-- How many units a page has. -/
def pageUnits (p : Nat) : Nat :=
  match p with
  | 0x05 => 256 | 0x08 => 16 | 0x0E => 1 | 0x10 => 8 | 0x11 => 10 | 0x12 => 16 | 0x1A => 7 | 0x24 => 2
  | _ => 0

/-- Unit `n` of page `p` is enabled (R47). -/
def State.unitOn (s : State) (p n : Nat) : Bool :=
  match p with
  | 0x05 => s.ctxOn n
  | 0x08 => s.dmaOn n
  | 0x0E => s.qdlOn
  | 0x10 => s.adcOn n
  | 0x11 => s.adcOn (8 + n)
  | 0x12 => s.cmpOn n
  | 0x1A => s.live Pg.GD && s.legEn n
  | 0x24 => s.hswOn n
  | _ => false

/-- The QUAR field of unit `n` of page `p`. -/
def State.unitQuar (s : State) (p n : Nat) : Bool :=
  match p with
  | 0x05 => s.ctxQuar n
  | 0x08 => s.dmaQuar n
  | 0x0E => s.flag F.QDL_ROLE_QUAR
  | 0x10 => s.adcQuarBit n
  | 0x11 => s.adcQuarBit (8 + n)
  | 0x12 => s.flag (F.CMP_CTRL_QUAR n)
  | 0x1A => (s.gdLeg n).quar
  | 0x24 => s.flag (F.HSW_CTRL_QUAR n)
  | _ => false

/-- Unit `n` enters quarantine by a master's write (R47, R117). -/
def State.unitEnter (s : State) (p n : Nat) : State :=
  match p with
  | 0x05 => s.ctxQuarEnter n
  | 0x08 => s.dmaQuarEnter n
  | 0x0E => (s.qdlQuarWrite true).1
  | 0x10 => s.adcQuar n true
  | 0x11 => s.adcQuar (8 + n) true
  | 0x12 => s.cmpQuar n
  | 0x1A => s.legQuar n
  | 0x24 => s.hswQuar n
  | _ => s

/-- A host clear ends the quarantine of unit `n` (R50). -/
def State.unitClear (s : State) (p n : Nat) : State :=
  match p with
  | 0x05 => s.ctxClear n
  | 0x08 => s.dmaQuarExit n
  | 0x0E => (s.qdlQuarWrite false).1
  | 0x10 => s.adcClear n
  | 0x11 => s.adcClear (8 + n)
  | 0x12 => s.cmpClear n
  | 0x1A => s.legUnquar n
  | 0x24 => s.hswClear n
  | _ => s

/-- PG_STAT.QUAR, and PG_CTRL.QUAR as it reads (R48). -/
def State.pageAnyQuar (s : State) (p : Nat) : Bool :=
  pageQuarable p && (List.range (pageUnits p)).any (fun n => s.unitQuar p n)
def State.pageQuar (s : State) (p : Nat) : Bool :=
  pageQuarable p && (List.range (pageUnits p)).any (fun n => s.unitOn p n) &&
  (List.range (pageUnits p)).all (fun n => !s.unitOn p n || s.unitQuar p n)

/-- Every enabled unit of the page enters quarantine. -/
def State.pageEnter (s : State) (p : Nat) : State :=
  if pageQuarable p then ((List.range (pageUnits p)).filter (fun n => s.unitOn p n)).foldl (fun s n => s.unitEnter p n) s else s

/-- The record of a host clear (R50). -/
def State.clearRecord (s : State) (p : Nat) (unit : Word) (who : Who) : State :=
  s.logRec (p * 0x100 + 0xFE) unit (BitVec.ofNat 32 (who.master.toNat * 256 + who.ctx.toNat))

/-- The qualification test of unit `n` passes in this tick, as far as the state shows it (R51). -/
def State.unitPasses (s : State) (p n : Nat) : Bool :=
  match p with
  | 0x05 => s.ctxPass n
  | 0x10 => s.adcPasses n
  | 0x11 => s.adcPasses (8 + n)
  | 0x12 => s.cmpPasses n
  | 0x24 => s.hswPasses n
  | _ => false

/-- The units of page `p` that are in quarantine. -/
def State.quarUnits (s : State) (p : Nat) : List Nat :=
  (List.range (pageUnits p)).filter (fun n => s.unitOn p n && s.unitQuar p n)

/-- A page-wide host clear: every unit's quarantine ends, and one record is written, unless each of them passes its test in this
tick (R50, R51). -/
def State.pageClear (s : State) (p : Nat) (who : Who) : State :=
  let us := s.quarUnits p
  let t := us.foldl (fun s n => s.unitClear p n) s
  if us.all (fun n => s.unitPasses p n) then t else t.clearRecord p 0xFFFFFFFF#32 who

/-! ### PG_CTRL -/

/-- A write of `v` to PG_CTRL of page `p` (R42 to R44, R47 to R51): what it answers, and the state. -/
def State.ctrlWrite (s : State) (who : Who) (p : Nat) (v : Word) : State × Status :=
  let on := wbit v 0
  if wbit v 1 && s.srstRefused p then (s.refuse p .locked, .locked)
  else if !enFixed p && s.enRefused p on then (s.refuse p .locked, .locked)
  else
    let s := s.countWrite p
    if wbit v 1 then (s.softReset p, .ok)
    else
      let quar := s.pageQuar p
      let s := if quar && !wbit v 2 then s.pageClear p who else if wbit v 2 then s.pageEnter p else s
      (if enFixed p then s else s.pageSwitch p on, .ok)

/-! ### Status words (R52) -/

/-- PG_CTRL.LOCKED: the page's safety-group registers refuse writes now (spec/02 Owner protection). -/
def State.pageLocked (s : State) (p : Nat) : Bool :=
  if p = Pg.PROT then !s.groupAccepts 1 1 && !s.groupAccepts 0 1 else if p = Pg.RLY then !s.groupAccepts 4 1 else false

/-- PG_STAT.STATE of page `p`, as its block chapter encodes it. -/
def State.pageState (s : State) (p : Nat) : Nat :=
  let en := if s.pageEn p then 1 else 0
  match p with
  | 0x05 => if !s.pageEn p then 0 else if s.pwr.muster then 3 else 1
  | 0x0C => s.cpsState
  | 0x0E => s.qdl.state
  | 0x14 => (match s.ctl.run with
    | none => 0
    | some r => if r.kind = .step then (if r.waiting.isEmpty then 1 else 2) else 3)
  | 0x15 => if !s.pageEn p then 0 else if s.flag F.SPEC_STAT_VOID then 2 else if s.flag F.SPEC_STAT_ELC then 3 else 1
  | 0x16 => if s.mode.blend.isSome then 3 else s.modeActive
  | 0x18 => if !s.pageEn p then 0 else if s.gd.armed then 3 else if s.gd.arming then 2 else 1
  | 0x1A => if !s.pageEn p then 0 else if s.gd.estop then 4 else if s.gd.sdLow.isSome then 3 else if s.gd.armed then 2 else 1
  | 0x1C => if !s.pageEn p then 0 else if s.flag F.MET_STAT_FREE then 2 else 1
  | 0x1E => if !s.pageEn p then 0 else if s.ldg.sweep.isSome then 2 else 1
  | 0x20 => s.protState
  | 0x21 => if s.safe.fault then 3 else if s.lockedOut then 2 else if s.windowOpen then 1 else 0
  | 0x22 => s.rlyState
  | 0x28 => (match s.nvmc.cur with
    | some r => if s.nvmc.susp.isSome then 3 else if r.op.erase then 2 else 1
    | none => if s.nvmc.susp.isSome then 3 else 0)
  | 0x30 => if !s.pageEn p then 0 else if !s.flag F.LOG_STAT_SCANNED then 1 else if s.log.running ≠ 0 then 3 else 2
  | 0x00 => 0 | 0x01 => 0 | 0x02 => 0 | 0x04 => 0 | 0x07 => 0
  | _ => en

/-- An operation of the block of page `p` is in progress (R52): an NVM erase or program, the LOG's scan or programming, a sweep
of the tenants or an update of the plant bus, a run of the control engine, a proof or movement of the relays. -/
def State.pageOperates (s : State) (p : Nat) : Bool :=
  match p with
  | 0x14 => s.ctl.run.isSome
  | 0x1E => s.ldg.sweep.isSome
  | 0x1F => s.bus.upd.isSome
  | 0x22 => decide (s.rly.job ≠ .idle)
  | 0x28 => s.nvmc.cur.isSome || s.nvmc.susp.isSome
  | 0x30 => decide (s.log.running ≠ 0) || (s.pageEn p && !s.log.scanned)
  | _ => false

/-- PG_STAT of page `p`. ACTIVE reads 1 while the block is enabled and its domain runs. -/
def State.pageStat (s : State) (p : Nat) : Word :=
  let active := s.pageEn p && s.domReady (pageDomain p) && !s.inSrst p
  BitVec.ofNat 32 (active.toNat + 2 * (s.pageAnyQuar p).toNat + 4 + 8 * (s.inSrst p || s.pageOperates p).toNat + 16 * (s.pageState p % 16))

/-- PG_CTRL of page `p` as it reads. -/
def State.pageCtrl (s : State) (p : Nat) : Word :=
  BitVec.ofNat 32 ((s.pageEn p).toNat + 2 * (s.inSrst p).toNat + 4 * (s.pageQuar p).toNat + 256 * (s.pageLocked p).toNat)

end Sys2Proof.Machine
end

