-- ==== Sys2Proof/Machine/Pwr.lean ====
section
/-! DEFINITION. Power states, domains and banks (spec/21 R448 to R458), wake, the causes of a reset and what it keeps (R459 to
R461), the watchdog (R468 to R470), clocks and monitors (R464 to R467, R471). What powering a domain up restores from the
configuration image stands in Machine/Boot.lean. -/

namespace Sys2Proof.Machine

/-- LPO ticks in which LPO time advances by `n` units of 2^-32 s (R466). -/
def State.lpoTicks (s : State) (n : Nat) : Nat := ceilDiv n (max 1 (s.get F.SYS_LPO_CAL_INC))

/-! ### States and banks (R449, R450) -/

/-- The domains on in state code `c`. -/
def State.stateMask (s : State) (c : Nat) : BitVec 12 :=
  match c with
  | 2 => 0x101#12
  | 3 => 0x741#12
  | 4 => 0x001#12
  | 5 => 0x001#12
  | _ => runMask s

/-- PWR_STATE.STATE as it reads: RUN is STANDBY with the bridge ARMED. -/
def State.powerState (s : State) : Nat :=
  let c := s.get F.PWR_STATE_STATE
  if c ≤ 1 then (if s.gd.armed then 0 else 1) else c

/-- The owner domain of bank `b`. -/
def bankOwner (b : Nat) : Nat := match b with | 1 => 2 | 2 => 10 | 4 => 9 | 5 => 9 | _ => 1

/-- Bank `b` is powered, and so accessible (R30, R449). -/
def State.bankOn (s : State) (b : Nat) : Bool := s.domOn 1 || s.domOn (bankOwner b)

def bankBase (b : Nat) : Nat := 0x80000 + 0x8000 * b

/-- Bank `b` loses its contents: it is all zeros when it is powered again. B0 takes the context windows with it (R417). -/
def State.bankLose (s : State) (b : Nat) : State :=
  let windows (a : Nat) : Bool := decide (b = 0) && decide (0x40000 ≤ a)
  { s with
    sram := Sparse.clearIf (fun a => decide (bankBase b ≤ a) && decide (a < bankBase b + 0x8000)) s.sram
    regs := Sparse.clearIf windows s.regs
    pwr := { s.pwr with lost := s.pwr.lost ||| (1#8 <<< b) }
    dma := { s.dma with ch := s.dma.ch.map (fun (c : DmaCh) =>
      match c.withheld with
      | some a => if b = 1 ∨ bankBase b ≤ a ∧ a < bankBase b + 0x8000 ∨ c.banks.getLsbD b then { c with lost := true } else c
      | none => c) } }

/-- Banks that have no power and are not retained lose their contents. -/
def State.banksCut (s : State) (retain : BitVec 8) : State :=
  (List.range 8).foldl (fun s b => if !s.bankOn b && !retain.getLsbD b then s.bankLose b else s) s

/-- PWR_RETAIN as it acts on the way to state code `c`. -/
def State.retained (s : State) (c : Nat) : BitVec 8 := if c = 5 then 0#8 else BitVec.ofNat 8 (wbits (s.reg Reg.PWR_RETAIN) 0 8)

/-! ### Wake conditions (R456) -/

/-- The enabled level and latch conditions that hold now: comparators, RTC alarm, ESTOP latch, GPIO0 to GPIO2. -/
def State.wakeNow (s : State) : Nat :=
  let w := s.reg Reg.PWR_WAKE_EN
  let c (b : Nat) (p : Bool) : Nat := if p then 2 ^ b else 0
  let all := c 2 ((List.range 16).any s.cmpWake) + c 3 s.pwr.alarm + c 4 s.gd.estop +
    c 5 (s.pins.gpio.getLsbD 0 == wbit w 8) + c 6 (s.pins.gpio.getLsbD 1 == wbit w 9) + c 7 (s.pins.gpio.getLsbD 2 == wbit w 10)
  all &&& wbits w 0 8

/-- Wake conditions are watched: a sleep state, or the way into one (R455, R456). -/
def State.wakeWatch (s : State) : Bool :=
  decide (2 ≤ s.get F.PWR_STATE_STATE) || (match s.pwr.trans with | some t => decide (2 ≤ t.target) | none => false)

/-- A condition that holds is latched for the wake sequence. -/
def State.wakeLatch (s : State) : State :=
  if s.wakeWatch then { s with pwr := { s.pwr with wakeSeen := s.pwr.wakeSeen ||| BitVec.ofNat 9 s.wakeNow } } else s

/-! ### Requests (R451, R452, R455) -/

/-- The lowest domain of a list that `m` names; 0xF for none. -/
def lowestOf (m : BitVec 12) (ds : List Nat) : Nat := ((ds.find? (fun d => m.getLsbD d)).getD 0xF)

/-- Why a request for the domains `m` and state code `c` is refused (R452): the first cause, with its domain. -/
def State.powerRefusal (s : State) (m : BitVec 12) (c : Nat) : Option (Nat × Nat) :=
  let off := s.pwr.on &&& ~~~m
  let d1 := lowestOf off [3, 4, 5, 6, 7, 8, 10]
  let d2 := lowestOf off [5, 10]
  let sleep := decide (2 ≤ c)
  if s.gd.armed && decide (d1 ≠ 0xF) then some (1, d1)
  else if s.rly.drive.any (fun d => d.1 && d.2) && decide (d2 ≠ 0xF) then some (2, d2)
  else if off.getLsbD 2 && (List.range 16).any (fun n => decide (1 ≤ s.dmaState n) && decide (s.dmaState n ≤ 3)) then some (3, 2)
  else if sleep && decide (wbits (s.reg Reg.PWR_WAKE_EN) 0 8 = 0) then some (4, 0xF)
  else if (decide (c = 2) || decide (c = 3)) && (List.range 16).any (fun n => s.cmpOn n && decide (3 ≤ s.get (F.CMP_CTRL_MODE n))) then
    some (5, 0xF)
  else if sleep && decide (s.wakeNow ≠ 0 ∨ (s.sb.matched ∧ wbit (s.reg Reg.PWR_WAKE_EN) 0)) then some (6, 0xF)
  else none

/-- A refused request: cause and domain are recorded, source 7 is raised, PG_ERR.LOCKED is set. -/
def State.powerRefuse (s : State) (cause dom : Nat) : State :=
  ((((s.put F.PWR_STATE_REFCAUSE cause).put F.PWR_STATE_REFDOM dom)).note Pg.PWR 3).refuse Pg.PWR .locked

/-- A transition to state code `c` with the domains `m` begins. -/
def State.transStart (s : State) (c : Nat) (m : BitVec 12) (wake : Bool) : State :=
  let s := if s.clkStopped then s.cmpResume else s
  ({ s with pwr := { s.pwr with trans := some { target := c, mask := m, wake := wake }, upFrom := s.now } }).putFlag F.PWR_STATE_BUSY true

/-- The state code a PWR_STATE_REQ value asks for. -/
def reqCode (v : Word) : Nat := let c := wbits v 0 3; if 5 < c then 1 else c

/-- The stored value of an accepted request. -/
def State.reqStore (s : State) (domainEn : Bool) (v : Word) : State :=
  (if domainEn then s.setReg Reg.PWR_DOMAIN_EN (BitVec.ofNat 32 (wbits v 0 12 ||| 3))
   else s.setReg Reg.PWR_STATE_REQ (BitVec.ofNat 32 (wbits v 0 3))).countWrite Pg.PWR

/-- A request is judged now (R451): accepted and begun, or refused. -/
def State.powerJudge (s : State) (domainEn : Bool) (v : Word) : State × Status :=
  let awake := decide (s.get F.PWR_STATE_STATE ≤ 1)
  if domainEn then
    let m : BitVec 12 := BitVec.ofNat 12 (wbits v 0 12 ||| 3)
    if !awake || decide (m = s.pwr.on) then (s.reqStore true v, .ok)
    else match s.powerRefusal m 1 with
      | some (c, d) => (s.powerRefuse c d, .locked)
      | none => ((s.reqStore true v).transStart 1 m false, .ok)
  else
    let c := reqCode v
    if c ≤ 1 then
      let t := s.reqStore false v
      if awake then (if c = 1 ∧ s.gd.armed then t.disarm else t, .ok)
      else ({ t with pwr := { t.pwr with wakeSeen := t.pwr.wakeSeen ||| 0x100#9 } }, .ok)
    else if c = s.get F.PWR_STATE_STATE then (s.reqStore false v, .ok)
    else match s.powerRefusal (s.stateMask c) c with
      | some (k, d) => (s.powerRefuse k d, .locked)
      | none => ((s.reqStore false v).transStart c (s.stateMask c) false, .ok)

/-- A request, held while a transition runs (R455). -/
def State.powerRequest (s : State) (domainEn : Bool) (v : Word) : State × Status :=
  if s.pwr.trans.isSome then ({ s with pwr := { s.pwr with held := some { domainEn := domainEn, value := v } } }, .ok)
  else s.powerJudge domainEn v

/-! ### Domains off (R453) -/

/-- Registers held in D0 AON, or fixed by the reset, that the cut of D1 CORE leaves (R444, R473). -/
def aonReg (a : Nat) : Bool :=
  decide (a = Reg.SYS_RESET_CAUSE) || decide (a = Reg.SYS_CLK_CFG) || decide (a = Reg.SYS_LPO_CAL) || decide (a = Reg.SYS_WDT_CFG) ||
  decide (a = Reg.SYS_WDT_STAT) || decide (a = Reg.SYS_RTC_SEC) || decide (a = Reg.SYS_RTC_ALARM) || decide (a = Reg.SYS_MUSTER_STAT) ||
  decide (a = Reg.NVM_IMAGE) ||
  decide (a = Reg.HOST_LNK_WAKESEL) || decide (a = Reg.HOST_SB_ADDR) || decide (a = Reg.HOST_SB_STAT) ||
  decide (a = Reg.HOST_MBOX_STAT)

/-- The registers of domain `d` are lost. Context windows stand or fall with bank B0 (R417). -/
def State.domRegsLost (s : State) (d : Nat) : State :=
  let gone (a : Nat) : Bool := decide (a < 0x40000) && decide (pageDomain (a / 0x1000) = d) && !(decide (d = 1) && aonReg a)
  { s with regs := Sparse.clearIf gone s.regs }

/-- The link is lost (R435): requests and replies go, credits are 0, LNK_DOWN; it is in state `st` from now on. -/
def State.linkLost (s : State) (st : Nat) : State :=
  let up := decide (1 < s.get F.HOST_LNK_STAT_STATE)
  let s := { s with host := { s.host with
    replies := [], wake := false, owed := 0, ackAt := none, gotPing := false, answered := false, rate := .none, since := s.now } }
  let s := (s.setReg Reg.HOST_LNK_CREDIT (wput (s.reg Reg.HOST_LNK_CREDIT) 0 4 0)).put F.HOST_LNK_STAT_STATE st
  let s := s.put F.HOST_LNK_STAT_RATE 0
  if up then s.note Pg.HOST 1 else s

/-- What banks B4 and B2 keep of the Sextant's and the ledger's state (R321, R344), where they keep their contents. -/
def State.metKept (s : State) : MetSt := { MetSt.reset with acc := s.met.acc, res := s.met.res, touched := s.met.touched }
def State.ldgKept (s : State) : LdgSt :=
  { LdgSt.reset with started := s.ldg.started, metLast := s.ldg.metLast, metRem := s.ldg.metRem, extLast := s.ldg.extLast }

/-- What the blocks of domain `d` hold beyond registers as it is cut. -/
def State.domLogicOff (s : State) (d : Nat) : State :=
  match d with
  | 1 => { s with
      host := HostSt.reset
      irqc := IrqcSt.reset
      cmp := { s.cmp with out := CmpSt.reset.out }
      log := { LogSt.reset with held := s.log.held }
      nvmc := { s.nvmc with queue := [], cur := none, susp := none }
      jtag := TapSt.reset
      ctx := { CtxSt.reset with nextUid := s.ctx.nextUid, b0Bad := s.ctx.b0Bad }
      pwr := { s.pwr with refOff := 0#64, refNR := 0#64, wdtStart := none, kick := none }
      evq := [] }
  | 2 => { s with dma := DmaSt.reset }
  | 3 => { s with cht := ChtSt.reset, qdl := QdlSt.reset }
  | 4 => { s with ctl := { CtlSt.reset with nextId := s.ctl.nextId }, spec := SpecSt.reset, mode := ModeSt.reset }
  | 5 => { s with
      pwm := PwmSt.reset
      gd := { GdSt.reset with estop := s.gd.estop, estopPin := s.gd.estopPin, estopSeen := s.gd.estopSeen }
      prot := ProtSt.reset
      rly := RlySt.reset
      safe := { s.safe with window := none } }
  | 6 => s.adcWipe (List.range 8)
  | 7 => (s.adcWipe adciChans).refOff
  | 8 => { s with cmp := { s.cmp with ch := s.cmp.ch.map (fun (c : CmpCh) => { CmpCh.reset with uV := c.uV }) } }
  | 9 => { s with met := s.metKept, hrm := HrmSt.reset }
  | 10 => { s with hsw := HswSt.reset, ldg := s.ldgKept, bus := BusSt.reset }
  | 11 => if s.get F.HOST_LNK_STAT_STATE = 0 then s else s.linkLost 0
  | _ => s

/-- Domain `d` is cut: registers and logic lost. -/
def State.domCut (s : State) (d : Nat) (retain : BitVec 8) : State :=
  let nav := s.domOn 3
  let s := if d = 3 then s.meterStart.dmaNavOff.ctxNavOff else s
  let s := s.domLogicOff d
  let s := { s with pwr := { s.pwr with
    upFrom := s.now, on := s.pwr.on &&& ~~~(1#12 <<< d), ready := s.pwr.ready &&& ~~~(1#12 <<< d),
    srst := BitVec.ofNat 64 ((List.range 64).map (fun p => if pageDomain p = d then 0 else (s.pwr.srst.toNat / 2 ^ p % 2) * 2 ^ p)).sum } }
  let s := s.domRegsLost d
  let s := if d = 3 && nav then { s with cps := CpsSt.reset } else s
  s.banksCut retain

/-- The domain the transition switches off next: in descending number, D1 CORE last (R453). -/
def State.nextOff (s : State) : Option Nat :=
  match s.pwr.trans with
  | none => none
  | some t => match s.offLeft t.mask with
    | d :: _ => some d
    | [] => if (s.onLeft t.mask).isEmpty && !t.mask.getLsbD 1 && s.domOn 1 then some 1 else none

/-- D1 CORE waits for NVM work the device has begun or must keep (R417, R481): the operation under way, and programs that are
not a command's. -/
def State.coreBusy (s : State) : Bool :=
  s.nvmc.cur.isSome || s.nvmc.susp.isSome ||
  s.nvmc.queue.any (fun o => match o.owner with | .cmd _ => false | _ => true)

/-- DOMAIN_POWER_DOWN of domain `d`. Commands in flight complete with CANCELLED_BY_RESET before D1 CORE is cut (R417). -/
def State.domainDown (s : State) (d : Nat) : State :=
  match s.pwr.trans, decide (s.nextOff = some d) && !(decide (d = 1) && s.coreBusy) with
  | some t, true =>
    let s := if d = 1 then s.cancelAll else s
    s.domCut d (s.retained t.target)
  | _, _ => s

/-! ### Watchdog (R468 to R470) -/

def State.wdtCounts (s : State) : Bool := s.flag F.SYS_WDT_CFG_EN && !s.pwr.muster && s.domOn 1

/-- The count starts from 0 whenever its conditions begin again, and stops with them. -/
def State.wdtReview (s : State) : State :=
  if s.wdtCounts then
    (match s.pwr.wdtStart with
      | some _ => s
      | none => ({ s with pwr := { s.pwr with wdtStart := some s.pwr.lpo, wdtWarned := false } }).putFlag F.SYS_WDT_STAT_WARN false)
  else { s with pwr := { s.pwr with wdtStart := none, kick := none } }

/-- The count's limits in LPO ticks: TMO in units of 10 ms of LPO time. -/
def State.wdtTmo (s : State) : Nat := max 1 (s.get F.SYS_WDT_CFG_TMO)
def State.wdtTicks (s : State) (num den : Nat) : Nat := s.lpoTicks (ceilDiv (s.wdtTmo * 2 ^ 32 * num) (100 * den))

/-- The count as SYS_WDT_STAT shows it, in 10 ms. -/
def State.wdtCount (s : State) : Nat :=
  match s.pwr.wdtStart with
  | some k => satTo 4095 ((s.pwr.lpo - k) * s.get F.SYS_LPO_CAL_INC * 100 / 2 ^ 32)
  | none => 0

/-- A reset is scheduled for cause `c` (R459): relays open, DISARM, and it begins 33 LPO ticks later. -/
def State.resetSchedule (s : State) (c : Nat) : State :=
  let s := (s.relayOpen).disarm
  match s.pwr.resetAt with
  | some _ => s
  | none => { s with pwr := { s.pwr with resetAt := some (c, s.pwr.lpo + 33) } }

/-- The watchdog expires. -/
def State.wdtExpire (s : State) (early : Bool) : State :=
  let w := s.reg Reg.SYS_WDT_STAT
  let s := s.setReg Reg.SYS_WDT_STAT (wput (wput w 13 1 early.toNat) 16 8 (wbits w 16 8 + 1))
  ({ s with pwr := { s.pwr with wdtStart := none } }).resetSchedule 4

/-- A kick that has become visible in LPO ticks is counted, in the LPO tick it counts in (R22, R469, R470): after the count's limit
it comes too late, and before its window it is early. -/
def State.wdtTake (s : State) : State :=
  match s.pwr.kick, s.pwr.wdtStart with
  | some t, some k =>
    if s.pwr.lpo < t then s
    else
      let s := { s with pwr := { s.pwr with kick := none } }
      if k + s.wdtTicks 1 1 < t then s.wdtExpire false
      else if t < k + s.wdtTicks (s.get F.SYS_WDT_CFG_WIN) 16 then s.wdtExpire true
      else ({ s with pwr := { s.pwr with wdtStart := some t, wdtWarned := false } }).putFlag F.SYS_WDT_STAT_WARN false
  | _, _ => s

/-- A kick value written to SYS_WDT_KICK (R469): it is visible in the second LPO tick from now. -/
def State.wdtKick (s : State) (v : Word) : State :=
  let s := s.wdtTake
  if s.pwr.wdtStart.isSome && s.pwr.kick.isNone && decide (wbits v 0 16 = 0x4B1C) then
    { s with pwr := { s.pwr with kick := some (s.pwr.lpo + 2) } }
  else s

/-- WDT_EXPIRY: a kick counted in the limit's LPO tick is in time. -/
def State.wdtExpiry (s : State) : State :=
  match s.pwr.wdtStart with
  | some k =>
    let s := (s.elapseLpo (k + s.wdtTicks 1 1)).wdtTake
    if s.pwr.wdtStart = some k then s.wdtExpire false else s
  | none => s

/-- WDT_WARN: source 4 at three quarters of TMO. -/
def State.wdtWarn (s : State) : State :=
  match s.pwr.wdtStart, s.pwr.wdtWarned with
  | some k, false =>
    let s := (s.elapseLpo (k + s.wdtTicks 3 4)).wdtTake
    if s.pwr.wdtStart = some k then
      (({ s with pwr := { s.pwr with wdtWarned := true } }).putFlag F.SYS_WDT_STAT_WARN true).note Pg.SYS 2
    else s
  | _, _ => s

/-! ### Resets (R459 to R461) -/

/-- Registers a reset keeps, by its cause code (R460). -/
def resetKeeps (c a : Nat) : Bool :=
  let rtc := decide (a = Reg.SYS_RTC_SEC) || decide (a = Reg.SYS_RTC_ALARM) || decide (a = Reg.SYS_LPO_CAL) ||
    (decide (Reg.PWR_MBOX 0 ≤ a) && decide (a ≤ Reg.PWR_MBOX 15)) || decide (a = Reg.PWR_WAKE_CAUSE)
  let host := decide (a = Reg.HOST_LNK_WAKESEL) || decide (a = Reg.HOST_SB_ADDR) || decide (a = Reg.HOST_SB_STAT) ||
    decide (a = Reg.HOST_MBOX_STAT)
  let count := decide (a = Reg.SYS_RESET_CAUSE) || decide (a = Reg.SYS_WDT_STAT)
  if c = 1 then false else if c = 2 then rtc || count else rtc || host || count

/-- Staged records are CARRIED over a reset where B3 is kept (R548). -/
def LogSt.carried (l : LogSt) : List LogRec := l.staged.map (fun (r : LogRec) => { r with flags := r.flags % 8 + 8 })

/-- The device is held in reset for cause code `c` from now on: domains, registers and banks are lost as R460 says. -/
def State.resetNow (s : State) (c : Nat) : State :=
  let keepBanks := decide (3 ≤ c) && decide (c ≤ 5)
  let retain : BitVec 8 := if keepBanks then BitVec.ofNat 8 (wbits (s.reg Reg.PWR_RETAIN) 0 8) else 0#8
  let s := match s.nvmc.cur with | some r => s.nvmUndefined r.op | none => s
  let s := match s.nvmc.susp with | some r => s.nvmUndefined r.op | none => s
  let ds := if s.pwr.inReset then s.ctx.cancelled else s.ctx.fin ++ s.cancelled
  let windows := keepBanks && retain.getLsbD 0 && retain.getLsbD 6 && !s.ctx.b0Bad
  let staged := if keepBanks && retain.getLsbD 3 then s.log.carried else []
  let held := if keepBanks && retain.getLsbD 3 then s.log.held else []
  let gd : GdSt := { GdSt.reset with estopPin := s.gd.estopPin, estop := if c = 1 then s.gd.estopPin else s.gd.estop
                                     estopSeen := if c = 1 then !s.gd.estopPin else s.gd.estopSeen }
  let safe : SafeSt := if c = 1 then SafeSt.reset else { SafeSt.reset with lockout := s.safe.lockout, fail := s.safe.fail }
  let t : State := { State.reset with
    pending := s.pending
    now := s.now
    regs := Sparse.clearIf (fun a => !(resetKeeps c a || (windows && decide (0x40000 ≤ a)))) s.regs
    sram := s.sram
    nvm := s.nvm
    freeIdx := s.freeIdx
    lastStatus := s.lastStatus
    lastRead := s.lastRead
    log := { LogSt.reset with staged := staged, held := held }
    nvmc := { NvmSt.reset with wear := s.nvmc.wear }
    gd := gd
    safe := safe
    pins := s.pins
    sb := s.sb
    ctl := { CtlSt.reset with nextId := s.ctl.nextId }
    ctx := { CtxSt.reset with nextUid := s.ctx.nextUid, cancelled := if windows then ds else [], b0Bad := false }
    met := s.metKept
    ldg := s.ldgKept
    cmp := { CmpSt.reset with ch := s.cmp.ch.map (fun (x : CmpCh) => { CmpCh.reset with uV := x.uV }) }
    pwr := { PwrSt.reset with
      on := 0#12, muster := true, inReset := true, lpo := s.pwr.lpo, lpoAcc := s.pwr.lpoAcc
      rtcSub := if c = 1 then 0 else s.pwr.rtcSub
      alarm := if c = 1 then false else s.pwr.alarm
      holding := s.pwr.holding
      causes := (if s.pwr.inReset then s.pwr.causes else 0#6) ||| (1#6 <<< (c - 1))
      lastCause := c
      clearAt := s.pwr.lpo
      halted := s.pwr.halted
      lost := s.pwr.lost
      wakeFrom := s.pwr.wakeFrom } }
  let t := (List.range 8).foldl (fun t b => if retain.getLsbD b then t else t.bankLose b) t
  let t := (t.putFlag F.SYS_WDT_STAT_WARN false).putFlag F.SYS_LPO_CAL_BUSY false
  if c = 1 then t.setReg Reg.SYS_RESET_CAUSE 0#32 else t

/-- A level cause of a reset (R459) goes active, or inactive: POR code 1, BOR 2, NRST 3. -/
def State.resetLevel (s : State) (c : Nat) (active : Bool) : State :=
  let bit : BitVec 6 := 1#6 <<< (c - 1)
  let s := { s with pwr := { s.pwr with
    holding := if active then s.pwr.holding ||| bit else s.pwr.holding &&& ~~~bit, clearAt := s.pwr.lpo } }
  if active then s.resetNow c else s

/-- RESET_BEGIN: 33 LPO ticks after a WDT or SW cause. -/
def State.resetBegin (s : State) : State :=
  match s.pwr.resetAt with
  | some (c, k) => (s.elapseLpo k).resetNow c
  | none => s

/-- RESET_RELEASE: every cause inactive for 32 LPO ticks; the seals are sampled, the cause is shown, the first second starts. -/
def State.resetRelease (s : State) (ra rb : Nat) : State :=
  if !s.pwr.inReset || decide (s.pwr.holding ≠ 0#6) then s
  else
    let s := s.elapseLpo (s.pwr.clearAt + 32)
    let w := s.reg Reg.SYS_RESET_CAUSE
    let n := if s.pwr.causes.getLsbD 0 then 0 else wbits w 16 16 + 1
    let s := s.setReg Reg.SYS_RESET_CAUSE (BitVec.ofNat 32 ((wbits w 0 6 ||| s.pwr.causes.toNat) + 256 * s.pwr.lastCause +
      65536 * (n % 65536)))
    let s := { s with pwr := { s.pwr with on := 1#12, inReset := false, released := s.now, boot := true } }
    s.sealReset ra rb

/-! ### Wake (R457, R458) -/

/-- WAKE: a counted condition starts the wake sequence; from OFF it starts a reset. `lnk`: the link activity detector has
detected (R445). -/
def State.wake (s : State) (lnk : Bool) : State :=
  let st := s.get F.PWR_STATE_STATE
  if s.pwr.inReset || s.pwr.trans.isSome || decide (st ≤ 1) then s
  else
    let s := if lnk && wbit (s.reg Reg.PWR_WAKE_EN) 1 && !s.domOn 11 then
        { s with pwr := { s.pwr with wakeSeen := s.pwr.wakeSeen ||| 2#9 } } else s
    let s := s.wakeLatch
    let seen := s.pwr.wakeSeen.toNat
    if seen = 0 then s
    else
      let s := s.elapseLpo (s.pwr.lpo + 1)
      let w := s.reg Reg.PWR_WAKE_CAUSE
      let s := s.setReg Reg.PWR_WAKE_CAUSE (wput (w ||| BitVec.ofNat 32 seen) 12 3 st)
      let s := { s with pwr := { s.pwr with wakeSeen := 0#9, wakeFrom := st } }
      if st = 5 then s.resetNow 6 else s.transStart 1 (runMask s) true

/-! ### Clocks and monitors (R464 to R467, R471) -/

/-- The supported XIN frequencies in Hz, by XINSEL. -/
def xinHz (k : Nat) : Nat :=
  match k with | 0 => 10000000 | 1 => 12500000 | 2 => 16000000 | 3 => 20000000 | 4 => 25000000 | 5 => 40000000 | _ => 50000000

/-- The frequency within 6 % of which XIN lies (R464). -/
def xinSel (hz : Nat) : Option Nat :=
  (List.range 7).find? (fun k => decide (94 * xinHz k ≤ 100 * hz) && decide (100 * hz ≤ 106 * xinHz k))

/-- XIN_SELECT: 32 LPO ticks after reset release. -/
def State.xinSelect (s : State) (hz : Nat) : State :=
  if s.pwr.inReset || s.pwr.xinDone || !s.pwr.boot then s
  else
    let s := s.elapseLpo (s.pwr.clearAt + 64)
    let s := { s with pwr := { s.pwr with xinDone := true } }
    match xinSel hz with
    | some k => s.setReg Reg.SYS_CLK_CFG (BitVec.ofNat 32 (k + 256 * (400000000 / xinHz k)))
    | none => (s.setReg Reg.SYS_CLK_CFG 7#32).setFlag F.SYS_PLL_STAT_XINFAIL

/-- PLL_LOCK: D1 CORE is powered after a reset, or SYSPLL has relocked. -/
def State.pllLock (s : State) : State :=
  if s.pwr.inReset || !s.pwr.xinDone || decide (s.get F.SYS_CLK_CFG_XINSEL = 7) then s
  else
    let s := s.putFlag F.SYS_PLL_STAT_LOCK true
    if s.pwr.boot then { s with pwr := { s.pwr with on := s.pwr.on ||| 2#12, upFrom := s.now } } else s

/-- PLL_LOSS (R465). -/
def State.pllLoss (s : State) : State :=
  if !s.domOn 1 || !s.flag F.SYS_PLL_STAT_LOCK then s
  else
    let s := (s.putFlag F.SYS_PLL_STAT_LOCK false).setFlag F.SYS_PLL_STAT_LOSS
    (((s.relayOpen).disarm).logRec 0x0120 0#32 0#32).note Pg.SYS 1

/-- RTC_SECOND: the fraction carries (R466, R467). -/
def State.rtcSecond (s : State) : State :=
  let left := 2 ^ 32 - s.pwr.rtcSub
  let s := s.elapseLpo (s.pwr.lpo + s.lpoTicks left)
  let sec := s.reg Reg.SYS_RTC_SEC + 1#32
  let s := ({ s with pwr := { s.pwr with rtcSub := s.pwr.rtcSub - 2 ^ 32 } }).blockSet Reg.SYS_RTC_SEC sec
  if s.reg Reg.SYS_RTC_SEC = sec ∧ sec = s.reg Reg.SYS_RTC_ALARM then { s with pwr := { s.pwr with alarm := true } } else s

/-- A write to SYS_RTC_SEC or SYS_RTC_ALARM ends the alarm condition; the seconds' write clears the fraction. -/
def State.rtcWrite (s : State) (a : Nat) (v : Word) : State :=
  let s := { s with pwr := { s.pwr with alarm := false } }
  if a = Reg.SYS_RTC_SEC then ({ s with pwr := { s.pwr with rtcSub := 0 } }).setReg a v else s.setReg a v

/-- An LPO measurement begins (R466). -/
def State.lpoCalStart (s : State) : State :=
  if s.flag F.SYS_LPO_CAL_BUSY then s
  else ({ s with pwr := { s.pwr with calAt := s.now, calLpo := s.pwr.lpo } }).putFlag F.SYS_LPO_CAL_BUSY true

/-- The AUTO interval begins one, while SYSCLK runs. -/
def State.lpoCalAuto (s : State) : State :=
  let n := s.get F.SYS_LPO_CAL_AUTO
  if n = 0 || s.flag F.SYS_LPO_CAL_BUSY || s.clkStopped then s
  else (s.elapseTo (s.pwr.calAt + n * ticksPerSec)).lpoCalStart

/-- LPO_CAL_DONE: 1,024 LPO ticks took `meas` SYSCLK ticks. -/
def State.lpoCalDone (s : State) (meas : Nat) : State :=
  if s.flag F.SYS_LPO_CAL_BUSY then
    let s := s.elapseLpo (s.pwr.calLpo + 1024)
    let inc := (meas * 2 ^ 32 + 512 * ticksPerSec) / (1024 * ticksPerSec)
    let done := s.putFlag F.SYS_LPO_CAL_BUSY false
    if s.mastered Reg.SYS_LPO_CAL then done else done.put F.SYS_LPO_CAL_INC inc
  else s

/-- TEMP_SAMPLE, every 1 ms while D1 CORE is on (R471): `raw` in 1/16 °C. -/
def State.tempSample (s : State) (raw : Int) : State :=
  if !s.domReady 1 then s
  else
    let s := s.elapseTo ((s.now / ticksPerMs + 1) * ticksPerMs)
    let warn : Int := 16 * ((s.get F.SYS_TEMP_WARN : Nat) : Int)
    let was := s.getI F.SYS_TEMP_TEMP
    let s := s.putI F.SYS_TEMP_TEMP raw
    if warn < raw then
      let s := s.putFlag F.SYS_TEMP_HOT true
      if warn < was then s else s.note Pg.SYS 3
    else if raw ≤ warn - 80 then s.putFlag F.SYS_TEMP_HOT false
    else s

/-- SUPPLY_WARNING: VIO and VDDA in millivolts, against 2.80 V + 25 mV × WARN. -/
def State.supplyWarning (s : State) (vio vdda : Nat) : State :=
  if s.pwr.inReset then s
  else
    let t := 2800 + 25 * s.get F.PWR_BOR_CFG_WARN
    let fell := (decide (vio < t) && !s.flag F.PWR_BOR_CFG_VIOLOW) || (decide (vdda < t) && !s.flag F.PWR_BOR_CFG_VDDALOW)
    let s := (s.putFlag F.PWR_BOR_CFG_VIOLOW (decide (vio < t))).putFlag F.PWR_BOR_CFG_VDDALOW (decide (vdda < t))
    if fell then s.note Pg.PWR 1 else s

/-- VKEEP_CHECK, once per LPO second: VKEEP in millivolts, against 2.00 V + 10 mV × LOW. -/
def State.vkeepCheck (s : State) (mv : Nat) : State :=
  if s.pwr.inReset then s
  else
    let s := s.elapseLpo ((s.pwr.lpo / lpoHz + 1) * lpoHz)
    let low := decide (mv < 2000 + 10 * s.get F.PWR_VKEEP_LOW)
    let was := s.flag F.PWR_VKEEP_LOWNOW
    let s := (s.put F.PWR_VKEEP_VKEEP (satTo 4095 mv)).putFlag F.PWR_VKEEP_LOWNOW low
    if low && !was then s.note Pg.PWR 2 else s

/-! ### Identity (R475, R476) -/

/-- The check byte of a serial number: CRC-8 over its upper seven bytes, XORed with 0x57. -/
def serialCheck (sn : BitVec 64) : Byte :=
  crc8 0#8 ((List.range 7).map (fun i => sn.extractLsb' (56 - 8 * i) 8)) ^^^ 0x57#8

/-- IDENT_LOADED: the serial number is read, its check computed; D0 AON is ready (R462). -/
def State.identLoaded (s : State) : State :=
  if s.pwr.inReset || s.domReady 0 then s
  else
    let s := s.elapseTo (s.pwr.released + ticksPerMs)
    let sn := Config.serial
    let c := serialCheck sn
    let ok := decide (c = sn.extractLsb' 0 8)
    let s := (s.setReg Reg.IDENT_SERIAL_LO (sn.extractLsb' 0 32)).setReg Reg.IDENT_SERIAL_HI (sn.extractLsb' 32 32)
    let s := s.setReg Reg.IDENT_CHECK (BitVec.ofNat 32 (c.toNat + 256 * ok.toNat + 512))
    let s := { s with pwr := { s.pwr with ready := s.pwr.ready ||| 1#12 } }
    if ok then s else s.logRec 0x0001 0#32 0#32

end Sys2Proof.Machine
end

