-- ==== Sys2Proof/Machine/Bus.lean ====
section
/-! DEFINITION. Accesses (spec/02 R28 to R41): every read and write of the 24-bit address space, what each register shows and
what a write to it does, and the end of the muster window (R463), which a write can bring about. -/

namespace Sys2Proof.Machine

/-! ### The end of the muster window (R36, R416, R417, R463) -/

/-- Milliseconds since reset release. -/
def State.sinceRelease (s : State) : Nat := (s.now - s.pwr.released) / ticksPerMs

/-- Refusals recorded while pages were off or not ready show on those that now are (R35, R36), as does a seal finding made while
the SAFE page was not ready (R555). -/
def State.latchesShow (s : State) : State :=
  let s := if s.safe.eventWaits && s.pageReady Pg.SAFE then
      ({ s with safe := { s.safe with eventWaits := false } }).note Pg.SAFE 3 else s
  (List.range 64).foldl (fun s p =>
    if pageListed p && s.pageReady p then
      let off := s.pwr.refOff.getLsbD p
      let nr := s.pwr.refNR.getLsbD p
      let s := if off then s.setW1c (pgErr p) errDomainOff else s
      let s := if nr then s.setW1c (pgErr p) errNotReady else s
      if off || nr then
        { s with pwr := { s.pwr with refOff := s.pwr.refOff &&& ~~~(1#64 <<< p), refNR := s.pwr.refNR &&& ~~~(1#64 <<< p) } }
      else s
    else s) s

/-- MUSTER_END is reached: every page of a ready domain becomes ready. Completions of commands that a reset cut off are written
first; queued commands count their deadlines from now. -/
def State.musterEnd (s : State) : State :=
  if !s.pwr.muster then s
  else
    let ds := s.ctx.cancelled
    let s := { s with
      pwr := { s.pwr with muster := false }
      ctx := { s.ctx with
        cancelled := [], fin := ds ++ s.ctx.fin, served := s.ctx.served.map (fun (_ : Option Nat) => none), bgDebt := 0, fetched := []
        flight := s.ctx.flight.map (fun (c : Cmd) =>
          let due := decide (c.dlUnit = 2) && (decide (c.dlVal = 0) || !s.domOn 3)
          if c.st = CmdState.queued then { c with fetchedAt := s.now, cycles := 0, dueAt := if due then some s.now else none } else c) } }
    let s := ds.foldl (fun s d => s.cqDrain d.ctx 256) s
    (((s.latchesShow).dmaMuster).qdlWake).wdtReview

/-! ### Plain writes -/

/-- What a write of `v` leaves where the row's masks say all there is: RW fields stored, W1C bits cleared, the rest kept. `was` is
what the register held as the tick began: a W1C bit set since then stays set (R39). -/
def RegRow.written (r : RegRow) (old was v : Word) : Word :=
  let rw := BitVec.ofNat 32 r.rw
  let w1c := BitVec.ofNat 32 r.w1c
  ((old &&& ~~~rw) ||| (v &&& rw)) &&& ~~~(v &&& w1c &&& was)

/-- The row has a writable field (R33). -/
def RegRow.writable (r : RegRow) : Bool := decide (r.rw ≠ 0 ∨ r.w1c ≠ 0 ∨ r.act ≠ 0)

def State.plainStore (s : State) (a : Nat) (v : Word) : State :=
  match regRow? a with
  | some r => s.setReg a (r.written (s.reg a) (s.regWas a) v)
  | none => s

/-- The nearest of two limits. -/
def clampNat (lo hi n : Nat) : Nat := if n < lo then lo else if hi < n then hi else n

/-! ### SYS, PWR, PINS, HOST -/

def State.sysWrite (s : State) (a : Nat) (v : Word) : State × Status :=
  if a = Reg.SYS_SWRESET then (if wbits v 0 16 = 0xA5C3 then (s.resetSchedule 5, .ok) else (s, .roWrite))
  else if a = Reg.SYS_LPO_CAL then
    let s := s.plainStore a v
    (if wbit v 20 then s.lpoCalStart else s, .ok)
  else if a = Reg.SYS_WDT_CFG then (if wbit (s.reg a) 17 then (s, .locked) else ((s.plainStore a v).wdtReview, .ok))
  else if a = Reg.SYS_WDT_KICK then (s.wdtKick v, .ok)
  else if a = Reg.SYS_RTC_SEC ∨ a = Reg.SYS_RTC_ALARM then (s.rtcWrite a v, .ok)
  else if a = Reg.SYS_MUSTER_END then
    let n := clampNat 50 1000 (wbits v 0 11)
    let s := s.setReg a (BitVec.ofNat 32 n)
    (if n * ticksPerMs ≤ s.now - s.pwr.released then s.musterEnd else s, .ok)
  else (s.plainStore a v, .ok)

/-- The mailbox (R444): a write says who made it. -/
def State.mboxWrite (s : State) (who : Who) (a : Nat) (v : Word) : State :=
  (s.setReg a v).putFlag (if who.master = 4#8 then F.HOST_MBOX_STAT_SBW else F.HOST_MBOX_STAT_FW) true

def State.pwrWrite (s : State) (who : Who) (a : Nat) (v : Word) : State × Status :=
  if Reg.PWR_MBOX 0 ≤ a then (s.mboxWrite who a v, .ok)
  else if a = Reg.PWR_BOR_CFG then (s.put F.PWR_BOR_CFG_WARN (satTo 12 (wbits v 0 4)), .ok)
  else (s.plainStore a v, .ok)

def State.pinsWrite (s : State) (a : Nat) (v : Word) : State × Status :=
  let k := (a - Reg.PINS_FUNC 0) / 4
  if decide (Reg.PINS_FUNC 0 ≤ a) && decide (k < 23) && s.funcRefused k v then (s, .locked) else (s.plainStore a v, .ok)

def State.hostWrite (s : State) (a : Nat) (v : Word) : State × Status :=
  if a = Reg.HOST_CFG then
    let was := wbit (s.reg a) 2
    let s := s.plainStore a v
    let s := if !was && wbit v 2 then
        (({ s with host := { s.host with failed := 0#4 } }).putFlag F.HOST_LNK_STAT_RATEFAIL false) else s
    (if was && !wbit v 2 && decide (s.get F.HOST_LNK_STAT_STATE ≠ 0) then s.linkLost 0 else s, .ok)
  else if a = Reg.HOST_SB_ADDR then
    (if wbits v 0 7 < 0x08 ∨ 0x77 < wbits v 0 7 then (s, .roWrite) else (s.plainStore a v, .ok))
  else (s.plainStore a v, .ok)

/-! ### CTX, IRQC, EVR -/

def State.ctxPageWrite (s : State) (who : Who) (a : Nat) (v : Word) : State :=
  if a = Reg.CTX_SLICE_US then s.setReg a (BitVec.ofNat 32 (clampNat 10 200 (wbits v 0 8)))
  else if Reg.CTX_QUAR 0 ≤ a ∧ a ≤ Reg.CTX_QUAR 7 then
    let (s, ns) := s.ctxQuarWrite ((a - Reg.CTX_QUAR 0) / 4) v
    ns.foldl (fun s n => s.clearRecord Pg.CTX (BitVec.ofNat 32 n) who) s
  else s.plainStore a v

/-- A doorbell (R385). -/
def State.irqDoorbell (s : State) (n : Nat) : State :=
  if !srcReserved n && s.irqMsg n then s.pendSrc n
  else if s.live Pg.IRQC then (s.inc F.IRQC_DOORBELL_DROPCNT).put F.IRQC_DOORBELL_LASTDROP n
  else s

/-- The sources of the set bits of word `k` are set pending (R386). -/
def State.irqPendSet (s : State) (k : Nat) (v : Word) : State :=
  (List.range 32).foldl (fun s b => if wbit v b then s.pendSrc (32 * k + b) else s) s

/-- Announcements that a change of enables or targets makes (R393). -/
def State.announceAll (s t : State) : State := (List.range 128).foldl (fun t n => s.announceFrom t n) t

def State.irqcWrite (s : State) (a : Nat) (v : Word) : State :=
  let s := s.irqTake
  if a = Reg.IRQC_DOORBELL then s.irqDoorbell (wbits v 0 7)
  else if Reg.IRQC_PEND_SET 0 ≤ a ∧ a ≤ Reg.IRQC_PEND_SET 3 then s.irqPendSet ((a - Reg.IRQC_PEND_SET 0) / 4) v
  else if a ≤ Reg.IRQC_PEND 3 then s.plainStore a v
  else s.announceAll (s.plainStore a v)

/-- The fast lanes of destination `d` that stand (R246). -/
def State.laneStands (s : State) (d : Nat) : Bool :=
  s.live Pg.EVR && (List.range 16).any (fun n => s.fastSel d n && s.fastTerm n)

/-- The destinations whose fast lanes stand are asserted for as long as they do (R246). -/
def State.lanesHold (s : State) : State :=
  if s.reg Reg.EVR_FAST_EN = 0#32 then s
  else (List.range 8).foldl (fun s d => if s.laneStands d then s.hardDest d else s) s

/-- A change of selections or enables that makes a fast lane stand asserts its destination. -/
def State.lanesFrom (s t : State) : State :=
  (List.range 8).foldl (fun t d => if !s.laneStands d && t.laneStands d then t.hardDest d else t) t

def State.evrWrite (s : State) (a : Nat) (v : Word) : State :=
  if a = Reg.EVR_SWEVT then (List.range 4).foldl (fun s i => if wbit v i then s.pulseIn 1 (60 + i) else s) s
  else if a = Reg.EVR_STAT then s.plainStore a v
  else s.lanesFrom (s.plainStore a v)

/-! ### DMA -/

/-- What a write to the DMA page is told, and the state; a host clear is recorded. -/
def State.dmaPageWrite (s : State) (who : Who) (a : Nat) (v : Word) : State × Status :=
  if a < 0x08100 then (s.plainStore a v, .ok)
  else
    let n := (a - 0x08100) / 0x80
    let o := (a - 0x08100) % 0x80
    if o = 0x00 then
      let (s, clear) := s.dmaCtrlWrite n v
      (if clear then s.clearRecord Pg.DMA (BitVec.ofNat 32 n) who else s, .ok)
    else if o = 0x08 || (decide (0x10 ≤ o) && decide (o < 0x20)) || o = 0x24 then
      (if s.dmaState n = 0 ∨ s.dmaState n = 4 then (s.plainStore a v, .ok) else (s, .roWrite))
    else (s.plainStore a v, .ok)

/-! ### CPS, CHT, QDL -/

def State.cpsWrite (s : State) (a : Nat) (v : Word) : State :=
  if a = Reg.CPS_CFG then ((s.plainStore a v).seqSwap).srcReview
  else if a = Reg.CPS_JUMP_THR then s.setReg a (BitVec.ofNat 32 (clampNat 0x00B60B61 0x15555555 v.toNat))
  else if a = Reg.CPS_VIRT_RATE then s.setReg a (BitVec.ofNat 32 (clampNat rateMin rateMax v.toNat))
  else if a = Reg.CPS_SRC then (s.plainStore a v).srcReview
  else s.plainStore a v

def State.chtWrite (s : State) (a : Nat) (v : Word) : State :=
  if a = Reg.CHT_CFG then
    let s := s.plainStore a v
    if wbit v 0 then s.chtCntClr else s
  else if a = Reg.CHT_LATEWIN then s.setReg a (BitVec.ofNat 32 (satTo 0x40000000 v.toNat))
  else if Reg.CHT_WP_ANGLE 0 ≤ a ∧ a ≤ Reg.CHT_WP_ANGLE 63 then s.chtAngleWrite ((a - Reg.CHT_WP_ANGLE 0) / 4) v
  else if Reg.CHT_WP_REP 0 ≤ a ∧ a ≤ Reg.CHT_WP_REP 63 then s.chtRepWrite ((a - Reg.CHT_WP_REP 0) / 4) v
  else s.plainStore a v

def State.qdlWrite (s : State) (who : Who) (a : Nat) (v : Word) : State :=
  if a = Reg.QDL_CFG then
    let w := wput (wput (s.reg a) 0 2 (wbits v 0 2)) 16 8 (max 16 (wbits v 16 8))
    s.setReg a w
  else if a = Reg.QDL_RANK then s.qdlRankWrite v
  else if a = Reg.QDL_ROLE then
    let (s, clear) := s.qdlQuarWrite (wbit v 4)
    if clear then s.clearRecord Pg.QDL 0#32 who else s
  else s.plainStore a v

/-! ### ADCX, ADCI, CMP -/

/-- SWTRIG triggers the group of its number on both pages (R107). -/
def State.adcWrite (s : State) (who : Who) (p a : Nat) (v : Word) : State :=
  let o := a % 0x1000
  let base := if p = 0x10 then 0 else 8
  if a = Reg.ADCX_CLK_CFG then s.clkCfgWrite v
  else if a = Reg.ADCI_CFG then
    (s.plainStore a v).refReview
  else if 0x80 ≤ o ∧ o < 0xC0 then
    let n := (o - 0x80) / 4
    let (s, clear) := s.adcCtrlWrite (base + n) v
    if clear then s.clearRecord p (BitVec.ofNat 32 n) who else s
  else if 0x200 ≤ o then
    let s := s.plainStore a v
    if wbit v 31 then s.adcTrigger ((o - 0x200) / 4) else s
  else s.plainStore a v

def State.cmpWrite (s : State) (who : Who) (a : Nat) (v : Word) : State :=
  if a ≤ Reg.CMP_CTRL 15 then
    let n := (a - Reg.CMP_CTRL 0) / 4
    let (s, clear) := s.cmpCtrlWrite n v
    if clear then s.clearRecord Pg.CMP (BitVec.ofNat 32 n) who else s
  else if a ≤ Reg.CMP_THR 15 then
    let n := (a - Reg.CMP_THR 0) / 4
    (s.plainStore a v).cmpEval n
  else s.plainStore a v

/-! ### SPEC, MODE, PWM -/

def State.specWrite (s : State) (a : Nat) (v : Word) : State :=
  if a = Reg.SPEC_CFG then
    s.setReg a (wput (v &&& 0x010FFFF3#32) 16 4 (max 1 (wbits v 16 4)))
  else if a = Reg.SPEC_QUALN ∨ a = Reg.SPEC_RETRACTMAX then s.setReg a (BitVec.ofNat 32 (max 1 (wbits v 0 8)))
  else if a = Reg.SPEC_DERATE then s.setReg a (BitVec.ofNat 32 (satTo 100 (wbits v 0 7)))
  else if a = Reg.SPEC_SUBST then s.substWrite v
  else if Reg.SPEC_BAND 0 ≤ a ∧ a ≤ Reg.SPEC_BAND 7 then s.bandWrite ((a - Reg.SPEC_BAND 0) / 4) v
  else s.plainStore a v

def State.modeWrite (s : State) (a : Nat) (v : Word) : State :=
  if a = Reg.MODE_REQ then (s.modeRequest (wbits v 0 2)).1
  else if a = Reg.MODE_M_MAX then s.setReg a (BitVec.ofNat 32 (clampNat 0x2000 0x49EC (wbits v 0 16)))
  else if a = Reg.MODE_HANDOVER_RAMP then s.setReg a (BitVec.ofNat 32 (max 1 (wbits v 0 8)))
  else if a = Reg.MODE_MPPT_CFG then
    s.setReg a (wput (wput v 0 8 (max 1 (wbits v 0 8))) 24 4 (max 1 (wbits v 24 4)))
  else s.plainStore a v

/-- A write of PWM_CFG (R205): while ARMED a change of OWNER to or from ELC, and a clear of TB0EN or TB1EN, are not stored. -/
def State.pwmCfgWrite (s : State) (v : Word) : State :=
  let a := Reg.PWM_CFG
  let old := s.reg a
  let new := v &&& 0xFFFFF#32
  let elc (w : Word) : Bool := decide (wbits w 0 2 = 3)
  let owner := s.gd.armed && (elc old != elc new)
  let tb0 := s.gd.armed && wbit old 6 && !wbit new 6
  let tb1 := s.gd.armed && wbit old 7 && !wbit new 7
  let w := if owner then wput new 0 2 (wbits old 0 2) else new
  let w := if tb0 then wputBit w 6 true else w
  let w := if tb1 then wputBit w 7 true else w
  let s := s.setReg a w
  let s := if owner || tb0 || tb1 then s.refuse Pg.PWM .locked else s
  let s := if wbits old 0 2 ≠ wbits w 0 2 then s.specElc else s
  let s := (s.pendNow 0).pendNow 1
  let s := if wbit w 6 then s else s.setTb 0 { s.tb 0 with run := false }
  if wbit old 7 != wbit w 7 then s.tb1Start else s

def State.pwmWrite (s : State) (a : Nat) (v : Word) : State :=
  if a = Reg.PWM_CFG then s.pwmCfgWrite v
  else if a = Reg.PWM_LOAD then (if wbit v 0 then s.loadAll else s)
  else if a = Reg.PWM_CAR_N then
    let n := clampNat 64 1024 (wbits v 0 11)
    s.setReg a (wput (s.reg a) 0 11 (n - n % 2))
  else if a = Reg.PWM_TB1_PER then s.setReg a (BitVec.ofNat 32 (clampNat 32000 320000 (wbits v 0 21)))
  else if a = Reg.PWM_EVT_PRESC then (s.setReg a v).prescClear
  else if a = Reg.PWM_BSR_CFG then s.setReg a (wput (v &&& 0x000FFFFF#32) 8 8 (max 1 (wbits v 8 8)))
  else s.plainStore a v

/-! ### GD, HSW, RLY, PROT, SAFE -/

/-- A write of GD_LEG_CTRL[n] (R47, R50, R227, R228). Answers whether it was a host clear. -/
def State.legCtrlWrite (s : State) (n : Nat) (v : Word) : State × Bool :=
  let a := Reg.GD_LEG_CTRL n
  let live := s.live Pg.GD
  let was := live && s.legEn n
  let quar := (s.gdLeg n).quar
  let s := s.setReg a (wput (wput (s.reg a) 0 1 (wbits v 0 1)) 16 8 (wbits v 16 8))
  let on := live && s.legEn n
  let clear := was && on && quar && !wbit v 1
  let s := if was && !on then
      let s := s.legUnquar n
      s.modGd n (GdLeg.allOff s.fine)
    else if !was && on then (if s.pwr.muster then s else s.legQuar n)
    else if on && wbit v 1 then s.legQuar n
    else if clear then s.legUnquar n
    else s
  (if wbit v 2 then s.release n else s, clear)

/-- A changed ELC inversion changes the command the pin's level makes (R217). -/
def State.elcCfgWrite (s : State) (v : Word) : State :=
  let a := Reg.GD_ELC_CFG
  let was := s.gdCmd
  (s.setReg a (wput (wput (s.reg a) 0 3 (wbits v 0 3)) 8 8 (wbits v 8 8))).elcEdges was

def State.gdWrite (s : State) (who : Who) (a : Nat) (v : Word) : State :=
  if a = Reg.GD_CFG then
    let s := s.plainStore a v
    let s := if wbit v 24 then s.estopClr else s
    if wbit v 25 && s.live Pg.GD then s.shutdown 3 else s
  else if Reg.GD_DT_RISE 0 ≤ a ∧ a ≤ Reg.GD_DT_FALL 6 then s.setReg a (BitVec.ofNat 32 (clampNat 8 800 (wbits v 0 10)))
  else if a = Reg.GD_FLT_FILT then s.setReg a (BitVec.ofNat 32 (clampNat 8 80 (wbits v 0 7)))
  else if Reg.GD_LEG_CTRL 0 ≤ a ∧ a ≤ Reg.GD_LEG_CTRL 6 then
    let n := (a - Reg.GD_LEG_CTRL 0) / 4
    let (s, clear) := s.legCtrlWrite n v
    if clear then s.clearRecord Pg.GD (BitVec.ofNat 32 n) who else s
  else if a = Reg.GD_ELC_CFG then s.elcCfgWrite v
  else s.plainStore a v

def State.hswWrite (s : State) (who : Who) (a : Nat) (v : Word) : State :=
  if a ≤ Reg.HSW_CTRL 1 then
    let n := (a - Reg.HSW_CTRL 0) / 4
    let (s, clear) := s.hswCtrlWrite n v
    if clear then s.clearRecord Pg.HSW (BitVec.ofNat 32 n) who else s
  else if a ≤ Reg.HSW_STAT 1 then s.hswStatWrite ((a - Reg.HSW_STAT 0) / 4) v
  else s.plainStore a v

/-- RLY_CTRL: OPEN wins over CLOSE (R298). -/
def State.rlyCtrlWrite (s : State) (v : Word) : State :=
  if wbit v 1 then s.rlyOpen
  else
    let s := if wbit v 2 then s.weldTest else s
    if wbit v 0 then s.rlyClose else s

/-- Clearing a RLY_WELD bit sets WELDPEND (R299). -/
def State.rlyWeldWrite (s : State) (v : Word) : State :=
  let a := Reg.RLY_WELD
  let cleared := decide (wbits (s.reg a &&& v) 0 3 ≠ 0)
  let s := s.plainStore a v
  if cleared then s.putFlag F.RLY_STAT_WELDPEND true else s

def State.rlyWrite (s : State) (a : Nat) (v : Word) : State :=
  if a = Reg.RLY_CTRL then s.rlyCtrlWrite v
  else if a = Reg.RLY_WELD then s.rlyWeldWrite v
  else if a = Reg.RLY_PICKUP then
    s.setReg a (BitVec.ofNat 32 (max 1 (wbits v 0 8) + 256 * max 1 (wbits v 8 8) + 65536 * max 1 (wbits v 16 8)))
  else s.plainStore a v

/-- A PROT register's stored value. -/
def State.protStore (s : State) (a : Nat) (v : Word) : State :=
  if a = Reg.PROT_VSHIFT then s.setReg a (wput (v &&& 0x80000000#32) 0 16 (satTo 9000 (wbits v 0 16)))
  else if a = Reg.PROT_FRT_K then s.setReg a (wput v 0 8 (satTo 60 (wbits v 0 8)))
  else if a = Reg.PROT_PROFILE then
    let was := s.profMis
    (s.plainStore a v).warnProfile was
  else s.plainStore a v

def State.protWrite (s : State) (who : Who) (restore : Bool) (a : Nat) (v : Word) : State × Status :=
  if a = Reg.PROT_PROFILE && wbit v 2 && !restore then
    if s.loadAccepts then ((s.protStore a v).profileLoad who, .ok) else (s, .locked)
  else (s.protStore a v, .ok)

/-- SAFE_UNLOCK: UNLOCK, LOCK and NEWKEY, in this order. -/
def State.unlockWrite (s : State) (who : Who) (v : Word) : State × Status :=
  let (s, ok1) := if wbit v 0 then s.unlock else (s, true)
  let s := if wbit v 1 then s.closeWindow else s
  let (s, ok2) := if wbit v 2 then s.newKey who else (s, true)
  (s, if ok1 && ok2 then .ok else .locked)

def State.safeWrite (s : State) (who : Who) (a : Nat) (v : Word) : State × Status :=
  if a = Reg.SAFE_UNLOCK then s.unlockWrite who v else (s.plainStore a v, .ok)

/-! ### MET, LDG, BUS, LOG -/

def State.metWrite (s : State) (who : Who) (a : Nat) (v : Word) : State :=
  let s := s.plainStore a v
  if a = Reg.MET_CFG then
    let s := if s.flag F.MET_CFG_NEUTEN then s else s.setNeutral false
    if wbit v 28 then s.eclr who.master who.ctx else s
  else s

/-- LDG_TENANT_WIN shows the selected slot: W0[16:0] and W1 are its configuration, every other field is the ledger's (R340). -/
def State.ldgWrite (s : State) (a : Nat) (v : Word) : State × Status :=
  if Reg.LDG_TENANT_WIN 0 ≤ a ∧ a ≤ Reg.LDG_TENANT_WIN 7 then
    let n := wbits (s.reg Reg.LDG_TENANT_SEL) 0 8
    let w := (a - Reg.LDG_TENANT_WIN 0) / 4
    if w = 0 then (s.slotWrite n (wput (s.slotW n 0) 0 17 (wbits v 0 17)), .ok)
    else if w = 1 then (s.setSlotW n 1 v, .ok)
    else (s, .roWrite)
  else (s.plainStore a v, .ok)

def State.busWritePage (s : State) (a : Nat) (v : Word) : State :=
  let was1 := s.flag F.BUS_U1_CFG_EN
  let was2 := s.flag F.BUS_U2_CFG_EN
  let s := s.plainStore a v
  if (was1 && !s.flag F.BUS_U1_CFG_EN) || (was2 && !s.flag F.BUS_U2_CFG_EN) then s.busStop else s

def State.logWrite (s : State) (a : Nat) (v : Word) : State :=
  let s := s.plainStore a v
  if a = Reg.LOG_CFG && wbit v 0 then s.logAsk else s

/-! ### A granted write to a block register -/

/-- The block's own answer to a write of `v` to its register at `a`. -/
def State.blockWrite (s : State) (who : Who) (restore : Bool) (a : Nat) (v : Word) : State × Status :=
  match a / 0x1000 with
  | 0x01 => s.sysWrite a v
  | 0x02 => s.pwrWrite who a v
  | 0x03 => s.pinsWrite a v
  | 0x04 => s.hostWrite a v
  | 0x05 => (s.ctxPageWrite who a v, .ok)
  | 0x06 => (s.irqcWrite a v, .ok)
  | 0x07 => (s.evrWrite a v, .ok)
  | 0x08 => s.dmaPageWrite who a v
  | 0x0C => (s.cpsWrite a v, .ok)
  | 0x0D => (s.chtWrite a v, .ok)
  | 0x0E => (s.qdlWrite who a v, .ok)
  | 0x10 => (s.adcWrite who 0x10 a v, .ok)
  | 0x11 => (s.adcWrite who 0x11 a v, .ok)
  | 0x12 => (s.cmpWrite who a v, .ok)
  | 0x15 => (s.specWrite a v, .ok)
  | 0x16 => (s.modeWrite a v, .ok)
  | 0x18 => (s.pwmWrite a v, .ok)
  | 0x1A => (s.gdWrite who a v, .ok)
  | 0x1C => (s.metWrite who a v, .ok)
  | 0x1E => s.ldgWrite a v
  | 0x1F => (s.busWritePage a v, .ok)
  | 0x20 => s.protWrite who restore a v
  | 0x21 => s.safeWrite who a v
  | 0x22 => (s.rlyWrite a v, .ok)
  | 0x24 => (s.hswWrite who a v, .ok)
  | 0x30 => (s.logWrite a v, .ok)
  | _ => (s.plainStore a v, .ok)

/-- A safety-group write (R25, R40, R283): refused, or stored with its change-log entry. -/
def State.groupWrite (s : State) (who : Who) (g a : Nat) (v : Word) (batch : Option Nat) : State × Status :=
  if s.groupAccepts g 1 then
    let old := s.reg a
    let loads := decide (a = Reg.PROT_PROFILE) && wbit v 2
    if loads && !s.loadAccepts then (s, .locked)
    else
      let t := (s.blockWrite who true a v).1
      let t := t.clogWrite who a old (t.reg a) batch
      let t := if loads then t.profileLoad who else t
      (if batch.isNone then t.note Pg.SAFE 2 else t, .ok)
  else (s, .locked)

/-- An occurrence of every event whose bit of PG_EVT_SET is written 1 (R46). -/
def State.eventSet (s : State) (p : Nat) (v : Word) : State :=
  (List.range 32).foldl (fun s b =>
    if wbit v b && ((evtSource p b).isSome || (decide (p = Pg.LOG) && decide (b < 2)) || (decide (p = Pg.NVM) && decide (b < 3))) then
      s.occur p b else s) s

/-- The bits of PG_EVT, PG_EVT_EN that page `p` has. -/
def evtBits (p : Nat) : Word :=
  BitVec.ofNat 32 ((List.range 32).map (fun b =>
    if (evtSource p b).isSome || (decide (p = Pg.LOG) && decide (b < 2)) || (decide (p = Pg.NVM) && decide (b < 3)) then 2 ^ b else 0)).sum

/-- A write to the common header (R52), the page being ready. PG_CTRL counts for itself. -/
def State.headerWrite (s : State) (who : Who) (restore : Bool) (p a : Nat) (v : Word) : State × Status :=
  let o := a % 0x1000
  if o = 0x00C then
    (if restore then (if enFixed p then s else s.pageSwitch p (wbit v 0), .ok) else s.ctrlWrite who p v)
  else
    let done (t : State) : State × Status := (if restore then t else t.countWrite p, .ok)
    if o = 0x014 then done (s.setReg a (s.reg a &&& ~~~(v &&& s.regWas a)))
    else if o = 0x018 then done (s.setReg a (v &&& evtBits p))
    else if o = 0x01C then done (s.eventSet p v)
    else if o = 0x020 then done (s.setReg a (s.reg a &&& ~~~(v &&& s.regWas a)))
    else (s, .roWrite)

/-- A write to the register region, the page being ready: the block's answer, unrecorded. A restore (R454, R485) is exempt from
owner protection and the safety lock, counts nothing and logs nothing. -/
def State.regWrite (s : State) (who : Who) (restore : Bool) (a : Nat) (v : Word) : State × Status :=
  let p := a / 0x1000
  if a % 0x1000 < 0x40 then s.headerWrite who restore p a v
  else
    match regRow? a with
    | none => (s, .roWrite)
    | some r =>
      if s.inSrst p && !restore then (s, .notReady)
      else if !r.writable then (s, .roWrite)
      else
        let done (x : State × Status) : State × Status :=
          if x.2 = .ok then (if restore then x.1 else x.1.countWrite p, .ok) else (s, x.2)
        if r.group < 6 && !restore then done (s.groupWrite who r.group a v none)
        else if p = Pg.CTL then done (s.ctlStore (if restore then 0x30 else who.master.toNat) a v)
        else if decide (Reg.PWM_SH_CMP 0 ≤ a) && decide (a ≤ Reg.PWM_SH_CMP 6) && !restore &&
            !s.ownsShadow who.master.toNat ((a - Reg.PWM_SH_CMP 0) / 4) then (s, .notOwner)
        else if restore && (a = Reg.PWR_DOMAIN_EN || a = Reg.PWR_STATE_REQ) then
          (s.setReg a (if a = Reg.PWR_DOMAIN_EN then BitVec.ofNat 32 (wbits v 0 12 ||| 3) else v), .ok)
        else if a = Reg.PWR_DOMAIN_EN then s.powerRequest true v
        else if a = Reg.PWR_STATE_REQ then s.powerRequest false v
        else done (s.blockWrite who restore a v)

/-! ### Memory windows -/

def inSram (a : Nat) : Bool := decide (0x80000 ≤ a) && decide (a < 0xC0000)
def inNvm (a : Nat) : Bool := decide (0x100000 ≤ a) && decide (a < 0x180000)
def inRegs (a : Nat) : Bool := decide (a < 0x40000)
def inWindows (a : Nat) : Bool := decide (0x40000 ≤ a) && decide (a < 0x44000)
def bankOf (a : Nat) : Nat := a / 0x8000 - 16
/-- The context a window address belongs to, the instruction slot of B1 that a word lies in, the offset in the NVM window. -/
def ctxOf (a : Nat) : Nat := a / 0x40 % 256
def b1Slot (a : Nat) : Nat := a / 8 % 4096
def nvmOff (a : Nat) : Nat := a % 0x100000

/-- What the blocks keep in bank `b` notices a write: B0 holds the windows' check, B1 the reels (`slot` is the instruction slot
written), B2 the tenant slots (`tenant` is the slot whose W0 was written, `old` what it held), B4 the accumulators. -/
def State.sramNotice (s : State) (b slot : Nat) (tenant : Option Nat) (old : Word) : State :=
  if b = 0 then { s with ctx := { s.ctx with b0Bad := true } }
  else if b = 1 then s.dmaSnoop slot
  else if b = 2 then (match tenant with | some n => s.slotChanged n old | none => s)
  else if b = 4 then { s with met := { s.met with touched := true } }
  else s

/-- The tenant slot whose W0 lies at the word address `w`. -/
def tenantW0 (w : Nat) : Option Nat := if 0x90000 ≤ w ∧ w < 0x92000 ∧ w % 0x20 = 0 then some (w / 0x20 % 256) else none

/-- Bytes written to SRAM by a master, all in one bank that is on. -/
def State.sramWrite (s : State) (a : Nat) (bs : List Byte) : State :=
  let w := a - a % 4
  (s.setSramBytes a bs).sramNotice (bankOf a) (b1Slot a) (tenantW0 w) (s.sramWord w)

/-- The register at `a` is one of CTL's that a master's write waits for while the engine runs (R141): a write to one without a
writable field is refused at once. -/
def ctlHolds (a : Nat) : Bool :=
  decide (a / 0x1000 = Pg.CTL) && decide (0x100 ≤ a % 0x1000) &&
    (match regRow? a with | some r => r.writable | none => false)

/-- A write of `n` bytes (1, 2 or 4) of value `v` at address `a`, judged; PG_ERR and PG_SEQ follow. -/
def State.busWriteN (s : State) (who : Who) (a n : Nat) (v : Word) : State × Status :=
  if inSram a then
    if a % n ≠ 0 then (s, .align)
    else if !s.bankOn (bankOf a) then (s, .domainOff)
    else (s.sramWrite a ((wbytes v).take n), .ok)
  else if inRegs a then
    let p := a / 0x1000
    if n ≠ 4 || !pageListed p then (s, .unmapped)
    else if a % 4 ≠ 0 then (s, .align)
    else
      match s.pageStatus p with
      | .ok =>
        if ctlHolds a && s.ctl.run.isSome then
          ({ s with ctl := { s.ctl with held := s.ctl.held ++ [(who.master.toNat, who.ctx.toNat, a, v)] } }, .ok)
        else
          let (t, st) := s.regWrite who false a v
          (if st = .ok || (a % 0x1000 = 0x00C) || a = Reg.PWR_DOMAIN_EN || a = Reg.PWR_STATE_REQ then t else t.refuse p st, st)
      | st => (s.refuse p st, st)
  else if inWindows a then
    if n ≠ 4 then (s, .unmapped)
    else if a % 4 ≠ 0 then (s, .align)
    else s.ctxWrite (ctxOf a) (a % 0x40) v
  else (s, .unmapped)

/-- The fabric carries one beat a tick (R18): where this tick's beat has been granted, the access is granted in the next tick. -/
def State.nextGrant (s : State) : State :=
  match s.beat with
  | some (t, _) => if t = s.now then s.elapse 1 else s
  | none => s

/-- The tick an access is granted in, its beat taken: by a read, by a write to the address given. -/
def State.granted (s : State) (wr : Option Nat) : State :=
  let t := s.nextGrant
  { t with beat := some (t.now, wr) }

/-- A word write in the first tick with a beat to give. -/
def State.busWrite (s : State) (who : Who) (a : Nat) (v : Word) : State × Status := (s.granted (some a)).busWriteN who a 4 v

/-! ### What registers show -/

def State.irqTop (s : State) (t : Nat) : Word :=
  match s.irqBest t 128 none with
  | some n => BitVec.ofNat 32 (n + 256 * s.irqPrio n + 65536 * s.irqCount t + 0x80000000)
  | none => 0#32

/-- PWM_TB_STAT[k] (R213). -/
def State.tbStat (s : State) (k : Nat) : Word :=
  let t := s.tb k
  let pos := (((s.fine : Nat) : Int) - t.zero).toNat / t.ck
  let cnt := if pos ≤ t.hp then pos else 2 * t.hp - pos
  let slip := if k = 0 then wrapBits 8 s.pwm.slip else 0
  if !t.run then BitVec.ofNat 32 (1048576 * t.prech.toNat + 16777216 * slip)
  else BitVec.ofNat 32 (cnt / 32 % 65536 + 65536 * (decide (t.hp < pos)).toNat + 131072 +
    262144 * (decide (k = 0 ∧ t.ck = 2)).toNat + 524288 * (decide (k = 0) && s.pwm.half).toNat + 1048576 * t.prech.toNat + 16777216 * slip)

/-- GD_LEG_CTRL[n]. -/
def State.legView (s : State) (n : Nat) : Word :=
  let l := s.gdLeg n
  let st := match l.stage with
    | .precharge => 2
    | .blend => 3
    | .none => if s.gd.armed && s.legEn n && !s.legOff n then 1 else 0
  wput (wput (s.reg (Reg.GD_LEG_CTRL n)) 1 1 l.quar.toNat) 4 2 st

/-- GD_FLT_STAT. -/
def State.fltView (s : State) : Word :=
  let hold := ((List.range 6).map (fun i => if (nth none s.gd.hold i).isSome then 2 ^ i else 0)).sum
  wput (wput (wput (s.reg Reg.GD_FLT_STAT) 8 6 hold) 16 1 s.gd.estop.toNat) 17 1 s.gd.estopPin.toNat

def State.safeStat (s : State) : Word :=
  let left := match s.safe.lockout with
    | some k => (k - s.pwr.lpo) * s.get F.SYS_LPO_CAL_INC / 2 ^ 32
    | none => 0
  BitVec.ofNat 32 (s.windowOpen.toNat + 2 * s.lockedOut.toNat + 4 * s.safe.fault.toNat + 8 * s.sealS3.toNat + 16 * s.sealS4.toNat +
    32 * s.safe.defKey.toNat + 65536 * (satTo 65535 left))

def State.unlockView (s : State) : Word :=
  match s.safe.window with
  | some t => BitVec.ofNat 32 (65536 * ((t - s.now) / ticksPerSec))
  | none => 0#32

/-- SAFE_LOG_STAT (R301). -/
def State.safeLogStat (s : State) : Word :=
  let clog (o : NvmOp) : Bool := o.owner == .clog
  let busy := s.nvmc.queue.any clog || (match s.nvmc.cur with | some r => clog r.op | none => false)
  BitVec.ofNat 32 (s.safe.used + 1024 * (decide (480 ≤ s.safe.used)).toNat + 2048 * (decide (512 ≤ s.safe.used)).toNat +
    4096 * busy.toNat + 8192 * s.safe.nvmErr.toNat + 16384 * s.safe.sealPend.isSome.toNat + 65536 * (s.safe.seq % 65536))

/-- CTX_CLASS_STAT (R421). -/
def State.classStat (s : State) : Word :=
  let n (c : Nat) : Nat := satTo 255 (s.readyIn c).length
  BitVec.ofNat 32 (n 0 + 256 * n 1 + 65536 * n 2 + 16777216 * (satTo 15 s.ctx.bgDebt))

/-- What a block register at `a` shows. -/
def State.regView (s : State) (a : Nat) : Word :=
  match a / 0x1000 with
  | 0x01 =>
    if a = Reg.SYS_WDT_STAT then wput (s.reg a) 0 12 s.wdtCount
    else if a = Reg.SYS_RTC_SUB then BitVec.ofNat 32 s.pwr.rtcSub
    else if a = Reg.SYS_MUSTER_STAT then wput (wput (s.reg a) 0 1 s.pwr.muster.toNat) 16 16 (satTo 65535 s.sinceRelease)
    else s.reg a
  | 0x02 =>
    if a = Reg.PWR_STATE then wput (s.reg a) 0 3 s.powerState
    else if a = Reg.PWR_DOMAIN_STAT then BitVec.ofNat 32 (s.pwr.on.toNat + 65536 * (s.pwr.on &&& s.pwr.ready).toNat)
    else s.reg a
  | 0x04 => if a = Reg.HOST_LNK_CREDIT then wput (s.reg a) 8 4 (8 - s.host.replies.length) else s.reg a
  | 0x05 =>
    if a = Reg.CTX_STAT then s.ctxStat else if a = Reg.CTX_INFLIGHT then s.ctxInflight
    else if a = Reg.CTX_CLASS_STAT then s.classStat else s.reg a
  | 0x06 =>
    if Reg.IRQC_TOP_A ≤ a ∧ a ≤ Reg.IRQC_TOP_REEL then s.irqStart.irqTop ((a - Reg.IRQC_TOP_A) / 4)
    else if a ≤ Reg.IRQC_PEND 3 then s.irqTake.reg a else s.reg a
  | 0x0C =>
    if a = Reg.CPS_BEARING then s.bearing
    else if a = Reg.CPS_STAT then wput (s.reg a) 6 1 s.gainErr.toNat
    else s.reg a
  | 0x18 => if a = Reg.PWM_TB_STAT 0 then s.tbStat 0 else if a = Reg.PWM_TB_STAT 1 then s.tbStat 1 else s.reg a
  | 0x1A =>
    if Reg.GD_LEG_CTRL 0 ≤ a ∧ a ≤ Reg.GD_LEG_CTRL 6 then s.legView ((a - Reg.GD_LEG_CTRL 0) / 4)
    else if a = Reg.GD_FLT_STAT then s.fltView
    else if a = Reg.GD_ELC_CFG then wput (s.reg a) 16 1 (s.live Pg.PWM && s.elcOn).toNat
    else s.reg a
  | 0x1E =>
    if Reg.LDG_TENANT_WIN 0 ≤ a ∧ a ≤ Reg.LDG_TENANT_WIN 7 then
      s.slotW (wbits (s.reg Reg.LDG_TENANT_SEL) 0 8) ((a - Reg.LDG_TENANT_WIN 0) / 4)
    else s.reg a
  | 0x20 =>
    if a = Reg.PROT_PROFILE then wput (wput (s.reg a) 4 2 s.sealProfile) 6 1 s.profMis.toNat
    else if a = Reg.PROT_STAT then wput (s.reg a) 24 8 (satTo 255 (s.reconLimit * 255).floor.toNat)
    else s.reg a
  | 0x21 =>
    if a ≤ Reg.SAFE_KEY1 then 0#32
    else if a = Reg.SAFE_UNLOCK then s.unlockView
    else if a = Reg.SAFE_STAT then s.safeStat
    else if a = Reg.SAFE_SEAL then s.safeSeal
    else if a = Reg.SAFE_FAILCNT then BitVec.ofNat 32 (s.safe.fail + 65536 * (s.safe.mismatches % 65536))
    else if a = Reg.SAFE_LOG_STAT then s.safeLogStat
    else s.reg a
  | 0x22 => if a = Reg.RLY_STAT then s.rlyStat else s.reg a
  | 0x28 =>
    if Reg.NVM_WEAR 0 ≤ a ∧ a ≤ Reg.NVM_WEAR 7 then s.nvmWear ((a - Reg.NVM_WEAR 0) / 4)
    else if a = Reg.NVM_STAT then wput (s.reg a) 8 8 (satTo 255 s.nvmc.queue.length)
    else s.reg a
  | 0x30 => if a = Reg.LOG_STAT then wput (s.reg a) 0 9 s.log.staged.length else s.reg a
  | _ => s.reg a

/-- The two registers a soft reset of the Compass does not hide (R73). -/
def srstShows (a : Nat) : Bool := decide (a = Reg.CPS_BEARING) || decide (a = Reg.CPS_BEAR_CYCLE)

/-- What a register of a page that is ready shows: header, block register, or 0 at a reserved offset (R34); 0 in a soft reset,
but for CPS_BEARING and CPS_BEAR_CYCLE, which go on showing the bearing (R73). -/
def State.showReg (s : State) (a : Nat) : Word :=
  let p := a / 0x1000
  let o := a % 0x1000
  if o = 0x00C then s.pageCtrl p
  else if o = 0x010 then s.pageStat p
  else if o < 0x28 then s.reg a
  else if o < 0x40 || (s.inSrst p && !srstShows a) || (regRow? a).isNone then 0#32
  else s.regView a

/-- The values that the metering interval and the plant-bus update set together: a read in the tick of their update returns the old
ones (R322, R349). -/
def updatedReg (a : Nat) : Bool :=
  (decide (0x1C080 ≤ a) && decide (a ≤ 0x1C0E0)) || decide (a = Reg.MET_INTERVAL) || (decide (0x1F0C0 ≤ a) && decide (a ≤ 0x1F0FC))

/-- A served read of a register: its value, and its side effect (R38, R113). A result set in this very tick is kept for the next
read: this one takes the old value, and clears nothing. PINS_GPIO_IN may show free bits. -/
def State.readReg (s : State) (who : Who) (a : Nat) : Word × State :=
  if a = Reg.PINS_GPIO_IN && !s.inSrst Pg.PINS then s.gpioIn
  else
    let v := s.showReg a
    let o := a % 0x1000
    let adc := (decide (a / 0x1000 = Pg.ADCX) || decide (a / 0x1000 = Pg.ADCI)) && decide (0x100 ≤ o) && decide (o < 0x180) &&
      (regRow? a).isSome && !s.inSrst (a / 0x1000)
    if adc && decide (s.reg a ≠ s.regWas a) then (s.regWas a, s)
    else if updatedReg a && !s.inSrst (a / 0x1000) then (s.regWas a, s)
    else (v, if adc then s.resultRead a who.master.toNat else s)

/-- Little-endian bytes as a word. -/
def wordOf (bs : List Byte) : Word := BitVec.ofNat 32 (bytesNat bs)

/-- A read of `n` bytes (1, 2 or 4) at address `a`: the value, what it answers, and the state. What bank B3 reads as is free
(R540). -/
def State.busReadN (s : State) (who : Who) (a n : Nat) : Word × Status × State :=
  if inSram a then
    if a % n ≠ 0 then (0#32, .align, s)
    else if !s.bankOn (bankOf a) then (0#32, .domainOff, s)
    else if bankOf a = 3 then (let (v, t) := s.freeVal; (v &&& wmask 0 (8 * n), .ok, t))
    else (wordOf (s.sramBytes a n), .ok, s)
  else if inNvm a then
    if a % n ≠ 0 then (0#32, .align, s)
    else if s.nvmBusySector (nvmOff a) then (0#32, .notReady, s)
    else (wordOf ((List.range n).map (fun i => s.nvmShown (nvmOff a + i))), .ok, s)
  else if inRegs a then
    let p := a / 0x1000
    if n ≠ 4 || !pageListed p then (0#32, .unmapped, s)
    else if a % 4 ≠ 0 then (0#32, .align, s)
    else
      match s.pageStatus p with
      | .ok => let (v, t) := s.readReg who a; (v, .ok, t)
      | st => (0#32, st, s.refuse p st)
  else if inWindows a then
    if n ≠ 4 then (0#32, .unmapped, s)
    else if a % 4 ≠ 0 then (0#32, .align, s)
    else (s.ctxRead (ctxOf a) (a % 0x40), .ok, s)
  else (0#32, .unmapped, s)

/-- A word read in the first tick with a beat to give. -/
def State.busRead (s : State) (who : Who) (a : Nat) : Word × Status × State := (s.granted none).busReadN who a 4

/-- A word write in a tick whose beat it has been granted; its outcome the state keeps for the master. -/
def State.writeNow (s : State) (who : Who) (a : Nat) (v : Word) : State :=
  let (t, st) := s.busWriteN who a 4 v
  { t with lastStatus := st }

/-- A read in a tick whose beat it has been granted; its outcome the state keeps for the master. -/
def State.readNow (s : State) (who : Who) (a n : Nat) : State :=
  let (v, st, t) := s.busReadN who a n
  { t with lastStatus := st, lastRead := v }

/-- A word write by a master: granted in the first tick with a beat to give, and judged there (R18, R37). -/
def State.accessWrite (s : State) (who : Who) (a : Nat) (v : Word) : State := (s.granted (some a)).writeNow who a v

/-- A read by a master. -/
def State.accessRead (s : State) (who : Who) (a n : Nat) : State := (s.granted none).readNow who a n

end Sys2Proof.Machine
end

