-- ==== Sys2Proof/Machine/Boot.lean ====
section
/-! DEFINITION. Power-up: the configuration image and its entries (spec/22 R483 to R486), the reel library (R488), a domain's
power-up sequence with its restore (spec/21 R454, R457, R461, R462), and the end of a transition (R455). -/

namespace Sys2Proof.Machine

/-! ### The configuration image (R485) -/

/-- One entry of an image as a restore. Answers whether it was skipped. SYS_LPO_CAL is captured by its AUTO field alone. -/
def State.restoreEntry (s : State) (e : Nat × Word) : State × Bool :=
  let a := e.1
  if a % 4 ≠ 0 then (s, true)
  else if a = Reg.SYS_LPO_CAL then (s.setReg a (wput (s.reg a) 24 8 (wbits e.2 24 8)), false)
  else if inRegs a then
    if !pageListed (a / 0x1000) then (s, true)
    else
      let (t, st) := s.regWrite deviceWho true a e.2
      if st = .ok then (t, false) else (s, true)
  else if inWindows a then
    let (t, st) := s.ctxWrite (ctxOf a) (a % 0x40) e.2
    if st = .ok then (t, false) else (s, true)
  else (s, true)

/-- The boot load counts a skipped entry, and records the first. -/
def State.skipCount (s : State) (a : Nat) : State :=
  let w := s.reg Reg.NVM_IMAGE
  let n := wbits w 8 8
  let s := s.setReg Reg.NVM_IMAGE (wput w 8 8 (satTo 255 (n + 1)))
  if n = 0 then s.logRec 0x2804 (BitVec.ofNat 32 a) 0#32 else s

/-- Entries applied in order, as part of the boot load or of a power-up. -/
def State.restoreAll (s : State) (boot : Bool) (es : List (Nat × Word)) : State :=
  es.foldl (fun s e =>
    let (t, skipped) := s.restoreEntry e
    if skipped && boot then t.skipCount e.1 else t) s

/-- The entries of the loaded image that lie in the pages of domain `d`. -/
def State.entriesOf (s : State) (d : Nat) : List (Nat × Word) :=
  s.nvmc.image.filter (fun (e : Nat × Word) =>
    decide (e.1 < 0x40000) && pageListed (e.1 / 0x1000) && decide (pageDomain (e.1 / 0x1000) = d))

/-- Entries the boot load applies with D1 CORE: those of D0 AON and D1 CORE, the windows', and those no domain claims. -/
def State.bootEntries (s : State) : List (Nat × Word) :=
  s.nvmc.image.filter (fun (e : Nat × Word) =>
    !(decide (e.1 < 0x40000) && pageListed (e.1 / 0x1000) && decide (1 < pageDomain (e.1 / 0x1000))))

/-- NVM_IMAGE.AVALID and BVALID, judged now (R491). -/
def State.imageValid (s : State) : State :=
  s.setReg Reg.NVM_IMAGE (wput (wput (s.reg Reg.NVM_IMAGE) 2 1 (decide (s.imageCheck 0 = 0)).toNat) 3 1
    (decide (s.imageCheck 1 = 0)).toNat)

/-- An invalid image is recorded. -/
def State.imageReport (s : State) (img : Nat) : State :=
  let c := s.imageCheck img
  if c = 0 then s
  else (s.logRec (0x2801 + img) (BitVec.ofNat 32 (imageBase img)) (BitVec.ofNat 32 c)).note Pg.NVM 0

/-- Image A if it is valid, otherwise B, otherwise none: its entries are held, and what was loaded is shown. -/
def State.imageLoad (s : State) : State :=
  let img := if s.imageCheck 0 = 0 then 0 else if s.imageCheck 1 = 0 then 1 else 2
  let s := (s.imageReport 0).imageReport 1
  let s := if img = 2 then s.logRec 0x2803 0#32 0#32 else s
  let s := { s with nvmc := { s.nvmc with image := if img = 2 then [] else s.imageEntries img } }
  let gen := if img = 2 then 0 else s.imageGen img
  let s := (s.setReg Reg.NVM_IMAGE (BitVec.ofNat 32 (img + 65536 * (gen % 65536)))).imageValid
  let s := s.put F.SYS_MUSTER_STAT_IMAGE img
  s.restoreAll true s.bootEntries

/-- The image is read again from NVM where D1 CORE had been off (R485). -/
def State.imageReread (s : State) : State :=
  let img := wbits (s.reg Reg.NVM_IMAGE) 0 2
  { s with nvmc := { s.nvmc with image := if img < 2 ∧ s.imageCheck img = 0 then s.imageEntries img else [] } }

/-! ### The reel library (R488) -/

/-- The blocks from offset `o` on, at most `n` of them: valid ones are copied into B1. -/
def State.reelBlocks (s : State) (o : Nat) : Nat → State
  | 0 => s
  | n + 1 =>
    if 0x6C000 < o + 16 then s
    else
      let w0 := s.nvmWord o
      if w0 = 0xFFFFFFFF#32 then s
      else
        let slots := wbits w0 0 16
        if wbits w0 16 16 ≠ 0x5EE1 ∨ slots = 0 ∨ 4096 < slots then s.logRec 0x2820 (BitVec.ofNat 32 o) 0#32
        else
          let first := wbits (s.nvmWord (o + 4)) 0 12
          let len := 8 * slots
          let data := s.nvmBytes (o + 16) len
          let good := decide (o + 16 + len ≤ 0x6C000) && decide (first + slots ≤ 4096) &&
            decide (crc32c (s.nvmBytes o 12 ++ data) = s.nvmWord (o + 12))
          let s := if good then s.setSramBytes (0x88000 + 8 * first) data else s.logRec 0x2820 (BitVec.ofNat 32 o) 0#32
          s.reelBlocks ((o + 16 + len + 15) / 16 * 16) n

def State.reelLoad (s : State) : State :=
  let s := { s with pwr := { s.pwr with lost := s.pwr.lost &&& ~~~2#8 } }
  if s.flag F.NVM_CFG_REELLOAD then s.reelBlocks 0x5C000 4096 else s

/-! ### Domains on (R453, R454) -/

/-- Power-up time to ready, without restore, in ticks (R454). -/
def upTicks (d : Nat) : Nat := if d = 1 ∨ d = 8 then 20000 else if d = 11 then 40000 else 8000

/-- The restore of domain `d`'s pages, after a reset or by RESTORE. The AUTOEN bits come from the image in any case (R305). -/
def State.domainRestore (s : State) (d : Nat) : State :=
  let boot := s.pwr.trans.isNone
  let es := s.entriesOf d
  if boot || wbit (s.reg Reg.PWR_DOWN_POLICY) 0 then
    let s := if es.isEmpty then s else s.elapse (Config.restoreTicks d).val
    s.restoreAll boot es
  else
    es.foldl (fun s e =>
      if e.1 = Reg.HSW_CTRL 0 ∨ e.1 = Reg.HSW_CTRL 1 then s.setReg e.1 (wputBit (s.reg e.1) 2 (wbit e.2 2)) else s) s

/-- D1 CORE becomes ready after a reset (R461, R462): the records held for it, what a reset reads from NVM, the image. -/
def State.coreBoot (s : State) : State :=
  let s := { s with pwr := { s.pwr with boot := false } }
  let s := s.putFlag F.SYS_MUSTER_STAT_SEALOK (!s.safe.fault)
  let s := s.logRelease
  let s := (s.logRec 0x0100 (s.reg Reg.SYS_RESET_CAUSE) 0#32).note Pg.SYS 0
  let s := s.clogScan.sealCompare
  let s := s.imageLoad
  let s := s.ctxPage true
  if s.pwr.lost.getLsbD 1 then s.reelLoad else s

/-- D1 CORE becomes ready in a wake (R457): what was retained stands, the image is read again. -/
def State.coreWake (s : State) : State :=
  let s := if s.ctx.b0Bad then
      { s with regs := Sparse.clearIf (fun a => decide (0x40000 ≤ a)) s.regs, ctx := { s.ctx with b0Bad := false } } else s
  let s := (s.imageReread.domainRestore 1).logRelease
  let s := s.ctxPage (s.pageEn Pg.CTX)
  let wake := match s.pwr.trans with | some t => t.wake | none => false
  let s := if wake then
      (if wbit (s.reg Reg.LOG_CFG) 1 then s else s.logRec 0x0201 (s.reg Reg.PWR_WAKE_CAUSE) 0#32).note Pg.PWR 0
    else s
  let s := if s.pwr.lost.getLsbD 1 then s.reelLoad else s
  s.wdtReview

/-- What the blocks of domain `d` do as it is powered up, before the restore. -/
def State.domainUp (s : State) (d : Nat) : State :=
  match d with
  | 3 => s.meterStop.cpsPowerUp
  | 8 => { s with cmp := { s.cmp with epoch := s.sysclk } }
  | 7 => s.refReview
  | 9 => { (s.metRestore (s.pwr.lost.getLsbD 4)) with
      pwr := { s.pwr with lost := s.pwr.lost &&& ~~~0x10#8 }
      resamp := if s.domOn 3 then s.resamp else s.resamp.align s.now s.met.ang }
  | 10 => { (s.ldgPowerUp (!s.pwr.lost.getLsbD 2)) with pwr := { s.pwr with lost := s.pwr.lost &&& ~~~4#8 } }
  | _ => s

/-- And after it. -/
def State.domainLast (s : State) (d : Nat) : State :=
  match d with
  | 3 => s.srcReview
  | 5 =>
    let s := if s.gd.estop && !s.gd.estopSeen then s.estopObserve else s
    s.profileCopy
  | 10 => s.hswAuto
  | 11 => if wbit (s.reg Reg.HOST_CFG) 2 && decide (25 ≤ s.sinceRelease) then
      ({ s with host := { s.host with since := s.now } }).put F.HOST_LNK_STAT_STATE 1 else s
  | _ => s

/-- DOMAIN_READY of domain `d`: its power-up sequence ends. -/
def State.domainReady (s : State) (d : Nat) : State :=
  if s.nextOn ≠ some d then s
  else
    let s := s.elapseTo (s.pwr.upFrom + upTicks d)
    let s := { s with pwr := { s.pwr with on := s.pwr.on ||| (1#12 <<< d), ready := s.pwr.ready ||| (1#12 <<< d) } }
    let s := if d = 1 then
        (let s := { s with pins := { s.pins with seen := s.pins.gpio } }
         if s.pwr.boot then s.coreBoot else s.coreWake)
      else ((s.domainUp d).domainRestore d).domainLast d
    let s := s.latchesShow
    { s with pwr := { s.pwr with upFrom := s.now } }

/-! ### The end of a transition (R455) -/

/-- TRANSITION_END: nothing is left to switch. The held request is judged in this tick. -/
def State.transitionEnd (s : State) : State :=
  match s.pwr.trans with
  | none => s
  | some t =>
    if !(s.offLeft t.mask).isEmpty || !(s.onLeft t.mask).isEmpty || (t.mask.getLsbD 1 != s.domReady 1) then s
    else
      let from' := s.powerState
      let w := s.reg Reg.PWR_STATE
      let s := s.setReg Reg.PWR_STATE (wput (wput (wput (wput w 0 3 t.target) 3 1 0) 4 3 from') 16 16 (wbits w 16 16 + 1))
      let held := s.pwr.held
      let s := ({ s with pwr := { s.pwr with trans := none, held := none } }).note Pg.PWR 3
      match held with
      | some h => (s.powerJudge h.domainEn h.value).1
      | none => s

end Sys2Proof.Machine
end

