-- ==== Sys2Proof/Machine/Host.lean ====
section
/-! DEFINITION. The host ports (spec/20): Gen-A and Gen-B frames (R425 to R432), the Lersy Link (R433 to R440, R393) and the
sideband (R441 to R444). -/

namespace Sys2Proof.Machine

/-! ### SPI -/

/-- Gen-A, as a master (R290). -/
def genAWho : Who := { master := 0x01#8, ctx := 0xFF#8 }

/-- STATUS bits of R430. -/
def causeBits (st : Status) : Nat :=
  match st with
  | .ok => 0
  | .notReady => 1
  | .domainOff => 2
  | .unmapped => 4
  | .align => 8
  | _ => 16

/-- A refused Gen-A access sets its bit of HOST_ERR with its page and index (R428). -/
def State.genARefused (s : State) (page index : Nat) (st : Status) : State :=
  if st = .ok then s
  else
    let s := (List.range 5).foldl (fun s b => if natBit (causeBits st) b then s.setW1c Reg.HOST_ERR b else s) s
    s.setReg Reg.HOST_ERR (wput (wput (s.reg Reg.HOST_ERR) 8 6 page) 16 8 index)

/-- The answer the host clocks out: the bytes of `out`, then zeros. -/
def clocked (n : Nat) (out : List Byte) : List Byte := (out ++ List.replicate n 0#8).take n

/-- A Gen-A frame (R426 to R428): `bytes` as clocked by the host; `early` when byte 2 came less than 1.0 µs after byte 1. -/
def State.genA (s : State) (bytes : List Byte) (early : Bool) : State :=
  let b0 := bytes.headD 0#8
  let page := (b0.extractLsb' 0 6).toNat
  let index := (nth 0#8 bytes 1).toNat
  let q := if page = 4 then 0 else s.get F.HOST_GENA_BANK_QUARTER
  let a := page * 0x1000 + q * 0x400 + index * 4
  if b0.getLsbD 7 then
    if bytes.length < 2 then s
    else
      let (v, st, s) := s.busRead genAWho a
      let s := s.genARefused page index st
      let tooSoon := early && decide (2 < bytes.length)
      let s := if tooSoon then s.setFlag F.HOST_ERR_EARLY else s
      let out := if tooSoon then [] else wbytes v
      { s with lastStatus := st, lastRead := v, host := { s.host with spiOut := clocked (bytes.length - 2) out } }
  else if bytes.length < 6 then s
  else
    let v : Word := BitVec.ofNat 32 (bytesNat ((bytes.drop 2).take 4))
    let (s, st) := s.busWrite genAWho a v
    let s := s.genARefused page index st
    { s with lastStatus := st, host := { s.host with spiOut := clocked (bytes.length - 2) [] } }

/-- What a burst has come to: the words read, the causes so far, the index of the first word with one. -/
structure Burst where
  words : List Word
  causes : Nat
  firstBad : Nat
  deriving DecidableEq, Repr

/-- One word of a burst has been accessed with outcome `st` at index `i`. -/
def Burst.add (b : Burst) (i : Nat) (v : Word) (st : Status) : Burst :=
  { words := b.words ++ [v], causes := b.causes ||| causeBits st,
    firstBad := if b.firstBad = 0xFF ∧ st ≠ .ok then i else b.firstBad }

/-- The beats of a write burst, in order, one a tick (R18, R422, R431). -/
def State.burstWrite (s : State) (who : Who) (a step i : Nat) (b : Burst) : List Word → State × Burst
  | [] => (s, b)
  | v :: vs =>
    let (t, st) := s.busWrite who (a + step * i) v
    t.burstWrite who a step (i + 1) (b.add i 0#32 st) vs

/-- The beats of a read burst of `n` words from index `i`. -/
def State.burstRead (s : State) (who : Who) (a step i : Nat) (b : Burst) : Nat → State × Burst
  | 0 => (s, b)
  | n + 1 =>
    let (v, st, t) := s.busRead who (a + step * i)
    t.burstRead who a step (i + 1) (b.add i (if st = .ok then v else 0#32) st) n

/-- A Gen-B reply from START to its CRC (R430). -/
def genBReply (status : Nat) (seq : Byte) (firstBad rflags : Nat) (data : List Word) : List Byte :=
  let body := [BitVec.ofNat 8 status, seq, BitVec.ofNat 8 firstBad, BitVec.ofNat 8 rflags] ++ data.flatMap wbytes
  [0x93#8] ++ body ++ wbytes (crc32c body)

/-- The number of bytes a Gen-B request has with this LEN and WR. -/
def genBLength (len : Nat) (wr : Bool) : Nat := 13 + (if wr then 4 * (len + 1) else 0)

/-- The accesses of a Gen-B request that has been taken, and its reply (R431). -/
def State.genBRun (s : State) (bytes : List Byte) : State × List Byte :=
  let len := ((nth 0#8 bytes 4).extractLsb' 0 6).toNat
  let flags := nth 0#8 bytes 7
  let wr := flags.getLsbD 0
  let n := genBLength len wr
  let seq := nth 0#8 bytes 6
  let body := (bytes.drop 1).take (n - 5)
  let crc : Word := BitVec.ofNat 32 (bytesNat ((bytes.drop (n - 4)).take 4))
  let a := bytesNat ((bytes.drop 1).take 3)
  let rsvd := decide ((nth 0#8 bytes 4).extractLsb' 6 2 ≠ 0#2) || decide (flags.extractLsb' 3 5 ≠ 0#5) || decide (nth 0#8 bytes 8 ≠ 0#8)
  let zeros := if wr then [] else List.replicate (len + 1) 0#32
  if crc32c body ≠ crc then (s.inc F.HOST_GENB_STAT_CRCERR, genBReply 0x20 seq 0xFF 0 zeros)
  else if rsvd || decide (a % 4 ≠ 0) then
    (s, genBReply ((if rsvd then 0x40 else 0) + (if a % 4 ≠ 0 then 8 else 0)) seq (if a % 4 ≠ 0 then 0 else 0xFF) 0 zeros)
  else
    let who : Who := { master := 0x02#8, ctx := if flags.getLsbD 1 then nth 0#8 bytes 5 else 0xFF#8 }
    let step := if flags.getLsbD 2 then 4 else 0
    let start : Burst := { words := [], causes := 0, firstBad := 0xFF }
    if wr then
      if s.flag F.HOST_GENB_CFG_DUPEN && decide (s.host.genbDup = some (seq, crc)) then (s, genBReply 0 seq 0xFF 1 [])
      else
        let s := if s.flag F.HOST_GENB_CFG_DUPEN then { s with host := { s.host with genbDup := some (seq, crc) } } else s
        let data := (List.range (len + 1)).map (fun i => (BitVec.ofNat 32 (bytesNat ((bytes.drop (9 + 4 * i)).take 4)) : Word))
        let (s, b) := s.burstWrite who a step 0 start data
        (s, genBReply b.causes seq b.firstBad 0 [])
    else
      let (s, b) := s.burstRead who a step 0 start (len + 1)
      (s, genBReply b.causes seq b.firstBad 0 b.words)

/-- A Gen-B frame (R429 to R432): the host's bytes, and how many reply bytes it clocks from START on. -/
def State.genB (s : State) (bytes : List Byte) (tail : Nat) : State :=
  let n := genBLength ((nth 0#8 bytes 4).extractLsb' 0 6).toNat ((nth 0#8 bytes 7).getLsbD 0)
  if bytes.length < 9 ∨ bytes.length < n then s.inc F.HOST_GENB_STAT_ABORTED
  else
    let (s, reply) := s.genBRun bytes
    let s := { s with host := { s.host with spiOut := reply.take tail } }
    if tail < reply.length then s.inc F.HOST_GENB_STAT_ABORTED else s

/-- An ignored frame; a reserved frame, `n` bytes after its first (R425). -/
def State.spiIgnored (s : State) : State := ({ s with host := { s.host with spiOut := [] } }).inc F.HOST_GENB_STAT_SYNCERR
def State.spiReserved (s : State) (n : Nat) : State :=
  ({ s with host := { s.host with spiOut := List.replicate n 0x15#8 } }).inc F.HOST_GENB_STAT_NAKCNT

/-- The port judges SPI frames (R424): from the first lock of SYSPLL, while D1 CORE is on. -/
def State.spiJudges (s : State) : Bool := s.domOn 1

/-- What a CS frame is, by its first byte (R425): a disabled generation's frame is ignored. -/
inductive SpiKind where
  | genA | genB | ignored | reserved | unseen
  deriving DecidableEq, Repr

/-- The kind of a frame. One of no byte, or while the port does not judge frames, is not seen. -/
def State.spiKind (s : State) (bytes : List Byte) : SpiKind :=
  match bytes with
  | [] => .unseen
  | b0 :: _ =>
    if !s.spiJudges then .unseen
    else if !b0.getLsbD 6 then (if s.flag F.HOST_CFG_GENAEN then .genA else .ignored)
    else if b0 = 0x6C#8 then (if s.flag F.HOST_CFG_GENBEN then .genB else .ignored)
    else if b0.getLsbD 7 then .reserved
    else .ignored

/-! ### The Lersy Link -/

def State.lnkState (s : State) : Nat := s.get F.HOST_LNK_STAT_STATE

/-- An error of cause `c` (R437, R438): recorded, counted, and LNK_ERR. -/
def State.lnkError (s : State) (c : Nat) : State :=
  let w := s.reg Reg.HOST_LNK_ERRCNT
  let s := s.setReg Reg.HOST_LNK_ERRCNT
    (if c = 1 then wput w 0 16 (wbits w 0 16 + 1) else wput w 16 16 (wbits w 16 16 + 1))
  (s.put F.HOST_LNK_STAT_ERR c)

def State.lnkErr (s : State) (c : Nat) : State := (s.lnkError c).note Pg.HOST 2

/-- A packet is sent: header bytes 0 to 6 and payload. It carries the credits owed, at most 15 (R437, R438). -/
def State.lnkSend (s : State) (head : List Byte) (payload : List Byte) : State :=
  let k := satTo 15 s.host.owed
  let body := head ++ [BitVec.ofNat 8 k] ++ payload
  { s with host := { s.host with owed := s.host.owed - k, lnkSent := body ++ wbytes (crc32c body) } }

/-- A packet the PX410 chose to send: its SEQ is open. -/
def State.lnkSendOwn (s : State) (type len : Nat) (payload : List Byte) : State :=
  let (v, s) := s.freeVal
  s.lnkSend [BitVec.ofNat 8 type, v.extractLsb' 0 8, 0#8, BitVec.ofNat 8 len, 0#8, 0#8, 0#8] payload

/-- HOST_LNK_RATE.MAX; 3 acts as 2. -/
def State.lnkMax (s : State) : Nat := satTo 2 (s.get F.HOST_LNK_RATE_MAX)

/-- The PX410's own PING payload with these flags of W0 and this rate (R439). -/
def State.pingWords (s : State) (flags rate : Nat) : List Byte :=
  let w0 : Word := BitVec.ofNat 32 (flags + 256 * rate + 65536 * 8)
  let part := s.showReg Reg.IDENT_PART
  let w3 : Word := BitVec.ofNat 32 (wbits part 0 16 + 65536 * wbits (s.showReg Reg.IDENT_FAMILY) 0 8 +
    16777216 * wbits (s.showReg Reg.IDENT_STEP) 0 8)
  [w0, s.showReg Reg.IDENT_SERIAL_LO, s.showReg Reg.IDENT_SERIAL_HI, w3].flatMap wbytes

/-- Bits of W0. -/
abbrev pingAckReq : Nat := 2
abbrev pingRateProp : Nat := 4

/-- Host credits held (R438). -/
def State.lnkCredit (s : State) : Nat := wbits (s.reg Reg.HOST_LNK_CREDIT) 0 4
def State.lnkCredits (s : State) (n : Nat) : State := s.setReg Reg.HOST_LNK_CREDIT (wput (s.reg Reg.HOST_LNK_CREDIT) 0 4 n)

/-- Requests that take a receive buffer. -/
def lnkCredited (b0 : Byte) : Bool := b0 = 1#8 || b0 = 2#8 || b0 = 3#8

/-- LEN and payload are right for the packet (R437). -/
def lnkLenOk (type len bytes : Nat) : Bool :=
  match type with
  | 1 => bytes = 12
  | 2 => bytes = 16 + 4 * len
  | 3 => decide (len = 7) && decide (bytes = 44)
  | 6 => decide (len = 0) && decide (bytes = 12)
  | 7 => decide (len = 3) && decide (bytes = 28)
  | _ => false

/-- An answer to a PING of the PX410's own is due (R434, R435, R436). -/
def State.lnkAsked (s : State) : Bool := s.host.ackAt.isSome || decide (s.host.rate ≠ .none)

/-- The received packet has the form R437 gives it. -/
def State.lnkFormOk (s : State) (bytes : List Byte) : Bool :=
  let b0 := bytes.headD 0#8
  let b3 := nth 0#8 bytes 3
  let type := (b0.extractLsb' 0 4).toNat
  let len := (b3.extractLsb' 0 6).toNat
  let a := bytesNat ((bytes.drop 4).take 3)
  let w0 := bytesNat ((bytes.drop 8).take 4)
  decide (b0.extractLsb' 4 3 = 0#3) && !b3.getLsbD 7 && decide ((nth 0#8 bytes 7).extractLsb' 4 4 = 0#4) &&
  lnkLenOk type len bytes.length && (!b0.getLsbD 7 || (decide (type = 7) && s.lnkAsked)) &&
  (decide (type ≠ 3) || decide (a = 0)) && (decide (type ≠ 7) || (decide (w0 / 16 % 16 = 0) && decide (w0 / 2 ^ 20 = 0)))

/-- A packet is dropped for cause `c`; a buffer that it took is free again (R438). -/
def State.lnkDrop (s : State) (c : Nat) (freed : Bool) : State :=
  let s := s.lnkErr c
  if freed then { s with host := { s.host with owed := s.host.owed + 1 } } else s

/-- A packet has arrived: dropped, or taken with its CRDRET (R437, R438); whether it was taken. -/
def State.lnkTake (s : State) (bytes : List Byte) : State × Bool :=
  let b0 := bytes.headD 0#8
  let n := bytes.length
  if n < 12 ∨ crc32c (bytes.take (n - 4)) ≠ BitVec.ofNat 32 (bytesNat (bytes.drop (n - 4))) then (s.lnkDrop 1 (lnkCredited b0), false)
  else if !s.lnkFormOk bytes then (s.lnkDrop 4 (lnkCredited b0), false)
  else if lnkCredited b0 && decide (8 ≤ s.host.replies.length) then (s.lnkDrop 3 false, false)
  else
    let s := s.inc F.HOST_LNK_STAT_PKTS
    let s := s.lnkCredits (satTo 15 (s.lnkCredit + ((nth 0#8 bytes 7).extractLsb' 0 4).toNat))
    ({ s with host := { s.host with lastRx := s.now } }, true)

/-- The reply of a request waits for its credit, holding the request's buffer. -/
def State.lnkReply (s : State) (bytes : List Byte) (len status firstBad rflags : Nat) (data : List Word) : State :=
  let b3 := BitVec.ofNat 8 (len + (nth 0#8 bytes 3).toNat / 64 % 2 * 64)
  let r : LnkReply := { head := [bytes.headD 0#8 ||| 0x80#8, nth 0#8 bytes 1, nth 0#8 bytes 2, b3, BitVec.ofNat 8 status,
                                 BitVec.ofNat 8 firstBad, BitVec.ofNat 8 rflags],
                        payload := data.flatMap wbytes }
  { s with host := { s.host with replies := s.host.replies ++ [r] } }

/-- Who the request's accesses are made by. -/
def lnkWho (bytes : List Byte) : Who :=
  { master := 0x03#8, ctx := if (nth 0#8 bytes 3).getLsbD 6 then nth 0#8 bytes 2 else 0xFF#8 }

/-- READ (R440). -/
def State.lnkRead (s : State) (bytes : List Byte) : State :=
  let len := ((nth 0#8 bytes 3).extractLsb' 0 6).toNat
  let a := bytesNat ((bytes.drop 4).take 3)
  if a % 4 ≠ 0 then s.lnkReply bytes len 8 0 0 (List.replicate (len + 1) 0#32)
  else
    let (s, b) := s.burstRead (lnkWho bytes) a 4 0 { words := [], causes := 0, firstBad := 0xFF } (len + 1)
    s.lnkReply bytes len b.causes b.firstBad 0 b.words

/-- WRITE (R440). -/
def State.lnkWrite (s : State) (bytes : List Byte) : State :=
  let len := ((nth 0#8 bytes 3).extractLsb' 0 6).toNat
  let a := bytesNat ((bytes.drop 4).take 3)
  let n := bytes.length
  let crc : Word := BitVec.ofNat 32 (bytesNat (bytes.drop (n - 4)))
  let key := (nth 0#8 bytes 1, crc)
  if a % 4 ≠ 0 then s.lnkReply bytes 0 8 0 0 []
  else if s.flag F.HOST_GENB_CFG_DUPEN && decide (s.host.lnkDup = some key) then s.lnkReply bytes 0 0 0xFF 1 []
  else
    let s := if s.flag F.HOST_GENB_CFG_DUPEN then { s with host := { s.host with lnkDup := some key } } else s
    let data := (List.range (len + 1)).map (fun i => (BitVec.ofNat 32 (bytesNat ((bytes.drop (8 + 4 * i)).take 4)) : Word))
    let (s, b) := s.burstWrite (lnkWho bytes) a 4 0 { words := [], causes := 0, firstBad := 0xFF } data
    s.lnkReply bytes 0 b.causes b.firstBad 0 []

/-- CMD (R440): the entry at the tail slot of context CTX, and the doorbell. -/
def State.lnkCmd (s : State) (bytes : List Byte) : State :=
  let n := (nth 0#8 bytes 2).toNat
  let tail := s.sqTail n
  let next := (tail + 1) % 2 ^ s.sqLog n
  let good := s.ctxEn n && !s.ctxQuar n && s.cfgOk n
  if good && decide (next = s.sqHead n) then s.lnkReply bytes 0 16 0xFF 0 []
  else if !good then (s.doorbell n next).lnkReply bytes 0 16 0xFF 0 []
  else
    let ws := (List.range 8).map (fun i => (BitVec.ofNat 32 (bytesNat ((bytes.drop (8 + 4 * i)).take 4)) : Word))
    ((s.setSramWords (s.sqBase n + 32 * tail) ws).doorbell n next).lnkReply bytes 0 0 0xFF 0 []

/-- The entry to UP from TRAIN (R434, R393). -/
def State.lnkUp (s : State) : State :=
  let s := s.put F.HOST_LNK_STAT_STATE 4
  let s := s.lnkCredits s.host.offer
  let s := { s with host := { s.host with wake := true, owed := 0, ackAt := none, rate := .none, since := s.now } }
  let s := if (s.irqBest 2 128 none).isSome then { s with irqc := { s.irqc with announce := true } } else s
  s.note Pg.HOST 0

/-- The link starts to align, at 25 Mbaud (R434). -/
def State.lnkSync (s : State) : State :=
  let s := (s.put F.HOST_LNK_STAT_STATE 2).put F.HOST_LNK_STAT_RATE 0
  { s with host := { s.host with since := s.now, gotPing := false, answered := false, ackAt := none, rate := .none } }

/-- A PING has been received (R434, R436, R439). -/
def State.lnkPing (s : State) (bytes : List Byte) : State :=
  let w0 := bytesNat ((bytes.drop 8).take 4)
  let resp := (bytes.headD 0#8).getLsbD 7
  let rate := satTo 2 (w0 / 256 % 256)
  let prop := natBit w0 2
  let go := natBit w0 3
  let s := if prop || go then s else s.put F.HOST_LNK_RATE_HOSTMAX rate
  let s := { s with host := { s.host with
    offer := max 1 (w0 / 65536 % 16), gotPing := true, answered := s.host.answered || resp,
    ackAt := if s.lnkState = 3 then s.host.ackAt else none } }
  let s := if !resp && (natBit w0 0 || natBit w0 1) then
      s.lnkSend [0x87#8, nth 0#8 bytes 1, nth 0#8 bytes 2, BitVec.ofNat 8 (3 + (nth 0#8 bytes 3).toNat / 64 % 2 * 64), 0#8, 0#8, 0#8]
        (s.pingWords 0 s.lnkMax)
    else s
  if s.lnkState = 3 then (if s.host.gotPing && s.host.answered then s.lnkUp else s)
  else
    match s.host.rate with
    | .proposed r =>
      if go && decide (rate = r) then
        ({ s with host := { s.host with rate := .going r s.now false } }).put F.HOST_LNK_STAT_STATE 5
      else if prop && decide (rate < r) then
        (if s.get F.HOST_LNK_STAT_RATE < rate then
          ({ s with host := { s.host with rate := .proposed rate } }).lnkSendOwn 7 3 (s.pingWords pingRateProp rate)
         else { s with host := { s.host with rate := .none } })
      else s
    | .going r _ true =>
      ({ s with host := { s.host with rate := .none, ackAt := none } }.put F.HOST_LNK_STAT_RATE r).put F.HOST_LNK_STAT_STATE 4
    | _ => s

/-- The last tick in which the awaited PING still comes in time: of a keepalive (R435), of a rate change (R436). -/
def State.lnkLimit (s : State) : Option Nat :=
  match s.host.rate with
  | .going _ t _ => some (t + ticksPerMs)
  | _ =>
    if s.lnkState = 4 then s.host.ackAt.map (fun t => t + 10 * ticksPerUs * max 1 (s.get F.HOST_LNK_CFG_ACKTMO)) else none

/-- The awaited PING has not come: the link is lost, or the rate has failed and it trains again at 25 Mbaud (R435, R436). -/
def State.lnkFail (s : State) : State :=
  match s.host.rate with
  | .going r _ _ =>
    let s := { s with host := { s.host with failed := s.host.failed ||| (1#4 <<< r) } }
    ((s.putFlag F.HOST_LNK_STAT_RATEFAIL true).lnkErr 5).lnkSync
  | _ => (s.lnkError 6).linkLost 1

/-- A limit that has passed before this tick has had its effect in the tick after it (R21, R24). -/
def State.lnkLate (s : State) : State :=
  match s.lnkLimit with
  | some l => if l < s.now then (let t := s.lnkFail; { t with host := { t.host with since := l + 1 } }) else s
  | none => s

/-- A request that arrives outside UP is discarded, and its buffer is free again. -/
def State.lnkDiscard (s : State) : State := { s with host := { s.host with owed := s.host.owed + 1 } }

/-- A packet received in TRAIN, UP or RATE. Requests and credits flow in UP. -/
def State.lnkPacket (s : State) (bytes : List Byte) : State :=
  let s := s.lnkLate
  if s.lnkState < 3 then s
  else
    let (t, taken) := s.lnkTake bytes
    if !taken then t
    else
      match ((bytes.headD 0#8).extractLsb' 0 4).toNat with
      | 1 => if s.lnkState = 4 then t.lnkRead bytes else t.lnkDiscard
      | 2 => if s.lnkState = 4 then t.lnkWrite bytes else t.lnkDiscard
      | 3 => if s.lnkState = 4 then t.lnkCmd bytes else t.lnkDiscard
      | 7 => t.lnkPing bytes
      | _ => t

/-- The TYPE a packet carries. -/
def lnkType (bytes : List Byte) : Nat := ((bytes.headD 0#8).extractLsb' 0 4).toNat

/-- A packet of TYPE `k` is received. LNK_WRITE's type, 2, stands for those a partner never sends to the PX410 too: they are
dropped (R437). -/
def State.lnkTyped (s : State) (k : Nat) (bytes : List Byte) : State :=
  let t := lnkType bytes
  if t = k ∨ (k = 2 ∧ t ≠ 1 ∧ t ≠ 3 ∧ t ≠ 6 ∧ t ≠ 7) then s.lnkPacket bytes else s

/-- LNK_REPLY_SEND (R434, R438): the WAKE packet or the oldest reply, once a host credit is held. -/
def State.lnkReplySend (s : State) : State :=
  if s.lnkState ≠ 4 ∨ s.lnkCredit = 0 then s
  else if s.host.wake then
    let ws := [Reg.SYS_RESET_CAUSE, Reg.PWR_WAKE_CAUSE, Reg.SYS_MUSTER_STAT, Reg.IDENT_SERIAL_LO].map s.showReg
    (({ s with host := { s.host with wake := false } }).lnkCredits (s.lnkCredit - 1)).lnkSendOwn 5 3 (ws.flatMap wbytes)
  else
    match s.host.replies with
    | [] => s
    | r :: rest =>
      (({ s with host := { s.host with replies := rest, owed := s.host.owed + 1 } }).lnkCredits (s.lnkCredit - 1)).lnkSend r.head r.payload

/-- Where no announcement waits, time passes until what has been set pending last is pending (R384, R393). -/
def State.irqAhead (s : State) : State :=
  match (s.irqc.soon.map Prod.fst).max? with
  | some t => if s.irqc.announce then s else (s.elapseTo t).irqTake
  | none => s

/-- IRQ_PACKET_SEND (R393). -/
def State.irqPacket (s : State) : State :=
  let s := s.irqAhead
  if s.lnkState ≠ 4 ∨ s.lnkCredit = 0 ∨ s.irqc.announce = false then s
  else
    let t := { s with irqc := { s.irqc with announce := false } }
    if (s.irqBest 2 128 none).isSome then (t.lnkCredits (s.lnkCredit - 1)).lnkSendOwn 4 0 (wbytes (s.irqTop 2)) else t

/-- CREDIT_PACKET_SEND (R438). -/
def State.creditPacket (s : State) : State :=
  if s.lnkState = 4 ∧ 0 < s.host.owed ∧ s.host.replies = [] ∧ s.host.wake = false ∧ s.irqc.announce = false then
    s.lnkSendOwn 6 0 [] else s

/-- LNK_TRAINING_START (R434). -/
def State.lnkTrainingStart (s : State) : State :=
  if decide (s.lnkState = 0) && s.flag F.HOST_CFG_LNKEN && s.domReady 1 && s.domReady 11 then
    (s.elapseTo (s.pwr.released + 25 * ticksPerMs)).lnkSync
  else s

/-- LNK_ALIGNED (R434). -/
def State.lnkAligned (s : State) : State :=
  if s.lnkState = 2 then
    { (s.put F.HOST_LNK_STAT_STATE 3) with host := { s.host with since := s.now, gotPing := false, answered := false, ackAt := none } }
  else s

/-- LNK_TRAIN_PING: every 10 µs (R434). -/
def State.lnkTrainPing (s : State) : State :=
  if s.lnkState = 3 then
    let s := s.elapseTo ((s.host.ackAt.getD s.host.since) + 10 * ticksPerUs)
    ({ s with host := { s.host with ackAt := some s.now } }).lnkSendOwn 7 3 (s.pingWords pingAckReq s.lnkMax)
  else s

/-- LNK_DOWN (R435): `invalid` code groups among the last 32; whether alignment stands. -/
def State.lnkDown (s : State) (invalid : Nat) (aligned : Bool) : State :=
  if s.lnkState < 3 then s
  else
    let s := (List.replicate invalid ()).foldl (fun t _ => t.lnkErr 2) s
    if 4 < invalid ∨ !aligned then s.linkLost 1 else s

/-- LNK_DOWN_END (R434). -/
def State.lnkDownEnd (s : State) : State :=
  if s.lnkState = 1 then (s.elapseTo (s.host.since + ticksPerMs)).lnkSync else s

/-- LNK_KEEPALIVE (R435). -/
def State.lnkKeepalive (s : State) : State :=
  if decide (s.lnkState = 4) && s.host.ackAt.isNone then
    let s := s.elapseTo (s.host.lastRx + ticksPerMs * max 1 (s.get F.HOST_LNK_CFG_KA))
    ({ s with host := { s.host with ackAt := some s.now } }).lnkSendOwn 7 3 (s.pingWords pingAckReq s.lnkMax)
  else s

/-- LNK_ACK_TIMEOUT: in the tick after its limit (R435). -/
def State.lnkAckTimeout (s : State) : State :=
  match s.host.rate, s.lnkLimit with
  | .going _ _ _, _ => s
  | _, some l => (s.elapseTo (l + 1)).lnkLate
  | _, none => s

/-- The rate to propose: the highest above the present one that neither side excludes and that has not failed (R436). -/
def State.lnkTarget (s : State) : Option Nat :=
  let top := min s.lnkMax (s.get F.HOST_LNK_RATE_HOSTMAX)
  ([2, 1].find? (fun r => decide (r ≤ top) && !s.host.failed.getLsbD r)).filter (fun r => decide (s.get F.HOST_LNK_STAT_RATE < r))

/-- LNK_RATE_PROPOSE (R436). -/
def State.lnkRatePropose (s : State) : State :=
  match s.lnkTarget with
  | some r =>
    if s.lnkState = 4 ∧ s.host.replies = [] ∧ s.host.rate = .none then
      ({ s with host := { s.host with rate := .proposed r } }).lnkSendOwn 7 3 (s.pingWords pingRateProp r)
    else s
  | none => s

/-- Ticks of 16 idle ordered sets of 20 bits at a rate (R433, R436). -/
def idleTicks (rate : Nat) : Nat := 320 * 400 / (if rate = 0 then 25 else if rate = 1 then 100 else 250)

/-- LNK_RATE_SWITCH (R436): both ends at the new rate; a PING goes out. -/
def State.lnkRateSwitch (s : State) : State :=
  match s.host.rate with
  | .going r t false =>
    let s := s.elapseTo (t + idleTicks (s.get F.HOST_LNK_STAT_RATE))
    ({ s with host := { s.host with rate := .going r t true, ackAt := some s.now } }).lnkSendOwn 7 3 (s.pingWords pingAckReq s.lnkMax)
  | _ => s

/-- LNK_RATE_FAIL: in the tick after its limit (R436). -/
def State.lnkRateFail (s : State) : State :=
  match s.host.rate with
  | .going _ t _ => (s.elapseTo (t + ticksPerMs + 1)).lnkLate
  | _ => s

/-! ### The sideband -/

/-- The sideband, as a master (R290). -/
def sbWho : Who := { master := 0x04#8, ctx := 0xFF#8 }

/-- The first millisecond is over (R442). -/
def State.sbReady (s : State) : Bool := !s.pwr.inReset && decide (s.pwr.released + ticksPerMs ≤ s.now)

/-- A NACK for `cause` (R443). -/
def State.sbNack (s : State) (cause : Nat) : State := s.put F.HOST_SB_STAT_CAUSE cause

/-- SB_ADDRESS_MATCH (R441, R442): the address of a START. -/
def State.sbMatch (s : State) (addr : BitVec 7) (read : Bool) : State :=
  if addr.toNat ≠ s.get F.HOST_SB_ADDR_ADDR then s
  else
    let w := s.reg Reg.HOST_SB_STAT
    let s := s.setReg Reg.HOST_SB_STAT (wput (wput w 16 1 read.toNat) 24 8 (wbits w 24 8 + 1))
    let wakes := s.wakeWatch && wbit (s.reg Reg.PWR_WAKE_EN) 0
    let s := if wakes then { s with pwr := { s.pwr with wakeSeen := s.pwr.wakeSeen ||| 1#9 } } else s
    let hold := (!s.sbReady || (wakes && decide (s.powerState = 5))) && !s.flag F.HOST_SB_ADDR_NOSTRETCH
    { s with sb := { s.sb with matched := true, read := read, first := !read, buf := [], held := if hold then some s.now else none } }

/-- The last SYSCLK tick of the LPO tick in which tick `t` lies (R22). -/
def State.lpoLast (s : State) (t : Nat) : Nat :=
  let k := (s.pwr.lpoAcc + (t - s.now) * lpoHz) / ticksPerSec
  s.now + ((k + 1) * ticksPerSec - s.pwr.lpoAcc - 1) / lpoHz

/-- SB_HOLD_RELEASE (R442): at readiness, or after the LPO tick in which 2 ms end; readiness in that LPO tick is in time. -/
def State.sbRelease (s : State) : State :=
  match s.sb.held with
  | none => s
  | some t =>
    let limit := s.lpoLast (max s.now (t + 2 * ticksPerMs))
    let ready := s.pwr.released + ticksPerMs
    let s := s.elapseTo (if s.pwr.inReset || decide (s.powerState = 5) || decide (limit < ready) then limit + 1 else ready)
    { s with sb := { s.sb with held := none } }

/-- The register behind a pointer of the sideband map, by its byte at offset 0 (R443). -/
def sbReg (p : Nat) : Option Nat :=
  if p < 0x18 then some (nth 0 [Reg.IDENT_PART, Reg.IDENT_FAMILY, Reg.IDENT_STEP, Reg.IDENT_SERIAL_LO, Reg.IDENT_SERIAL_HI,
      Reg.IDENT_CHECK] (p / 4))
  else if 0x20 ≤ p ∧ p < 0x30 then
    some (nth 0 [Reg.PWR_STATE_REQ, Reg.PWR_STATE, Reg.PWR_WAKE_EN, Reg.PWR_WAKE_CAUSE] ((p - 0x20) / 4))
  else if 0x30 ≤ p ∧ p < 0x34 then some Reg.HOST_SB_STAT
  else if 0x34 ≤ p ∧ p < 0x38 then some Reg.HOST_MBOX_STAT
  else if 0x40 ≤ p ∧ p < 0x80 then some (Reg.PWR_MBOX ((p - 0x40) / 4))
  else none

/-- The register is a mailbox word, written byte by byte (R443). -/
def sbMailbox (a : Nat) : Bool := decide (Reg.PWR_MBOX 0 ≤ a) && decide (a ≤ Reg.PWR_MBOX 15)

/-- The sideband may write the register. -/
def sbWritable (a : Nat) : Bool :=
  a = Reg.PWR_STATE_REQ || a = Reg.PWR_WAKE_EN || a = Reg.PWR_WAKE_CAUSE || a = Reg.HOST_MBOX_STAT || sbMailbox a

/-- A register as the sideband reads it: D0 AON serves it whatever is off. -/
def State.sbWord (s : State) (a : Nat) : Word := if a / 0x1000 = Pg.HOST then s.reg a else s.showReg a

/-- The register word at `a` is written (R443, R444): the bytes received over its present value; a byte of a W1C register that
was not written clears nothing. The sideband takes no beat of the fabric, whose write of the same tick to the mailbox stands. -/
def State.sbStore (s : State) (a : Nat) (buf : List (Nat × Byte)) : State :=
  let base := if a = Reg.PWR_WAKE_CAUSE || a = Reg.HOST_MBOX_STAT then 0#32 else s.sbWord a
  let v := buf.foldl (fun (w : Word) e => wput w (8 * e.1) 8 e.2.toNat) base
  if a = Reg.HOST_MBOX_STAT then
    let s := s.setReg a (s.reg a &&& ~~~(v &&& 2#32))
    if s.domOn 1 then s.countWrite Pg.HOST else s
  else if sbMailbox a && s.mastered a then s.putFlag F.HOST_MBOX_STAT_SBW true
  else (s.busWriteN sbWho a 4 v).1

/-- The pointer goes on by one and stays at 0xFF. -/
def State.sbNext (s : State) : State := { s with sb := { s.sb with ptr := satTo 0xFF (s.sb.ptr + 1) } }

/-- A data byte of a write transaction. -/
def State.sbByte (s : State) (b : Byte) : State :=
  let p := s.sb.ptr
  match sbReg p with
  | none => s.sbNack 2
  | some a =>
    if !sbWritable a then s.sbNack 3
    else if sbMailbox a then (s.sbStore a [(p % 4, b)]).sbNext
    else
      let buf := (if s.sb.word = p - p % 4 then s.sb.buf else []) ++ [(p % 4, b)]
      let s := { s with sb := { s.sb with buf := buf, word := p - p % 4 } }
      (if p % 4 = 3 then ({ s with sb := { s.sb with buf := [] } }).sbStore a buf else s).sbNext

/-- SB_WRITE (R443): the bytes of a write transaction after its address. -/
def State.sbWrite (s : State) (bytes : List Byte) : State :=
  if s.sb.matched && !s.sb.read then
    bytes.foldl (fun (s : State) b =>
      if !s.sbReady then s.sbNack 1
      else if s.sb.first then
        (if (sbReg b.toNat).isSome then
          (({ s with sb := { s.sb with ptr := b.toNat, first := false } }).setReg Reg.HOST_SB_STAT
            (wput (s.reg Reg.HOST_SB_STAT) 8 8 b.toNat))
         else s.sbNack 2)
      else s.sbByte b) s.sbRelease
  else s

/-- `n` bytes from the pointer on; a byte outside the map reads 0xFF. -/
def State.sbBytes (s : State) : Nat → State
  | 0 => s
  | n + 1 =>
    let p := s.sb.ptr
    let (b, s) := match sbReg p with
      | some a => ((s.sbWord a).extractLsb' (8 * (p % 4)) 8, s)
      | none => (0xFF#8, s.sbNack 2)
    (({ s with sb := { s.sb with out := s.sb.out ++ [b] } }).sbNext).sbBytes n

/-- SB_READ (R443). -/
def State.sbRead (s : State) (n : Nat) : State :=
  if s.sb.matched && s.sb.read then
    let s := s.sbRelease
    let s := { s with sb := { s.sb with out := [] } }
    if s.sbReady then s.sbBytes n
    else if n = 0 then s
    else (({ s with sb := { s.sb with out := List.replicate n 0xFF#8 } }).sbNack 1)
  else s

/-- SB_STOP (R444). -/
def State.sbStop (s : State) : State :=
  if s.sb.matched then
    let s := { s with sb := { s.sb with matched := false, held := none, buf := [] } }
    s.note Pg.HOST 3
  else s

end Sys2Proof.Machine
end

