-- ==== Sys2Proof/Machine/Router.lean ====
section
/-! DEFINITION. The event router (spec/11 R243 to R250): one round of delivery takes the events that have pulsed, and every
destination that selects one of them acts one tick later; then what a change of levels brings about by itself. -/

namespace Sys2Proof.Machine

/-- The producer's domain of event `e` is on (R243). -/
def State.producerOn (s : State) (e : Nat) : Bool :=
  if e < 16 then s.domOn 8
  else if e < 24 then s.domOn 5
  else if e < 32 then s.domOn 3
  else if e < 36 then s.domOn 6 || s.domOn 7
  else if e < 40 then s.domOn 4
  else if e < 52 then s.domOn 5
  else if e < 56 then s.domOn 2
  else s.domOn 1

/-- Byte `k` of EVR_DEST[d] selects one of the events `es` (R244). -/
def State.selects (s : State) (d k : Nat) (es : List Nat) : Bool :=
  let w := s.reg (Reg.EVR_DEST d)
  wbit w (8 * k + 7) && es.contains (wbits w (8 * k) 6)

/-- Destination `d` acts on the events `es`. -/
def State.destSelected (s : State) (d : Nat) (es : List Nat) : Bool := (List.range 4).any (fun k => s.selects d k es)

/-- OMODE of destination `d` (R248). -/
def State.omode (s : State) (d : Nat) : Nat :=
  2 * (wbit (s.reg (Reg.EVR_DEST d)) 14).toNat + (wbit (s.reg (Reg.EVR_DEST d)) 6).toNat

/-- Router output `k` acts (R248); `off` when the action comes from selection 2 or 3. -/
def State.routerOutput (s : State) (k : Nat) (off : Bool) : State :=
  let m := s.omode (28 + k)
  { s with cmp := { s.cmp with out := modAt k (fun (o : RouterOut) =>
      if m = 1 then { level := !o.level, until? := none }
      else if m = 2 then { level := !off, until? := none }
      else { level := true, until? := some (s.now + 64) }) s.cmp.out } }

/-- What destination `d` does (R245). -/
def State.destAct (s : State) (d : Nat) (es : List Nat) : State :=
  if d < 7 then s.gdDest d
  else if d < 8 then s.rlyOpen
  else if d < 12 then s.adcTrigger (d - 8)
  else if d < 16 then s.pwmDest (d - 12)
  else if d < 20 then s.ctlTrigger (d - 16)
  else if d < 24 then s.dmaLine (d - 20)
  else if d < 28 then s.captureDest (d - 24)
  else s.routerOutput (d - 28) (s.selects d 2 es || s.selects d 3 es)

/-- The commands that wait for event `e` before they capture see it (R411). -/
def State.cmdEvent (s : State) (e : Nat) : State :=
  { s with ctx := { s.ctx with flight := s.ctx.flight.map (fun (c : Cmd) =>
      if c.st = CmdState.waiting .event ∧ wbits (nth 0#32 c.args 3) 0 6 = e then
        { c with st := .waiting (.cycles c.cycles) } else c) } }

/-- What changes by itself once levels have changed or time has passed: pending bits (R384); a watchdog kick that counts (R469), what
the tuning unit has finished (R133), SPEC's view of ELC (R160), the close permit (R297), and the destinations that fast lanes hold
asserted (R246); then the bearing source (R68), the wake conditions (R456), the WAITs (R366) and the edges of GPIO0 to GPIO2
(R495). -/
def State.review (s : State) : State :=
  s.irqTake.wdtTake.tuneAdvance.elcReview.permitReview.lanesHold.srcReview.slewEnd.wakeLatch.waitsSeen.gpioReview

/-- Something sees a pulse of event `e`: a destination that selects it, a held WAIT, or a command that waits for an event. -/
def State.evtSeen (s : State) (e : Nat) : Bool :=
  s.producerOn e &&
  ((s.live Pg.EVR && (List.range 32).any (fun d => s.destSelected d [e])) ||
   (List.range 16).any (fun n => decide (s.dmaState n = dmaWait)) ||
   s.ctx.flight.any (fun c => decide (c.st = CmdState.waiting .event)))

/-- The events waiting for delivery that something sees, with their ticks. An event that nothing sees has no effect. -/
def State.seenEvents (s : State) : List (Nat × Nat) := s.evq.filter (fun p => s.evtSeen p.2)

/-- The tick in which the next of them pulses. -/
def State.nextPulse (s : State) : Nat := ((s.seenEvents.map Prod.fst).min?).getD s.now

/-- The events that pulse in that tick. -/
def State.pulsing (s : State) : List Nat := (s.seenEvents.filter (fun p => p.1 ≤ s.nextPulse)).map Prod.snd

/-- Time passes to that tick; the later events go on waiting. -/
def State.toPulse (s : State) : State :=
  let t := if s.seenEvents.isEmpty then s else s.elapseTo s.nextPulse
  { t with evq := s.seenEvents.filter (fun p => s.nextPulse < p.1) }

/-- The WAITs and the commands that wait for one of the events `es` see it. -/
def State.wakeOn (s : State) (es : List Nat) : State := es.foldl (fun s e => (s.dmaEvent e).cmdEvent e) s

/-- The destinations that select one of the events `es` while the router is live. -/
def State.destsOf (s : State) (es : List Nat) : List Nat :=
  if s.live Pg.EVR then (List.range 32).filter (fun d => s.destSelected d es) else []

/-- The destinations `ds` act on the events `es`, one tick later (R244, R245). -/
def State.actOn (s : State) (ds es : List Nat) : State :=
  let s := ds.foldl (fun s d => s.setW1c Reg.EVR_STAT d) (s.elapse 1)
  (ds.foldl (fun s d => s.destAct d es) s).review

/-- One round: the events that pulse first are delivered in their tick, and the destinations that select one of them act. -/
def State.deliver (s : State) : State :=
  let es := s.pulsing
  let s := s.toPulse.wakeOn es
  let ds := s.destsOf es
  if ds.isEmpty then s else s.actOn ds es

/-- Rounds of delivery until nothing pulses, `n` at most. -/
def State.route (s : State) : Nat → State
  | 0 => s
  | n + 1 => if s.evq.isEmpty then s else s.deliver.route n

/-- A pulse of router output `k` is over (R248). -/
def State.outputPulseEnd (s : State) (k : Nat) : State :=
  match (nth { level := false, until? := none } s.cmp.out k).until? with
  | none => s
  | some t =>
    let s := s.elapseTo t
    { s with cmp := { s.cmp with out := modAt k (fun (_ : RouterOut) => { level := false, until? := none }) s.cmp.out } }

end Sys2Proof.Machine
end

