-- ==== Sys2Proof/Machine/Cmd.lean ====
section
/-! DEFINITION. What every sliced command shares (spec/19 R403 to R410): who it is on the fabric, how an access outcome becomes
its status, deadlines, ends, stops, arguments within their ranges. -/

namespace Sys2Proof.Machine

/-! ### Identity, outcomes (R407) -/

/-- The master identity and context of a command's accesses. -/
def Cmd.who (c : Cmd) : Who :=
  if c.ctx = devCtx then deviceWho else { master := 0x20#8, ctx := BitVec.ofNat 8 c.ctx }

/-- The status an access outcome gives. -/
def Status.cmd : Status → Nat
  | .ok => stOk
  | .unmapped => stBadArg
  | .align => stBadArg
  | .roWrite => stBadArg
  | .refused => stBadArg
  | .locked => stLocked
  | .notOwner => stBusy
  | .domainOff => stDomainOff
  | .notReady => stNotReady

/-- The status that bars a command which works the block of page `p`: its domain off, its page not ready or not enabled. -/
def State.blockStatus (s : State) (p : Nat) : Nat :=
  match s.pageStatus p with
  | .ok => if s.live p then stOk else stNotReady
  | st => st.cmd

def Cmd.arg (c : Cmd) (i : Nat) : Word := nth 0#32 c.args i
def Cmd.argN (c : Cmd) (i : Nat) : Nat := (c.arg i).toNat

/-! ### Deadlines (R408) -/

/-- The tick of a deadline: in cycles, once it has been reached. -/
def Cmd.deadline (c : Cmd) : Option Nat :=
  if c.dlUnit = 0 then some (c.fetchedAt + ticksPerUs * c.dlVal)
  else if c.dlUnit = 1 then some (c.fetchedAt + ticksPerMs * c.dlVal)
  else if c.dlUnit = 2 then c.dueAt
  else none

/-- The deadline has been reached in this tick. During the muster window only a command that may run has one (R416). -/
def State.dlReached (s : State) (c : Cmd) : Bool :=
  s.mayRun c && c.deadline.any (fun t => decide (t ≤ s.now))

/-- A command that ends now ends after its deadline (R21, R408). -/
def State.dlMissed (s : State) (c : Cmd) : Bool := c.deadline.any (fun t => decide (t < s.now))

/-! ### Ends and waits -/

def State.cmdFind (s : State) (uid : Nat) : Option Cmd := s.ctx.flight.find? (fun c => c.uid = uid)

/-- The command ends with `status`: one that is to stop ends with the status of its stop, and one past its deadline with
TIMEOUT (R408, R409). -/
def State.cmdEnd (s : State) (c : Cmd) (status : Nat) (r0 r1 : Word) : State :=
  let st := match c.stop with
    | some x => x
    | none => if s.dlMissed c then stTimeout else status
  s.cmdFinish c st r0 r1

/-- What the command keeps between slices. -/
def State.cmdKeep (s : State) (c : Cmd) : State := s.modCmd c.uid (fun _ => c)

/-- The command waits for `w`. -/
def State.cmdWait (s : State) (c : Cmd) (w : CmdWait) : State := s.cmdKeep { c with st := .waiting w }

/-- The command has another slice to run. -/
def State.cmdMore (s : State) (c : Cmd) : State := s.cmdKeep { c with st := .ready }

/-- An item boundary: the command goes on unless its deadline has been reached. -/
def State.cmdBoundary (s : State) (c : Cmd) : State :=
  if c.stop.isSome || s.dlReached c then s.cmdFinish c (c.stop.getD stTimeout) c.r0 c.r1 else s.cmdMore c

/-- Items of `t` ticks that fit in a slice (R406). -/
def State.sliceItems (s : State) (t : Nat) : Nat := ticksPerUs * (wbits (s.reg Reg.CTX_SLICE_US) 0 8 - 1) / t + 1

/-! ### NVM work of a command (R410, R480) -/

/-- The next of the operations it has still to ask for. -/
def State.cmdOpNext (s : State) (c : Cmd) : State :=
  match c.ops with
  | [] => s
  | o :: rest => (s.nvmAdd { o with owner := .cmd c.uid }).cmdWait { c with ops := rest } .nvm

def nvmOwned (uid : Nat) (o : NvmOp) : Bool := o.owner == .cmd uid

/-- An operation of the command is running or suspended. -/
def State.nvmStarted (s : State) (uid : Nat) : Bool :=
  let hit (r : Option NvmRun) : Bool := match r with | some x => nvmOwned uid x.op | none => false
  hit s.nvmc.cur || hit s.nvmc.susp

/-- Its operations that have not started are withdrawn. -/
def State.nvmWithdraw (s : State) (uid : Nat) : State :=
  { s with nvmc := { s.nvmc with queue := s.nvmc.queue.filter (fun o => !nvmOwned uid o) } }

/-! ### Stops (R408, R409) -/

/-- What a command leaves behind when it is stopped: its outside work ends. -/
def State.cmdCleanup (s : State) (c : Cmd) : State :=
  match c.op with
  | 0x22 => s.sweepDrop
  | 0x23 => s.putBit Reg.PINS_GPIO_OUT (wbits (c.arg 0) 0 5) false
  | 0x24 => if s.rly.job = .proof then s.rlyOpen else s
  | 0x26 => { s with spec := { s.spec with cal := false } }
  | 0x31 =>
    if s.ldg.sweepCmd = some c.uid then
      ({ s with ldg := { s.ldg with sweep := none, sweepCmd := none } }).putFlag F.LDG_STAT_SWEEP false
    else s
  | 0x32 => { s with ldg := { s.ldg with todo := s.ldg.todo.filter (fun j => j.cmd ≠ some c.uid) } }
  | 0x33 => { s with ldg := { s.ldg with todo := s.ldg.todo.filter (fun j => j.cmd ≠ some c.uid) } }
  | 0x50 => if s.gd.arming then s.bridgeStop else s
  | _ => s

/-- A command is stopped with `status`: a queued one does nothing, one whose NVM operation has started waits for it, any other
ends at its item boundary with its progress. -/
def State.cmdStop (s : State) (c : Cmd) (status : Nat) : State :=
  match c.st with
  | .queued => s.cmdFinish c status 0#32 0#32
  | .ready => (s.cmdCleanup c).cmdFinish c status c.r0 c.r1
  | .waiting _ =>
    if s.nvmStarted c.uid then (s.nvmWithdraw c.uid).cmdKeep { c with stop := some status, ops := [] }
    else ((s.nvmWithdraw c.uid).cmdCleanup c).cmdFinish c status c.r0 c.r1

/-! ### Arguments within their ranges (R403, R410) -/

/-- The masks of the arguments an opcode names; an argument it does not name is 0. None for an opcode not in the table. -/
def argMasks (op : Nat) : Option (List Nat) :=
  match op with
  | 0x01 => some [0xFFFFFF, 0xFFFFFF, 0xFFFF]
  | 0x02 => some [0xFFFFFF, 0xFFFFFF, 0xFFFF]
  | 0x03 => some [0xFFFFFF, 0xFFFFFFFF, 0xFFFFFFFF, 0xFFFFFFFF, 1]
  | 0x10 => some [0xFFFFFFFF, 0xFFFFFF, 0xFFFFFFFF]
  | 0x11 => some [0xFFFFFFFF, 0xFF]
  | 0x12 => some [1]
  | 0x13 => some [1]
  | 0x14 => some [0xFFFFFFFF, 0xFFFFFFFF, 0xFFFFFFFF]
  | 0x20 => some [0xFFFFFF]
  | 0x21 => some [0xFFFFFF, 0x3FFFF, 0xFF, 0x7F]
  | 0x22 => some [3]
  | 0x23 => some [0xFF1F, 0xFFFF000F, 0xFFFF, 0xFFFFFFFF]
  | 0x24 => some [3]
  | 0x25 => some [7]
  | 0x26 => some [0xFFFF]
  | 0x30 => some []
  | 0x31 => some []
  | 0x32 => some [7]
  | 0x33 => some [7]
  | 0x40 => some [0x1FFF, 0xFFFFFF, 0xFFF]
  | 0x41 => some [0xFFFFFFFF, 0xFFFFFFFF]
  | 0x42 => some [0x11F, 0xFFFFFF]
  | 0x50 => some []
  | 0x51 => some []
  | 0x52 => some [3]
  | 0x60 => some [0xFFFFFF]
  | 0x7F => some [0xFFFF]
  | _ => none

/-- `len` bytes from `a` lie wholly in SRAM; in bank B5. -/
def fitsSram (a len : Nat) : Bool := decide (0x80000 ≤ a) && decide (a + len ≤ 0xC0000)
def fitsB5 (a len : Nat) : Bool := decide (0xA8000 ≤ a) && decide (a + len ≤ 0xB0000)

/-- The channels a mask selects, in order (R411). -/
def waveChans (m : Nat) : List Nat := (List.range 18).filter (fun b => natBit m b)

/-- The arguments lie in the ranges R410 to R413 state. -/
def Cmd.inRange (c : Cmd) : Bool :=
  let a := c.argN
  match c.op with
  | 0x01 => decide (a 2 % 4 = 0) && decide (4 ≤ a 2) && fitsSram (a 1) (a 2)
  | 0x02 => decide (a 2 % 4 = 0) && decide (4 ≤ a 2) && fitsSram (a 0) (a 2) &&
      (decide (a 1 + a 2 ≤ 0x40000) || (decide (0x40000 ≤ a 1) && decide (a 1 + a 2 ≤ 0x44000)) || fitsSram (a 1) (a 2))
  | 0x03 => decide (a 0 % 4 = 0) && (inRegs (a 0) || inSram (a 0))
  | 0x10 => decide (a 0 % 256 = 0) && decide (a 2 % 256 = 0) && decide (0 < a 2) && decide (a 2 ≤ 65536) &&
      nvmHostRange (a 0) (a 2) && fitsSram (a 1) (a 2)
  | 0x11 => decide (a 0 % 4096 = 0) && decide (1 ≤ a 1) && decide (a 1 ≤ 128) && nvmHostRange (a 0) (4096 * a 1)
  | 0x14 => decide (a 0 % 4 = 0) && decide (a 1 % 4 = 0) && decide (a 0 + a 1 ≤ 0x80000)
  | 0x20 => decide (a 0 % 4 = 0) && fitsB5 (a 0) 4048
  | 0x21 => decide (a 0 % 4 = 0) && decide (1 ≤ a 2) && fitsB5 (a 0) (1024 * (waveChans (a 1)).length * a 2)
  | 0x23 => decide (a 0 % 32 ≤ 22) && decide (a 1 % 16 ≤ 9)
  | 0x26 => decide (1 ≤ a 0)
  | 0x40 => decide (a 1 % 16 = 0) && decide (1 ≤ a 2) && decide (a 2 ≤ 2048) && inSram (a 1) &&
      decide (a 1 % 0x8000 + 16 * a 2 ≤ 0x8000)
  | 0x42 => decide (a 0 % 32 ≤ 16) && (decide (a 0 % 32 = 0) || fitsSram (a 1) (8 * (a 0 % 32)))
  | 0x60 => decide (a 0 = 0) || fitsSram (a 0) 16
  | _ => true

/-- The entry is one the command table names, with its arguments in range. -/
def Cmd.wellFormed (c : Cmd) : Bool :=
  !c.bad &&
  match argMasks c.op with
  | none => false
  | some ms => (List.range 6).all (fun i => decide (c.arg i &&& ~~~(BitVec.ofNat 32 (nth 0 ms i)) = 0#32)) && c.inRange

/-- Commands marked X: at most one of them in flight (R410). -/
def opAlone (op : Nat) : Bool :=
  [0x12, 0x13, 0x21, 0x22, 0x23, 0x24, 0x25, 0x26, 0x31, 0x41, 0x50].contains op

/-- Another command of the opcode is in flight. -/
def State.opInFlight (s : State) (c : Cmd) (op : Nat) : Bool :=
  s.ctx.flight.any (fun x => decide (x.op = op) && decide (x.uid ≠ c.uid))

end Sys2Proof.Machine
end

