-- ==== Sys2Proof/Machine/CmdMem.lean ====
section
/-! DEFINITION. Slices of the commands that move words and program NVM (spec/19 R410, spec/22 R478 to R486): READ_BLOCK,
WRITE_BLOCK, ATOMIC_RMW, NVM_WRITE, NVM_ERASE, NVM_VERIFY, CONFIG_COMMIT, CONFIG_LOAD, IDENT_REPORT, LOG_READ, LOG_ARCHIVE,
SAFE_CHANGE, the ledger snapshots of the device. -/

namespace Sys2Proof.Machine

/-! ### Block moves -/

/-- What a run of word moves has come to: words moved, and the refusal that ended it, with its address. -/
structure Moved where
  state : State
  done : Nat
  refusal : Option (Nat × Nat)

/-- Word `i` of a block goes from `src` to `dst`: one read beat, one write beat. -/
def State.moveWord (s : State) (w : Who) (src dst i : Nat) : State × Option (Nat × Nat) :=
  let (v, st, s) := s.busRead w (src + 4 * i)
  if st ≠ .ok then (s.elapse 1, some (st.cmd, src + 4 * i))
  else
    let (s, st) := (s.elapse 1).busWrite w (dst + 4 * i) v
    (s.elapse 1, if st = .ok then none else some (st.cmd, dst + 4 * i))

/-- Words from `i` on, up to `n`, `k` items at most, while the deadline has not been reached. -/
def State.moveWords (s : State) (c : Cmd) (src dst n i : Nat) : Nat → Moved
  | 0 => { state := s, done := i, refusal := none }
  | k + 1 =>
    if n ≤ i || s.dlReached c then { state := s, done := i, refusal := none }
    else
      match s.moveWord c.who src dst i with
      | (s, some r) => { state := s, done := i, refusal := some r }
      | (s, none) => s.moveWords c src dst n (i + 1) k

/-- What a slice of a block command comes to. -/
def State.blockEnd (c : Cmd) (n : Nat) (m : Moved) : State :=
  let c := { c with items := m.done, r0 := BitVec.ofNat 32 (4 * m.done), r1 := 0#32 }
  match m.refusal with
  | some (st, a) => m.state.cmdEnd c st c.r0 (BitVec.ofNat 32 a)
  | none => if n ≤ m.done then m.state.cmdEnd c stOk c.r0 0#32 else m.state.cmdBoundary c

def State.runReadBlock (s : State) (c : Cmd) : State :=
  State.blockEnd c (c.argN 2 / 4) (s.moveWords c (c.argN 0) (c.argN 1) (c.argN 2 / 4) c.items (s.sliceItems 2))

/-- The whole range of a WRITE_BLOCK lies in the CTL page (R141). -/
def Cmd.ctlRange (c : Cmd) : Bool := decide (0x14000 ≤ c.argN 1) && decide (c.argN 1 + c.argN 2 ≤ 0x15000)

/-- Words of a run for the CTL page are read first, and written in consecutive ticks (R141). -/
def State.readRun (s : State) (c : Cmd) (i : Nat) : Nat → State × List Word × Option (Nat × Nat)
  | 0 => (s, [], none)
  | k + 1 =>
    let (v, st, s) := s.busRead c.who (c.argN 0 + 4 * i)
    let s := s.elapse 1
    if st ≠ .ok then (s, [], some (st.cmd, c.argN 0 + 4 * i))
    else
      let (s, vs, r) := s.readRun c (i + 1) k
      (s, v :: vs, r)

def State.writeRun (s : State) (c : Cmd) (i : Nat) : List Word → Moved
  | [] => { state := s, done := i, refusal := none }
  | v :: vs =>
    let (s, st) := s.busWrite c.who (c.argN 1 + 4 * i) v
    let s := s.elapse 1
    if st = .ok then s.writeRun c (i + 1) vs else { state := s, done := i, refusal := some (st.cmd, c.argN 1 + 4 * i) }

/-- WRITE_BLOCK. Into the CTL page it writes runs of up to 64 words while the engine is free, and waits otherwise (R141). -/
def State.runWriteBlock (s : State) (c : Cmd) : State :=
  let n := c.argN 2 / 4
  if c.ctlRange then
    if s.ctl.run.isSome then s.cmdBoundary c
    else
      let (s, vs, r) := s.readRun c c.items (min 64 (n - c.items))
      match r with
      | some (st, a) => s.cmdEnd c st c.r0 (BitVec.ofNat 32 a)
      | none =>
        let m := s.writeRun c c.items vs
        State.blockEnd c n { m with state := m.state.ctlFrom }
  else State.blockEnd c n (s.moveWords c (c.argN 0) (c.argN 1) n c.items (s.sliceItems 2))

/-- ATOMIC_RMW: a read beat and a write beat with nothing between them (R20, R410). Where its write would be held for the control
engine (R141) the command waits for the engine, and reads only then. -/
def State.runAtomic (s : State) (c : Cmd) : State :=
  if ctlHolds (c.argN 0) && s.ctl.run.isSome then s.cmdBoundary c
  else
  let (old, st, s) := s.busRead c.who (c.argN 0)
  let s := s.elapse 1
  if st ≠ .ok then s.cmdEnd c st.cmd 0#32 0#32
  else if wbit (c.arg 4) 0 && decide (old ≠ c.arg 3) then s.cmdEnd c stOk old 0#32
  else
    let (s, st) := s.busWrite c.who (c.argN 0) ((old &&& ~~~(c.arg 1)) ||| (c.arg 2 &&& c.arg 1))
    let s := s.elapse 1
    if st = .ok then s.cmdEnd c stOk old 1#32 else s.cmdEnd c st.cmd old 0#32

/-! ### NVM (R410, R479) -/

/-- `n` words read by the command from `a` on; none where a read is refused. -/
def State.cmdWords (s : State) (c : Cmd) (a : Nat) : Nat → State × List Word × Option Nat
  | 0 => (s, [], none)
  | n + 1 =>
    let (v, st, s) := s.busRead c.who a
    let s := s.elapse 1
    if st ≠ .ok then (s, [], some st.cmd)
    else
      let (s, vs, r) := s.cmdWords c (a + 4) n
      (s, v :: vs, r)

/-- NVM_WRITE: the next program unit is read and put to the controller. -/
def State.runNvmWrite (s : State) (c : Cmd) : State :=
  let i := c.items
  let c := { c with r0 := BitVec.ofNat 32 (256 * i), r1 := BitVec.ofNat 32 (c.argN 0 + 256 * i) }
  let (s, ws, r) := s.cmdWords c (c.argN 1 + 256 * i) 64
  match r with
  | some st => s.cmdEnd c st c.r0 c.r1
  | none =>
    s.cmdOpNext { c with ops := [{ erase := false, off := c.argN 0 + 256 * i, data := ws.flatMap wbytes, owner := .cmd c.uid }] }

/-- NVM_ERASE: the next sector is put to the controller. -/
def State.runNvmErase (s : State) (c : Cmd) : State :=
  let o := c.argN 0 + 4096 * c.items
  let c := { c with r0 := BitVec.ofNat 32 c.items, r1 := BitVec.ofNat 32 o }
  s.cmdOpNext { c with ops := [{ erase := true, off := o, data := [], owner := .cmd c.uid }] }

/-- NVM_VERIFY: words through the read window into the running CRC, `k` of them at most. -/
def State.verifyWords (s : State) (c : Cmd) (crc : Word) (i : Nat) : Nat → State × Word × Nat × Option Nat
  | 0 => (s, crc, i, none)
  | k + 1 =>
    if c.argN 1 / 4 ≤ i || s.dlReached c then (s, crc, i, none)
    else
      let (v, st, s) := s.busRead c.who (0x100000 + c.argN 0 + 4 * i)
      let s := s.elapse 1
      if st = .ok then s.verifyWords c (crc32cReg crc (wbytes v)) (i + 1) k else (s, crc, i, some st.cmd)

def State.runNvmVerify (s : State) (c : Cmd) : State :=
  let crc0 := if c.items = 0 then 0xFFFFFFFF#32 else ~~~c.r0
  let (s, crc, i, r) := s.verifyWords c crc0 c.items (s.sliceItems 1)
  let c := { c with items := i, r0 := ~~~crc }
  match r with
  | some st => s.cmdEnd c st c.r0 0#32
  | none =>
    if c.argN 1 / 4 ≤ i then s.cmdEnd c (if c.r0 = c.arg 2 then stOk else stNvmFail) c.r0 0#32
    else s.cmdBoundary c

/-! ### Configuration (R484, R486) -/

/-- The fields of the register at `a` that a commit captures; 0 for none. -/
def captureMask (a : Nat) : Word :=
  let p := a / 0x1000
  if p = Pg.SYS then
    (if a = Reg.SYS_LPO_CAL then wmask 24 8
     else if a = Reg.SYS_WDT_CFG ∨ a = Reg.SYS_MUSTER_END then ((regRow? a).map (fun r => BitVec.ofNat 32 r.rw)).getD 0#32
     else if a = Reg.SYS_TEMP then ((regRow? a).map (fun r => BitVec.ofNat 32 r.rw)).getD 0#32
     else 0#32)
  else if p = Pg.PWR then
    (if a = Reg.PWR_DOMAIN_EN ∨ a = Reg.PWR_RETAIN ∨ a = Reg.PWR_DOWN_POLICY ∨ a = Reg.PWR_WAKE_EN ∨ a = Reg.PWR_BOR_CFG ∨
        a = Reg.PWR_VKEEP then ((regRow? a).map (fun r => BitVec.ofNat 32 r.rw)).getD 0#32
     else 0#32)
  else if p < 3 ∨ p = Pg.SAFE then 0#32
  else if a = Reg.LDG_TENANT_SEL ∨ (Reg.LDG_TENANT_WIN 0 ≤ a ∧ a ≤ Reg.LDG_TENANT_WIN 7) ∨
      (Reg.CTL_SLOT_STATE 0 0 ≤ a ∧ a ≤ Reg.CTL_SLOT_STATE 31 2) then 0#32
  else match regRow? a with
    | some r => if r.group = 1 ∨ r.group = 2 ∨ r.group = 3 ∨ r.group = 5 then 0#32 else BitVec.ofNat 32 r.rw
    | none => 0#32

/-- The addresses a commit captures in page `p`: its registers in offset order, then PG_EVT_EN and PG_CTRL of the pages from
0x03 on. -/
def capturePage (p : Nat) : List Nat :=
  let rs := ((List.range 0x3F0).map (fun i => 0x1000 * p + 0x40 + 4 * i)).filter (fun a => captureMask a ≠ 0#32)
  if 3 ≤ p then rs ++ [pgEvtEn p, pgCtrl p] else rs

def capturedPages : List Nat := (List.range 64).filter (fun p => pageListed p && p != Pg.IDENT && p != Pg.SAFE)

/-- What a commit captures, in order: the pages, then the context windows. -/
def captureList : List Nat :=
  capturedPages.flatMap capturePage ++ (List.range 256).flatMap (fun n => [0x00, 0x04, 0x10, 0x14, 0x20].map (ctxA n))

/-- The value captured at `a`, as the register reads now; QUAR is written as 0. -/
def State.captured (s : State) (a : Nat) : Word :=
  let p := a / 0x1000
  if 0x40000 ≤ a then s.reg a
  else if a = pgEvtEn p then s.reg a
  else if a = pgCtrl p then s.pageCtrl p &&& 1#32
  else s.showReg a &&& captureMask a

/-- Registers captured one a tick, at most `k` of them, while the deadline has not been reached. -/
def State.captureRun (s : State) (c : Cmd) : List Nat → Nat → State × Cmd
  | [], _ => (s, c)
  | _, 0 => (s, c)
  | a :: as, k + 1 =>
    if s.dlReached c then (s, c)
    else (s.elapse 1).captureRun { c with items := c.items + 1, notes := c.notes ++ [((s.captured a).toNat : Rat)] } as k

/-- The bytes of an image of these entries. -/
def imageBytes (gen rtc : Word) (es : List (Nat × Word)) : List Byte :=
  let head := [0xE5C60410#32, 0x0000B001#32, 0x410#32, gen, BitVec.ofNat 32 es.length, rtc,
    Config.serial.extractLsb' 0 32, Config.serial.extractLsb' 32 32].flatMap wbytes ++ zeros 28
  let body := es.flatMap (fun e => wbytes (BitVec.ofNat 32 e.1) ++ wbytes e.2)
  head ++ wbytes (crc32c (head ++ body)) ++ body

/-- The generation after the highest of the valid images. -/
def State.nextGen (s : State) : Nat :=
  ([0, 1].map (fun i => if s.imageCheck i = 0 then s.imageGen i else 0)).foldl max 0 + 1

/-- The operations that write an image: its sectors, its units after the first, its first unit. -/
def imageOps (uid img : Nat) (bs : List Byte) : List NvmOp :=
  let b := imageBase img
  let units := (bs.length + 255) / 256
  let unit (i : Nat) : NvmOp := { erase := false, off := b + 256 * i, data := (bs.drop (256 * i)).take 256, owner := .cmd uid }
  (List.range ((bs.length + 4095) / 4096)).map (fun i => { erase := true, off := b + 4096 * i, data := [], owner := .cmd uid }) ++
  ((List.range units).drop 1).map unit ++ [unit 0]

/-- What bars a commit (R484). -/
def State.commitBar (s : State) (c : Cmd) : Nat :=
  let named := wbits (s.reg Reg.PWR_DOMAIN_EN) 0 12
  if (List.range 12).any (fun d => natBit named d && !s.domOn d) then stDomainOff
  else if capturedPages.any (fun p => !s.pageReady p) then stNotReady
  else if s.opInFlight c 0x13 then stBusy
  else stOk

/-- The captured values, with their addresses. -/
def Cmd.capture (c : Cmd) : List (Nat × Word) := captureList.zip (c.notes.map (fun x => BitVec.ofInt 32 x.floor))

/-- CONFIG_COMMIT: slices that capture, each register in the slice that reads it, then the image's operations (R484). -/
def State.runCommit (s : State) (c : Cmd) : State :=
  let n := captureList.length
  if n < c.items then s.cmdOpNext c
  else if c.items = 0 && decide (s.commitBar c ≠ stOk) then s.cmdEnd c (s.commitBar c) 0#32 0#32
  else
    let (s, c) := s.captureRun c (captureList.drop c.items) (s.sliceItems 1)
    if c.items < n then s.cmdBoundary c
    else
      let bs := imageBytes (BitVec.ofNat 32 s.nextGen) (s.reg Reg.SYS_RTC_SEC) c.capture
      s.cmdOpNext { c with items := n + 1, notes := [], r0 := wordOf ((bs.drop 0x3C).take 4), ops := imageOps c.uid (c.argN 0) bs }

/-- One entry of a CONFIG_LOAD (R486): whether it was applied. SYS_LPO_CAL was captured by its AUTO field alone. -/
def State.loadEntry (s : State) (w : Who) (e : Nat × Word) : State × Bool :=
  if inRegs e.1 && !s.pageReady (e.1 / 0x1000) then (s, false)
  else if !inRegs e.1 && !inWindows e.1 then (s, false)
  else
    let v := if e.1 = Reg.SYS_LPO_CAL then wput (s.reg e.1) 24 8 (wbits e.2 24 8) else e.2
    let (s, st) := s.busWrite w e.1 v
    (s, decide (st = .ok))

/-- A skipped entry of a load counts in SKIPCNT (R486). -/
def State.loadSkip (s : State) : State :=
  let w := s.reg Reg.NVM_IMAGE
  s.setReg Reg.NVM_IMAGE (wput w 8 8 (satTo 255 (wbits w 8 8 + 1)))

/-- Entries in order, one an item. -/
def State.loadEntries (s : State) (c : Cmd) : List (Nat × Word) → Nat → State × Cmd
  | [], _ => (s, c)
  | _, 0 => (s, c)
  | e :: es, k + 1 =>
    if s.dlReached c then (s, c)
    else
      let (t, ok) := s.loadEntry c.who e
      let t := (if ok then t else t.loadSkip).elapse 1
      t.loadEntries { c with items := c.items + 1, r1 := if ok then c.r1 + 1#32 else c.r1 } es k

def State.runLoad (s : State) (c : Cmd) : State :=
  let img := c.argN 0
  if c.items = 0 && (s.gd.armed || s.opInFlight c 0x12) then s.cmdEnd c stBusy 0#32 0#32
  else if c.items = 0 && decide (s.imageCheck img ≠ 0) then s.cmdEnd c stNvmFail 0#32 0#32
  else
    let s := if c.items = 0 then
        (s.setReg Reg.NVM_IMAGE (wput (s.reg Reg.NVM_IMAGE) 8 8 0)).imageValid else s
    let es := s.imageEntries img
    let (s, c) := s.loadEntries { c with r0 := s.imageCrc img } (es.drop c.items) (s.sliceItems 1)
    if es.length ≤ c.items then s.cmdEnd c stOk c.r0 c.r1 else s.cmdBoundary c

/-! ### Identity and the event log -/

/-- IDENT_REPORT. The layout of the 16 bytes is not stated: their words are free (R410). -/
def State.runIdent (s : State) (c : Cmd) : State :=
  let (lo, st, s) := s.busRead c.who Reg.IDENT_SERIAL_LO
  let (hi, _, s) := s.busRead c.who Reg.IDENT_SERIAL_HI
  let s := s.elapse 2
  if st ≠ .ok then s.cmdEnd c st.cmd 0#32 0#32
  else if c.argN 0 = 0 then s.cmdEnd c stOk lo hi
  else
    let (s, r) := (List.range 4).foldl (fun (x : State × Option Status) i =>
      match x.2 with
      | some _ => x
      | none =>
        let (v, t) := x.1.freeVal
        let (t, st) := (t.busWrite c.who (c.argN 0 + 4 * i) v)
        (t.elapse 2, if st = .ok then none else some st)) (s, none)
    match r with
    | some st => s.cmdEnd c st.cmd lo hi
    | none => s.cmdEnd c stOk lo hi

/-- One record of a LOG_READ into SRAM. -/
def State.copyRecord (s : State) (w : Who) (a : Nat) (bs : List Byte) : State × Option Status :=
  (List.range 4).foldl (fun (x : State × Option Status) i =>
    match x.2 with
    | some _ => x
    | none =>
      let (t, st) := x.1.busWrite w (a + 4 * i) (wordOf ((bs.drop (4 * i)).take 4))
      (t.elapse 2, if st = .ok then none else some st)) (s, none)

/-- Records from the command's place on, `k` at most. -/
def State.copyRecords (s : State) (c : Cmd) : Nat → State × Cmd × Option Status
  | 0 => (s, c, none)
  | k + 1 =>
    let total := c.notes.headD 0
    let i := (c.argN 0 + c.items) % 8192
    if total ≤ (c.items : Rat) || s.dlReached c || !s.logInRing i then (s, c, none)
    else
      match s.copyRecord c.who (c.argN 1 + 16 * c.items) (s.logRecordAt i) with
      | (s, some st) => (s, c, some st)
      | (s, none) =>
        let n := c.items + 1
        s.copyRecords { c with items := n, r0 := BitVec.ofNat 32 n, r1 := BitVec.ofNat 32 ((c.argN 0 + n) % 8192) } k

/-- LOG_READ (R544): the records that stood in the ring or in staging as it started; one overtaken by a wrap ends short. -/
def State.runLogRead (s : State) (c : Cmd) : State :=
  if !s.flag F.LOG_STAT_SCANNED then s.cmdWait c .scan
  else if c.notes = [] && !s.logInRing (c.argN 0) then s.cmdEnd c stBadArg 0#32 0#32
  else
    let c := if c.notes = [] then
        { c with notes := [((s.logCopy (c.argN 0) (c.argN 2)).length : Rat)], r1 := BitVec.ofNat 32 (c.argN 0) } else c
    let (s, c, r) := s.copyRecords c (s.sliceItems 8)
    match r with
    | some st => s.cmdEnd c st.cmd c.r0 c.r1
    | none =>
      if c.notes.headD 0 ≤ (c.items : Rat) || !s.logInRing ((c.argN 0 + c.items) % 8192) then s.cmdEnd c stOk c.r0 c.r1
      else s.cmdBoundary c

/-! ### Safety configuration (R291, R292) -/

/-- LOG_ARCHIVE: the proof, then one erase after another. -/
def State.runArchive (s : State) (c : Cmd) : State :=
  if c.notes ≠ [] then s.cmdOpNext c
  else if !s.archiveProven (c.argN 0) (c.arg 1) then s.cmdEnd c stBadArg 0#32 0#32
  else
    let ns := s.archiveSectors (c.argN 0)
    if ns = [] then
      ({ s with safe := { s.safe with nvmErr := false } }).cmdEnd c stOk 0#32 (BitVec.ofNat 32 s.safe.used)
    else
      let ops : List NvmOp := ns.map (fun n => { erase := true, off := 0x14000 + 0x1000 * n, data := [], owner := .cmd c.uid })
      ({ s with safe := { s.safe with erasing := s.safe.erasing ++ ns } }).cmdOpNext { c with notes := [1], ops := ops }

/-- The pairs of a SAFE_CHANGE. -/
def pairsOf : List Word → List (Nat × Word)
  | a :: v :: ws => (a.toNat, v) :: pairsOf ws
  | _ => []

/-- A listed address is a writable field of a safety-group register. -/
def pairOk (e : Nat × Word) : Bool :=
  (safetyGroup e.1).isSome && (match regRow? e.1 with | some r => decide (r.rw ≠ 0) | none => false)

/-- R283 for the whole batch: the window, the seal, S3, lockout, room for every entry. -/
def State.batchOpen (s : State) (es : List (Nat × Word)) (store : Bool) : Bool :=
  !s.lockedOut && s.windowOpen && !s.safe.fault && s.clogRoom (es.length + store.toNat) &&
  es.all (fun e => s.groupOpen ((safetyGroup e.1).getD 0) &&
    (!(decide (e.1 = Reg.PROT_PROFILE) && wbit e.2 2) || s.loadAccepts))

/-- The pairs, in consecutive ticks, under one BATCH. -/
def State.batchApply (s : State) (w : Who) (b : Nat) (es : List (Nat × Word)) : State :=
  es.foldl (fun s e =>
    let x := s.groupWrite w ((safetyGroup e.1).getD 0) e.1 e.2 (some b)
    (if x.2 = .ok then x.1.countWrite (e.1 / 0x1000) else x.1.refuse (e.1 / 0x1000) x.2).elapse 1) s

/-- SAFE_CHANGE (R292). With nothing logged under the batch, the SEQ it reports is free. -/
def State.runSafe (s : State) (c : Cmd) : State :=
  let n := c.argN 0 % 32
  let store := wbit (c.arg 0) 8
  let (s, ws, r) := s.cmdWords c (c.argN 1) (2 * n)
  let es := pairsOf ws
  match r with
  | some st => s.cmdEnd c st 0#32 0#32
  | none =>
    let st := (s.pageStatus Pg.SAFE).cmd
    if !s.batchOpen es store && decide (st = stOk) then s.cmdEnd c stLocked 0#32 0#32
    else if !es.all pairOk then s.cmdEnd c stBadArg 0#32 0#32
    else if st ≠ stOk then s.cmdEnd c st 0#32 0#32
    else
      let first := s.safe.seq
      let s := (s.batchApply c.who first es).note Pg.SAFE 2
      if store then
        let k := s.sealProfile
        let old := s.profileCrc k
        let ws := s.presentProfile
        let new := crc32cWords ws
        let s := s.clogAdd c.who 3 0xFF 0x210FF0 old new (if n = 0 then none else some first)
        let ps := modAt k (fun (_ : Option (List Word)) => some ws) s.profiles
        (s.writeSet (.cmd c.uid) s.safe.code s.safe.key ps).cmdWait { c with r0 := BitVec.ofNat 32 first, r1 := new } .nvm
      else if n = 0 then
        let (v, s) := s.freeVal
        s.cmdEnd c stOk v 0#32
      else s.cmdEnd c stOk (BitVec.ofNat 32 first) 0#32

/-! ### What follows an operation of the NVM controller -/

/-- A ledger snapshot, or what is left of one. -/
def State.runSnapshot (s : State) (c : Cmd) : State :=
  if c.ops = [] then s.cmdEnd c stOk 0#32 0#32 else s.cmdOpNext c

/-- What a verified operation of command `c` brings: its count and the block's part. -/
def State.cmdOpCount (s : State) (c : Cmd) (o : NvmOp) : State × Cmd :=
  match c.op with
  | 0x10 => (s, { c with items := c.items + 1, r0 := BitVec.ofNat 32 (256 * (c.items + 1)),
                         r1 := BitVec.ofNat 32 (c.argN 0 + 256 * (c.items + 1)) })
  | 0x11 => (s, { c with items := c.items + 1, r0 := BitVec.ofNat 32 (c.items + 1),
                         r1 := BitVec.ofNat 32 (c.argN 0 + 4096 * (c.items + 1)) })
  | 0x41 =>
    let s := s.archiveErased ((o.off - 0x14000) / 0x1000)
    (s, { c with items := c.items + 1, r0 := BitVec.ofNat 32 (c.items + 1), r1 := BitVec.ofNat 32 s.safe.used })
  | _ => (s, c)

/-- The command has nothing left to ask of the controller. -/
def State.cmdOpsOver (s : State) (c : Cmd) : Bool :=
  match c.op with
  | 0x10 => decide (c.argN 2 / 256 ≤ c.items)
  | 0x11 => decide (c.argN 1 ≤ c.items)
  | _ => c.ops.isEmpty && !s.nvmc.queue.any (nvmOwned c.uid)

/-- The end of a command whose NVM work is over. A commit judges both images (R491). -/
def State.cmdOpsEnd (s : State) (c : Cmd) : State :=
  (if c.op = 0x12 then s.imageValid else s).cmdEnd c stOk c.r0 c.r1

/-- An operation of the command has been verified, or has failed (R480). -/
def State.cmdOpDone (s : State) (uid : Nat) (o : NvmOp) (ok : Bool) : State :=
  match s.cmdFind uid with
  | none => s
  | some c =>
    if !ok then
      let s := if c.op = 0x41 then { s with safe := { s.safe with erasing := [] } } else s
      (s.nvmWithdraw uid).cmdEnd c stNvmFail c.r0 c.r1
    else
      let (s, c) := s.cmdOpCount c o
      if s.cmdOpsOver c then s.cmdOpsEnd c
      else if c.stop.isSome then
        let s := if c.op = 0x41 then { s with safe := { s.safe with erasing := [] } } else s
        s.cmdEnd c stTimeout c.r0 c.r1
      else if s.nvmc.queue.any (nvmOwned uid) then s.cmdKeep c
      else s.cmdMore c

/-! ### The controller's rows (R480, R481, R542) -/

/-- What the end of an operation means for whom it was asked: a change-log entry that fails stops changes (R291), an event-log
program ends (R542), a command goes on. -/
def State.nvmOwnerEnd (s : State) (o : NvmOp) (ok : Bool) : State :=
  match o.owner with
  | .clog => if ok then s else { s with safe := { s.safe with nvmErr := true } }
  | .elog => if o.erase then s else s.logDone ok
  | .cmd uid => s.cmdOpDone uid o ok
  | .safety => s
  | .ledger => s

/-- NVM_OP_START: the LOG asks for what is staged, and the controller starts its next operation. -/
def State.nvmNext (s : State) : State := s.logAsk.nvmStart

/-- NVM_OP_DONE: the operation completes and verifies `ticks` after it began or resumed, within its maximum time. -/
def State.nvmDone (s : State) (ticks : Nat) : State :=
  match s.nvmc.cur with
  | none => s
  | some r =>
    let s := s.elapseTo (r.at' + min ticks r.left)
    let s := ({ s with nvmc := { s.nvmc with cur := none } }).nvmApply r.op
    s.nvmShow.nvmOwnerEnd r.op true

/-- NVM_OP_TIMEOUT: the maximum time ends without it (R480). -/
def State.nvmTimeout (s : State) : State :=
  match s.nvmc.cur with
  | none => s
  | some r =>
    let s := s.elapseTo (r.at' + r.left + 1)
    let s := (({ s with nvmc := { s.nvmc with cur := none } }).nvmUndefined r.op).nvmShow
    (s.nvmFailed r.op).nvmOwnerEnd r.op false

end Sys2Proof.Machine
end

