-- ==== Sys2Proof/Machine/CmdRun.lean ====
section
/-! DEFINITION. Slices of the commands that wait for a block (spec/19 R411 to R414 and the chapters they name), the slice row
itself, and what lets a waiting command go on. -/

namespace Sys2Proof.Machine

/-! ### HARM_SURVEY, WAVE_CAPTURE (R411) -/

/-- HARM_SURVEY waits for the next window placed after its start; WINCNT as it starts tells one from the next. -/
def State.runHarm (s : State) (c : Cmd) : State :=
  let st := s.blockStatus Pg.HRM
  if st ≠ stOk then s.cmdEnd c st 0#32 0#32
  else s.cmdWait { c with notes := [(s.get F.HRM_STAT_WINCNT : Rat)] } .window

/-- The 4,048 bytes of a survey, as words. -/
def State.harmWords (s : State) : List Word :=
  let (w, grp, cyc) := s.hrm.placed
  let ch (c : Nat) := nth HrmCh.reset s.hrm.ch c
  let hm (c : Nat) : Nat := (ch c).hmax
  let four (k : Nat) : Word := BitVec.ofNat 32 (hm k + 256 * hm (k + 1) + 65536 * hm (k + 2) + 16777216 * hm (k + 3))
  [cyc, BitVec.ofNat 32 (w % 256 + 256 * (grp % 4) + 65536 * s.get F.HRM_STAT_WINCNT), four 0, four 4] ++
  (List.range 8).flatMap (fun c => (List.range 63).flatMap (fun i =>
    let valid := !(ch c).skipped && decide (i + 1 ≤ hm c)
    [nth 0#32 (ch c).mag i, BitVec.ofNat 32 (nth 0 (ch c).ph i % 65536 + 65536 * valid.toNat)]))

/-- The window has been placed. -/
def State.harmEnd (s : State) (c : Cmd) : State :=
  let mask := ((List.range 8).map (fun k => if (nth HrmCh.reset s.hrm.ch k).skipped then 0 else 2 ^ k)).sum
  (s.setSramWords (c.argN 0) s.harmWords).cmdEnd c stOk (BitVec.ofNat 32 (s.get F.HRM_STAT_WINCNT)) (BitVec.ofNat 32 mask)

/-- Channel `ch`'s ADC page. -/
def waveDomain (ch : Nat) : Nat := if ch < 8 then 6 else 7

def State.runWave (s : State) (c : Cmd) : State :=
  if !s.domReady 9 || (waveChans (c.argN 1)).any (fun ch => !s.domReady (waveDomain ch)) then s.cmdEnd c stDomainOff 0#32 0#32
  else s.cmdWait c (if wbit (c.arg 3) 6 then .event else .cycles c.cycles)

/-- Cycle `j` of the capture, channel place `p` of `k`, index `i`: its address. -/
def Cmd.waveAddr (c : Cmd) (j p i : Nat) : Nat := c.argN 0 + (j * (waveChans (c.argN 1)).length + p) * 1024 + 4 * i

/-- The words of the channels with MEN = 0 over cycle `j`: UNS, the rest free. -/
def State.waveUns (s : State) (c : Cmd) (j : Nat) : State × Nat :=
  ((waveChans (c.argN 1)).zipIdx).foldl (fun (x : State × Nat) e =>
    if s.adcMen e.1 then x
    else ((List.range 256).foldl (fun (s : State) i =>
      let (v, s) := s.freeVal
      s.setSramWord (c.waveAddr j e.2 i) (wputBit (wputBit v 25 true) 26 false)) x.1, x.2 + 256)) (s, 0)

/-- Cycles of the capture that have begun by now; `items` counts those taken note of. -/
def State.waveCycles (s : State) (c : Cmd) (base : Nat) : State :=
  let begun := c.cycles - base
  if begun ≤ c.items then s
  else
    let r0 := if c.items = 0 then s.reg Reg.CPS_BEAR_CYCLE else c.r0
    let (s, uns) := if c.items = 0 then (s, 0) else s.waveUns c (c.items - 1)
    let c := { c with items := begun, r0 := r0, r1 := c.r1 + BitVec.ofNat 32 uns }
    if c.argN 2 < begun then s.cmdEnd c stOk c.r0 c.r1 else s.cmdKeep c

/-- An M-path sample of channel `ch`, index `i` of the resampler's count, just delivered, goes into a capture that has begun (R411). -/
def State.waveSample (s : State) (ch : Nat) (i : Int) : State :=
  match s.ctx.flight.find? (fun c => decide (c.op = 0x21) && decide (0 < c.items)) with
  | none => s
  | some c =>
    let k := (i % 256).toNat
    let j := (s.indexCycle i - c.r0).toNat
    match (waveChans (c.argN 1)).findIdx? (fun x => x = ch) with
    | none => s
    | some p =>
      if j < c.argN 2 && decide (j < 256) then
        let v := s.reg (adcMRes ch)
        (s.setSramWord (c.waveAddr j p k) v).modCmd c.uid (fun c => if wbit v 25 then { c with r1 := c.r1 + 1#32 } else c)
      else s

/-! ### MPPT_SWEEP (R189) -/

def State.runSweep (s : State) (c : Cmd) : State :=
  let st := (s.pageStatus Pg.MODE).cmd
  if st ≠ stOk then s.cmdEnd c st 0#32 0#32
  else if s.mode.sweep.isSome then s.cmdEnd c stBusy 0#32 0#32
  else if s.sweepBar ≠ 0 then s.cmdEnd c s.sweepBar 0#32 0#32
  else (s.sweepStart (c.argN 0)).cmdWait c .sweep

/-- The sweep is over: the best Vref of each string swept, and the strings. -/
def State.sweepEnd (s : State) (c : Cmd) : State :=
  let v (k : Nat) : Nat :=
    if natBit (c.argN 0) k then satTo 65535 (roundHalfUp ((nth Tracker.reset s.mode.trackers k).vref * 65536)).toNat else 0
  s.cmdEnd c stOk (BitVec.ofNat 32 (v 0 + 65536 * v 1)) (c.arg 0)

/-! ### ISO_TEST (R412) -/

/-- GPIO pin `k` is in output function. -/
def State.gpioOutput (s : State) (k : Nat) : Bool :=
  (decide (s.pinFunc k = 2) || (decide (k < 3) && decide (s.pinFunc k = 1))) && s.bitOf Reg.PINS_GPIO_DIR k

/-- SETTLE of the command, in ticks: units of 10 ms, 0 acts as 1. -/
def Cmd.settle (c : Cmd) : Nat := 10 * ticksPerMs * max 1 (wbits (c.arg 0) 8 8)

/-- AIN1 as a part of its full scale. -/
def State.vpvPart (s : State) : Rat :=
  match (s.adcCh 9).lastC with
  | some (d, _, _) => (d : Rat) / 8388608
  | none => 0

def State.runIso (s : State) (c : Cmd) : State :=
  let st := (s.pageStatus Pg.ADCI).cmd
  if st ≠ stOk then s.cmdEnd c st 0#32 0#32
  else if s.gd.armed || decide (s.rlyState ≠ 0) then s.cmdEnd c stBusy 0#32 0#32
  else if !s.gpioOutput (wbits (c.arg 0) 0 5) then s.cmdEnd c stBadArg 0#32 0#32
  else if s.vpvPart < 1 / 10 then s.cmdEnd c stNotReady 0#32 0#32
  else (s.putBit Reg.PINS_GPIO_OUT (wbits (c.arg 0) 0 5) false).cmdWait { c with notes := [0, 0, 0, 0, 0, 0] } (.settle (s.now + c.settle))

/-- The ISO_TEST in flight. -/
def State.isoCmd (s : State) : Option Cmd := s.ctx.flight.find? (fun c => decide (c.op = 0x23) && decide (c.st ≠ CmdState.queued))

/-- A settling wait ends and the averaging begins (R412). -/
def State.isoSettled (s : State) : State :=
  match s.isoCmd with
  | some c =>
    (match c.st with
      | .waiting (.settle t) =>
        let s := s.elapseTo t
        s.cmdWait { c with notes := [nth 0 c.notes 0, 0, 0, 0, 0, nth 0 c.notes 5] } (.cycles c.cycles)
      | _ => s)
  | none => s

/-- A C-path output of channel `ch` joins the averages of an ISO_TEST: AIN1, and the channel on PV− (R412). -/
def State.isoSample (s : State) (ch : Nat) : State :=
  match s.isoCmd with
  | some c =>
    (match c.st, (s.adcCh ch).lastC with
      | .waiting (.cycles _), some (d, _, _) =>
        let n i : Rat := nth 0 c.notes i
        let p := decide (ch = 9)
        let q := decide (ch = 8 + wbits (c.arg 1) 0 4)
        s.cmdKeep { c with notes := [n 0, if p then n 1 + (d : Rat) else n 1, if p then n 2 + 1 else n 2,
          if q then n 3 + (d : Rat) else n 3, if q then n 4 + 1 else n 4, n 5] }
      | _, _ => s)
  | none => s

/-- A quotient of the report: a / 0 is open. -/
def isoQuot (a b : Rat) : Rat := if b = 0 then Config.overZero a else a / b

/-- A result in `unit` kΩ, up to `top`; one below 0 is open. -/
def isoCode (x unit : Rat) (top : Nat) : Nat :=
  if x < 0 then satTo top (roundHalfUp (Config.overZero x)).toNat else satTo top (roundHalfUp (x / unit)).toNat

/-- |Vn| / Vpv of the state just averaged. -/
def Cmd.isoRatio (c : Cmd) : Rat :=
  let n i : Rat := nth 0 c.notes i
  let vp := isoQuot (n 1) (n 2) / 8388608 * (wbits (c.arg 2) 0 16 : Rat)
  let vn := (isoQuot (n 3) (n 4) / 4194304 - 1) * (wbits (c.arg 1) 16 16 : Rat)
  isoQuot (if vn < 0 then -vn else vn) vp

/-- What the test reports for the ratios `a` (resistor off) and `b` (on): RES0 and RES1. -/
def isoResult (a b rref : Rat) : Word × Word :=
  if a - b ≤ 1 / 500 ∨ b = 0 then (0xFFFFFFFF#32, 0xFFFFFFFF#32)
  else
    let rn := isoQuot (rref * (a - b)) (b * (1 - a))
    let rp := rref * (a - b) / (a * b)
    let r := isoQuot (rp * rn) (rp + rn)
    (BitVec.ofNat 32 (isoCode r 1 0xFFFFFFFF), BitVec.ofNat 32 (isoCode rp 10 65535 + 65536 * isoCode rn 10 65535))

/-- 16 cycles of an average are over: the resistor goes on and the second state settles, or the test reports. -/
def State.isoState (s : State) (c : Cmd) : State :=
  let k := wbits (c.arg 0) 0 5
  if nth 0 c.notes 0 = 0 then
    (s.putBit Reg.PINS_GPIO_OUT k true).cmdWait { c with notes := [1, 0, 0, 0, 0, c.isoRatio] } (.settle (s.now + c.settle))
  else
    let (r0, r1) := isoResult (nth 0 c.notes 5) c.isoRatio (c.argN 3 : Rat)
    (s.putBit Reg.PINS_GPIO_OUT k false).cmdEnd c stOk r0 r1

/-! ### SELF_TEST (R413) -/

/-- The contents of bank B7 are lost: free words from address `a` on. -/
def State.marchLoss (s : State) (a : Nat) : Nat → State
  | 0 => s
  | n + 1 => let (v, s) := s.freeVal; (s.setSramWord a v).marchLoss (a + 4) n

/-- Regions 0 to 6 whose CRC fails: the two images, the four profiles, the key record. -/
def State.crcFailures (s : State) : List Nat :=
  let img (i : Nat) : Bool :=
    let b := imageBase i
    let n := (s.nvmWord (b + 0x10)).toNat
    decide (4088 < n) || decide (crc32c (s.nvmBytes b 0x3C ++ s.nvmBytes (b + 0x40) (8 * n)) ≠ s.nvmWord (b + 0x3C))
  let key := match s.safetySet with
    | some k => decide (crc32c (s.nvmBytes (placeOff k + 8) 8) ≠ s.nvmWord (placeOff k + 0x10))
    | none => true
  (List.range 7).filter (fun r => if r < 2 then img r else if r < 6 then (s.profileWords (r - 2)).isNone else key)

/-- Trip codes of the comparators with EN = 0 are measured: free codes; those outside 594 to 758 fail. -/
def State.compTest (s : State) : State × List Nat :=
  (List.range 16).foldl (fun (x : State × List Nat) n =>
    if x.1.bitOf (Reg.CMP_CTRL n) 0 then x
    else
      let (v, t) := x.1.freeVal
      let code := v.toNat % 1024
      (t, if code < 594 ∨ 758 < code then x.2 ++ [n] else x.2)) (s, [])

def State.runSelfTest (s : State) (c : Cmd) : State :=
  let m := c.argN 0
  let st := if natBit m 2 then (s.pageStatus Pg.CMP).cmd else stOk
  if s.gd.armed then s.cmdEnd c stBusy 0#32 0#32
  else if st ≠ stOk then s.cmdEnd c st 0#32 0#32
  else
    let s := if natBit m 0 then s.marchLoss 0xB8000 8192 else s
    let crc := if natBit m 1 then s.crcFailures else []
    let (s, cmp) := if natBit m 2 then s.compTest else (s, [])
    let fails := (if crc ≠ [] then 2 else 0) + (if cmp ≠ [] then 4 else 0)
    s.cmdEnd c stOk (BitVec.ofNat 32 fails) (BitVec.ofNat 32 ((crc ++ cmp).headD 0))

/-! ### DR_CALIBRATE (R165) -/

def State.runCal (s : State) (c : Cmd) : State :=
  let st := s.blockStatus Pg.SPEC
  if st ≠ stOk then s.cmdEnd c st 0#32 0#32
  else if !s.gd.armed then s.cmdEnd c stNotReady 0#32 0#32
  else s.calStart.cmdWait c (.cycles c.cycles)

/-- The calibration's cycles are over. -/
def State.calFinish (s : State) (c : Cmd) : State :=
  let pairs := ((List.range 8).map (fun n => (s.specCh n).calN)).sum
  let on := (List.range 8).filter (fun n => s.specOn n && decide (s.specRole n < 3) && !s.substituted n)
  let (s, mask) := s.calEnd
  let rej := (on.map (fun n => if natBit mask n then 0 else 2 ^ n)).sum
  s.cmdEnd c stOk (BitVec.ofNat 32 (mask + 256 * rej)) (BitVec.ofNat 32 pairs)

/-! ### The ledger's commands (R342 to R346) -/

def State.runLedgerClose (s : State) (c : Cmd) : State :=
  let st := s.blockStatus Pg.LDG
  if st ≠ stOk then s.cmdEnd c st 0#32 0#32
  else
    let s := s.ledgerClose
    s.cmdEnd c stOk (BitVec.ofNat 32 (s.get F.LDG_INTERVAL_COUNT)) (BitVec.ofNat 32 (wbits (s.reg Reg.LDG_STAT) 3 9))

def State.runLedgerPoll (s : State) (c : Cmd) : State :=
  let st := s.blockStatus Pg.LDG
  if st ≠ stOk then s.cmdEnd c st 0#32 0#32
  else if s.ldg.sweep.isSome then s.cmdEnd c stBusy 0#32 0#32
  else (s.cmdWait c .uart).ledgerSweep (some c.uid)

/-- SHED with rank r: LEVEL = 8 - r; RESTORE: 7 - r. An unchanged LEVEL completes at once (R346). -/
def State.runShed (s : State) (c : Cmd) : State :=
  let st := s.blockStatus Pg.LDG
  let lv := if c.op = 0x32 then 8 - c.argN 0 else 7 - c.argN 0
  if st ≠ stOk then s.cmdEnd c st 0#32 0#32
  else if s.get F.LDG_SHED_STAT_LEVEL = lv then s.cmdEnd c stOk 0#32 (BitVec.ofNat 32 lv)
  else ((s.cmdWait c .uart).setLevel lv c.uid (decide (c.ctx = devCtx))).shedCheck c.uid

/-! ### RELAY_PROOF (R295) -/

def State.runProof (s : State) (c : Cmd) : State :=
  let st := s.blockStatus Pg.RLY
  if st ≠ stOk then s.cmdEnd c st 0#32 0#32
  else if s.gd.armed || decide (s.rlyState ≠ 0) then s.cmdEnd c stBusy 0#32 0#32
  else (s.proofStart (c.argN 0)).cmdWait c .relay

/-! ### ARM, DISARM, MODE_SET (R172, R414) -/

/-- A channel with ARMREQ has no PGQ (R313), D10 FIELD being on and ready. -/
def State.hswBars (s : State) : Bool :=
  s.domReady 10 && (List.range 2).any (fun n => s.flag (F.HSW_CTRL_ARMREQ n) && !s.flag (F.HSW_STAT_PGQ n))

/-- What bars an ARM, as RES0 shows it (R414). -/
def State.armBars (s : State) : Nat :=
  let b (k : Nat) (p : Bool) : Nat := if p then 2 ^ k else 0
  let start := s.pwr.muster || decide (s.now < s.pwr.released + ticksPerSec)
  let domain := [3, 4, 5, 8].any (fun d => !s.domReady d) || !s.pageEn Pg.PWM || !s.pageEn Pg.GD
  let owner := s.get F.PWM_CFG_OWNER
  b 0 start + b 1 domain + b 2 (s.flag F.CPS_STAT_SEQ_WRONG) +
  b 3 (decide (owner = 0) || (decide (owner = 3) && !s.elcPins)) + b 4 s.gateBars + b 5 s.protBars +
  b 6 (s.flag F.SPEC_SUBST_TRIP) + b 7 (s.safe.fault || s.safe.sealPend.isSome) + b 8 s.hswBars +
  b 9 (decide (s.rly.job = .close) || s.rly.weldStage.isSome)

/-- Bits 2 to 9 of that mask end a precharge. -/
def State.prechargeBars (s : State) : Nat := s.armBars / 4 % 256 * 4

def State.runArm (s : State) (c : Cmd) : State :=
  if s.gd.armed then s.cmdEnd c stOk 0#32 1#32
  else if s.armBars ≠ 0 then s.cmdEnd c stNotReady (BitVec.ofNat 32 s.armBars) 0#32
  else s.prechargeStart.cmdWait c .bridge

/-- Precharge has been interrupted, or a condition has come to fail in it. -/
def State.armFailed (s : State) (c : Cmd) : State :=
  let m := s.prechargeBars
  (if s.gd.arming then s.bridgeStop else s).cmdEnd c stNotReady (BitVec.ofNat 32 (1024 + m)) 0#32

/-- The ARM that waits for its precharge. -/
def State.armCmd (s : State) : Option Cmd := s.ctx.flight.find? (fun c => decide (c.op = 0x50) && decide (c.st = .waiting .bridge))

/-- ARM_COMPLETE: precharge has ended, and the bridge is ARMED (R172, R224, R264, R268, R276, R414). -/
def State.armComplete (s : State) : State :=
  match s.armCmd with
  | some c =>
    if s.prechargeDone && decide (s.prechargeBars = 0) then
      let s := { s with gd := { s.gd with armed := true, arming := false } }
      let s := s.putFlag F.GD_FLT_STAT_SHUTDOWN false
      (s.modeArm.protArm).cmdEnd c stOk 0#32 0#32
    else s
  | none => s

/-- DISARM: a shutdown with cause 6; with the bridge neither ARMED nor in precharge it completes at once (R414). -/
def State.runDisarm (s : State) (c : Cmd) : State :=
  if s.bridgeOn then s.disarm.cmdWait c .bridge else s.cmdEnd c stOk 0#32 0#32

/-- MODE_SET: a judged write of MODE_REQ (R172). -/
def State.runModeSet (s : State) (c : Cmd) : State :=
  let refused := s.mode.blend.isNone && s.reqRefused (c.argN 0)
  let (s, st) := s.busWrite c.who Reg.MODE_REQ (c.arg 0)
  if st ≠ .ok then s.cmdEnd c st.cmd 0#32 0#32
  else if refused then s.cmdEnd c stNotReady (BitVec.ofNat 32 (s.get F.MODE_STAT_ACTIVE)) 0#32
  else s.cmdWait c .mode

/-! ### ABORT (R409) -/

/-- Every command of the ABORT's context with the tag it names, other than itself. -/
def State.abortTargets (s : State) (c : Cmd) : List Cmd :=
  s.ctx.flight.filter (fun x => decide (x.ctx = c.ctx) && decide (x.tag = c.argN 0) && decide (x.uid ≠ c.uid))

/-- An earlier deadline is stopping the target: it keeps TIMEOUT (R408, R409). -/
def State.timingOut (s : State) (t : Cmd) : Bool := decide (t.stop = some stTimeout) && !decide (t.deadline = some s.now)

/-- A target stops (R409). -/
def State.abortOne (s : State) (t : Cmd) : State := if s.timingOut t then s else s.cmdStop t stAborted

def State.runAbort (s : State) (c : Cmd) : State :=
  let ts := (s.abortTargets c).filter (fun t => !s.timingOut t)
  if ts = [] then s.cmdEnd c stOk 0#32 0#32
  else
    (ts.foldl State.abortOne s).cmdWait { c with r0 := BitVec.ofNat 32 ts.length } (.abort (ts.map (fun t => t.uid)))

/-! ### The slice (R405, R406) -/

/-- The slice of a started command. -/
def State.runOp (s : State) (c : Cmd) : State :=
  match c.op with
  | 0x01 => s.runReadBlock c
  | 0x02 => s.runWriteBlock c
  | 0x03 => s.runAtomic c
  | 0x10 => s.runNvmWrite c
  | 0x11 => s.runNvmErase c
  | 0x12 => s.runCommit c
  | 0x13 => s.runLoad c
  | 0x14 => s.runNvmVerify c
  | 0x20 => s.runHarm c
  | 0x21 => s.runWave c
  | 0x22 => s.runSweep c
  | 0x23 => s.runIso c
  | 0x24 => s.runProof c
  | 0x25 => s.runSelfTest c
  | 0x26 => s.runCal c
  | 0x30 => s.runLedgerClose c
  | 0x31 => s.runLedgerPoll c
  | 0x32 => s.runShed c
  | 0x33 => s.runShed c
  | 0x40 => s.runLogRead c
  | 0x41 => s.runArchive c
  | 0x42 => s.runSafe c
  | 0x50 => s.runArm c
  | 0x51 => s.runDisarm c
  | 0x52 => s.runModeSet c
  | 0x60 => s.runIdent c
  | 0x7F => s.runAbort c
  | _ => s.runSnapshot c

/-- What keeps a queued command from starting: a malformed entry (R403), another of its opcode (R410). -/
def State.startBar (s : State) (c : Cmd) : Nat :=
  if c.ctx ≠ devCtx ∧ !c.wellFormed then stBadArg
  else if opAlone c.op && s.opInFlight c c.op then stBusy
  else stOk

/-- The slice of the chosen command. -/
def State.runSlice (s : State) (c : Cmd) : State :=
  if s.dlReached c then s.cmdStop c stTimeout
  else match c.st with
    | .queued => if s.startBar c = stOk then (s.cmdMore c).runOp { c with st := .ready } else s.cmdFinish c (s.startBar c) 0#32 0#32
    | .ready => s.runOp c
    | .waiting _ => s

/-- A slice: the choice, then the command's items (R406). -/
def State.cmdSlice (s : State) : State :=
  match s.cmdNext with
  | some (k, c) => (s.sliceTaken k c).runSlice c
  | none => s

/-- A slice of a command with opcode `op`: nothing unless such a command is the engine's choice. -/
def State.sliceOf (op : Nat) (s : State) : State :=
  match s.cmdNext with
  | some (k, c) => if c.op = op then (s.sliceTaken k c).runSlice c else s
  | none => s

/-! ### Waiting commands go on -/

/-- The domains a waiting command needs (R411, and R407 for the rest). -/
def Cmd.needs (c : Cmd) : List Nat :=
  match c.op with
  | 0x20 => [9]
  | 0x21 => 9 :: (waveChans (c.argN 1)).map waveDomain
  | 0x22 => [4]
  | 0x23 => [7]
  | 0x24 => [5]
  | 0x26 => [4]
  | 0x31 => [10]
  | 0x32 => [10]
  | 0x33 => [10]
  | 0x52 => [4]
  | _ => []

/-- What a wait in BEAR_CYCLE increments has come to. -/
def State.pollCycles (s : State) (c : Cmd) (base : Nat) : State :=
  match c.op with
  | 0x21 => s.waveCycles c base
  | 0x23 => if base + 16 ≤ c.cycles then s.isoState c else s
  | _ => if base + c.argN 0 ≤ c.cycles then s.calFinish c else s

/-- What waits for the bridge: an ARM in precharge, a DISARM until the low sides are off. -/
def State.pollBridge (s : State) (c : Cmd) : State :=
  if c.op = 0x50 then
    if !s.gd.arming || decide (s.prechargeBars ≠ 0) then s.armFailed c else s
  else if s.gd.sdLow.isNone then s.cmdEnd c stOk 0#32 0#32 else s

/-- A waiting command whose condition has come goes on, or ends. -/
def State.pollOne (s : State) (uid : Nat) : State :=
  match s.cmdFind uid with
  | none => s
  | some c =>
    match c.st with
    | .waiting w =>
      if c.needs.any (fun d => !s.domOn d) then (s.cmdCleanup c).cmdEnd c stDomainOff c.r0 c.r1
      else match w with
        | .cycles base => s.pollCycles c base
        | .sweep =>
          if !(s.gd.armed && s.live Pg.MODE) then s.sweepDrop.cmdEnd c stNotReady 0#32 0#32
          else if s.mode.sweep.isNone then s.sweepEnd c else s
        | .window => if nth 0 c.notes 0 = (s.get F.HRM_STAT_WINCNT : Rat) then s else s.harmEnd c
        | .relay => if s.rly.job = .proof then s else s.cmdEnd c stOk (s.reg Reg.RLY_PROOF) (s.reg Reg.RLY_WELD)
        | .bridge => s.pollBridge c
        | .mode =>
          if s.gd.armed && s.live Pg.MODE && (s.mode.ask.isSome || s.mode.blend.isSome || s.mode.start) then s
          else if s.mode.askRefused then s.cmdEnd c stNotReady (BitVec.ofNat 32 (s.get F.MODE_STAT_ACTIVE)) 0#32
          else s.cmdEnd c stOk (BitVec.ofNat 32 (s.get F.MODE_STAT_ACTIVE)) 0#32
        | .scan => if s.flag F.LOG_STAT_SCANNED then s.cmdMore c else s
        | .abort ts => if ts.any (fun t => (s.cmdFind t).isSome) then s else (s.elapse 1).cmdEnd c stOk c.r0 0#32
        | _ => s
    | _ => s

/-- What blocks report for the commands they serve. -/
def State.takeResults (s : State) : State :=
  let rs := s.ctx.results
  rs.foldl (fun s r =>
    match s.cmdFind r.1 with
    | some c => s.cmdEnd c r.2.1 r.2.2.1 r.2.2.2
    | none => s) { s with ctx := { s.ctx with results := [] } }

/-- Every waiting command is looked at, ABORT commands last. -/
def State.ctxPoll (s : State) : State :=
  let s := s.takeResults
  let one (s : State) (c : Cmd) : State := s.pollOne c.uid
  let rest := s.ctx.flight.filter (fun c => c.op ≠ 0x7F)
  let ab := s.ctx.flight.filter (fun c => c.op = 0x7F)
  ab.foldl one (rest.foldl one s)

/-- What a row leaves to happen by itself: changed levels, router events, waiting commands. -/
def State.settle (s : State) : State :=
  let s := s.review.route 16
  if s.ctx.flight.isEmpty && s.ctx.results.isEmpty then s else s.ctxPoll.review.route 16

/-! ### Deadlines and timers -/

/-- CMD_DEADLINE: every command whose deadline has been reached, or, where none has, the earliest in time (R408). -/
def State.cmdDeadline (s : State) : State :=
  if !s.live Pg.CTX then s
  else
    let due (s : State) : List Cmd := s.ctx.flight.filter (fun c => s.dlReached c && c.stop.isNone)
    let s := if (due s).isEmpty then
        (match (s.ctx.flight.filterMap (fun c => if s.mayRun c && c.stop.isNone then c.deadline else none)).min? with
          | some t => s.elapseTo t
          | none => s)
      else s
    (due s).foldl (fun s c => s.cmdStop c stTimeout) s

/-- The next tick at which a periodic sweep is entered: a multiple of SWEEP × 5 minutes (R189). -/
def State.sweepDue (s : State) : Option Nat :=
  let p := 300 * ticksPerSec * s.get F.MODE_MPPT_CFG_SWEEP
  if p = 0 then none else some ((s.now / p + 1) * p)

/-- MPPT_SWEEP_TIMER: the periodic sweep is entered in class 2, or dropped during another (R189, R415). -/
def State.sweepTimer (s : State) : State :=
  if !s.live Pg.MODE then s
  else match s.sweepDue with
    | none => s
    | some t =>
      let s := s.elapseTo t
      if s.ctx.flight.any (fun c => c.op = 0x22) then s
      else s.devEnter { cls := 2, op := 0x22, args := [3#32], ops := [] } true

end Sys2Proof.Machine
end

