-- ==== Sys2Proof/Machine/Reel.lean ====
section
/-! DEFINITION. The instructions of DMA reels (spec/17 R360 to R378): which instruction a word is, its legality, what it does.
An instruction runs as one row of its channel; its beats are granted in the order R364 gives. -/

namespace Sys2Proof.Machine

/-- What an instruction word is (R360); `illegal` for every reserved value. -/
inductive ReelOp where
  | nop | moveWord | moveRound | moveFunnel | loop | wait
  | sigEvent | sigIrq | sigContext | sigChannel
  | ptrSet | ptrAdd | ptrLoad | ptrCopy | write | endOp | illegal
  deriving DecidableEq, Repr

/-- The reserved bits of an instruction are 0. -/
def ireserved (i : BitVec 64) (lo len : Nat) : Bool := decide (ibits i lo len = 0)

def moveKind (i : BitVec 64) : ReelOp :=
  if !ireserved i 24 28 then .illegal
  else match ibits i 58 2 with
    | 0 => .moveWord
    | 1 => if ibits i 52 2 = 3 then .moveRound else .illegal
    | 2 => if ibits i 52 2 = 3 then .moveFunnel else .illegal
    | _ => .illegal

def waitKind (i : BitVec 64) : ReelOp :=
  let kind := ibits i 57 3
  let argOk := match kind with
    | 0 => ireserved i 6 26
    | 1 => ireserved i 2 30
    | 2 => ireserved i 7 25
    | 3 => true
    | 4 => true
    | 5 => ireserved i 0 32
    | _ => false
  if argOk && ireserved i 44 10 && (decide (kind = 2) || ireserved i 54 1) then .wait else .illegal

def signalKind (i : BitVec 64) : ReelOp :=
  if !ireserved i 32 26 then .illegal
  else match ibits i 58 2 with
    | 0 => if ireserved i 2 30 then .sigEvent else .illegal
    | 1 => if ireserved i 7 25 then .sigIrq else .illegal
    | 2 => if ireserved i 24 8 then .sigContext else .illegal
    | _ => if ireserved i 4 28 then .sigChannel else .illegal

def setptrKind (i : BitVec 64) : ReelOp :=
  let op := ibits i 58 2
  if !(ireserved i 24 30 && (decide (op = 3) || ireserved i 54 2)) then .illegal
  else match op with
    | 0 => .ptrSet
    | 1 => .ptrAdd
    | 2 => .ptrLoad
    | _ => .ptrCopy

/-- The instruction a word is. -/
def reelOp (i : BitVec 64) : ReelOp :=
  match ibits i 60 4 with
  | 0 => .nop
  | 1 => moveKind i
  | 2 => if ireserved i 57 3 && ireserved i 48 8 && ireserved i 12 20 then .loop else .illegal
  | 3 => waitKind i
  | 4 => signalKind i
  | 5 => setptrKind i
  | 6 => if ireserved i 58 2 && ireserved i 32 23 then .write else .illegal
  | 7 => if ireserved i 0 58 then .endOp else .illegal
  | _ => .illegal

/-- A signed 24-bit offset, as a number modulo 2^24. -/
def addPtr (p off : Nat) : Nat := (p + off) % 16777216

/-! ### Fetch and boundaries -/

/-- The instruction in slot `k` of bank B1 (R355). -/
def State.reelSlot (s : State) (k : Nat) : BitVec 64 :=
  s.sramWord (0x88000 + 8 * (k % 4096) + 4) ++ s.sramWord (0x88000 + 8 * (k % 4096))

/-- The instruction that channel `n` executes next: it runs, no stop is under way. One that a pause withheld goes on as it was
latched (R372, R374). -/
def State.reelNext (s : State) (n : Nat) : Option (BitVec 64) :=
  if s.live Pg.DMA && decide (s.dmaState n = dmaRun) && !(s.dmaCh n).stopping then some ((s.dmaCh n).cur.getD (s.reelSlot (s.dmaPc n)))
  else none

/-- `t` ticks of channel `n`, and 2 more where its prefetched slot had been written (R361, R371). -/
def State.reelTicks (s : State) (n t : Nat) : State :=
  if (s.dmaCh n).stale then (s.modDma n (fun c => { c with stale := false })).elapse (t + 2) else s.elapse t

/-- The channel goes on at slot `pc`. -/
def State.reelGo (s : State) (n pc : Nat) : State := s.put (F.DMA_CH_PC_PC n) (pc % 4096)
def State.reelOn (s : State) (n : Nat) : State := s.reelGo n (s.dmaPc n + 1)

/-! ### Beats (R356, R374 to R378) -/

/-- How a beat ends: with data, with a halt, or with a pause. -/
inductive Beat where
  | done (s : State) (v : Word)
  | halt (s : State) (code : Nat)
  | pause (s : State)

def dmaWho (n : Nat) : Who := { master := BitVec.ofNat 8 (0x10 + n), ctx := 0xFF#8 }

/-- A beat that finds its target off: PAUSE under GRACEFUL, DOMAIN_OFF under FORCE. -/
def State.beatOff (s : State) (n : Nat) : Beat := if s.flag (F.DMA_CH_CTRL_DPOL n) then .halt s 5 else .pause s

/-- One read beat of `w` bytes at `a`: a peek in quarantine. A read refused as NOTREADY returns 0. -/
def State.beatRead (s : State) (n a w : Nat) : Beat :=
  let s := s.granted none
  let (v, st, t) := s.busReadN (dmaWho n) a w
  let t := if s.dmaQuar n then { s with freeIdx := t.freeIdx } else t
  match st with
  | .ok => .done (t.elapse 1) v
  | .domainOff => s.beatOff n
  | .unmapped => .halt (t.elapse 1) 3
  | .align => .halt (t.elapse 1) 3
  | _ => .done (t.elapse 1) 0#32

/-- The bytes of a write beat within one word from `a` on: a full word, a narrow access, or byte enables (R364). -/
def State.writeBytes (s : State) (w : Who) (a : Nat) (bs : List Byte) : State × Status :=
  if bs.length = 4 then s.busWriteN w a 4 (wordOf bs)
  else if inSram a then
    if s.bankOn (bankOf a) then (s.sramWrite a bs, .ok) else (s, .domainOff)
  else (s, .unmapped)

/-- One write beat: it stores nothing in quarantine (R378). -/
def State.beatWrite (s : State) (n a : Nat) (bs : List Byte) : Beat :=
  if s.dmaQuar n then .done (s.elapse 1) 0#32
  else
    let (t, st) := (s.granted (some a)).writeBytes (dmaWho n) a bs
    match st with
    | .ok => .done (t.elapse 1) 0#32
    | .refused => .done (t.elapse 1) 0#32
    | .domainOff => s.beatOff n
    | .unmapped => .halt (t.elapse 1) 3
    | .align => .halt (t.elapse 1) 3
    | _ => .halt (t.elapse 1) 10

/-! ### MOVE (R364, R365) -/

/-- The range of a MOVE as it stands: where it starts, which pointers step, bytes, mode. -/
structure MoveRun where
  src : Nat
  dst : Nat
  sinc : Bool
  dinc : Bool
  len : Nat
  mode : ReelOp

/-- Source address of byte `k`, and destination address. -/
def MoveRun.from' (m : MoveRun) (k : Nat) : Nat := if m.sinc then addPtr m.src k else m.src
def MoveRun.to' (m : MoveRun) (k : Nat) : Nat := if m.dinc then addPtr m.dst k else m.dst

/-- Bytes of the next narrow access at `a` with `r` bytes to go. -/
def funnelBytes (a r : Nat) : Nat :=
  if a % 2 = 1 then 1 else if a % 4 = 2 then (if 2 ≤ r then 2 else 1) else if 4 ≤ r then 4 else if 2 ≤ r then 2 else 1

/-- Bytes of the next beat at `a` with `r` bytes to go. -/
def MoveRun.take (m : MoveRun) (a r : Nat) : Nat :=
  if m.mode = .moveFunnel then funnelBytes a r else min (4 - a % 4) r

/-- How far a MOVE has come: bytes read and bytes written, the bytes between. -/
structure MoveEnd where
  state : State
  put : Nat
  stop : Option (Nat × Bool)

/-- Reads and writes in turn, the reads only as far as the next write needs; `stop` says at which address it ended, and whether
in a pause; a halt has been entered with its code in `got`. -/
def State.moveBeats (s : State) (n : Nat) (m : MoveRun) (buf : List Byte) (got put : Nat) : Nat → MoveEnd × Nat
  | 0 => ({ state := s, put := put, stop := none }, 0)
  | f + 1 =>
    if m.len ≤ put then ({ state := s, put := put, stop := none }, 0)
    else
      let d := m.to' put
      let k := m.take d (m.len - put)
      if buf.length < k then
        let a := m.from' got
        let j := m.take a (m.len - got)
        let round := decide (m.mode = .moveRound)
        match s.beatRead n (if round then a - a % 4 else a) (if round then 4 else j) with
        | .done s v =>
          let bs := (wbytes v)
          let bs := if round then (bs.drop (a % 4)).take j else bs.take j
          s.moveBeats n m (buf ++ bs) (got + j) put f
        | .halt s code => ({ state := s, put := put, stop := some (a, false) }, code)
        | .pause s => ({ state := s, put := put, stop := some (a, true) }, 0)
      else
        match s.beatWrite n d (buf.take k) with
        | .done s _ => s.moveBeats n m (buf.drop k) got (put + k) f
        | .halt s code => ({ state := s, put := put, stop := some (d, false) }, code)
        | .pause s => ({ state := s, put := put, stop := some (d, true) }, 0)

/-- Both stepping pointers stand at the same progress, and REMAIN shows what is left (R365). -/
def State.moveProgress (s : State) (n : Nat) (i : BitVec 64) (m : MoveRun) (put : Nat) : State :=
  let s := if m.sinc then s.setDmaPtr n (ibits i 56 2) (addPtr m.src put) else s
  let s := if m.dinc then s.setDmaPtr n (ibits i 54 2) (addPtr m.dst put) else s
  s.put (F.DMA_CH_STAT_REMAIN n) (m.len - put)

/-- A range touches the register region once widened to whole words (R364). -/
def touchesRegs (a len : Nat) : Bool := decide (a - a % 4 < 0x40000) || decide (16777216 < a + len)

def bankBit (a : Nat) : BitVec 8 := if inSram a then 1#8 <<< bankOf a else 0#8

/-- A MOVE of channel `n`. -/
def State.reelMove (s : State) (n : Nat) (i : BitVec 64) : State :=
  let len := if (s.dmaCh n).midMove then s.get (F.DMA_CH_STAT_REMAIN n) else ibits i 0 24
  let m : MoveRun :=
    { src := s.dmaPtr n (ibits i 56 2), dst := s.dmaPtr n (ibits i 54 2), sinc := decide (ibits i 53 1 = 1)
      dinc := decide (ibits i 52 1 = 1), len := len, mode := reelOp i }
  if ibits i 0 24 = 0 then (s.reelTicks n 1).reelOn n
  else if m.mode = .moveWord ∧ (m.src % 4 ≠ 0 ∨ m.dst % 4 ≠ 0 ∨ ibits i 0 24 % 4 ≠ 0) then (s.reelTicks n 1).dmaHaltWith n 2
  else if m.mode = .moveRound ∧ (touchesRegs m.src len || touchesRegs m.dst len) then (s.reelTicks n 1).dmaHaltWith n 4
  else
    let s := (s.reelTicks n 2).put (F.DMA_CH_STAT_REMAIN n) len
    let (e, code) := s.moveBeats n m [] 0 0 (2 * len)
    let s := e.state.moveProgress n i m e.put
    match e.stop with
    | none => (s.modDma n (fun c => { c with midMove := false })).reelOn n
    | some (a, paused) =>
      let s := s.modDma n (fun c => { c with midMove := true })
      if paused then (s.dmaPauseAt n a).modDma n (fun c =>
        { c with banks := bankBit (m.from' e.put) ||| bankBit (m.to' e.put) })
      else s.dmaHaltWith n code

/-! ### The other instructions -/

/-- A jump that is taken costs the fetch of its target (R361). -/
def State.reelJump (s : State) (n pc : Nat) : State :=
  (((s.modDma n (fun c => { c with stale := false })).elapse 2).reelGo n pc)

/-- LOOP (R362). A LOOP that jumps is a pass (R378). -/
def State.reelLoop (s : State) (n : Nat) (i : BitVec 64) : State :=
  let s := s.reelTicks n 1
  let count := ibits i 32 16
  let target := ibits i 0 12
  if count = 0 then (s.dmaPass n).reelJump n target
  else
    let f : Field := ⟨Reg.DMA_CH_LOOP n, 16 * ibits i 56 1, 16⟩
    let l := (if s.get f = 0 then count else s.get f) - 1
    let s := s.put f l
    if l = 0 then s.reelOn n else (s.dmaPass n).reelJump n target

/-- What passing does: the line's latch, unless an action has come again (R367), the pending bit of an IRQ with CLR (not written in quarantine), the doorbell. -/
def State.waitTake (s : State) (n : Nat) (i : BitVec 64) : State :=
  match ibits i 57 3 with
  | 1 => if (s.dmaCh n).again then s else s.put (F.DMA_CH_STAT_WLPEND n) (s.get (F.DMA_CH_STAT_WLPEND n) &&& (15 - 2 ^ ibits i 0 2))
  | 2 =>
    if ibits i 54 1 = 1 ∧ !s.dmaQuar n then
      let q := ibits i 0 7
      (s.busWrite (dmaWho n) (Reg.IRQC_PEND (q / 32)) (1#32 <<< (q % 32))).1
    else s
  | 5 => s.put (F.DMA_CH_PRIO_DBCNT n) (s.get (F.DMA_CH_PRIO_DBCNT n) - 1)
  | _ => s

def State.waitOver (s : State) (n : Nat) : State :=
  (s.modDma n (fun c =>
    { c with waitFrom := none, seenAt := none, target := none, units := 0, limAt := none, again := false, cur := none })).setDmaState n dmaRun

/-- The WAIT passes: the channel goes on. -/
def State.waitPass (s : State) (n : Nat) (i : BitVec 64) : State := ((s.waitTake n i).waitOver n).reelOn n

/-- The timeout of a WAIT reaches its limit (R368). -/
def State.waitTimeout (s : State) (n : Nat) (i : BitVec 64) : State :=
  if ibits i 55 1 = 1 then ((s.waitOver n).setFlag (F.DMA_CH_STAT_TMO n)).reelJump n (ibits i 32 12)
  else s.dmaHaltWith n 8

/-- WAIT: its first tick (R366, R368, R369). -/
def State.reelWait (s : State) (n : Nat) (i : BitVec 64) : State :=
  let s := s.reelTicks n 1
  if s.needsNav n i && !s.domOn 3 then s.dmaHaltWith n 9
  else
    let target := if ibits i 57 3 = 3 then some (s.nextCrossing (ibits i 0 32 * 1048576)) else none
    let now := s.now
    let s := (s.modDma n (fun c =>
      { c with cur := some i, waitFrom := some now, seenAt := none, target := target, units := 0, limAt := none,
               again := false })).setDmaState n dmaWait
    if s.waitHolds n i then s.waitPass n i
    else if ibits i 56 1 = 1 ∧ s.get (F.DMA_CH_WAITTMO_COUNT n) = 0 then s.waitTimeout n i
    else s

/-- WAIT_PASS: the condition of a held WAIT holds: now, or, for an angle or a delay, at its tick. A timeout that has been
reached goes first only where the condition had not come by its limit (R21, R368). -/
def State.reelWaitPass (s : State) (n : Nat) : State :=
  match (s.dmaCh n).cur, (s.dmaCh n).waitFrom with
  | some i, some t0 =>
    if s.dmaState n ≠ dmaWait then s
    else
      let t := match ibits i 57 3 with
        | 3 => (match (s.dmaCh n).target with | some a => if s.domOn 3 then s.elapseToAbs a else s | none => s)
        | 4 => s.elapseTo (t0 + ibits i 0 32)
        | _ => s
      let tick := if ibits i 57 3 = 4 then t0 + ibits i 0 32 else t.now
      let inTime := (s.waitLimit n i).all (fun l => decide (tick ≤ l))
      if (s.dmaCh n).seenAt.isSome then s.waitPass n i
      else if inTime && t.waitHolds n i then t.waitPass n i else s
  | _, _ => s

/-- The condition of a held WAIT for an angle or a delay comes by the tick `l`. -/
def State.waitComes (s : State) (n : Nat) (i : BitVec 64) (l : Nat) : Bool :=
  if ibits i 57 3 = 4 then (s.dmaCh n).waitFrom.any (fun t => decide (t + ibits i 0 32 ≤ l))
  else decide (s.now ≤ l) && (s.elapseTo l).waitHolds n i

/-- WAIT_TIMEOUT: the limit of a held WAIT has passed without the condition (R21, R368). -/
def State.reelWaitTimeout (s : State) (n : Nat) : State :=
  match (s.dmaCh n).cur with
  | some i =>
    (match s.waitLimit n i with
     | some l =>
       if s.dmaState n ≠ dmaWait ∨ (s.dmaCh n).seenAt.isSome ∨ s.waitComes n i l then s
       else (s.elapseTo (l + 1)).waitTimeout n i
     | none => s)
  | none => s

/-- SIGNAL EVENT: the event pulses in the tick after the instruction's. SIGNAL has no effect in quarantine (R370, R378). -/
def State.reelSigEvent (s : State) (n : Nat) (i : BitVec 64) : State :=
  let s := (s.reelTicks n 1).reelOn n
  if s.dmaQuar n then s else s.occur Pg.DMA (ibits i 0 2)

/-- A write beat of an instruction: the channel goes on, halts, or pauses over it. -/
def State.reelBeat (s : State) (n a : Nat) (v : Word) : State :=
  match s.beatWrite n a (wbytes v) with
  | .done s _ => s.reelOn n
  | .halt s code => s.dmaHaltWith n code
  | .pause s => s.dmaPauseAt n a

def State.reelSigIrq (s : State) (n : Nat) (i : BitVec 64) : State :=
  (s.reelTicks n 1).reelBeat n Reg.IRQC_DOORBELL (BitVec.ofNat 32 (ibits i 0 7))

def State.reelSigContext (s : State) (n : Nat) (i : BitVec 64) : State :=
  (s.reelTicks n 1).reelBeat n (ctxA (ibits i 16 8) 0x08) (BitVec.ofNat 32 (ibits i 0 16))

def State.reelSigChannel (s : State) (n : Nat) (i : BitVec 64) : State :=
  let s := (s.reelTicks n 1).reelOn n
  if s.dmaQuar n then s else s.dmaSignalled (ibits i 0 4)

def State.reelPtrSet (s : State) (n : Nat) (i : BitVec 64) : State :=
  ((s.reelTicks n 1).setDmaPtr n (ibits i 56 2) (ibits i 0 24)).reelOn n
def State.reelPtrAdd (s : State) (n : Nat) (i : BitVec 64) : State :=
  ((s.reelTicks n 1).setDmaPtr n (ibits i 56 2) (addPtr (s.dmaPtr n (ibits i 56 2)) (ibits i 0 24))).reelOn n
def State.reelPtrCopy (s : State) (n : Nat) (i : BitVec 64) : State :=
  ((s.reelTicks n 1).setDmaPtr n (ibits i 56 2) (addPtr (s.dmaPtr n (ibits i 54 2)) (ibits i 0 24))).reelOn n

/-- SETPTR LOAD: one read beat at IMM (R363). -/
def State.reelPtrLoad (s : State) (n : Nat) (i : BitVec 64) : State :=
  let a := ibits i 0 24
  let s := s.reelTicks n 1
  if a % 4 ≠ 0 then s.dmaHaltWith n 2
  else match s.beatRead n a 4 with
    | .done s v => (s.setDmaPtr n (ibits i 56 2) (v.toNat % 16777216)).reelOn n
    | .halt s code => s.dmaHaltWith n code
    | .pause s => s.dmaPauseAt n a

/-- WRITE (R363). -/
def State.reelWrite (s : State) (n : Nat) (i : BitVec 64) : State :=
  let k := ibits i 56 2
  let a := s.dmaPtr n k
  let s := s.reelTicks n 1
  if a % 4 ≠ 0 then s.dmaHaltWith n 2
  else match s.beatWrite n a (wbytes (BitVec.ofNat 32 (ibits i 0 32))) with
    | .done s _ => (if ibits i 55 1 = 1 then s.setDmaPtr n k (addPtr a 4) else s).reelOn n
    | .halt s code => s.dmaHaltWith n code
    | .pause s => s.dmaPauseAt n a

/-- END (R363): a pass. -/
def State.reelEnd (s : State) (n : Nat) (i : BitVec 64) : State :=
  let s := s.reelTicks n 1
  let s := if ibits i 59 1 = 1 then s.note Pg.DMA 4 else s
  let s := s.dmaPass n
  if ibits i 58 1 = 1 then s.reelJump n (s.get (F.DMA_CH_CTRL_START n)) else s.dmaIdleNow n

/-- An instruction is over: only a held WAIT and a withheld instruction stay latched. -/
def State.reelRest (s : State) (n : Nat) : State :=
  if s.dmaState n = dmaWait ∨ s.dmaState n = dmaPause then s else s.modDma n (fun c => { c with cur := none })

/-- Channel `n` executes its next instruction, if that is an `op`, as `f` says; it is latched while it runs (R372). -/
def State.reelDo (s : State) (n : Nat) (op : ReelOp) (f : State → Nat → BitVec 64 → State) : State :=
  match s.reelNext n with
  | some i =>
    if reelOp i = op then (f (s.modDma n (fun c => { c with cur := some i })) n i).reelRest n else s
  | none => s

def State.reelIllegal (s : State) (n : Nat) (_ : BitVec 64) : State := (s.reelTicks n 1).dmaHaltWith n 1
def State.reelNop (s : State) (n : Nat) (_ : BitVec 64) : State := (s.reelTicks n 1).reelOn n

/-! ### Resumption (R374) -/

/-- The target of a withheld beat is on and ready. -/
def State.beatReady (s : State) (a : Nat) : Bool :=
  if inSram a then s.bankOn (bankOf a)
  else if inRegs a then s.pageReady (a / 0x1000)
  else s.domReady 1

/-- DMA_RESUME: the channel runs on in the tick after; one whose bank lost its contents halts (R374). -/
def State.reelResume (s : State) (n : Nat) : State :=
  match (s.dmaCh n).withheld with
  | some a =>
    if s.dmaState n = dmaPause ∧ s.beatReady a then
      if (s.dmaCh n).lost then (s.elapse 1).dmaHaltWith n 7
      else ((s.elapse 1).modDma n (fun c => { c with withheld := none, banks := 0#8 })).setDmaState n dmaRun
    else s
  | none => s

end Sys2Proof.Machine
end

