-- ==== Sys2Proof/Machine/Events.lean ====
section
/-! DEFINITION. What the rows of the table of operations share beyond their blocks: the QUAR fields of the units (R47, R50), the
ends of qualification windows (R49), a converter's output with all that takes it (R106, R114), comparator inputs (R237, R246),
and events that come from outside the chip. -/

namespace Sys2Proof.Machine

/-- PG_EVT_SET of a page (R52). -/
def pgEvtSet (p : Nat) : Nat := p * 0x1000 + 0x01C

/-! ### Quarantine fields and windows -/

/-- The register and bit that hold the QUAR field of unit `n` of page `p`. -/
def unitField (p n : Nat) : Option (Nat × Nat) :=
  if pageUnits p ≤ n then none
  else match p with
    | 0x05 => some (Reg.CTX_QUAR (n / 32), n % 32)
    | 0x08 => some (Reg.DMA_CH_CTRL n, 1)
    | 0x0E => some (Reg.QDL_ROLE, 4)
    | 0x10 => some (Reg.ADCX_CH_CTRL n, 1)
    | 0x11 => some (Reg.ADCI_CH_CTRL n, 1)
    | 0x12 => some (Reg.CMP_CTRL n, 1)
    | 0x1A => some (Reg.GD_LEG_CTRL n, 1)
    | 0x24 => some (Reg.HSW_CTRL n, 1)
    | _ => none

/-- A write of `val` to the register of a unit's QUAR field, the field being `q`; nothing where there is no such unit. -/
def State.unitQuarWrite (s : State) (who : Who) (p n : Nat) (q : Bool) (val : Word) : State :=
  match unitField p n with
  | some (a, b) => s.accessWrite who a (wputBit val b q)
  | none => s

/-- A host clear (R50): of one unit, or of the page by PG_CTRL bit 2. -/
def State.hostClear (s : State) (who : Who) (p : Nat) (unit : Option Nat) (val : Word) : State :=
  match unit with
  | some n => s.unitQuarWrite who p n false val
  | none => s.accessWrite who (pgCtrl p) (wputBit (wputBit val 1 false) 2 false)

/-- The qualification window of unit `n` of page `p` ends without a pass (R49). -/
def State.windowEndOf (s : State) (p n : Nat) : State :=
  if pageUnits p ≤ n then s
  else match p with
    | 0x05 => s.ctxWindowFail n
    | 0x08 => s.dmaWindowFail n
    | 0x0E => s.qdlWindowEnd
    | 0x10 => s.adcWindowFail n
    | 0x11 => s.adcWindowFail (8 + n)
    | 0x12 => s.cmpWindowFail n
    | 0x1A => s.legWindowFail n
    | 0x24 => s.hswWindowFail n
    | _ => s

/-! ### Converter outputs and comparator inputs -/

/-- A C-path output of channel `ch` with all that takes it: the register, the step sample it is, SPEC's fixes, an ISO_TEST. -/
def State.cDeliver (s : State) (ch : Nat) (x : Stream) : State :=
  if !s.adcOn ch then s
  else
    let (t, m) := s.cOutput ch x
    let t := match m with
      | some m => t.stepSample ch m.tick ((t.adcCh ch).nextOut - t.cPeriod ch) (t.latestC ch)
      | none => t
    t.isoSample ch

/-- An M-path sample of channel `ch` with all that takes it: the register, the Sextant, a WAVE_CAPTURE. -/
def State.mDeliver (s : State) (ch : Nat) (dens : Int) : State :=
  if !(s.adcOn ch && s.adcMen ch) then s
  else (s.mArrive ch dens).waveSample ch (s.adcCh ch).nextI

/-- The comparators' fast lanes that the input of comparator `n` can move: its own, and its window's. -/
def State.fastPair (s : State) (n : Nat) : State :=
  if s.cmpLead n = n then s.fastLane n else (s.fastLane n).fastLane (s.cmpLead n)

/-- The input of comparator `n` moves to `uV` microvolts: what the fast lane passes on, ahead of the synchroniser (R246). -/
def State.fastStep (s : State) (n uV : Nat) : State := ((s.cmpSetInput n uV).cmpRawPair n).fastPair n

/-- The same with the synchronised outputs and their occurrences (R237). -/
def State.cmpInputStep (s : State) (n uV : Nat) : State := (s.fastStep n uV).cmpEval n

/-! ### The controlled trip (R164) -/

/-- CONTROLLED_TRIP_SHUTDOWN: at TB0's ZERO point after the request. -/
def State.specShutdown (s : State) : State :=
  if s.spec.tripPend && s.pwm.tb0.run && decide (s.pwm.tb0.zero = ((s.fine : Nat) : Int)) then
    ({ s with spec := { s.spec with tripPend := false } }).shutdown 5
  else s

/-! ### From outside, and by the clock -/

/-- MUSTER_END is reached, SYS_MUSTER_END milliseconds after reset release (R463). -/
def State.musterTimeout (s : State) : State :=
  if s.pwr.inReset || !s.pwr.muster then s
  else (s.elapseTo (s.pwr.released + ticksPerMs * wbits (s.reg Reg.SYS_MUSTER_END) 0 11)).musterEnd

/-- A read of `n` bytes in the NVM read window (R479): `ecc` is what the code finds, 0 nothing, 1 an error it corrects, 2 one it
does not. -/
def State.nvmWindowRead (s : State) (who : Who) (a n ecc : Nat) : State :=
  let t := s.accessRead who a n
  if !inNvm a || t.lastStatus ≠ .ok || ecc = 0 then t
  else if ecc = 1 then t.inc F.NVM_ECCCNT_CORR
  else
    let t := (({ t with lastRead := 0#32 }).inc F.NVM_ECCCNT_UNCORR).put F.NVM_ERRADDR_NVM (nvmOff a)
    (t.note Pg.NVM 1).logRec 0x2811 0#32 0#32

/-- The board moves GPIO0, GPIO1 or GPIO2 to a level (R495). -/
def State.gpioPin (s : State) (k : Nat) (level : Bool) : State :=
  let bit : BitVec 3 := 1#3 <<< k
  { s with pins := { s.pins with gpio := if level then s.pins.gpio ||| bit else s.pins.gpio &&& ~~~bit } }

/-- A TAP instruction is loaded; where cells follow, the boundary register is captured and loaded (R512). -/
def State.tapRun (s : State) (ir : BitVec 4) (cells : Option (List Bool)) : State :=
  match cells with
  | some c => (s.tapLoad ir).tapScan c
  | none => s.tapLoad ir

end Sys2Proof.Machine
end

