-- ==== Sys2Proof/Machine/RowAdc.lean ====
section
/-! DEFINITION. The meanings of the rows of the converters and the comparators (spec/05, spec/11). Each row is the effect of
its rule, and then what that leaves to happen by itself (State.settle). -/

namespace Sys2Proof.Machine

/-- ADC_C_OUTPUT (R106). -/
def execAdcCOutput (ch : Fin 18) (x : Stream) (s : State) : Host.Outcome State Fault Refusal :=
  .next (s.cDeliver ch x).settle

/-- ADC_M_SAMPLE (R111). -/
def execAdcMSample (ch : Fin 18) (whole : Int) (part : Fin 1099511627776) (s : State) : Host.Outcome State Fault Refusal :=
  .next (s.mDeliver ch (whole * 1099511627776 + part.val)).settle

/-- ADC_SWTRIG (R107). -/
def execAdcSwtrig (who : Who) (isolated : Bool) (g : Fin 4) (val : Word) (s : State) : Host.Outcome State Fault Refusal :=
  .next (s.accessWrite who (if isolated then Reg.ADCI_TRIG g else Reg.ADCX_TRIG g) (wputBit val 31 true)).settle

/-- ADC_RESULT_READ (R113). -/
def execAdcResultRead (who : Who) (addr : Nat) (s : State) : Host.Outcome State Fault Refusal :=
  .next (s.accessRead who addr 4).settle

/-- ADC_STUCK (R105). -/
def execAdcStuck (ch : Fin 18) (s : State) : Host.Outcome State Fault Refusal := .next (s.adcLost ch 5).settle

/-- ADC_CLKLOSS (R105). -/
def execAdcClkloss (ch : Fin 18) (s : State) : Host.Outcome State Fault Refusal := .next (s.adcClkLoss ch).settle

/-- ADC_STUCK_CLEAR (R105). -/
def execAdcStuckClear (r : Resumed) (s : State) : Host.Outcome State Fault Refusal :=
  .next (s.adcStuckClear r.ch r.stuck r.clk).settle

/-- ADC_REF_READY (R102). -/
def execAdcRefReady (s : State) : Host.Outcome State Fault Refusal := .next s.adcRefReady.settle

/-- ADC_CH_CTRL_WRITE (R116). -/
def execAdcChCtrlWrite (who : Who) (ch : Fin 18) (val : Word) (s : State) : Host.Outcome State Fault Refusal :=
  .next (s.accessWrite who (adcCtrl ch) val).settle

/-- ADCX_CLK_CFG_WRITE (R116). -/
def execAdcxClkCfgWrite (who : Who) (val : Word) (s : State) : Host.Outcome State Fault Refusal :=
  .next (s.accessWrite who Reg.ADCX_CLK_CFG val).settle

/-- CHANNEL_OVERLOAD (R104). -/
def execChannelOverload (ch : Fin 18) (ones : Nat) (s : State) : Host.Outcome State Fault Refusal :=
  .next (s.adcOverload ch ones).settle

/-- CMP_OCCURRENCE (R237). -/
def execCmpOccurrence (n : Fin 16) (uV : Nat) (s : State) : Host.Outcome State Fault Refusal :=
  .next (s.cmpInputStep n uV).settle

/-- FAST_LANE_ASSERT (R246). -/
def execFastLaneAssert (n : Fin 16) (uV : Nat) (s : State) : Host.Outcome State Fault Refusal :=
  .next (s.fastStep n uV).settle

/-- CMP_QUALIFY (R241). -/
def execCmpQualify (n : Fin 16) (s : State) : Host.Outcome State Fault Refusal := .next (s.cmpQualify n).settle

/-- CMP_CTRL_WRITE (R241). -/
def execCmpCtrlWrite (who : Who) (n : Fin 16) (val : Word) (s : State) : Host.Outcome State Fault Refusal :=
  .next (s.accessWrite who (Reg.CMP_CTRL n) val).settle

/-- ROUTER_OUTPUT_PULSE_END (R248). -/
def execRouterOutputPulseEnd (out : Fin 4) (s : State) : Host.Outcome State Fault Refusal :=
  .next (s.outputPulseEnd out).settle

/-- EVR_SWEVT (R249). -/
def execEvrSwevt (who : Who) (val : Word) (s : State) : Host.Outcome State Fault Refusal :=
  .next (s.accessWrite who Reg.EVR_SWEVT val).settle

end Sys2Proof.Machine
end

