-- ==== Sys2Proof/Machine/RowCmd.lean ====
section
/-! DEFINITION. The meanings of the rows of interrupts, contexts and commands (spec/18, spec/19). Each row is the effect of
its rule, and then what that leaves to happen by itself (State.settle). -/

namespace Sys2Proof.Machine

/-- IRQC_DOORBELL (R385). -/
def execIrqcDoorbell (who : Who) (val : Word) (s : State) : Host.Outcome State Fault Refusal :=
  .next (s.accessWrite who Reg.IRQC_DOORBELL val).settle

/-- IRQC_PEND_SET (R386). -/
def execIrqcPendSet (who : Who) (k : Fin 4) (val : Word) (s : State) : Host.Outcome State Fault Refusal :=
  .next (s.accessWrite who (Reg.IRQC_PEND_SET k) val).settle

/-- IRQC_PEND_CLEAR (R387). -/
def execIrqcPendClear (who : Who) (k : Fin 4) (val : Word) (s : State) : Host.Outcome State Fault Refusal :=
  .next (s.accessWrite who (Reg.IRQC_PEND k) val).settle

/-- IRQ_PACKET_SEND (R393). -/
def execIrqPacketSend (s : State) : Host.Outcome State Fault Refusal := .next s.irqPacket.settle

/-- SQ_TAIL_DOORBELL (R401). -/
def execSqTailDoorbell (who : Who) (ctx : Fin 256) (val : Word) (s : State) : Host.Outcome State Fault Refusal :=
  .next (s.accessWrite who (ctxA ctx 0x08) val).settle

/-- CONTEXT_CONFIG_WRITE (R399). -/
def execContextConfigWrite (who : Who) (ctx : Fin 256) (offset : Fin 64) (val : Word)
    (s : State) : Host.Outcome State Fault Refusal :=
  .next (s.accessWrite who (ctxA ctx offset) val).settle

/-- CQ_HEAD_WRITE (R402). -/
def execCqHeadWrite (who : Who) (ctx : Fin 256) (val : Word) (s : State) : Host.Outcome State Fault Refusal :=
  .next (s.accessWrite who (ctxA ctx 0x18) val).settle

/-- CMD_FETCH (R404). -/
def execCmdFetch (s : State) : Host.Outcome State Fault Refusal := .next s.cmdFetch.settle

/-- CMD_SLICE (R406). -/
def execCmdSlice (s : State) : Host.Outcome State Fault Refusal := .next s.cmdSlice.settle

/-- CMD_DEADLINE (R408). -/
def execCmdDeadline (s : State) : Host.Outcome State Fault Refusal := .next s.cmdDeadline.settle

/-- CTX_QUALIFY (R419). -/
def execCtxQualify (ctx : Fin 256) (s : State) : Host.Outcome State Fault Refusal := .next (s.ctxQualify ctx).settle

/-- ABORT (R409). -/
def execAbort (s : State) : Host.Outcome State Fault Refusal := .next (s.sliceOf 0x7F).settle

/-- READ_BLOCK (R410). -/
def execReadBlock (s : State) : Host.Outcome State Fault Refusal := .next (s.sliceOf 0x01).settle

/-- WRITE_BLOCK (R410). -/
def execWriteBlock (s : State) : Host.Outcome State Fault Refusal := .next (s.sliceOf 0x02).settle

/-- ATOMIC_RMW (R410). -/
def execAtomicRmw (s : State) : Host.Outcome State Fault Refusal := .next (s.sliceOf 0x03).settle

/-- NVM_WRITE (R410). -/
def execNvmWrite (s : State) : Host.Outcome State Fault Refusal := .next (s.sliceOf 0x10).settle

/-- NVM_ERASE (R410). -/
def execNvmErase (s : State) : Host.Outcome State Fault Refusal := .next (s.sliceOf 0x11).settle

/-- NVM_VERIFY (R410). -/
def execNvmVerify (s : State) : Host.Outcome State Fault Refusal := .next (s.sliceOf 0x14).settle

/-- CONFIG_COMMIT (R484). -/
def execConfigCommit (s : State) : Host.Outcome State Fault Refusal := .next (s.sliceOf 0x12).settle

/-- CONFIG_LOAD (R486). -/
def execConfigLoad (s : State) : Host.Outcome State Fault Refusal := .next (s.sliceOf 0x13).settle

/-- ISO_TEST (R412). -/
def execIsoTest (s : State) : Host.Outcome State Fault Refusal := .next (s.sliceOf 0x23).settle

/-- ISO_TEST_SETTLE (R412). -/
def execIsoTestSettle (s : State) : Host.Outcome State Fault Refusal := .next s.isoSettled.settle

/-- SELF_TEST (R413). -/
def execSelfTest (s : State) : Host.Outcome State Fault Refusal := .next (s.sliceOf 0x25).settle

/-- ARM (R414). -/
def execArm (s : State) : Host.Outcome State Fault Refusal := .next (s.sliceOf 0x50).settle

/-- ARM_COMPLETE (R414). -/
def execArmComplete (s : State) : Host.Outcome State Fault Refusal := .next s.armComplete.settle

/-- DISARM (R414). -/
def execDisarm (s : State) : Host.Outcome State Fault Refusal := .next (s.sliceOf 0x51).settle

/-- IDENT_REPORT (R410). -/
def execIdentReport (s : State) : Host.Outcome State Fault Refusal := .next (s.sliceOf 0x60).settle

/-- LOG_READ (R544). -/
def execLogRead (s : State) : Host.Outcome State Fault Refusal := .next (s.sliceOf 0x40).settle

end Sys2Proof.Machine
end

