-- ==== Sys2Proof/Machine/RowCtl.lean ====
section
/-! DEFINITION. The meanings of the rows of the control engine and of SPEC (spec/06, spec/07). Each row is the effect of its
rule, and then what that leaves to happen by itself (State.settle). -/

namespace Sys2Proof.Machine

/-- CTL_SWTRIG (R124). -/
def execCtlSwtrig (who : Who) (input : Fin 4) (val : Word) (s : State) : Host.Outcome State Fault Refusal :=
  .next (s.accessWrite who Reg.CTL_CFG (wputBit val (8 + input) true)).settle

/-- CTL_STEP_START (R124). -/
def execCtlStepStart (s : State) : Host.Outcome State Fault Refusal := .next s.stepStartCtl.settle

/-- CTL_FETCH (R128). -/
def execCtlFetch (s : State) : Host.Outcome State Fault Refusal := .next (s.entryIf 0x01).settle

/-- CTL_SLOT (R130). -/
def execCtlSlot (s : State) : Host.Outcome State Fault Refusal := .next (s.entryIf 0x02).settle

/-- CTL_XFORM (R134). -/
def execCtlXform (s : State) : Host.Outcome State Fault Refusal := .next (s.entryIf 0x03).settle

/-- CTL_MODU (R135). -/
def execCtlModu (s : State) : Host.Outcome State Fault Refusal := .next (s.entryIf 0x04).settle

/-- CTL_PWMW (R137). -/
def execCtlPwmw (s : State) : Host.Outcome State Fault Refusal := .next (s.entryIf 0x05).settle

/-- CTL_LOAD (R137). -/
def execCtlLoad (s : State) : Host.Outcome State Fault Refusal := .next (s.entryIf 0x06).settle

/-- CTL_RATE (R136). -/
def execCtlRate (s : State) : Host.Outcome State Fault Refusal := .next (s.entryIf 0x07).settle

/-- CTL_RAMP (R136). -/
def execCtlRamp (s : State) : Host.Outcome State Fault Refusal := .next (s.entryIf 0x08).settle

/-- CTL_MOV (R127). -/
def execCtlMov (s : State) : Host.Outcome State Fault Refusal := .next (s.entryIf 0x09).settle

/-- CTL_ADD (R127). -/
def execCtlAdd (s : State) : Host.Outcome State Fault Refusal := .next (s.entryIf 0x0A).settle

/-- CTL_SUB (R127). -/
def execCtlSub (s : State) : Host.Outcome State Fault Refusal := .next (s.entryIf 0x0B).settle

/-- CTL_MUL (R127). -/
def execCtlMul (s : State) : Host.Outcome State Fault Refusal := .next (s.entryIf 0x0C).settle

/-- CTL_FMA (R127). -/
def execCtlFma (s : State) : Host.Outcome State Fault Refusal := .next (s.entryIf 0x0D).settle

/-- CTL_CLAMP (R127). -/
def execCtlClamp (s : State) : Host.Outcome State Fault Refusal := .next (s.entryIf 0x0E).settle

/-- CTL_KONST (R127). -/
def execCtlKonst (s : State) : Host.Outcome State Fault Refusal := .next (s.entryIf 0x0F).settle

/-- CTL_END (R125). -/
def execCtlEnd (s : State) : Host.Outcome State Fault Refusal := .next (s.entryIf 0x00).settle

/-- CTL_ILLEGAL_ENTRY (R125). -/
def execCtlIllegalEntry (s : State) : Host.Outcome State Fault Refusal := .next s.entryIllegal.settle

/-- CTL_FETCH_RESUME (R128). -/
def execCtlFetchResume (s : State) : Host.Outcome State Fault Refusal := .next s.fetchResume.settle

/-- CTL_FIX_TIMEOUT (R129). -/
def execCtlFixTimeout (s : State) : Host.Outcome State Fault Refusal := .next s.fixTimeout.settle

/-- CTL_RECOMPUTE (R140). -/
def execCtlRecompute (s : State) : Host.Outcome State Fault Refusal := .next (s.redoStart .recompute).settle

/-- CTL_REPLAY (R140). -/
def execCtlReplay (s : State) : Host.Outcome State Fault Refusal := .next (s.redoStart .replay).settle

/-- STEP_WITHDRAW (R151). -/
def execStepWithdraw (s : State) : Host.Outcome State Fault Refusal := .next s.stepWithdraw.settle

/-- BEARTUNE_PLACE (R133). -/
def execBeartunePlace (s : State) : Host.Outcome State Fault Refusal := .next s.beartunePlace.settle

/-- CTL_BEARTUNE_SET (R133). -/
def execCtlBeartuneSet (who : Who) (slot : Fin 32) (val : Word) (s : State) : Host.Outcome State Fault Refusal :=
  .next (s.accessWrite who (Reg.CTL_SLOT_CFG slot) (wputBit val 1 true)).settle

/-- CTL_SCLR (R131). -/
def execCtlSclr (who : Who) (slot : Fin 32) (val : Word) (s : State) : Host.Outcome State Fault Refusal :=
  .next (s.accessWrite who (Reg.CTL_SLOT_CFG slot) (wputBit val 4 true)).settle

/-- CTL_LATMAX_CLR (R144). -/
def execCtlLatmaxClr (who : Who) (val : Word) (s : State) : Host.Outcome State Fault Refusal :=
  .next (s.accessWrite who Reg.CTL_LATMAX (wputBit val 31 true)).settle

/-- SPEC_FIX_DEADLINE (R151). -/
def execSpecFixDeadline (s : State) : Host.Outcome State Fault Refusal := .next s.fixDeadline.settle

/-- CONTROLLED_TRIP_SHUTDOWN (R164). -/
def execControlledTripShutdown (s : State) : Host.Outcome State Fault Refusal := .next s.specShutdown.settle

/-- SUBST_END (R163). -/
def execSubstEnd (who : Who) (channels : BitVec 8) (s : State) : Host.Outcome State Fault Refusal :=
  .next (s.accessWrite who Reg.SPEC_SUBST (channels.setWidth 32)).settle

/-- FIXLOST_RELEASE (R152). -/
def execFixlostRelease (who : Who) (channels : BitVec 8) (s : State) : Host.Outcome State Fault Refusal :=
  .next (s.accessWrite who Reg.SPEC_SUBST (channels.setWidth 32 <<< 8)).settle

/-- SPEC_TRIP_CLEAR (R164). -/
def execSpecTripClear (who : Who) (s : State) : Host.Outcome State Fault Refusal :=
  .next (s.accessWrite who Reg.SPEC_SUBST 0x08000000#32).settle

/-- SPEC_BAND_WRITE (R148). -/
def execSpecBandWrite (who : Who) (n : Fin 8) (val : Word) (s : State) : Host.Outcome State Fault Refusal :=
  .next (s.accessWrite who (Reg.SPEC_BAND n) val).settle

/-- DR_CALIBRATE (R165). -/
def execDrCalibrate (s : State) : Host.Outcome State Fault Refusal := .next (s.sliceOf 0x26).settle

end Sys2Proof.Machine
end

