-- ==== Sys2Proof/Machine/RowDma.lean ====
section
/-! DEFINITION. The meanings of the rows of the Reels (spec/17): a channel executes one instruction a row. Each row is the
effect of its rule, and then what that leaves to happen by itself (State.settle). -/

namespace Sys2Proof.Machine

/-- GO (R358). -/
def execGo (who : Who) (ch : Fin 16) (val : Word) (s : State) : Host.Outcome State Fault Refusal :=
  .next (s.accessWrite who (Reg.DMA_CH_CTRL ch) (wputBit val 2 true)).settle

/-- CONT (R358). -/
def execCont (who : Who) (ch : Fin 16) (val : Word) (s : State) : Host.Outcome State Fault Refusal :=
  .next (s.accessWrite who (Reg.DMA_CH_CTRL ch) (wputBit val 6 true)).settle

/-- STOP (R359). -/
def execStop (who : Who) (ch : Fin 16) (val : Word) (s : State) : Host.Outcome State Fault Refusal :=
  .next (s.accessWrite who (Reg.DMA_CH_CTRL ch) (wputBit val 3 true)).settle

/-- DMA_STOP_DONE (R359). -/
def execDmaStopDone (ch : Fin 16) (s : State) : Host.Outcome State Fault Refusal := .next (s.dmaStopDone ch).settle

/-- RING (R367). -/
def execRing (who : Who) (ch : Fin 16) (val : Word) (s : State) : Host.Outcome State Fault Refusal :=
  .next (s.accessWrite who (Reg.DMA_CH_CTRL ch) (wputBit val 4 true)).settle

/-- NOP (R360). -/
def execNop (ch : Fin 16) (s : State) : Host.Outcome State Fault Refusal := .next (s.reelDo ch .nop State.reelNop).settle

/-- MOVE_WORD (R364). -/
def execMoveWord (ch : Fin 16) (s : State) : Host.Outcome State Fault Refusal :=
  .next (s.reelDo ch .moveWord State.reelMove).settle

/-- MOVE_ROUND (R364). -/
def execMoveRound (ch : Fin 16) (s : State) : Host.Outcome State Fault Refusal :=
  .next (s.reelDo ch .moveRound State.reelMove).settle

/-- MOVE_FUNNEL (R364). -/
def execMoveFunnel (ch : Fin 16) (s : State) : Host.Outcome State Fault Refusal :=
  .next (s.reelDo ch .moveFunnel State.reelMove).settle

/-- LOOP (R362). -/
def execLoop (ch : Fin 16) (s : State) : Host.Outcome State Fault Refusal := .next (s.reelDo ch .loop State.reelLoop).settle

/-- WAIT (R366). -/
def execWait (ch : Fin 16) (s : State) : Host.Outcome State Fault Refusal := .next (s.reelDo ch .wait State.reelWait).settle

/-- WAIT_PASS (R366). -/
def execWaitPass (ch : Fin 16) (s : State) : Host.Outcome State Fault Refusal := .next (s.reelWaitPass ch).settle

/-- WAIT_TIMEOUT (R368). -/
def execWaitTimeout (ch : Fin 16) (s : State) : Host.Outcome State Fault Refusal := .next (s.reelWaitTimeout ch).settle

/-- SIGNAL_EVENT (R370). -/
def execSignalEvent (ch : Fin 16) (s : State) : Host.Outcome State Fault Refusal :=
  .next (s.reelDo ch .sigEvent State.reelSigEvent).settle

/-- SIGNAL_IRQ (R370). -/
def execSignalIrq (ch : Fin 16) (s : State) : Host.Outcome State Fault Refusal :=
  .next (s.reelDo ch .sigIrq State.reelSigIrq).settle

/-- SIGNAL_CONTEXT (R370). -/
def execSignalContext (ch : Fin 16) (s : State) : Host.Outcome State Fault Refusal :=
  .next (s.reelDo ch .sigContext State.reelSigContext).settle

/-- SIGNAL_CHANNEL (R370). -/
def execSignalChannel (ch : Fin 16) (s : State) : Host.Outcome State Fault Refusal :=
  .next (s.reelDo ch .sigChannel State.reelSigChannel).settle

/-- SETPTR_SET (R363). -/
def execSetptrSet (ch : Fin 16) (s : State) : Host.Outcome State Fault Refusal :=
  .next (s.reelDo ch .ptrSet State.reelPtrSet).settle

/-- SETPTR_ADD (R363). -/
def execSetptrAdd (ch : Fin 16) (s : State) : Host.Outcome State Fault Refusal :=
  .next (s.reelDo ch .ptrAdd State.reelPtrAdd).settle

/-- SETPTR_LOAD (R363). -/
def execSetptrLoad (ch : Fin 16) (s : State) : Host.Outcome State Fault Refusal :=
  .next (s.reelDo ch .ptrLoad State.reelPtrLoad).settle

/-- SETPTR_COPY (R363). -/
def execSetptrCopy (ch : Fin 16) (s : State) : Host.Outcome State Fault Refusal :=
  .next (s.reelDo ch .ptrCopy State.reelPtrCopy).settle

/-- WRITE (R363). -/
def execWrite (ch : Fin 16) (s : State) : Host.Outcome State Fault Refusal :=
  .next (s.reelDo ch .write State.reelWrite).settle

/-- DMA_END (R363). -/
def execDmaEnd (ch : Fin 16) (s : State) : Host.Outcome State Fault Refusal :=
  .next (s.reelDo ch .endOp State.reelEnd).settle

/-- DMA_ILLEGAL (R360). -/
def execDmaIllegal (ch : Fin 16) (s : State) : Host.Outcome State Fault Refusal :=
  .next (s.reelDo ch .illegal State.reelIllegal).settle

/-- DMA_RESUME (R374). -/
def execDmaResume (ch : Fin 16) (s : State) : Host.Outcome State Fault Refusal := .next (s.reelResume ch).settle

end Sys2Proof.Machine
end

