-- ==== Sys2Proof/Machine/RowHost.lean ====
section
/-! DEFINITION. The meanings of the rows of the host ports (spec/20): SPI, link, sideband. Each row is the effect of its
rule, and then what that leaves to happen by itself (State.settle). -/

namespace Sys2Proof.Machine

/-- GEN_A_FRAME (R426). -/
def execGenAFrame (bytes : List Byte) (early : Bool) (s : State) : Host.Outcome State Fault Refusal :=
  .next (if s.spiKind bytes = .genA then s.genA bytes early else s).settle

/-- GEN_B_FRAME (R429). -/
def execGenBFrame (bytes : List Byte) (tail : Nat) (s : State) : Host.Outcome State Fault Refusal :=
  .next (if s.spiKind bytes = .genB then s.genB bytes tail else s).settle

/-- SPI_IGNORED_FRAME (R425). -/
def execSpiIgnoredFrame (bytes : List Byte) (s : State) : Host.Outcome State Fault Refusal :=
  .next (if s.spiKind bytes = .ignored then s.spiIgnored else s).settle

/-- SPI_RESERVED_FRAME (R425). -/
def execSpiReservedFrame (bytes : List Byte) (s : State) : Host.Outcome State Fault Refusal :=
  .next (if s.spiKind bytes = .reserved then s.spiReserved (bytes.length - 1) else s).settle

/-- LNK_READ (R440). -/
def execLnkRead (bytes : List Byte) (s : State) : Host.Outcome State Fault Refusal := .next (s.lnkTyped 1 bytes).settle

/-- LNK_WRITE (R440). -/
def execLnkWrite (bytes : List Byte) (s : State) : Host.Outcome State Fault Refusal := .next (s.lnkTyped 2 bytes).settle

/-- LNK_CMD (R440). -/
def execLnkCmd (bytes : List Byte) (s : State) : Host.Outcome State Fault Refusal := .next (s.lnkTyped 3 bytes).settle

/-- LNK_PING (R439). -/
def execLnkPing (bytes : List Byte) (s : State) : Host.Outcome State Fault Refusal := .next (s.lnkTyped 7 bytes).settle

/-- LNK_CREDIT (R438). -/
def execLnkCredit (bytes : List Byte) (s : State) : Host.Outcome State Fault Refusal := .next (s.lnkTyped 6 bytes).settle

/-- LNK_REPLY_SEND (R438). -/
def execLnkReplySend (s : State) : Host.Outcome State Fault Refusal := .next s.lnkReplySend.settle

/-- CREDIT_PACKET_SEND (R438). -/
def execCreditPacketSend (s : State) : Host.Outcome State Fault Refusal := .next s.creditPacket.settle

/-- LNK_ALIGNED (R434). -/
def execLnkAligned (s : State) : Host.Outcome State Fault Refusal := .next s.lnkAligned.settle

/-- LNK_TRAIN_PING (R434). -/
def execLnkTrainPing (s : State) : Host.Outcome State Fault Refusal := .next s.lnkTrainPing.settle

/-- LNK_DOWN (R435). -/
def execLnkDown (invalid : Nat) (aligned : Bool) (s : State) : Host.Outcome State Fault Refusal :=
  .next (s.lnkDown invalid aligned).settle

/-- LNK_DOWN_END (R434). -/
def execLnkDownEnd (s : State) : Host.Outcome State Fault Refusal := .next s.lnkDownEnd.settle

/-- LNK_KEEPALIVE (R435). -/
def execLnkKeepalive (s : State) : Host.Outcome State Fault Refusal := .next s.lnkKeepalive.settle

/-- LNK_ACK_TIMEOUT (R435). -/
def execLnkAckTimeout (s : State) : Host.Outcome State Fault Refusal := .next s.lnkAckTimeout.settle

/-- LNK_RATE_PROPOSE (R436). -/
def execLnkRatePropose (s : State) : Host.Outcome State Fault Refusal := .next s.lnkRatePropose.settle

/-- LNK_RATE_FAIL (R436). -/
def execLnkRateFail (s : State) : Host.Outcome State Fault Refusal := .next s.lnkRateFail.settle

/-- LNK_TRAINING_START (R434). -/
def execLnkTrainingStart (s : State) : Host.Outcome State Fault Refusal := .next s.lnkTrainingStart.settle

/-- LNK_RATE_SWITCH (R436). -/
def execLnkRateSwitch (s : State) : Host.Outcome State Fault Refusal := .next s.lnkRateSwitch.settle

/-- SB_ADDRESS_MATCH (R441). -/
def execSbAddressMatch (addr : BitVec 7) (read : Bool) (s : State) : Host.Outcome State Fault Refusal :=
  .next (s.sbMatch addr read).settle

/-- SB_WRITE (R443). -/
def execSbWrite (bytes : List Byte) (s : State) : Host.Outcome State Fault Refusal := .next (s.sbWrite bytes).settle

/-- SB_READ (R443). -/
def execSbRead (n : Nat) (s : State) : Host.Outcome State Fault Refusal := .next (s.sbRead n).settle

/-- SB_HOLD_RELEASE (R442). -/
def execSbHoldRelease (s : State) : Host.Outcome State Fault Refusal := .next s.sbRelease.settle

/-- SB_STOP (R444). -/
def execSbStop (s : State) : Host.Outcome State Fault Refusal := .next s.sbStop.settle

end Sys2Proof.Machine
end

