-- ==== Sys2Proof/Machine/RowMet.lean ====
section
/-! DEFINITION. The meanings of the rows of metering, the ledger and the field buses (spec/15, spec/16). Each row is the
effect of its rule, and then what that leaves to happen by itself (State.settle). -/

namespace Sys2Proof.Machine

/-- MET_CYCLE_CLOSE (R317). -/
def execMetCycleClose (s : State) : Host.Outcome State Fault Refusal := .next s.metCycleClose.settle

/-- HRM_WINDOW_PLACE (R325). -/
def execHrmWindowPlace (s : State) : Host.Outcome State Fault Refusal := .next s.hrmWindowPlace.settle

/-- ECLR (R321). -/
def execEclr (who : Who) (val : Word) (s : State) : Host.Outcome State Fault Refusal :=
  .next (s.accessWrite who Reg.MET_CFG (wputBit val 28 true)).settle

/-- METER_ANGLE_TURN (R330). -/
def execMeterAngleTurn (s : State) : Host.Outcome State Fault Refusal := .next s.meterTurn.settle

/-- HARM_SURVEY (R411). -/
def execHarmSurvey (s : State) : Host.Outcome State Fault Refusal := .next (s.sliceOf 0x20).settle

/-- WAVE_CAPTURE (R411). -/
def execWaveCapture (s : State) : Host.Outcome State Fault Refusal := .next (s.sliceOf 0x21).settle

/-- UART_TRANSACTION_START (R335). -/
def execUartTransactionStart (uart : Fin 2) (s : State) : Host.Outcome State Fault Refusal :=
  .next (if uart = 0 then s.u1Start else s.u2Start).settle

/-- UART_RESPONSE (R337). -/
def execUartResponse (uart : Fin 2) (bytes : List Byte) (delay : Nat) (bad : Bool)
    (s : State) : Host.Outcome State Fault Refusal :=
  .next (if uart = 0 then s.u1Response bytes delay bad else s.u2Response bytes delay bad).settle

/-- UART_RESPONSE_TIMEOUT (R337). -/
def execUartResponseTimeout (uart : Fin 2) (s : State) : Host.Outcome State Fault Refusal :=
  .next (if uart = 0 then s.u1Timeout else s.u2Timeout).settle

/-- LEDGER_POLL (R342). -/
def execLedgerPoll (s : State) : Host.Outcome State Fault Refusal := .next (s.sliceOf 0x31).settle

/-- AUTOSWEEP_TIMER (R342). -/
def execAutosweepTimer (s : State) : Host.Outcome State Fault Refusal := .next s.autoSweep.settle

/-- LEDGER_CLOSE (R344). -/
def execLedgerClose (s : State) : Host.Outcome State Fault Refusal := .next (s.sliceOf 0x30).settle

/-- LEDGER_INTERVAL_CLOSE (R344). -/
def execLedgerIntervalClose (s : State) : Host.Outcome State Fault Refusal := .next s.intervalClose.settle

/-- SHED (R346). -/
def execShed (s : State) : Host.Outcome State Fault Refusal := .next (s.sliceOf 0x32).settle

/-- RESTORE (R346). -/
def execRestore (s : State) : Host.Outcome State Fault Refusal := .next (s.sliceOf 0x33).settle

/-- SHED_HOLD_EXPIRY (R347). -/
def execShedHoldExpiry (s : State) : Host.Outcome State Fault Refusal := .next s.holdExpired.settle

/-- TENANT_SLOT_WRITE (R340). -/
def execTenantSlotWrite (who : Who) (slot : Fin 256) (val : Word) (s : State) : Host.Outcome State Fault Refusal :=
  .next (s.accessWrite who (slotA slot 0) val).settle

/-- PLANT_BUS_UPDATE_START (R349). -/
def execPlantBusUpdateStart (s : State) : Host.Outcome State Fault Refusal := .next s.plantStart.settle

/-- PLANT_BUS_UPDATE (R349). -/
def execPlantBusUpdate (s : State) : Host.Outcome State Fault Refusal := .next s.plantEnd.settle

end Sys2Proof.Machine
end

