-- ==== Sys2Proof/Machine/RowMode.lean ====
section
/-! DEFINITION. The meanings of the rows of MODE and the trackers (spec/08). Each row is the effect of its rule, and then
what that leaves to happen by itself (State.settle). -/

namespace Sys2Proof.Machine

/-- MODE_UPDATE_END (R170). -/
def execModeUpdateEnd (s : State) : Host.Outcome State Fault Refusal := .next s.modeUpdateEnd.settle

/-- MODE_REQ_WRITE (R172). -/
def execModeReqWrite (who : Who) (val : Word) (s : State) : Host.Outcome State Fault Refusal :=
  .next (s.accessWrite who Reg.MODE_REQ val).settle

/-- MODE_SET (R172). -/
def execModeSet (s : State) : Host.Outcome State Fault Refusal := .next (s.sliceOf 0x52).settle

/-- MPPT_PERIOD_END (R187). -/
def execMpptPeriodEnd (s : State) : Host.Outcome State Fault Refusal := .next s.mpptPeriodEnd.settle

/-- MPPT_SWEEP (R189). -/
def execMpptSweep (s : State) : Host.Outcome State Fault Refusal := .next (s.sliceOf 0x22).settle

/-- MPPT_SWEEP_TIMER (R189). -/
def execMpptSweepTimer (s : State) : Host.Outcome State Fault Refusal := .next s.sweepTimer.settle

end Sys2Proof.Machine
end

