-- ==== Sys2Proof/Machine/RowNav.lean ====
section
/-! DEFINITION. The meanings of the rows of the Compass, the Chart and the Quadrille (spec/03, spec/04). Each row is the
effect of its rule, and then what that leaves to happen by itself (State.settle). -/

namespace Sys2Proof.Machine

/-- CPS_UPDATE (R57). -/
def execCpsUpdate (s : State) : Host.Outcome State Fault Refusal := .next s.cpsUpdate.settle

/-- BEAR_CYCLE_INCREMENT (R55). -/
def execBearCycleIncrement (s : State) : Host.Outcome State Fault Refusal := .next s.bearCycle.settle

/-- BEARING_TICK (R56). -/
def execBearingTick (s : State) : Host.Outcome State Fault Refusal := .next s.nextBoundary.settle

/-- BLEND_END (R71). -/
def execBlendEnd (s : State) : Host.Outcome State Fault Refusal := .next s.blendEnd.settle

/-- WAYPOINT_FIRE (R77). -/
def execWaypointFire (n : Fin 64) (s : State) : Host.Outcome State Fault Refusal := .next (s.waypointFire n).settle

/-- CHT_WP_ANGLE_WRITE (R80). -/
def execChtWpAngleWrite (who : Who) (n : Fin 64) (val : Word) (s : State) : Host.Outcome State Fault Refusal :=
  .next (s.accessWrite who (Reg.CHT_WP_ANGLE n) val).settle

/-- CHT_WP_REP_WRITE (R80). -/
def execChtWpRepWrite (who : Who) (n : Fin 64) (val : Word) (s : State) : Host.Outcome State Fault Refusal :=
  .next (s.accessWrite who (Reg.CHT_WP_REP n) val).settle

/-- CNTCLR (R97). -/
def execCntclr (who : Who) (val : Word) (s : State) : Host.Outcome State Fault Refusal :=
  .next (s.accessWrite who Reg.CHT_CFG (wputBit val 0 true)).settle

/-- LEAD_FRAME_SEND (R87). -/
def execLeadFrameSend (other : Option (Fin 8)) (s : State) : Host.Outcome State Fault Refusal :=
  .next (s.leadFrameSend (other.map Fin.val)).settle

/-- LEAD_FRAME_RECEIVE (R87). -/
def execLeadFrameReceive (bytes : List Byte) (s : State) : Host.Outcome State Fault Refusal :=
  .next (s.leadFrameReceive bytes).settle

/-- FOLLOWER_FRAME_SEND (R87). -/
def execFollowerFrameSend (s : State) : Host.Outcome State Fault Refusal := .next s.followerFrameSend.settle

/-- FOLLOWER_FRAME_RECEIVE (R87). -/
def execFollowerFrameReceive (bytes : List Byte) (s : State) : Host.Outcome State Fault Refusal :=
  .next (s.followerFrameReceive bytes).settle

/-- BSYNC_EDGE (R89). -/
def execBsyncEdge (s : State) : Host.Outcome State Fault Refusal := .next s.bsyncEdge.settle

/-- ECHO_SEND (R88). -/
def execEchoSend (s : State) : Host.Outcome State Fault Refusal := .next s.echoSend.settle

/-- ECHO_RECEIVE (R88). -/
def execEchoReceive (m : Nat) (s : State) : Host.Outcome State Fault Refusal := .next (s.echoReceive m).settle

/-- ECHO_TIMEOUT (R88). -/
def execEchoTimeout (s : State) : Host.Outcome State Fault Refusal := .next s.echoTimeout.settle

/-- LEAD_MISSING (R94). -/
def execLeadMissing (s : State) : Host.Outcome State Fault Refusal := .next s.leadMissingAt.settle

/-- QDL_LISTEN_TIMEOUT (R90). -/
def execQdlListenTimeout (s : State) : Host.Outcome State Fault Refusal := .next s.listenTimeoutAt.settle

/-- CLAIM_LEAD (R90). -/
def execClaimLead (s : State) : Host.Outcome State Fault Refusal := .next s.claimLead.settle

/-- QDL_LEADLOST (R93). -/
def execQdlLeadlost (s : State) : Host.Outcome State Fault Refusal := .next s.leadLostAt.settle

end Sys2Proof.Machine
end

