-- ==== Sys2Proof/Machine/RowPage.lean ====
section
/-! DEFINITION. The meanings of the rows every page shares (spec/02): register writes, enables, soft reset, quarantine,
events. Each row is the effect of its rule, and then what that leaves to happen by itself (State.settle). -/

namespace Sys2Proof.Machine

/-- REGISTER_WRITE (R33). -/
def execRegisterWrite (who : Who) (addr : Nat) (val : Word) (s : State) : Host.Outcome State Fault Refusal :=
  .next (s.accessWrite who addr val).settle

/-- PAGE_ENABLE (R42). -/
def execPageEnable (who : Who) (page : Fin 64) (val : Word) (s : State) : Host.Outcome State Fault Refusal :=
  .next (s.accessWrite who (pgCtrl page) (wputBit val 1 false)).settle

/-- SOFT_RESET (R43). -/
def execSoftReset (who : Who) (page : Fin 64) (val : Word) (s : State) : Host.Outcome State Fault Refusal :=
  .next (s.accessWrite who (pgCtrl page) (wputBit val 1 true)).settle

/-- SOFT_RESET_DONE (R43). -/
def execSoftResetDone (page : Fin 64) (s : State) : Host.Outcome State Fault Refusal := .next (s.softResetDone page).settle

/-- UNIT_QUARANTINE (R47). -/
def execUnitQuarantine (who : Who) (page : Fin 64) (unit : Nat) (val : Word)
    (s : State) : Host.Outcome State Fault Refusal :=
  .next (s.unitQuarWrite who page unit true val).settle

/-- PAGE_QUARANTINE (R47). -/
def execPageQuarantine (who : Who) (page : Fin 64) (val : Word) (s : State) : Host.Outcome State Fault Refusal :=
  .next (s.accessWrite who (pgCtrl page) (wputBit (wputBit val 1 false) 2 true)).settle

/-- HOST_CLEAR (R50). -/
def execHostClear (who : Who) (page : Fin 64) (unit : Option Nat) (val : Word)
    (s : State) : Host.Outcome State Fault Refusal :=
  .next (s.hostClear who page unit val).settle

/-- EVENT_SET (R46). -/
def execEventSet (who : Who) (page : Fin 64) (val : Word) (s : State) : Host.Outcome State Fault Refusal :=
  .next (s.accessWrite who (pgEvtSet page) val).settle

/-- QUALIFICATION_WINDOW_END (R49). -/
def execQualificationWindowEnd (page : Fin 64) (unit : Nat) (s : State) : Host.Outcome State Fault Refusal :=
  .next (s.windowEndOf page unit).settle

end Sys2Proof.Machine
end

