-- ==== Sys2Proof/Machine/RowPower.lean ====
section
/-! DEFINITION. The meanings of the rows of PWM and Gate Drive (spec/09, spec/10). Each row is the effect of its rule, and then what
that leaves to happen by itself (State.settle). -/

namespace Sys2Proof.Machine

/-- TB0_PERIOD (R196). -/
def execTb0Period (s : State) : Host.Outcome State Fault Refusal := .next (s.periodPoint 0).settle

/-- TB1_ZERO (R202). -/
def execTb1Zero (s : State) : Host.Outcome State Fault Refusal := .next s.tb1ZeroPoint.settle

/-- TB1_PERIOD (R196). -/
def execTb1Period (s : State) : Host.Outcome State Fault Refusal := .next (s.periodPoint 1).settle

/-- PWM_COMPARE_EDGE (R197). -/
def execPwmCompareEdge (leg : Fin 7) (s : State) : Host.Outcome State Fault Refusal := .next (s.compareEdge leg).settle

/-- PWM_LOAD_ALL (R203). -/
def execPwmLoadAll (who : Who) (s : State) : Host.Outcome State Fault Refusal :=
  .next (s.accessWrite who Reg.PWM_LOAD 1#32).settle

/-- LATE_EDGE_FIRE (R207). -/
def execLateEdgeFire (leg : Fin 7) (s : State) : Host.Outcome State Fault Refusal := .next (s.lateEdge leg).settle

/-- REFRESH_END (R209). -/
def execRefreshEnd (leg : Fin 7) (s : State) : Host.Outcome State Fault Refusal := .next (s.refreshEnd leg).settle

/-- PWM_CFG_WRITE (R205). -/
def execPwmCfgWrite (who : Who) (val : Word) (s : State) : Host.Outcome State Fault Refusal :=
  .next (s.accessWrite who Reg.PWM_CFG val).settle

/-- FAULT_INPUT (R220). -/
def execFaultInput (input : Fin 6) (pin : PinLevel) (s : State) : Host.Outcome State Fault Refusal :=
  .next (s.faultInput input (!pin.level) pin.held).settle

/-- FAULT_HOLD_EXPIRY (R222). -/
def execFaultHoldExpiry (input : Fin 6) (s : State) : Host.Outcome State Fault Refusal := .next (s.holdExpiry input).settle

/-- SHUTDOWN_LOW_OFF (R224). -/
def execShutdownLowOff (s : State) : Host.Outcome State Fault Refusal := .next s.lowOff.settle

/-- SWSD (R224). -/
def execSwsd (who : Who) (val : Word) (s : State) : Host.Outcome State Fault Refusal :=
  .next (s.accessWrite who Reg.GD_CFG (wputBit val 25 true)).settle

/-- ESTOP (R226). -/
def execEstop (low : Bool) (s : State) : Host.Outcome State Fault Refusal := .next (s.estopPinEdge low).settle

/-- ESTOPCLR (R226). -/
def execEstopclr (who : Who) (val : Word) (s : State) : Host.Outcome State Fault Refusal :=
  .next (s.accessWrite who Reg.GD_CFG (wputBit val 24 true)).settle

/-- RELEASE (R227). -/
def execRelease (who : Who) (leg : Fin 7) (val : Word) (s : State) : Host.Outcome State Fault Refusal :=
  .next (s.accessWrite who (Reg.GD_LEG_CTRL leg) (wputBit val 2 true)).settle

/-- DEAD_TIME_END (R214). -/
def execDeadTimeEnd (leg : Fin 7) (s : State) : Host.Outcome State Fault Refusal := .next (s.deadEnd leg).settle

/-- GMIN_END (R216). -/
def execGminEnd (leg : Fin 7) (s : State) : Host.Outcome State Fault Refusal := .next (s.gminEnd leg).settle

/-- ELC_INPUT (R217). -/
def execElcInput (leg : Fin 3) (pin : PinLevel) (s : State) : Host.Outcome State Fault Refusal :=
  .next (s.elcInput leg pin.level pin.held).settle

/-- PRECHARGE_PULSE_END (R210). -/
def execPrechargePulseEnd (leg : Fin 7) (s : State) : Host.Outcome State Fault Refusal := .next (s.pulseEnd leg).settle

end Sys2Proof.Machine
end

