-- ==== Sys2Proof/Machine/RowProt.lean ====
section
/-! DEFINITION. The meanings of the rows of PROT, SAFE, RLY and the hot-swap controller (spec/12 to spec/14). Each row is
the effect of its rule, and then what that leaves to happen by itself (State.settle). -/

namespace Sys2Proof.Machine

/-- PROT_STAGE_EXPIRY (R259). -/
def execProtStageExpiry (s : State) : Host.Outcome State Fault Refusal := .next s.stagesExpire.settle

/-- PROT_FALLBACK_TICK (R260). -/
def execProtFallbackTick (s : State) : Host.Outcome State Fault Refusal := .next s.fallbackTick.settle

/-- FRT_EXIT (R271). -/
def execFrtExit (s : State) : Host.Outcome State Fault Refusal := .next s.frtExit.settle

/-- RECON_READY (R275). -/
def execReconReady (s : State) : Host.Outcome State Fault Refusal := .next s.reconReady.settle

/-- RECON_RAMP_END (R276). -/
def execReconRampEnd (s : State) : Host.Outcome State Fault Refusal := .next s.rampEnd.settle

/-- PROFILE_LOAD (R255). -/
def execProfileLoad (who : Who) (val : Word) (s : State) : Host.Outcome State Fault Refusal :=
  .next (s.accessWrite who Reg.PROT_PROFILE (wputBit val 2 true)).settle

/-- SAFETY_WRITE (R283). -/
def execSafetyWrite (who : Who) (addr : Nat) (val : Word) (s : State) : Host.Outcome State Fault Refusal :=
  .next (if (safetyGroup addr).isSome then s.accessWrite who addr val else s).settle

/-- UNLOCK (R287). -/
def execUnlock (who : Who) (s : State) : Host.Outcome State Fault Refusal :=
  .next (s.accessWrite who Reg.SAFE_UNLOCK 1#32).settle

/-- LOCK (R288). -/
def execLock (who : Who) (s : State) : Host.Outcome State Fault Refusal :=
  .next (s.accessWrite who Reg.SAFE_UNLOCK 2#32).settle

/-- UNLOCK_WINDOW_END (R288). -/
def execUnlockWindowEnd (s : State) : Host.Outcome State Fault Refusal := .next s.windowEnd.settle

/-- LOCKOUT_END (R288). -/
def execLockoutEnd (s : State) : Host.Outcome State Fault Refusal := .next s.lockoutEnd.settle

/-- NEWKEY (R289). -/
def execNewkey (who : Who) (s : State) : Host.Outcome State Fault Refusal :=
  .next (s.accessWrite who Reg.SAFE_UNLOCK 4#32).settle

/-- SEAL_SAMPLE (R284). -/
def execSealSample (ra rb : Nat) (s : State) : Host.Outcome State Fault Refusal := .next (s.sealSample ra rb).settle

/-- SAFE_CHANGE (R292). -/
def execSafeChange (s : State) : Host.Outcome State Fault Refusal := .next (s.sliceOf 0x42).settle

/-- LOG_ARCHIVE (R291). -/
def execLogArchive (s : State) : Host.Outcome State Fault Refusal := .next (s.sliceOf 0x41).settle

/-- RLY_FB_SAMPLE (R293). -/
def execRlyFbSample (l1 l2 : Fin 3) (s : State) : Host.Outcome State Fault Refusal := .next (s.fbSample l1 l2).settle

/-- CLOSE (R296). -/
def execClose (who : Who) (s : State) : Host.Outcome State Fault Refusal :=
  .next (s.accessWrite who Reg.RLY_CTRL 1#32).settle

/-- OPEN (R298). -/
def execOpen (who : Who) (s : State) : Host.Outcome State Fault Refusal := .next (s.accessWrite who Reg.RLY_CTRL 2#32).settle

/-- WELDTEST (R299). -/
def execWeldtest (who : Who) (s : State) : Host.Outcome State Fault Refusal :=
  .next (s.accessWrite who Reg.RLY_CTRL 4#32).settle

/-- PROOF_STEP_END (R295). -/
def execProofStepEnd (s : State) : Host.Outcome State Fault Refusal := .next s.proofStepEnd.settle

/-- PICKUP_TIMEOUT (R295). -/
def execPickupTimeout (s : State) : Host.Outcome State Fault Refusal := .next s.pickupTimeout.settle

/-- DROPOUT_TIMEOUT (R298). -/
def execDropoutTimeout (s : State) : Host.Outcome State Fault Refusal := .next s.dropoutTimeout.settle

/-- PERMIT_TIMEOUT (R297). -/
def execPermitTimeout (s : State) : Host.Outcome State Fault Refusal := .next s.permitTimeout.settle

/-- WELD_TEST_START (R299). -/
def execWeldTestStart (s : State) : Host.Outcome State Fault Refusal := .next s.weldAuto.settle

/-- RELAY_PROOF (R295). -/
def execRelayProof (s : State) : Host.Outcome State Fault Refusal := .next (s.sliceOf 0x24).settle

/-- HSW_ENABLE (R305). -/
def execHswEnable (who : Who) (n : Fin 2) (val : Word) (s : State) : Host.Outcome State Fault Refusal :=
  .next (s.accessWrite who (Reg.HSW_CTRL n) (wputBit val 0 true)).settle

/-- HSW_SAMPLE (R304). -/
def execHswSample (n : Fin 2) (vsense vgate : Nat) (s : State) : Host.Outcome State Fault Refusal :=
  .next (s.hswSample n vsense vgate).settle

/-- HSW_GATE_TIMEOUT (R307). -/
def execHswGateTimeout (n : Fin 2) (s : State) : Host.Outcome State Fault Refusal := .next (s.hswGateTimeout n).settle

/-- HSW_LIMIT_CHANGE (R308). -/
def execHswLimitChange (n : Fin 2) (on : Bool) (s : State) : Host.Outcome State Fault Refusal :=
  .next (s.hswLimit n on).settle

/-- HSW_FAULT_TIMER (R308). -/
def execHswFaultTimer (n : Fin 2) (s : State) : Host.Outcome State Fault Refusal := .next (s.hswFaultTimer n).settle

/-- HSW_SHORT (R308). -/
def execHswShort (n : Fin 2) (s : State) : Host.Outcome State Fault Refusal := .next (s.hswShort n).settle

/-- HSW_RETRY (R311). -/
def execHswRetry (n : Fin 2) (s : State) : Host.Outcome State Fault Refusal := .next (s.hswRetry n).settle

/-- HSW_ATTEMPTS_CLEAR (R311). -/
def execHswAttemptsClear (n : Fin 2) (s : State) : Host.Outcome State Fault Refusal := .next (s.hswAttemptsClear n).settle

/-- HSW_QUALIFY (R312). -/
def execHswQualify (n : Fin 2) (s : State) : Host.Outcome State Fault Refusal := .next (s.hswQualify n).settle

end Sys2Proof.Machine
end

