-- ==== Sys2Proof/Machine/RowSys.lean ====
section
/-! DEFINITION. The meanings of the rows of power, resets, clocks, NVM, log and pins (spec/21 to spec/25). Each row is the
effect of its rule, and then what that leaves to happen by itself (State.settle). -/

namespace Sys2Proof.Machine

/-- PWR_STATE_REQ (R451). -/
def execPwrStateReq (who : Who) (val : Word) (s : State) : Host.Outcome State Fault Refusal :=
  .next (s.accessWrite who Reg.PWR_STATE_REQ val).settle

/-- PWR_DOMAIN_EN (R451). -/
def execPwrDomainEn (who : Who) (val : Word) (s : State) : Host.Outcome State Fault Refusal :=
  .next (s.accessWrite who Reg.PWR_DOMAIN_EN val).settle

/-- DOMAIN_POWER_DOWN (R453). -/
def execDomainPowerDown (d : Fin 12) (s : State) : Host.Outcome State Fault Refusal := .next (s.domainDown d).settle

/-- DOMAIN_READY (R454). -/
def execDomainReady (d : Fin 12) (s : State) : Host.Outcome State Fault Refusal := .next (s.domainReady d).settle

/-- TRANSITION_END (R455). -/
def execTransitionEnd (s : State) : Host.Outcome State Fault Refusal := .next s.transitionEnd.settle

/-- WAKE (R457). -/
def execWake (lnk : Bool) (s : State) : Host.Outcome State Fault Refusal := .next (s.wake lnk).settle

/-- POR (R459). -/
def execPor (low : Bool) (s : State) : Host.Outcome State Fault Refusal := .next (s.resetLevel 1 low).settle

/-- BOR (R459). -/
def execBor (low : Bool) (s : State) : Host.Outcome State Fault Refusal := .next (s.resetLevel 2 low).settle

/-- NRST (R459). -/
def execNrst (low : Bool) (s : State) : Host.Outcome State Fault Refusal := .next (s.resetLevel 3 low).settle

/-- SWRESET (R459). -/
def execSwreset (who : Who) (val : Word) (s : State) : Host.Outcome State Fault Refusal :=
  .next (s.accessWrite who Reg.SYS_SWRESET val).settle

/-- WDT_EXPIRY (R470). -/
def execWdtExpiry (s : State) : Host.Outcome State Fault Refusal := .next s.wdtExpiry.settle

/-- RESET_BEGIN (R459). -/
def execResetBegin (s : State) : Host.Outcome State Fault Refusal := .next s.resetBegin.settle

/-- RESET_RELEASE (R459). -/
def execResetRelease (ra rb : Nat) (s : State) : Host.Outcome State Fault Refusal := .next (s.resetRelease ra rb).settle

/-- XIN_SELECT (R464). -/
def execXinSelect (hz : Nat) (s : State) : Host.Outcome State Fault Refusal := .next (s.xinSelect hz).settle

/-- PLL_LOCK (R527). -/
def execPllLock (s : State) : Host.Outcome State Fault Refusal := .next s.pllLock.settle

/-- PLL_LOSS (R465). -/
def execPllLoss (s : State) : Host.Outcome State Fault Refusal := .next s.pllLoss.settle

/-- MUSTER_END (R463). -/
def execMusterEnd (s : State) : Host.Outcome State Fault Refusal := .next s.musterTimeout.settle

/-- MUSTER_END_WRITE (R463). -/
def execMusterEndWrite (who : Who) (val : Word) (s : State) : Host.Outcome State Fault Refusal :=
  .next (s.accessWrite who Reg.SYS_MUSTER_END val).settle

/-- RTC_SECOND (R466). -/
def execRtcSecond (s : State) : Host.Outcome State Fault Refusal := .next s.rtcSecond.settle

/-- LPO_CAL_START (R466). -/
def execLpoCalStart (who : Option Who) (val : Word) (s : State) : Host.Outcome State Fault Refusal :=
  .next (match who with | some w => s.accessWrite w Reg.SYS_LPO_CAL (wputBit val 20 true) | none => s.lpoCalAuto).settle

/-- LPO_CAL_DONE (R466). -/
def execLpoCalDone (meas : Nat) (s : State) : Host.Outcome State Fault Refusal := .next (s.lpoCalDone meas).settle

/-- WDT_KICK (R469). -/
def execWdtKick (who : Who) (val : Word) (s : State) : Host.Outcome State Fault Refusal :=
  .next (s.accessWrite who Reg.SYS_WDT_KICK val).settle

/-- WDT_WARN (R469). -/
def execWdtWarn (s : State) : Host.Outcome State Fault Refusal := .next s.wdtWarn.settle

/-- TEMP_SAMPLE (R471). -/
def execTempSample (raw : Int) (s : State) : Host.Outcome State Fault Refusal := .next (s.tempSample raw).settle

/-- SUPPLY_WARNING (R471). -/
def execSupplyWarning (vio vdda : Nat) (s : State) : Host.Outcome State Fault Refusal :=
  .next (s.supplyWarning vio vdda).settle

/-- VKEEP_CHECK (R471). -/
def execVkeepCheck (mv : Nat) (s : State) : Host.Outcome State Fault Refusal := .next (s.vkeepCheck mv).settle

/-- IDENT_LOADED (R475). -/
def execIdentLoaded (s : State) : Host.Outcome State Fault Refusal := .next s.identLoaded.settle

/-- NVM_OP_START (R481). -/
def execNvmOpStart (s : State) : Host.Outcome State Fault Refusal := .next s.nvmNext.settle

/-- NVM_OP_DONE (R480). -/
def execNvmOpDone (ticks : Nat) (s : State) : Host.Outcome State Fault Refusal := .next (s.nvmDone ticks).settle

/-- NVM_OP_TIMEOUT (R480). -/
def execNvmOpTimeout (s : State) : Host.Outcome State Fault Refusal := .next s.nvmTimeout.settle

/-- NVM_READ (R479). -/
def execNvmRead (who : Who) (addr width : Nat) (ecc : Fin 3) (s : State) : Host.Outcome State Fault Refusal :=
  .next (s.nvmWindowRead who addr width ecc).settle

/-- LOG_SCAN_DONE (R543). -/
def execLogScanDone (s : State) : Host.Outcome State Fault Refusal := .next s.logScan.settle

/-- LOG_FLUSH (R542). -/
def execLogFlush (who : Who) (val : Word) (s : State) : Host.Outcome State Fault Refusal :=
  .next (s.accessWrite who Reg.LOG_CFG (wputBit val 0 true)).settle

/-- PINS_FUNC_WRITE (R497). -/
def execPinsFuncWrite (who : Who) (k : Fin 23) (val : Word) (s : State) : Host.Outcome State Fault Refusal :=
  .next (s.accessWrite who (Reg.PINS_FUNC k) val).settle

/-- GPIO_EDGE (R495). -/
def execGpioEdge (pin : Fin 3) (level : Bool) (s : State) : Host.Outcome State Fault Refusal :=
  .next (s.gpioPin pin level).settle

/-- EXTEST (R512). -/
def execExtest (cells : Option (List Bool)) (s : State) : Host.Outcome State Fault Refusal :=
  .next (s.tapRun 0#4 cells).settle

/-- SAMPLE_PRELOAD (R512). -/
def execSamplePreload (cells : Option (List Bool)) (s : State) : Host.Outcome State Fault Refusal :=
  .next (s.tapRun 2#4 cells).settle

/-- BYPASS (R512). -/
def execBypass (s : State) : Host.Outcome State Fault Refusal := .next (s.tapLoad 0xF#4).settle

end Sys2Proof.Machine
end

