-- ==== Sys2Proof/Machine/Dispatch.lean ====
section
/-! DEFINITION. Dispatch: one arm per command, each a direct call of its meaning. -/

namespace Sys2Proof.Machine

def exec (i : Instr) (s : State) : Host.Outcome State Fault Refusal :=
  match i with
  | .registerWrite who addr val => Sys2Proof.Machine.execRegisterWrite who addr val s
  | .pageEnable who page val => Sys2Proof.Machine.execPageEnable who page val s
  | .softReset who page val => Sys2Proof.Machine.execSoftReset who page val s
  | .softResetDone page => Sys2Proof.Machine.execSoftResetDone page s
  | .unitQuarantine who page unit val => Sys2Proof.Machine.execUnitQuarantine who page unit val s
  | .pageQuarantine who page val => Sys2Proof.Machine.execPageQuarantine who page val s
  | .hostClear who page unit val => Sys2Proof.Machine.execHostClear who page unit val s
  | .eventSet who page val => Sys2Proof.Machine.execEventSet who page val s
  | .qualificationWindowEnd page unit => Sys2Proof.Machine.execQualificationWindowEnd page unit s
  | .cpsUpdate => Sys2Proof.Machine.execCpsUpdate s
  | .bearCycleIncrement => Sys2Proof.Machine.execBearCycleIncrement s
  | .bearingTick => Sys2Proof.Machine.execBearingTick s
  | .blendEnd => Sys2Proof.Machine.execBlendEnd s
  | .waypointFire n => Sys2Proof.Machine.execWaypointFire n s
  | .chtWpAngleWrite who n val => Sys2Proof.Machine.execChtWpAngleWrite who n val s
  | .chtWpRepWrite who n val => Sys2Proof.Machine.execChtWpRepWrite who n val s
  | .cntclr who val => Sys2Proof.Machine.execCntclr who val s
  | .leadFrameSend other => Sys2Proof.Machine.execLeadFrameSend other s
  | .leadFrameReceive bytes => Sys2Proof.Machine.execLeadFrameReceive bytes s
  | .followerFrameSend => Sys2Proof.Machine.execFollowerFrameSend s
  | .followerFrameReceive bytes => Sys2Proof.Machine.execFollowerFrameReceive bytes s
  | .bsyncEdge => Sys2Proof.Machine.execBsyncEdge s
  | .echoSend => Sys2Proof.Machine.execEchoSend s
  | .echoReceive m => Sys2Proof.Machine.execEchoReceive m s
  | .echoTimeout => Sys2Proof.Machine.execEchoTimeout s
  | .leadMissing => Sys2Proof.Machine.execLeadMissing s
  | .qdlListenTimeout => Sys2Proof.Machine.execQdlListenTimeout s
  | .claimLead => Sys2Proof.Machine.execClaimLead s
  | .qdlLeadlost => Sys2Proof.Machine.execQdlLeadlost s
  | .adcCOutput ch x => Sys2Proof.Machine.execAdcCOutput ch x s
  | .adcMSample ch whole part => Sys2Proof.Machine.execAdcMSample ch whole part s
  | .adcSwtrig who isolated g val => Sys2Proof.Machine.execAdcSwtrig who isolated g val s
  | .adcResultRead who addr => Sys2Proof.Machine.execAdcResultRead who addr s
  | .adcStuck ch => Sys2Proof.Machine.execAdcStuck ch s
  | .adcClkloss ch => Sys2Proof.Machine.execAdcClkloss ch s
  | .adcStuckClear r => Sys2Proof.Machine.execAdcStuckClear r s
  | .adcRefReady => Sys2Proof.Machine.execAdcRefReady s
  | .adcChCtrlWrite who ch val => Sys2Proof.Machine.execAdcChCtrlWrite who ch val s
  | .adcxClkCfgWrite who val => Sys2Proof.Machine.execAdcxClkCfgWrite who val s
  | .ctlSwtrig who input val => Sys2Proof.Machine.execCtlSwtrig who input val s
  | .ctlStepStart => Sys2Proof.Machine.execCtlStepStart s
  | .ctlFetch => Sys2Proof.Machine.execCtlFetch s
  | .ctlSlot => Sys2Proof.Machine.execCtlSlot s
  | .ctlXform => Sys2Proof.Machine.execCtlXform s
  | .ctlModu => Sys2Proof.Machine.execCtlModu s
  | .ctlPwmw => Sys2Proof.Machine.execCtlPwmw s
  | .ctlLoad => Sys2Proof.Machine.execCtlLoad s
  | .ctlRate => Sys2Proof.Machine.execCtlRate s
  | .ctlRamp => Sys2Proof.Machine.execCtlRamp s
  | .ctlMov => Sys2Proof.Machine.execCtlMov s
  | .ctlAdd => Sys2Proof.Machine.execCtlAdd s
  | .ctlSub => Sys2Proof.Machine.execCtlSub s
  | .ctlMul => Sys2Proof.Machine.execCtlMul s
  | .ctlFma => Sys2Proof.Machine.execCtlFma s
  | .ctlClamp => Sys2Proof.Machine.execCtlClamp s
  | .ctlKonst => Sys2Proof.Machine.execCtlKonst s
  | .ctlEnd => Sys2Proof.Machine.execCtlEnd s
  | .ctlIllegalEntry => Sys2Proof.Machine.execCtlIllegalEntry s
  | .ctlFetchResume => Sys2Proof.Machine.execCtlFetchResume s
  | .ctlFixTimeout => Sys2Proof.Machine.execCtlFixTimeout s
  | .ctlRecompute => Sys2Proof.Machine.execCtlRecompute s
  | .ctlReplay => Sys2Proof.Machine.execCtlReplay s
  | .stepWithdraw => Sys2Proof.Machine.execStepWithdraw s
  | .beartunePlace => Sys2Proof.Machine.execBeartunePlace s
  | .ctlBeartuneSet who slot val => Sys2Proof.Machine.execCtlBeartuneSet who slot val s
  | .ctlSclr who slot val => Sys2Proof.Machine.execCtlSclr who slot val s
  | .ctlLatmaxClr who val => Sys2Proof.Machine.execCtlLatmaxClr who val s
  | .specFixDeadline => Sys2Proof.Machine.execSpecFixDeadline s
  | .controlledTripShutdown => Sys2Proof.Machine.execControlledTripShutdown s
  | .substEnd who channels => Sys2Proof.Machine.execSubstEnd who channels s
  | .fixlostRelease who channels => Sys2Proof.Machine.execFixlostRelease who channels s
  | .specTripClear who => Sys2Proof.Machine.execSpecTripClear who s
  | .specBandWrite who n val => Sys2Proof.Machine.execSpecBandWrite who n val s
  | .drCalibrate => Sys2Proof.Machine.execDrCalibrate s
  | .modeUpdateEnd => Sys2Proof.Machine.execModeUpdateEnd s
  | .modeReqWrite who val => Sys2Proof.Machine.execModeReqWrite who val s
  | .modeSet => Sys2Proof.Machine.execModeSet s
  | .mpptPeriodEnd => Sys2Proof.Machine.execMpptPeriodEnd s
  | .mpptSweep => Sys2Proof.Machine.execMpptSweep s
  | .mpptSweepTimer => Sys2Proof.Machine.execMpptSweepTimer s
  | .tb0Period => Sys2Proof.Machine.execTb0Period s
  | .tb1Zero => Sys2Proof.Machine.execTb1Zero s
  | .tb1Period => Sys2Proof.Machine.execTb1Period s
  | .pwmCompareEdge leg => Sys2Proof.Machine.execPwmCompareEdge leg s
  | .pwmLoadAll who => Sys2Proof.Machine.execPwmLoadAll who s
  | .lateEdgeFire leg => Sys2Proof.Machine.execLateEdgeFire leg s
  | .refreshEnd leg => Sys2Proof.Machine.execRefreshEnd leg s
  | .pwmCfgWrite who val => Sys2Proof.Machine.execPwmCfgWrite who val s
  | .faultInput input pin => Sys2Proof.Machine.execFaultInput input pin s
  | .faultHoldExpiry input => Sys2Proof.Machine.execFaultHoldExpiry input s
  | .shutdownLowOff => Sys2Proof.Machine.execShutdownLowOff s
  | .swsd who val => Sys2Proof.Machine.execSwsd who val s
  | .estop low => Sys2Proof.Machine.execEstop low s
  | .estopclr who val => Sys2Proof.Machine.execEstopclr who val s
  | .release who leg val => Sys2Proof.Machine.execRelease who leg val s
  | .deadTimeEnd leg => Sys2Proof.Machine.execDeadTimeEnd leg s
  | .gminEnd leg => Sys2Proof.Machine.execGminEnd leg s
  | .elcInput leg pin => Sys2Proof.Machine.execElcInput leg pin s
  | .cmpOccurrence n uV => Sys2Proof.Machine.execCmpOccurrence n uV s
  | .fastLaneAssert n uV => Sys2Proof.Machine.execFastLaneAssert n uV s
  | .cmpQualify n => Sys2Proof.Machine.execCmpQualify n s
  | .cmpCtrlWrite who n val => Sys2Proof.Machine.execCmpCtrlWrite who n val s
  | .routerOutputPulseEnd out => Sys2Proof.Machine.execRouterOutputPulseEnd out s
  | .evrSwevt who val => Sys2Proof.Machine.execEvrSwevt who val s
  | .protStageExpiry => Sys2Proof.Machine.execProtStageExpiry s
  | .protFallbackTick => Sys2Proof.Machine.execProtFallbackTick s
  | .frtExit => Sys2Proof.Machine.execFrtExit s
  | .reconReady => Sys2Proof.Machine.execReconReady s
  | .reconRampEnd => Sys2Proof.Machine.execReconRampEnd s
  | .profileLoad who val => Sys2Proof.Machine.execProfileLoad who val s
  | .safetyWrite who addr val => Sys2Proof.Machine.execSafetyWrite who addr val s
  | .unlock who => Sys2Proof.Machine.execUnlock who s
  | .lock who => Sys2Proof.Machine.execLock who s
  | .unlockWindowEnd => Sys2Proof.Machine.execUnlockWindowEnd s
  | .lockoutEnd => Sys2Proof.Machine.execLockoutEnd s
  | .newkey who => Sys2Proof.Machine.execNewkey who s
  | .sealSample ra rb => Sys2Proof.Machine.execSealSample ra rb s
  | .safeChange => Sys2Proof.Machine.execSafeChange s
  | .logArchive => Sys2Proof.Machine.execLogArchive s
  | .rlyFbSample l1 l2 => Sys2Proof.Machine.execRlyFbSample l1 l2 s
  | .closeRelays who => Sys2Proof.Machine.execClose who s
  | .openRelays who => Sys2Proof.Machine.execOpen who s
  | .weldtest who => Sys2Proof.Machine.execWeldtest who s
  | .proofStepEnd => Sys2Proof.Machine.execProofStepEnd s
  | .pickupTimeout => Sys2Proof.Machine.execPickupTimeout s
  | .dropoutTimeout => Sys2Proof.Machine.execDropoutTimeout s
  | .permitTimeout => Sys2Proof.Machine.execPermitTimeout s
  | .weldTestStart => Sys2Proof.Machine.execWeldTestStart s
  | .relayProof => Sys2Proof.Machine.execRelayProof s
  | .hswEnable who n val => Sys2Proof.Machine.execHswEnable who n val s
  | .hswSample n vsense vgate => Sys2Proof.Machine.execHswSample n vsense vgate s
  | .hswGateTimeout n => Sys2Proof.Machine.execHswGateTimeout n s
  | .hswLimitChange n on => Sys2Proof.Machine.execHswLimitChange n on s
  | .hswFaultTimer n => Sys2Proof.Machine.execHswFaultTimer n s
  | .hswShort n => Sys2Proof.Machine.execHswShort n s
  | .hswRetry n => Sys2Proof.Machine.execHswRetry n s
  | .hswAttemptsClear n => Sys2Proof.Machine.execHswAttemptsClear n s
  | .hswQualify n => Sys2Proof.Machine.execHswQualify n s
  | .metCycleClose => Sys2Proof.Machine.execMetCycleClose s
  | .hrmWindowPlace => Sys2Proof.Machine.execHrmWindowPlace s
  | .eclr who val => Sys2Proof.Machine.execEclr who val s
  | .meterAngleTurn => Sys2Proof.Machine.execMeterAngleTurn s
  | .harmSurvey => Sys2Proof.Machine.execHarmSurvey s
  | .waveCapture => Sys2Proof.Machine.execWaveCapture s
  | .uartTransactionStart uart => Sys2Proof.Machine.execUartTransactionStart uart s
  | .uartResponse uart bytes delay bad => Sys2Proof.Machine.execUartResponse uart bytes delay bad s
  | .uartResponseTimeout uart => Sys2Proof.Machine.execUartResponseTimeout uart s
  | .ledgerPoll => Sys2Proof.Machine.execLedgerPoll s
  | .autosweepTimer => Sys2Proof.Machine.execAutosweepTimer s
  | .ledgerClose => Sys2Proof.Machine.execLedgerClose s
  | .ledgerIntervalClose => Sys2Proof.Machine.execLedgerIntervalClose s
  | .shed => Sys2Proof.Machine.execShed s
  | .restore => Sys2Proof.Machine.execRestore s
  | .shedHoldExpiry => Sys2Proof.Machine.execShedHoldExpiry s
  | .tenantSlotWrite who slot val => Sys2Proof.Machine.execTenantSlotWrite who slot val s
  | .plantBusUpdateStart => Sys2Proof.Machine.execPlantBusUpdateStart s
  | .plantBusUpdate => Sys2Proof.Machine.execPlantBusUpdate s
  | .go who ch val => Sys2Proof.Machine.execGo who ch val s
  | .cont who ch val => Sys2Proof.Machine.execCont who ch val s
  | .stop who ch val => Sys2Proof.Machine.execStop who ch val s
  | .dmaStopDone ch => Sys2Proof.Machine.execDmaStopDone ch s
  | .ring who ch val => Sys2Proof.Machine.execRing who ch val s
  | .nop ch => Sys2Proof.Machine.execNop ch s
  | .moveWord ch => Sys2Proof.Machine.execMoveWord ch s
  | .moveRound ch => Sys2Proof.Machine.execMoveRound ch s
  | .moveFunnel ch => Sys2Proof.Machine.execMoveFunnel ch s
  | .loop ch => Sys2Proof.Machine.execLoop ch s
  | .wait ch => Sys2Proof.Machine.execWait ch s
  | .waitPass ch => Sys2Proof.Machine.execWaitPass ch s
  | .waitTimeout ch => Sys2Proof.Machine.execWaitTimeout ch s
  | .signalEvent ch => Sys2Proof.Machine.execSignalEvent ch s
  | .signalIrq ch => Sys2Proof.Machine.execSignalIrq ch s
  | .signalContext ch => Sys2Proof.Machine.execSignalContext ch s
  | .signalChannel ch => Sys2Proof.Machine.execSignalChannel ch s
  | .setptrSet ch => Sys2Proof.Machine.execSetptrSet ch s
  | .setptrAdd ch => Sys2Proof.Machine.execSetptrAdd ch s
  | .setptrLoad ch => Sys2Proof.Machine.execSetptrLoad ch s
  | .setptrCopy ch => Sys2Proof.Machine.execSetptrCopy ch s
  | .write ch => Sys2Proof.Machine.execWrite ch s
  | .dmaEnd ch => Sys2Proof.Machine.execDmaEnd ch s
  | .dmaIllegal ch => Sys2Proof.Machine.execDmaIllegal ch s
  | .dmaResume ch => Sys2Proof.Machine.execDmaResume ch s
  | .irqcDoorbell who val => Sys2Proof.Machine.execIrqcDoorbell who val s
  | .irqcPendSet who k val => Sys2Proof.Machine.execIrqcPendSet who k val s
  | .irqcPendClear who k val => Sys2Proof.Machine.execIrqcPendClear who k val s
  | .irqPacketSend => Sys2Proof.Machine.execIrqPacketSend s
  | .sqTailDoorbell who ctx val => Sys2Proof.Machine.execSqTailDoorbell who ctx val s
  | .contextConfigWrite who ctx offset val => Sys2Proof.Machine.execContextConfigWrite who ctx offset val s
  | .cqHeadWrite who ctx val => Sys2Proof.Machine.execCqHeadWrite who ctx val s
  | .cmdFetch => Sys2Proof.Machine.execCmdFetch s
  | .cmdSlice => Sys2Proof.Machine.execCmdSlice s
  | .cmdDeadline => Sys2Proof.Machine.execCmdDeadline s
  | .ctxQualify ctx => Sys2Proof.Machine.execCtxQualify ctx s
  | .abort => Sys2Proof.Machine.execAbort s
  | .readBlock => Sys2Proof.Machine.execReadBlock s
  | .writeBlock => Sys2Proof.Machine.execWriteBlock s
  | .atomicRmw => Sys2Proof.Machine.execAtomicRmw s
  | .nvmWrite => Sys2Proof.Machine.execNvmWrite s
  | .nvmErase => Sys2Proof.Machine.execNvmErase s
  | .nvmVerify => Sys2Proof.Machine.execNvmVerify s
  | .configCommit => Sys2Proof.Machine.execConfigCommit s
  | .configLoad => Sys2Proof.Machine.execConfigLoad s
  | .isoTest => Sys2Proof.Machine.execIsoTest s
  | .isoTestSettle => Sys2Proof.Machine.execIsoTestSettle s
  | .selfTest => Sys2Proof.Machine.execSelfTest s
  | .arm => Sys2Proof.Machine.execArm s
  | .armComplete => Sys2Proof.Machine.execArmComplete s
  | .disarm => Sys2Proof.Machine.execDisarm s
  | .identReport => Sys2Proof.Machine.execIdentReport s
  | .genAFrame bytes early => Sys2Proof.Machine.execGenAFrame bytes early s
  | .genBFrame bytes tail => Sys2Proof.Machine.execGenBFrame bytes tail s
  | .spiIgnoredFrame bytes => Sys2Proof.Machine.execSpiIgnoredFrame bytes s
  | .spiReservedFrame bytes => Sys2Proof.Machine.execSpiReservedFrame bytes s
  | .lnkRead bytes => Sys2Proof.Machine.execLnkRead bytes s
  | .lnkWrite bytes => Sys2Proof.Machine.execLnkWrite bytes s
  | .lnkCmd bytes => Sys2Proof.Machine.execLnkCmd bytes s
  | .lnkPing bytes => Sys2Proof.Machine.execLnkPing bytes s
  | .lnkCredit bytes => Sys2Proof.Machine.execLnkCredit bytes s
  | .lnkReplySend => Sys2Proof.Machine.execLnkReplySend s
  | .creditPacketSend => Sys2Proof.Machine.execCreditPacketSend s
  | .lnkAligned => Sys2Proof.Machine.execLnkAligned s
  | .lnkTrainPing => Sys2Proof.Machine.execLnkTrainPing s
  | .lnkDown invalid aligned => Sys2Proof.Machine.execLnkDown invalid aligned s
  | .lnkDownEnd => Sys2Proof.Machine.execLnkDownEnd s
  | .lnkKeepalive => Sys2Proof.Machine.execLnkKeepalive s
  | .lnkAckTimeout => Sys2Proof.Machine.execLnkAckTimeout s
  | .lnkRatePropose => Sys2Proof.Machine.execLnkRatePropose s
  | .lnkRateFail => Sys2Proof.Machine.execLnkRateFail s
  | .sbAddressMatch addr read => Sys2Proof.Machine.execSbAddressMatch addr read s
  | .sbWrite bytes => Sys2Proof.Machine.execSbWrite bytes s
  | .sbRead n => Sys2Proof.Machine.execSbRead n s
  | .sbHoldRelease => Sys2Proof.Machine.execSbHoldRelease s
  | .sbStop => Sys2Proof.Machine.execSbStop s
  | .pwrStateReq who val => Sys2Proof.Machine.execPwrStateReq who val s
  | .pwrDomainEn who val => Sys2Proof.Machine.execPwrDomainEn who val s
  | .domainPowerDown d => Sys2Proof.Machine.execDomainPowerDown d s
  | .domainReady d => Sys2Proof.Machine.execDomainReady d s
  | .transitionEnd => Sys2Proof.Machine.execTransitionEnd s
  | .wake lnk => Sys2Proof.Machine.execWake lnk s
  | .por low => Sys2Proof.Machine.execPor low s
  | .bor low => Sys2Proof.Machine.execBor low s
  | .nrst low => Sys2Proof.Machine.execNrst low s
  | .swreset who val => Sys2Proof.Machine.execSwreset who val s
  | .wdtExpiry => Sys2Proof.Machine.execWdtExpiry s
  | .resetBegin => Sys2Proof.Machine.execResetBegin s
  | .resetRelease ra rb => Sys2Proof.Machine.execResetRelease ra rb s
  | .xinSelect hz => Sys2Proof.Machine.execXinSelect hz s
  | .pllLock => Sys2Proof.Machine.execPllLock s
  | .pllLoss => Sys2Proof.Machine.execPllLoss s
  | .musterEnd => Sys2Proof.Machine.execMusterEnd s
  | .musterEndWrite who val => Sys2Proof.Machine.execMusterEndWrite who val s
  | .rtcSecond => Sys2Proof.Machine.execRtcSecond s
  | .lpoCalStart who val => Sys2Proof.Machine.execLpoCalStart who val s
  | .lpoCalDone meas => Sys2Proof.Machine.execLpoCalDone meas s
  | .wdtKick who val => Sys2Proof.Machine.execWdtKick who val s
  | .wdtWarn => Sys2Proof.Machine.execWdtWarn s
  | .tempSample raw => Sys2Proof.Machine.execTempSample raw s
  | .supplyWarning vio vdda => Sys2Proof.Machine.execSupplyWarning vio vdda s
  | .vkeepCheck mv => Sys2Proof.Machine.execVkeepCheck mv s
  | .identLoaded => Sys2Proof.Machine.execIdentLoaded s
  | .nvmOpStart => Sys2Proof.Machine.execNvmOpStart s
  | .nvmOpDone ticks => Sys2Proof.Machine.execNvmOpDone ticks s
  | .nvmOpTimeout => Sys2Proof.Machine.execNvmOpTimeout s
  | .nvmRead who addr width ecc => Sys2Proof.Machine.execNvmRead who addr width ecc s
  | .logScanDone => Sys2Proof.Machine.execLogScanDone s
  | .logFlush who val => Sys2Proof.Machine.execLogFlush who val s
  | .logRead => Sys2Proof.Machine.execLogRead s
  | .pinsFuncWrite who k val => Sys2Proof.Machine.execPinsFuncWrite who k val s
  | .gpioEdge pin level => Sys2Proof.Machine.execGpioEdge pin level s
  | .extest cells => Sys2Proof.Machine.execExtest cells s
  | .samplePreload cells => Sys2Proof.Machine.execSamplePreload cells s
  | .bypass => Sys2Proof.Machine.execBypass s
  | .lnkTrainingStart => Sys2Proof.Machine.execLnkTrainingStart s
  | .lnkRateSwitch => Sys2Proof.Machine.execLnkRateSwitch s
  | .channelOverload ch ones => Sys2Proof.Machine.execChannelOverload ch ones s
  | .prechargePulseEnd leg => Sys2Proof.Machine.execPrechargePulseEnd leg s

end Sys2Proof.Machine
end

