-- ==== Sys2Proof/Laws/Bits.lean ====
section
/-! SUPPORT. Laws of the bit-field helpers: each bit after a field is written, a field read back, and a field that lies apart. -/

namespace Sys2Proof.Machine

theorem testBit_wbits (w : Word) (lo len i : Nat) : (wbits w lo len).testBit i = (decide (i < len) && w.getLsbD (lo + i)) := by
  simp [wbits, Nat.testBit_mod_two_pow, Nat.testBit_shiftRight, BitVec.getLsbD]

theorem wbits_lt (w : Word) (lo len : Nat) : wbits w lo len < 2 ^ len := Nat.mod_lt _ (Nat.two_pow_pos len)

theorem getLsbD_wmask (lo len i : Nat) : (wmask lo len).getLsbD i = (decide (i < 32) && decide (lo ≤ i) && decide (i < lo + len)) := by
  simp only [wmask, BitVec.getLsbD_ofNat, Nat.testBit_shiftLeft, Nat.testBit_two_pow_sub_one]
  by_cases h1 : i < 32 <;> by_cases h2 : lo ≤ i <;> by_cases h3 : i < lo + len <;> simp [h1, h2, h3] <;> omega

theorem getLsbD_wput (w : Word) (lo len v i : Nat) :
    (wput w lo len v).getLsbD i =
      if i < 32 ∧ lo ≤ i ∧ i < lo + len then v.testBit (i - lo) else w.getLsbD i := by
  simp only [wput, BitVec.getLsbD_or, BitVec.getLsbD_and, BitVec.getLsbD_not, getLsbD_wmask, BitVec.getLsbD_ofNat,
    Nat.testBit_shiftLeft, Nat.testBit_mod_two_pow]
  by_cases h1 : i < 32
  · by_cases h2 : lo ≤ i
    · by_cases h3 : i < lo + len
      · have : i - lo < len := by omega
        simp only [h1, h2, h3, this, decide_true, decide_false, Bool.and_true, Bool.true_and, Bool.not_true, Bool.and_false,
          Bool.false_or, and_self, if_true, ge_iff_le]
      · simp [h1, h2, h3]
    · simp [h1, h2]
  · have : w.getLsbD i = false := BitVec.getLsbD_of_ge w i (by omega)
    simp [h1, this]

/-- A field reads back what was written to it, modulo its width. -/
theorem wbits_wput_self (w : Word) (lo len v : Nat) (h : lo + len ≤ 32) : wbits (wput w lo len v) lo len = v % 2 ^ len := by
  apply Nat.eq_of_testBit_eq
  intro i
  rw [testBit_wbits, getLsbD_wput, Nat.testBit_mod_two_pow]
  by_cases hi : i < len
  · have h1 : lo + i < 32 := by omega
    have h2 : lo + i < lo + len := by omega
    simp [hi, h1]
  · simp [hi]

/-- A field apart from the one written keeps its value. -/
theorem wbits_wput_apart (w : Word) (lo len v l n : Nat) (h : l + n ≤ lo ∨ lo + len ≤ l) :
    wbits (wput w lo len v) l n = wbits w l n := by
  apply Nat.eq_of_testBit_eq
  intro i
  rw [testBit_wbits, testBit_wbits, getLsbD_wput]
  by_cases hi : i < n
  · have : ¬ (l + i < 32 ∧ lo ≤ l + i ∧ l + i < lo + len) := by omega
    rw [if_neg this]
  · simp [hi]

theorem getLsbD_wputBit (w : Word) (b : Nat) (v : Bool) (i : Nat) :
    (wputBit w b v).getLsbD i = if i < 32 ∧ i = b then v else w.getLsbD i := by
  rw [wputBit, getLsbD_wput]
  by_cases h : i = b
  · subst h; cases v <;> simp
  · rw [if_neg (by omega), if_neg (by omega)]

/-- Writing back what a field holds changes nothing. -/
theorem wput_wbits_self (w : Word) (lo len : Nat) : wput w lo len (wbits w lo len) = w := by
  apply BitVec.eq_of_getLsbD_eq
  intro i hi
  rw [getLsbD_wput]
  split
  · rename_i h
    rw [testBit_wbits]
    have h1 : i - lo < len := by omega
    have h2 : lo + (i - lo) = i := by omega
    simp [h1, h2]
  · rfl

end Sys2Proof.Machine
end

