-- ==== Sys2Proof/Laws/Sparse.lean ====
section
/-! SUPPORT. Laws of the sparse maps: a read after a write, and the canonical form kept by every operation. -/

namespace Sys2Proof.Machine

variable {w : Nat} {d : Nat → BitVec w}

theorem Sparse.get_erase_self (m : List (Nat × BitVec w)) (a : Nat) : Sparse.get d (Sparse.erase a m) a = d a := by
  induction m with
  | nil => rfl
  | cons x m ih =>
    obtain ⟨k, v⟩ := x
    by_cases h : a = k <;> simp [Sparse.erase, Sparse.get, h] <;> simpa [h] using ih

theorem Sparse.get_erase_ne (m : List (Nat × BitVec w)) {a b : Nat} (h : b ≠ a) :
    Sparse.get d (Sparse.erase a m) b = Sparse.get d m b := by
  induction m with
  | nil => rfl
  | cons x m ih =>
    obtain ⟨k, v⟩ := x
    by_cases hk : a = k
    · subst hk; simp [Sparse.erase, Sparse.get, h, ih]
    · simp [Sparse.erase, Sparse.get, hk, ih]

theorem Sparse.get_insert_self (m : List (Nat × BitVec w)) (a : Nat) (v : BitVec w) :
    Sparse.get d (Sparse.insert a v m) a = v := by
  induction m with
  | nil => simp [Sparse.insert, Sparse.get]
  | cons x m ih =>
    obtain ⟨k, u⟩ := x
    by_cases h1 : a < k
    · simp [Sparse.insert, Sparse.get, h1]
    · by_cases h2 : a = k <;> simp [Sparse.insert, Sparse.get, h1, h2]
      simpa [h2] using ih

theorem Sparse.get_insert_ne (m : List (Nat × BitVec w)) {a b : Nat} (v : BitVec w) (h : b ≠ a) :
    Sparse.get d (Sparse.insert a v m) b = Sparse.get d m b := by
  induction m with
  | nil => simp [Sparse.insert, Sparse.get, h]
  | cons x m ih =>
    obtain ⟨k, u⟩ := x
    by_cases h1 : a < k
    · simp [Sparse.insert, Sparse.get, h1, h]
    · by_cases h2 : a = k
      · subst h2; simp [Sparse.insert, Sparse.get, h]
      · simp [Sparse.insert, Sparse.get, h1, h2, ih]

/-- Reading the address just written gives the value written. -/
theorem Sparse.get_set_self (m : List (Nat × BitVec w)) (a : Nat) (v : BitVec w) : Sparse.get d (Sparse.set d m a v) a = v := by
  by_cases h : v = d a
  · simp [Sparse.set, h, Sparse.get_erase_self]
  · simp [Sparse.set, h, Sparse.get_insert_self]

/-- A write leaves every other address alone. -/
theorem Sparse.get_set_ne (m : List (Nat × BitVec w)) {a b : Nat} (v : BitVec w) (h : b ≠ a) :
    Sparse.get d (Sparse.set d m a v) b = Sparse.get d m b := by
  by_cases hv : v = d a
  · simp [Sparse.set, hv, Sparse.get_erase_ne _ h]
  · simp [Sparse.set, hv, Sparse.get_insert_ne _ v h]

/-- What a write leaves, at every address. -/
theorem Sparse.get_set (m : List (Nat × BitVec w)) (a b : Nat) (v : BitVec w) :
    Sparse.get d (Sparse.set d m a v) b = if b = a then v else Sparse.get d m b := by
  by_cases h : b = a
  · subst h; simp [Sparse.get_set_self]
  · simp [h, Sparse.get_set_ne _ v h]

/-- Entries left out read their default again; the others stay. -/
theorem Sparse.get_clearIf (p : Nat → Bool) (m : List (Nat × BitVec w)) (a : Nat) :
    Sparse.get d (Sparse.clearIf p m) a = if p a then d a else Sparse.get d m a := by
  induction m with
  | nil => simp [Sparse.clearIf, Sparse.get]
  | cons x m ih =>
    obtain ⟨k, v⟩ := x
    by_cases hk : a = k
    · subst hk
      by_cases hp : p a
      · simpa [Sparse.clearIf, hp] using ih
      · simp [Sparse.clearIf, hp, Sparse.get]
    · by_cases hp : p k
      · simpa [Sparse.clearIf, hp, hk, Sparse.get] using ih
      · simpa [Sparse.clearIf, hp, hk, Sparse.get] using ih

/-! ### The canonical form -/

theorem Sparse.above_mono {m : List (Nat × BitVec w)} {lo lo' : Nat} (h : lo ≤ lo') (hm : Sparse.above lo' m = true) :
    Sparse.above lo m = true := by
  induction m with
  | nil => rfl
  | cons x m ih =>
    obtain ⟨k, v⟩ := x
    simp only [Sparse.above, Bool.and_eq_true, decide_eq_true_eq] at hm ⊢
    exact ⟨by omega, ih hm.2⟩

theorem Sparse.above_erase {m : List (Nat × BitVec w)} {lo : Nat} (a : Nat) (hm : Sparse.above lo m = true) :
    Sparse.above lo (Sparse.erase a m) = true := by
  induction m with
  | nil => rfl
  | cons x m ih =>
    obtain ⟨k, v⟩ := x
    simp only [Sparse.above, Bool.and_eq_true, decide_eq_true_eq] at hm
    by_cases h : a = k
    · simpa [Sparse.erase, h] using ih hm.2
    · simp [Sparse.erase, h, Sparse.above, hm.1, ih hm.2]

theorem Sparse.above_insert {m : List (Nat × BitVec w)} {lo a : Nat} (v : BitVec w) (ha : lo < a)
    (hm : Sparse.above lo m = true) : Sparse.above lo (Sparse.insert a v m) = true := by
  induction m with
  | nil => simp [Sparse.insert, Sparse.above, ha]
  | cons x m ih =>
    obtain ⟨k, u⟩ := x
    have hm' := hm
    simp only [Sparse.above, Bool.and_eq_true, decide_eq_true_eq] at hm
    by_cases h1 : a < k
    · simp [Sparse.insert, h1, Sparse.above, ha, hm.1, hm.2]
    · by_cases h2 : a = k
      · simp [Sparse.insert, h2, Sparse.above, hm.1, hm.2]
      · simp [Sparse.insert, h1, h2, Sparse.above, hm.1, ih hm.2]

theorem Sparse.wf_erase {m : List (Nat × BitVec w)} (a : Nat) (hm : Sparse.wf d m = true) :
    Sparse.wf d (Sparse.erase a m) = true := by
  induction m with
  | nil => rfl
  | cons x m ih =>
    obtain ⟨k, v⟩ := x
    simp only [Sparse.wf, Bool.and_eq_true] at hm
    by_cases h : a = k
    · simpa [Sparse.erase, h] using ih hm.2
    · simp only [Sparse.erase, h, if_false, Sparse.wf, Bool.and_eq_true]
      exact ⟨⟨hm.1.1, Sparse.above_erase a hm.1.2⟩, ih hm.2⟩

theorem Sparse.wf_insert {m : List (Nat × BitVec w)} {a : Nat} {v : BitVec w} (hv : v ≠ d a) (hm : Sparse.wf d m = true) :
    Sparse.wf d (Sparse.insert a v m) = true := by
  have hv' : (!(v == d a)) = true := by simpa using hv
  induction m with
  | nil => simpa [Sparse.insert, Sparse.wf, Sparse.above] using hv
  | cons x m ih =>
    obtain ⟨k, u⟩ := x
    have hm' := hm
    simp only [Sparse.wf, Bool.and_eq_true] at hm
    by_cases h1 : a < k
    · simp only [Sparse.insert, h1, if_true, Sparse.wf, Bool.and_eq_true, Sparse.above, decide_eq_true_eq]
      exact ⟨⟨hv', trivial, Sparse.above_mono (Nat.le_of_lt h1) hm.1.2⟩, hm⟩
    · by_cases h2 : a = k
      · subst h2
        simp only [Sparse.insert, Nat.lt_irrefl, if_false, if_true, Sparse.wf, Bool.and_eq_true]
        exact ⟨⟨hv', hm.1.2⟩, hm.2⟩
      · simp only [Sparse.insert, h1, h2, if_false, Sparse.wf, Bool.and_eq_true]
        exact ⟨⟨hm.1.1, Sparse.above_insert v (by omega) hm.1.2⟩, ih hm.2⟩

/-- A write keeps the canonical form. -/
theorem Sparse.wf_set {m : List (Nat × BitVec w)} (a : Nat) (v : BitVec w) (hm : Sparse.wf d m = true) :
    Sparse.wf d (Sparse.set d m a v) = true := by
  by_cases h : v = d a
  · simpa [Sparse.set, h] using Sparse.wf_erase a hm
  · simpa [Sparse.set, h] using Sparse.wf_insert h hm

theorem Sparse.above_clearIf {m : List (Nat × BitVec w)} {lo : Nat} (p : Nat → Bool) (hm : Sparse.above lo m = true) :
    Sparse.above lo (Sparse.clearIf p m) = true := by
  induction m with
  | nil => rfl
  | cons x m ih =>
    obtain ⟨k, v⟩ := x
    simp only [Sparse.above, Bool.and_eq_true, decide_eq_true_eq] at hm
    by_cases h : p k
    · simpa [Sparse.clearIf, h] using ih hm.2
    · simpa [Sparse.clearIf, h, Sparse.above, hm.1] using ih hm.2

/-- Leaving entries out keeps the canonical form. -/
theorem Sparse.wf_clearIf {m : List (Nat × BitVec w)} (p : Nat → Bool) (hm : Sparse.wf d m = true) :
    Sparse.wf d (Sparse.clearIf p m) = true := by
  induction m with
  | nil => rfl
  | cons x m ih =>
    obtain ⟨k, v⟩ := x
    simp only [Sparse.wf, Bool.and_eq_true] at hm
    by_cases h : p k
    · simpa [Sparse.clearIf, h] using ih hm.2
    · have h1 := Sparse.above_clearIf p hm.1.2
      have h2 := ih hm.2
      simp only [Sparse.clearIf, List.filter_cons, h, Bool.not_false, if_true, Sparse.wf, Bool.and_eq_true] at *
      exact ⟨⟨hm.1.1, h1⟩, h2⟩

end Sys2Proof.Machine
end

