-- ==== Sys2Proof/Laws/State.lean ====
section
/-! SUPPORT. Frames of the plain updates of the state: each changes one field of State and leaves the other fields alone. -/

namespace Sys2Proof.Machine

variable (s : State)

/-! ### State.setReg changes regs -/

@[simp] theorem State.setReg_pending (a : Nat) (v : Word) : (s.setReg a v).pending = s.pending := rfl
@[simp] theorem State.setReg_now (a : Nat) (v : Word) : (s.setReg a v).now = s.now := rfl
@[simp] theorem State.setReg_sram (a : Nat) (v : Word) : (s.setReg a v).sram = s.sram := rfl
@[simp] theorem State.setReg_nvm (a : Nat) (v : Word) : (s.setReg a v).nvm = s.nvm := rfl
@[simp] theorem State.setReg_freeIdx (a : Nat) (v : Word) : (s.setReg a v).freeIdx = s.freeIdx := rfl
@[simp] theorem State.setReg_tick0 (a : Nat) (v : Word) : (s.setReg a v).tick0 = s.tick0 := rfl
@[simp] theorem State.setReg_beat (a : Nat) (v : Word) : (s.setReg a v).beat = s.beat := rfl
@[simp] theorem State.setReg_evq (a : Nat) (v : Word) : (s.setReg a v).evq = s.evq := rfl
@[simp] theorem State.setReg_lastStatus (a : Nat) (v : Word) : (s.setReg a v).lastStatus = s.lastStatus := rfl
@[simp] theorem State.setReg_lastRead (a : Nat) (v : Word) : (s.setReg a v).lastRead = s.lastRead := rfl
@[simp] theorem State.setReg_irqc (a : Nat) (v : Word) : (s.setReg a v).irqc = s.irqc := rfl
@[simp] theorem State.setReg_log (a : Nat) (v : Word) : (s.setReg a v).log = s.log := rfl
@[simp] theorem State.setReg_nvmc (a : Nat) (v : Word) : (s.setReg a v).nvmc = s.nvmc := rfl
@[simp] theorem State.setReg_pwr (a : Nat) (v : Word) : (s.setReg a v).pwr = s.pwr := rfl
@[simp] theorem State.setReg_cmp (a : Nat) (v : Word) : (s.setReg a v).cmp = s.cmp := rfl
@[simp] theorem State.setReg_cps (a : Nat) (v : Word) : (s.setReg a v).cps = s.cps := rfl
@[simp] theorem State.setReg_adc (a : Nat) (v : Word) : (s.setReg a v).adc = s.adc := rfl
@[simp] theorem State.setReg_resamp (a : Nat) (v : Word) : (s.setReg a v).resamp = s.resamp := rfl
@[simp] theorem State.setReg_cht (a : Nat) (v : Word) : (s.setReg a v).cht = s.cht := rfl
@[simp] theorem State.setReg_qdl (a : Nat) (v : Word) : (s.setReg a v).qdl = s.qdl := rfl
@[simp] theorem State.setReg_ctl (a : Nat) (v : Word) : (s.setReg a v).ctl = s.ctl := rfl
@[simp] theorem State.setReg_spec (a : Nat) (v : Word) : (s.setReg a v).spec = s.spec := rfl
@[simp] theorem State.setReg_dma (a : Nat) (v : Word) : (s.setReg a v).dma = s.dma := rfl
@[simp] theorem State.setReg_mode (a : Nat) (v : Word) : (s.setReg a v).mode = s.mode := rfl
@[simp] theorem State.setReg_pwm (a : Nat) (v : Word) : (s.setReg a v).pwm = s.pwm := rfl
@[simp] theorem State.setReg_gd (a : Nat) (v : Word) : (s.setReg a v).gd = s.gd := rfl
@[simp] theorem State.setReg_prot (a : Nat) (v : Word) : (s.setReg a v).prot = s.prot := rfl
@[simp] theorem State.setReg_safe (a : Nat) (v : Word) : (s.setReg a v).safe = s.safe := rfl
@[simp] theorem State.setReg_rly (a : Nat) (v : Word) : (s.setReg a v).rly = s.rly := rfl
@[simp] theorem State.setReg_met (a : Nat) (v : Word) : (s.setReg a v).met = s.met := rfl
@[simp] theorem State.setReg_hrm (a : Nat) (v : Word) : (s.setReg a v).hrm = s.hrm := rfl
@[simp] theorem State.setReg_hsw (a : Nat) (v : Word) : (s.setReg a v).hsw = s.hsw := rfl
@[simp] theorem State.setReg_ctx (a : Nat) (v : Word) : (s.setReg a v).ctx = s.ctx := rfl
@[simp] theorem State.setReg_ldg (a : Nat) (v : Word) : (s.setReg a v).ldg = s.ldg := rfl
@[simp] theorem State.setReg_bus (a : Nat) (v : Word) : (s.setReg a v).bus = s.bus := rfl
@[simp] theorem State.setReg_host (a : Nat) (v : Word) : (s.setReg a v).host = s.host := rfl
@[simp] theorem State.setReg_sb (a : Nat) (v : Word) : (s.setReg a v).sb = s.sb := rfl
@[simp] theorem State.setReg_pins (a : Nat) (v : Word) : (s.setReg a v).pins = s.pins := rfl
@[simp] theorem State.setReg_jtag (a : Nat) (v : Word) : (s.setReg a v).jtag = s.jtag := rfl

/-! ### State.put changes regs -/

@[simp] theorem State.put_pending (f : Field) (v : Nat) : (s.put f v).pending = s.pending := rfl
@[simp] theorem State.put_now (f : Field) (v : Nat) : (s.put f v).now = s.now := rfl
@[simp] theorem State.put_sram (f : Field) (v : Nat) : (s.put f v).sram = s.sram := rfl
@[simp] theorem State.put_nvm (f : Field) (v : Nat) : (s.put f v).nvm = s.nvm := rfl
@[simp] theorem State.put_freeIdx (f : Field) (v : Nat) : (s.put f v).freeIdx = s.freeIdx := rfl
@[simp] theorem State.put_tick0 (f : Field) (v : Nat) : (s.put f v).tick0 = s.tick0 := rfl
@[simp] theorem State.put_beat (f : Field) (v : Nat) : (s.put f v).beat = s.beat := rfl
@[simp] theorem State.put_evq (f : Field) (v : Nat) : (s.put f v).evq = s.evq := rfl
@[simp] theorem State.put_lastStatus (f : Field) (v : Nat) : (s.put f v).lastStatus = s.lastStatus := rfl
@[simp] theorem State.put_lastRead (f : Field) (v : Nat) : (s.put f v).lastRead = s.lastRead := rfl
@[simp] theorem State.put_irqc (f : Field) (v : Nat) : (s.put f v).irqc = s.irqc := rfl
@[simp] theorem State.put_log (f : Field) (v : Nat) : (s.put f v).log = s.log := rfl
@[simp] theorem State.put_nvmc (f : Field) (v : Nat) : (s.put f v).nvmc = s.nvmc := rfl
@[simp] theorem State.put_pwr (f : Field) (v : Nat) : (s.put f v).pwr = s.pwr := rfl
@[simp] theorem State.put_cmp (f : Field) (v : Nat) : (s.put f v).cmp = s.cmp := rfl
@[simp] theorem State.put_cps (f : Field) (v : Nat) : (s.put f v).cps = s.cps := rfl
@[simp] theorem State.put_adc (f : Field) (v : Nat) : (s.put f v).adc = s.adc := rfl
@[simp] theorem State.put_resamp (f : Field) (v : Nat) : (s.put f v).resamp = s.resamp := rfl
@[simp] theorem State.put_cht (f : Field) (v : Nat) : (s.put f v).cht = s.cht := rfl
@[simp] theorem State.put_qdl (f : Field) (v : Nat) : (s.put f v).qdl = s.qdl := rfl
@[simp] theorem State.put_ctl (f : Field) (v : Nat) : (s.put f v).ctl = s.ctl := rfl
@[simp] theorem State.put_spec (f : Field) (v : Nat) : (s.put f v).spec = s.spec := rfl
@[simp] theorem State.put_dma (f : Field) (v : Nat) : (s.put f v).dma = s.dma := rfl
@[simp] theorem State.put_mode (f : Field) (v : Nat) : (s.put f v).mode = s.mode := rfl
@[simp] theorem State.put_pwm (f : Field) (v : Nat) : (s.put f v).pwm = s.pwm := rfl
@[simp] theorem State.put_gd (f : Field) (v : Nat) : (s.put f v).gd = s.gd := rfl
@[simp] theorem State.put_prot (f : Field) (v : Nat) : (s.put f v).prot = s.prot := rfl
@[simp] theorem State.put_safe (f : Field) (v : Nat) : (s.put f v).safe = s.safe := rfl
@[simp] theorem State.put_rly (f : Field) (v : Nat) : (s.put f v).rly = s.rly := rfl
@[simp] theorem State.put_met (f : Field) (v : Nat) : (s.put f v).met = s.met := rfl
@[simp] theorem State.put_hrm (f : Field) (v : Nat) : (s.put f v).hrm = s.hrm := rfl
@[simp] theorem State.put_hsw (f : Field) (v : Nat) : (s.put f v).hsw = s.hsw := rfl
@[simp] theorem State.put_ctx (f : Field) (v : Nat) : (s.put f v).ctx = s.ctx := rfl
@[simp] theorem State.put_ldg (f : Field) (v : Nat) : (s.put f v).ldg = s.ldg := rfl
@[simp] theorem State.put_bus (f : Field) (v : Nat) : (s.put f v).bus = s.bus := rfl
@[simp] theorem State.put_host (f : Field) (v : Nat) : (s.put f v).host = s.host := rfl
@[simp] theorem State.put_sb (f : Field) (v : Nat) : (s.put f v).sb = s.sb := rfl
@[simp] theorem State.put_pins (f : Field) (v : Nat) : (s.put f v).pins = s.pins := rfl
@[simp] theorem State.put_jtag (f : Field) (v : Nat) : (s.put f v).jtag = s.jtag := rfl

/-! ### State.putI changes regs -/

@[simp] theorem State.putI_pending (f : Field) (v : Int) : (s.putI f v).pending = s.pending := rfl
@[simp] theorem State.putI_now (f : Field) (v : Int) : (s.putI f v).now = s.now := rfl
@[simp] theorem State.putI_sram (f : Field) (v : Int) : (s.putI f v).sram = s.sram := rfl
@[simp] theorem State.putI_nvm (f : Field) (v : Int) : (s.putI f v).nvm = s.nvm := rfl
@[simp] theorem State.putI_freeIdx (f : Field) (v : Int) : (s.putI f v).freeIdx = s.freeIdx := rfl
@[simp] theorem State.putI_tick0 (f : Field) (v : Int) : (s.putI f v).tick0 = s.tick0 := rfl
@[simp] theorem State.putI_beat (f : Field) (v : Int) : (s.putI f v).beat = s.beat := rfl
@[simp] theorem State.putI_evq (f : Field) (v : Int) : (s.putI f v).evq = s.evq := rfl
@[simp] theorem State.putI_lastStatus (f : Field) (v : Int) : (s.putI f v).lastStatus = s.lastStatus := rfl
@[simp] theorem State.putI_lastRead (f : Field) (v : Int) : (s.putI f v).lastRead = s.lastRead := rfl
@[simp] theorem State.putI_irqc (f : Field) (v : Int) : (s.putI f v).irqc = s.irqc := rfl
@[simp] theorem State.putI_log (f : Field) (v : Int) : (s.putI f v).log = s.log := rfl
@[simp] theorem State.putI_nvmc (f : Field) (v : Int) : (s.putI f v).nvmc = s.nvmc := rfl
@[simp] theorem State.putI_pwr (f : Field) (v : Int) : (s.putI f v).pwr = s.pwr := rfl
@[simp] theorem State.putI_cmp (f : Field) (v : Int) : (s.putI f v).cmp = s.cmp := rfl
@[simp] theorem State.putI_cps (f : Field) (v : Int) : (s.putI f v).cps = s.cps := rfl
@[simp] theorem State.putI_adc (f : Field) (v : Int) : (s.putI f v).adc = s.adc := rfl
@[simp] theorem State.putI_resamp (f : Field) (v : Int) : (s.putI f v).resamp = s.resamp := rfl
@[simp] theorem State.putI_cht (f : Field) (v : Int) : (s.putI f v).cht = s.cht := rfl
@[simp] theorem State.putI_qdl (f : Field) (v : Int) : (s.putI f v).qdl = s.qdl := rfl
@[simp] theorem State.putI_ctl (f : Field) (v : Int) : (s.putI f v).ctl = s.ctl := rfl
@[simp] theorem State.putI_spec (f : Field) (v : Int) : (s.putI f v).spec = s.spec := rfl
@[simp] theorem State.putI_dma (f : Field) (v : Int) : (s.putI f v).dma = s.dma := rfl
@[simp] theorem State.putI_mode (f : Field) (v : Int) : (s.putI f v).mode = s.mode := rfl
@[simp] theorem State.putI_pwm (f : Field) (v : Int) : (s.putI f v).pwm = s.pwm := rfl
@[simp] theorem State.putI_gd (f : Field) (v : Int) : (s.putI f v).gd = s.gd := rfl
@[simp] theorem State.putI_prot (f : Field) (v : Int) : (s.putI f v).prot = s.prot := rfl
@[simp] theorem State.putI_safe (f : Field) (v : Int) : (s.putI f v).safe = s.safe := rfl
@[simp] theorem State.putI_rly (f : Field) (v : Int) : (s.putI f v).rly = s.rly := rfl
@[simp] theorem State.putI_met (f : Field) (v : Int) : (s.putI f v).met = s.met := rfl
@[simp] theorem State.putI_hrm (f : Field) (v : Int) : (s.putI f v).hrm = s.hrm := rfl
@[simp] theorem State.putI_hsw (f : Field) (v : Int) : (s.putI f v).hsw = s.hsw := rfl
@[simp] theorem State.putI_ctx (f : Field) (v : Int) : (s.putI f v).ctx = s.ctx := rfl
@[simp] theorem State.putI_ldg (f : Field) (v : Int) : (s.putI f v).ldg = s.ldg := rfl
@[simp] theorem State.putI_bus (f : Field) (v : Int) : (s.putI f v).bus = s.bus := rfl
@[simp] theorem State.putI_host (f : Field) (v : Int) : (s.putI f v).host = s.host := rfl
@[simp] theorem State.putI_sb (f : Field) (v : Int) : (s.putI f v).sb = s.sb := rfl
@[simp] theorem State.putI_pins (f : Field) (v : Int) : (s.putI f v).pins = s.pins := rfl
@[simp] theorem State.putI_jtag (f : Field) (v : Int) : (s.putI f v).jtag = s.jtag := rfl

/-! ### State.putFlag changes regs -/

@[simp] theorem State.putFlag_pending (f : Field) (v : Bool) : (s.putFlag f v).pending = s.pending := rfl
@[simp] theorem State.putFlag_now (f : Field) (v : Bool) : (s.putFlag f v).now = s.now := rfl
@[simp] theorem State.putFlag_sram (f : Field) (v : Bool) : (s.putFlag f v).sram = s.sram := rfl
@[simp] theorem State.putFlag_nvm (f : Field) (v : Bool) : (s.putFlag f v).nvm = s.nvm := rfl
@[simp] theorem State.putFlag_freeIdx (f : Field) (v : Bool) : (s.putFlag f v).freeIdx = s.freeIdx := rfl
@[simp] theorem State.putFlag_tick0 (f : Field) (v : Bool) : (s.putFlag f v).tick0 = s.tick0 := rfl
@[simp] theorem State.putFlag_beat (f : Field) (v : Bool) : (s.putFlag f v).beat = s.beat := rfl
@[simp] theorem State.putFlag_evq (f : Field) (v : Bool) : (s.putFlag f v).evq = s.evq := rfl
@[simp] theorem State.putFlag_lastStatus (f : Field) (v : Bool) : (s.putFlag f v).lastStatus = s.lastStatus := rfl
@[simp] theorem State.putFlag_lastRead (f : Field) (v : Bool) : (s.putFlag f v).lastRead = s.lastRead := rfl
@[simp] theorem State.putFlag_irqc (f : Field) (v : Bool) : (s.putFlag f v).irqc = s.irqc := rfl
@[simp] theorem State.putFlag_log (f : Field) (v : Bool) : (s.putFlag f v).log = s.log := rfl
@[simp] theorem State.putFlag_nvmc (f : Field) (v : Bool) : (s.putFlag f v).nvmc = s.nvmc := rfl
@[simp] theorem State.putFlag_pwr (f : Field) (v : Bool) : (s.putFlag f v).pwr = s.pwr := rfl
@[simp] theorem State.putFlag_cmp (f : Field) (v : Bool) : (s.putFlag f v).cmp = s.cmp := rfl
@[simp] theorem State.putFlag_cps (f : Field) (v : Bool) : (s.putFlag f v).cps = s.cps := rfl
@[simp] theorem State.putFlag_adc (f : Field) (v : Bool) : (s.putFlag f v).adc = s.adc := rfl
@[simp] theorem State.putFlag_resamp (f : Field) (v : Bool) : (s.putFlag f v).resamp = s.resamp := rfl
@[simp] theorem State.putFlag_cht (f : Field) (v : Bool) : (s.putFlag f v).cht = s.cht := rfl
@[simp] theorem State.putFlag_qdl (f : Field) (v : Bool) : (s.putFlag f v).qdl = s.qdl := rfl
@[simp] theorem State.putFlag_ctl (f : Field) (v : Bool) : (s.putFlag f v).ctl = s.ctl := rfl
@[simp] theorem State.putFlag_spec (f : Field) (v : Bool) : (s.putFlag f v).spec = s.spec := rfl
@[simp] theorem State.putFlag_dma (f : Field) (v : Bool) : (s.putFlag f v).dma = s.dma := rfl
@[simp] theorem State.putFlag_mode (f : Field) (v : Bool) : (s.putFlag f v).mode = s.mode := rfl
@[simp] theorem State.putFlag_pwm (f : Field) (v : Bool) : (s.putFlag f v).pwm = s.pwm := rfl
@[simp] theorem State.putFlag_gd (f : Field) (v : Bool) : (s.putFlag f v).gd = s.gd := rfl
@[simp] theorem State.putFlag_prot (f : Field) (v : Bool) : (s.putFlag f v).prot = s.prot := rfl
@[simp] theorem State.putFlag_safe (f : Field) (v : Bool) : (s.putFlag f v).safe = s.safe := rfl
@[simp] theorem State.putFlag_rly (f : Field) (v : Bool) : (s.putFlag f v).rly = s.rly := rfl
@[simp] theorem State.putFlag_met (f : Field) (v : Bool) : (s.putFlag f v).met = s.met := rfl
@[simp] theorem State.putFlag_hrm (f : Field) (v : Bool) : (s.putFlag f v).hrm = s.hrm := rfl
@[simp] theorem State.putFlag_hsw (f : Field) (v : Bool) : (s.putFlag f v).hsw = s.hsw := rfl
@[simp] theorem State.putFlag_ctx (f : Field) (v : Bool) : (s.putFlag f v).ctx = s.ctx := rfl
@[simp] theorem State.putFlag_ldg (f : Field) (v : Bool) : (s.putFlag f v).ldg = s.ldg := rfl
@[simp] theorem State.putFlag_bus (f : Field) (v : Bool) : (s.putFlag f v).bus = s.bus := rfl
@[simp] theorem State.putFlag_host (f : Field) (v : Bool) : (s.putFlag f v).host = s.host := rfl
@[simp] theorem State.putFlag_sb (f : Field) (v : Bool) : (s.putFlag f v).sb = s.sb := rfl
@[simp] theorem State.putFlag_pins (f : Field) (v : Bool) : (s.putFlag f v).pins = s.pins := rfl
@[simp] theorem State.putFlag_jtag (f : Field) (v : Bool) : (s.putFlag f v).jtag = s.jtag := rfl

/-! ### State.inc changes regs -/

@[simp] theorem State.inc_pending (f : Field) : (s.inc f).pending = s.pending := rfl
@[simp] theorem State.inc_now (f : Field) : (s.inc f).now = s.now := rfl
@[simp] theorem State.inc_sram (f : Field) : (s.inc f).sram = s.sram := rfl
@[simp] theorem State.inc_nvm (f : Field) : (s.inc f).nvm = s.nvm := rfl
@[simp] theorem State.inc_freeIdx (f : Field) : (s.inc f).freeIdx = s.freeIdx := rfl
@[simp] theorem State.inc_tick0 (f : Field) : (s.inc f).tick0 = s.tick0 := rfl
@[simp] theorem State.inc_beat (f : Field) : (s.inc f).beat = s.beat := rfl
@[simp] theorem State.inc_evq (f : Field) : (s.inc f).evq = s.evq := rfl
@[simp] theorem State.inc_lastStatus (f : Field) : (s.inc f).lastStatus = s.lastStatus := rfl
@[simp] theorem State.inc_lastRead (f : Field) : (s.inc f).lastRead = s.lastRead := rfl
@[simp] theorem State.inc_irqc (f : Field) : (s.inc f).irqc = s.irqc := rfl
@[simp] theorem State.inc_log (f : Field) : (s.inc f).log = s.log := rfl
@[simp] theorem State.inc_nvmc (f : Field) : (s.inc f).nvmc = s.nvmc := rfl
@[simp] theorem State.inc_pwr (f : Field) : (s.inc f).pwr = s.pwr := rfl
@[simp] theorem State.inc_cmp (f : Field) : (s.inc f).cmp = s.cmp := rfl
@[simp] theorem State.inc_cps (f : Field) : (s.inc f).cps = s.cps := rfl
@[simp] theorem State.inc_adc (f : Field) : (s.inc f).adc = s.adc := rfl
@[simp] theorem State.inc_resamp (f : Field) : (s.inc f).resamp = s.resamp := rfl
@[simp] theorem State.inc_cht (f : Field) : (s.inc f).cht = s.cht := rfl
@[simp] theorem State.inc_qdl (f : Field) : (s.inc f).qdl = s.qdl := rfl
@[simp] theorem State.inc_ctl (f : Field) : (s.inc f).ctl = s.ctl := rfl
@[simp] theorem State.inc_spec (f : Field) : (s.inc f).spec = s.spec := rfl
@[simp] theorem State.inc_dma (f : Field) : (s.inc f).dma = s.dma := rfl
@[simp] theorem State.inc_mode (f : Field) : (s.inc f).mode = s.mode := rfl
@[simp] theorem State.inc_pwm (f : Field) : (s.inc f).pwm = s.pwm := rfl
@[simp] theorem State.inc_gd (f : Field) : (s.inc f).gd = s.gd := rfl
@[simp] theorem State.inc_prot (f : Field) : (s.inc f).prot = s.prot := rfl
@[simp] theorem State.inc_safe (f : Field) : (s.inc f).safe = s.safe := rfl
@[simp] theorem State.inc_rly (f : Field) : (s.inc f).rly = s.rly := rfl
@[simp] theorem State.inc_met (f : Field) : (s.inc f).met = s.met := rfl
@[simp] theorem State.inc_hrm (f : Field) : (s.inc f).hrm = s.hrm := rfl
@[simp] theorem State.inc_hsw (f : Field) : (s.inc f).hsw = s.hsw := rfl
@[simp] theorem State.inc_ctx (f : Field) : (s.inc f).ctx = s.ctx := rfl
@[simp] theorem State.inc_ldg (f : Field) : (s.inc f).ldg = s.ldg := rfl
@[simp] theorem State.inc_bus (f : Field) : (s.inc f).bus = s.bus := rfl
@[simp] theorem State.inc_host (f : Field) : (s.inc f).host = s.host := rfl
@[simp] theorem State.inc_sb (f : Field) : (s.inc f).sb = s.sb := rfl
@[simp] theorem State.inc_pins (f : Field) : (s.inc f).pins = s.pins := rfl
@[simp] theorem State.inc_jtag (f : Field) : (s.inc f).jtag = s.jtag := rfl

/-! ### State.incSat changes regs -/

@[simp] theorem State.incSat_pending (f : Field) : (s.incSat f).pending = s.pending := rfl
@[simp] theorem State.incSat_now (f : Field) : (s.incSat f).now = s.now := rfl
@[simp] theorem State.incSat_sram (f : Field) : (s.incSat f).sram = s.sram := rfl
@[simp] theorem State.incSat_nvm (f : Field) : (s.incSat f).nvm = s.nvm := rfl
@[simp] theorem State.incSat_freeIdx (f : Field) : (s.incSat f).freeIdx = s.freeIdx := rfl
@[simp] theorem State.incSat_tick0 (f : Field) : (s.incSat f).tick0 = s.tick0 := rfl
@[simp] theorem State.incSat_beat (f : Field) : (s.incSat f).beat = s.beat := rfl
@[simp] theorem State.incSat_evq (f : Field) : (s.incSat f).evq = s.evq := rfl
@[simp] theorem State.incSat_lastStatus (f : Field) : (s.incSat f).lastStatus = s.lastStatus := rfl
@[simp] theorem State.incSat_lastRead (f : Field) : (s.incSat f).lastRead = s.lastRead := rfl
@[simp] theorem State.incSat_irqc (f : Field) : (s.incSat f).irqc = s.irqc := rfl
@[simp] theorem State.incSat_log (f : Field) : (s.incSat f).log = s.log := rfl
@[simp] theorem State.incSat_nvmc (f : Field) : (s.incSat f).nvmc = s.nvmc := rfl
@[simp] theorem State.incSat_pwr (f : Field) : (s.incSat f).pwr = s.pwr := rfl
@[simp] theorem State.incSat_cmp (f : Field) : (s.incSat f).cmp = s.cmp := rfl
@[simp] theorem State.incSat_cps (f : Field) : (s.incSat f).cps = s.cps := rfl
@[simp] theorem State.incSat_adc (f : Field) : (s.incSat f).adc = s.adc := rfl
@[simp] theorem State.incSat_resamp (f : Field) : (s.incSat f).resamp = s.resamp := rfl
@[simp] theorem State.incSat_cht (f : Field) : (s.incSat f).cht = s.cht := rfl
@[simp] theorem State.incSat_qdl (f : Field) : (s.incSat f).qdl = s.qdl := rfl
@[simp] theorem State.incSat_ctl (f : Field) : (s.incSat f).ctl = s.ctl := rfl
@[simp] theorem State.incSat_spec (f : Field) : (s.incSat f).spec = s.spec := rfl
@[simp] theorem State.incSat_dma (f : Field) : (s.incSat f).dma = s.dma := rfl
@[simp] theorem State.incSat_mode (f : Field) : (s.incSat f).mode = s.mode := rfl
@[simp] theorem State.incSat_pwm (f : Field) : (s.incSat f).pwm = s.pwm := rfl
@[simp] theorem State.incSat_gd (f : Field) : (s.incSat f).gd = s.gd := rfl
@[simp] theorem State.incSat_prot (f : Field) : (s.incSat f).prot = s.prot := rfl
@[simp] theorem State.incSat_safe (f : Field) : (s.incSat f).safe = s.safe := rfl
@[simp] theorem State.incSat_rly (f : Field) : (s.incSat f).rly = s.rly := rfl
@[simp] theorem State.incSat_met (f : Field) : (s.incSat f).met = s.met := rfl
@[simp] theorem State.incSat_hrm (f : Field) : (s.incSat f).hrm = s.hrm := rfl
@[simp] theorem State.incSat_hsw (f : Field) : (s.incSat f).hsw = s.hsw := rfl
@[simp] theorem State.incSat_ctx (f : Field) : (s.incSat f).ctx = s.ctx := rfl
@[simp] theorem State.incSat_ldg (f : Field) : (s.incSat f).ldg = s.ldg := rfl
@[simp] theorem State.incSat_bus (f : Field) : (s.incSat f).bus = s.bus := rfl
@[simp] theorem State.incSat_host (f : Field) : (s.incSat f).host = s.host := rfl
@[simp] theorem State.incSat_sb (f : Field) : (s.incSat f).sb = s.sb := rfl
@[simp] theorem State.incSat_pins (f : Field) : (s.incSat f).pins = s.pins := rfl
@[simp] theorem State.incSat_jtag (f : Field) : (s.incSat f).jtag = s.jtag := rfl

/-! ### State.putBit changes regs -/

@[simp] theorem State.putBit_pending (a b : Nat) (v : Bool) : (s.putBit a b v).pending = s.pending := rfl
@[simp] theorem State.putBit_now (a b : Nat) (v : Bool) : (s.putBit a b v).now = s.now := rfl
@[simp] theorem State.putBit_sram (a b : Nat) (v : Bool) : (s.putBit a b v).sram = s.sram := rfl
@[simp] theorem State.putBit_nvm (a b : Nat) (v : Bool) : (s.putBit a b v).nvm = s.nvm := rfl
@[simp] theorem State.putBit_freeIdx (a b : Nat) (v : Bool) : (s.putBit a b v).freeIdx = s.freeIdx := rfl
@[simp] theorem State.putBit_tick0 (a b : Nat) (v : Bool) : (s.putBit a b v).tick0 = s.tick0 := rfl
@[simp] theorem State.putBit_beat (a b : Nat) (v : Bool) : (s.putBit a b v).beat = s.beat := rfl
@[simp] theorem State.putBit_evq (a b : Nat) (v : Bool) : (s.putBit a b v).evq = s.evq := rfl
@[simp] theorem State.putBit_lastStatus (a b : Nat) (v : Bool) : (s.putBit a b v).lastStatus = s.lastStatus := rfl
@[simp] theorem State.putBit_lastRead (a b : Nat) (v : Bool) : (s.putBit a b v).lastRead = s.lastRead := rfl
@[simp] theorem State.putBit_irqc (a b : Nat) (v : Bool) : (s.putBit a b v).irqc = s.irqc := rfl
@[simp] theorem State.putBit_log (a b : Nat) (v : Bool) : (s.putBit a b v).log = s.log := rfl
@[simp] theorem State.putBit_nvmc (a b : Nat) (v : Bool) : (s.putBit a b v).nvmc = s.nvmc := rfl
@[simp] theorem State.putBit_pwr (a b : Nat) (v : Bool) : (s.putBit a b v).pwr = s.pwr := rfl
@[simp] theorem State.putBit_cmp (a b : Nat) (v : Bool) : (s.putBit a b v).cmp = s.cmp := rfl
@[simp] theorem State.putBit_cps (a b : Nat) (v : Bool) : (s.putBit a b v).cps = s.cps := rfl
@[simp] theorem State.putBit_adc (a b : Nat) (v : Bool) : (s.putBit a b v).adc = s.adc := rfl
@[simp] theorem State.putBit_resamp (a b : Nat) (v : Bool) : (s.putBit a b v).resamp = s.resamp := rfl
@[simp] theorem State.putBit_cht (a b : Nat) (v : Bool) : (s.putBit a b v).cht = s.cht := rfl
@[simp] theorem State.putBit_qdl (a b : Nat) (v : Bool) : (s.putBit a b v).qdl = s.qdl := rfl
@[simp] theorem State.putBit_ctl (a b : Nat) (v : Bool) : (s.putBit a b v).ctl = s.ctl := rfl
@[simp] theorem State.putBit_spec (a b : Nat) (v : Bool) : (s.putBit a b v).spec = s.spec := rfl
@[simp] theorem State.putBit_dma (a b : Nat) (v : Bool) : (s.putBit a b v).dma = s.dma := rfl
@[simp] theorem State.putBit_mode (a b : Nat) (v : Bool) : (s.putBit a b v).mode = s.mode := rfl
@[simp] theorem State.putBit_pwm (a b : Nat) (v : Bool) : (s.putBit a b v).pwm = s.pwm := rfl
@[simp] theorem State.putBit_gd (a b : Nat) (v : Bool) : (s.putBit a b v).gd = s.gd := rfl
@[simp] theorem State.putBit_prot (a b : Nat) (v : Bool) : (s.putBit a b v).prot = s.prot := rfl
@[simp] theorem State.putBit_safe (a b : Nat) (v : Bool) : (s.putBit a b v).safe = s.safe := rfl
@[simp] theorem State.putBit_rly (a b : Nat) (v : Bool) : (s.putBit a b v).rly = s.rly := rfl
@[simp] theorem State.putBit_met (a b : Nat) (v : Bool) : (s.putBit a b v).met = s.met := rfl
@[simp] theorem State.putBit_hrm (a b : Nat) (v : Bool) : (s.putBit a b v).hrm = s.hrm := rfl
@[simp] theorem State.putBit_hsw (a b : Nat) (v : Bool) : (s.putBit a b v).hsw = s.hsw := rfl
@[simp] theorem State.putBit_ctx (a b : Nat) (v : Bool) : (s.putBit a b v).ctx = s.ctx := rfl
@[simp] theorem State.putBit_ldg (a b : Nat) (v : Bool) : (s.putBit a b v).ldg = s.ldg := rfl
@[simp] theorem State.putBit_bus (a b : Nat) (v : Bool) : (s.putBit a b v).bus = s.bus := rfl
@[simp] theorem State.putBit_host (a b : Nat) (v : Bool) : (s.putBit a b v).host = s.host := rfl
@[simp] theorem State.putBit_sb (a b : Nat) (v : Bool) : (s.putBit a b v).sb = s.sb := rfl
@[simp] theorem State.putBit_pins (a b : Nat) (v : Bool) : (s.putBit a b v).pins = s.pins := rfl
@[simp] theorem State.putBit_jtag (a b : Nat) (v : Bool) : (s.putBit a b v).jtag = s.jtag := rfl

/-! ### State.setW1c changes regs, tick0 -/

@[simp] theorem State.setW1c_pending (a b : Nat) : (s.setW1c a b).pending = s.pending := rfl
@[simp] theorem State.setW1c_now (a b : Nat) : (s.setW1c a b).now = s.now := rfl
@[simp] theorem State.setW1c_sram (a b : Nat) : (s.setW1c a b).sram = s.sram := rfl
@[simp] theorem State.setW1c_nvm (a b : Nat) : (s.setW1c a b).nvm = s.nvm := rfl
@[simp] theorem State.setW1c_freeIdx (a b : Nat) : (s.setW1c a b).freeIdx = s.freeIdx := rfl
@[simp] theorem State.setW1c_beat (a b : Nat) : (s.setW1c a b).beat = s.beat := rfl
@[simp] theorem State.setW1c_evq (a b : Nat) : (s.setW1c a b).evq = s.evq := rfl
@[simp] theorem State.setW1c_lastStatus (a b : Nat) : (s.setW1c a b).lastStatus = s.lastStatus := rfl
@[simp] theorem State.setW1c_lastRead (a b : Nat) : (s.setW1c a b).lastRead = s.lastRead := rfl
@[simp] theorem State.setW1c_irqc (a b : Nat) : (s.setW1c a b).irqc = s.irqc := rfl
@[simp] theorem State.setW1c_log (a b : Nat) : (s.setW1c a b).log = s.log := rfl
@[simp] theorem State.setW1c_nvmc (a b : Nat) : (s.setW1c a b).nvmc = s.nvmc := rfl
@[simp] theorem State.setW1c_pwr (a b : Nat) : (s.setW1c a b).pwr = s.pwr := rfl
@[simp] theorem State.setW1c_cmp (a b : Nat) : (s.setW1c a b).cmp = s.cmp := rfl
@[simp] theorem State.setW1c_cps (a b : Nat) : (s.setW1c a b).cps = s.cps := rfl
@[simp] theorem State.setW1c_adc (a b : Nat) : (s.setW1c a b).adc = s.adc := rfl
@[simp] theorem State.setW1c_resamp (a b : Nat) : (s.setW1c a b).resamp = s.resamp := rfl
@[simp] theorem State.setW1c_cht (a b : Nat) : (s.setW1c a b).cht = s.cht := rfl
@[simp] theorem State.setW1c_qdl (a b : Nat) : (s.setW1c a b).qdl = s.qdl := rfl
@[simp] theorem State.setW1c_ctl (a b : Nat) : (s.setW1c a b).ctl = s.ctl := rfl
@[simp] theorem State.setW1c_spec (a b : Nat) : (s.setW1c a b).spec = s.spec := rfl
@[simp] theorem State.setW1c_dma (a b : Nat) : (s.setW1c a b).dma = s.dma := rfl
@[simp] theorem State.setW1c_mode (a b : Nat) : (s.setW1c a b).mode = s.mode := rfl
@[simp] theorem State.setW1c_pwm (a b : Nat) : (s.setW1c a b).pwm = s.pwm := rfl
@[simp] theorem State.setW1c_gd (a b : Nat) : (s.setW1c a b).gd = s.gd := rfl
@[simp] theorem State.setW1c_prot (a b : Nat) : (s.setW1c a b).prot = s.prot := rfl
@[simp] theorem State.setW1c_safe (a b : Nat) : (s.setW1c a b).safe = s.safe := rfl
@[simp] theorem State.setW1c_rly (a b : Nat) : (s.setW1c a b).rly = s.rly := rfl
@[simp] theorem State.setW1c_met (a b : Nat) : (s.setW1c a b).met = s.met := rfl
@[simp] theorem State.setW1c_hrm (a b : Nat) : (s.setW1c a b).hrm = s.hrm := rfl
@[simp] theorem State.setW1c_hsw (a b : Nat) : (s.setW1c a b).hsw = s.hsw := rfl
@[simp] theorem State.setW1c_ctx (a b : Nat) : (s.setW1c a b).ctx = s.ctx := rfl
@[simp] theorem State.setW1c_ldg (a b : Nat) : (s.setW1c a b).ldg = s.ldg := rfl
@[simp] theorem State.setW1c_bus (a b : Nat) : (s.setW1c a b).bus = s.bus := rfl
@[simp] theorem State.setW1c_host (a b : Nat) : (s.setW1c a b).host = s.host := rfl
@[simp] theorem State.setW1c_sb (a b : Nat) : (s.setW1c a b).sb = s.sb := rfl
@[simp] theorem State.setW1c_pins (a b : Nat) : (s.setW1c a b).pins = s.pins := rfl
@[simp] theorem State.setW1c_jtag (a b : Nat) : (s.setW1c a b).jtag = s.jtag := rfl

/-! ### State.setFlag changes regs, tick0 -/

@[simp] theorem State.setFlag_pending (f : Field) : (s.setFlag f).pending = s.pending := rfl
@[simp] theorem State.setFlag_now (f : Field) : (s.setFlag f).now = s.now := rfl
@[simp] theorem State.setFlag_sram (f : Field) : (s.setFlag f).sram = s.sram := rfl
@[simp] theorem State.setFlag_nvm (f : Field) : (s.setFlag f).nvm = s.nvm := rfl
@[simp] theorem State.setFlag_freeIdx (f : Field) : (s.setFlag f).freeIdx = s.freeIdx := rfl
@[simp] theorem State.setFlag_beat (f : Field) : (s.setFlag f).beat = s.beat := rfl
@[simp] theorem State.setFlag_evq (f : Field) : (s.setFlag f).evq = s.evq := rfl
@[simp] theorem State.setFlag_lastStatus (f : Field) : (s.setFlag f).lastStatus = s.lastStatus := rfl
@[simp] theorem State.setFlag_lastRead (f : Field) : (s.setFlag f).lastRead = s.lastRead := rfl
@[simp] theorem State.setFlag_irqc (f : Field) : (s.setFlag f).irqc = s.irqc := rfl
@[simp] theorem State.setFlag_log (f : Field) : (s.setFlag f).log = s.log := rfl
@[simp] theorem State.setFlag_nvmc (f : Field) : (s.setFlag f).nvmc = s.nvmc := rfl
@[simp] theorem State.setFlag_pwr (f : Field) : (s.setFlag f).pwr = s.pwr := rfl
@[simp] theorem State.setFlag_cmp (f : Field) : (s.setFlag f).cmp = s.cmp := rfl
@[simp] theorem State.setFlag_cps (f : Field) : (s.setFlag f).cps = s.cps := rfl
@[simp] theorem State.setFlag_adc (f : Field) : (s.setFlag f).adc = s.adc := rfl
@[simp] theorem State.setFlag_resamp (f : Field) : (s.setFlag f).resamp = s.resamp := rfl
@[simp] theorem State.setFlag_cht (f : Field) : (s.setFlag f).cht = s.cht := rfl
@[simp] theorem State.setFlag_qdl (f : Field) : (s.setFlag f).qdl = s.qdl := rfl
@[simp] theorem State.setFlag_ctl (f : Field) : (s.setFlag f).ctl = s.ctl := rfl
@[simp] theorem State.setFlag_spec (f : Field) : (s.setFlag f).spec = s.spec := rfl
@[simp] theorem State.setFlag_dma (f : Field) : (s.setFlag f).dma = s.dma := rfl
@[simp] theorem State.setFlag_mode (f : Field) : (s.setFlag f).mode = s.mode := rfl
@[simp] theorem State.setFlag_pwm (f : Field) : (s.setFlag f).pwm = s.pwm := rfl
@[simp] theorem State.setFlag_gd (f : Field) : (s.setFlag f).gd = s.gd := rfl
@[simp] theorem State.setFlag_prot (f : Field) : (s.setFlag f).prot = s.prot := rfl
@[simp] theorem State.setFlag_safe (f : Field) : (s.setFlag f).safe = s.safe := rfl
@[simp] theorem State.setFlag_rly (f : Field) : (s.setFlag f).rly = s.rly := rfl
@[simp] theorem State.setFlag_met (f : Field) : (s.setFlag f).met = s.met := rfl
@[simp] theorem State.setFlag_hrm (f : Field) : (s.setFlag f).hrm = s.hrm := rfl
@[simp] theorem State.setFlag_hsw (f : Field) : (s.setFlag f).hsw = s.hsw := rfl
@[simp] theorem State.setFlag_ctx (f : Field) : (s.setFlag f).ctx = s.ctx := rfl
@[simp] theorem State.setFlag_ldg (f : Field) : (s.setFlag f).ldg = s.ldg := rfl
@[simp] theorem State.setFlag_bus (f : Field) : (s.setFlag f).bus = s.bus := rfl
@[simp] theorem State.setFlag_host (f : Field) : (s.setFlag f).host = s.host := rfl
@[simp] theorem State.setFlag_sb (f : Field) : (s.setFlag f).sb = s.sb := rfl
@[simp] theorem State.setFlag_pins (f : Field) : (s.setFlag f).pins = s.pins := rfl
@[simp] theorem State.setFlag_jtag (f : Field) : (s.setFlag f).jtag = s.jtag := rfl

/-! ### State.countWrite changes regs -/

@[simp] theorem State.countWrite_pending (p : Nat) : (s.countWrite p).pending = s.pending := rfl
@[simp] theorem State.countWrite_now (p : Nat) : (s.countWrite p).now = s.now := rfl
@[simp] theorem State.countWrite_sram (p : Nat) : (s.countWrite p).sram = s.sram := rfl
@[simp] theorem State.countWrite_nvm (p : Nat) : (s.countWrite p).nvm = s.nvm := rfl
@[simp] theorem State.countWrite_freeIdx (p : Nat) : (s.countWrite p).freeIdx = s.freeIdx := rfl
@[simp] theorem State.countWrite_tick0 (p : Nat) : (s.countWrite p).tick0 = s.tick0 := rfl
@[simp] theorem State.countWrite_beat (p : Nat) : (s.countWrite p).beat = s.beat := rfl
@[simp] theorem State.countWrite_evq (p : Nat) : (s.countWrite p).evq = s.evq := rfl
@[simp] theorem State.countWrite_lastStatus (p : Nat) : (s.countWrite p).lastStatus = s.lastStatus := rfl
@[simp] theorem State.countWrite_lastRead (p : Nat) : (s.countWrite p).lastRead = s.lastRead := rfl
@[simp] theorem State.countWrite_irqc (p : Nat) : (s.countWrite p).irqc = s.irqc := rfl
@[simp] theorem State.countWrite_log (p : Nat) : (s.countWrite p).log = s.log := rfl
@[simp] theorem State.countWrite_nvmc (p : Nat) : (s.countWrite p).nvmc = s.nvmc := rfl
@[simp] theorem State.countWrite_pwr (p : Nat) : (s.countWrite p).pwr = s.pwr := rfl
@[simp] theorem State.countWrite_cmp (p : Nat) : (s.countWrite p).cmp = s.cmp := rfl
@[simp] theorem State.countWrite_cps (p : Nat) : (s.countWrite p).cps = s.cps := rfl
@[simp] theorem State.countWrite_adc (p : Nat) : (s.countWrite p).adc = s.adc := rfl
@[simp] theorem State.countWrite_resamp (p : Nat) : (s.countWrite p).resamp = s.resamp := rfl
@[simp] theorem State.countWrite_cht (p : Nat) : (s.countWrite p).cht = s.cht := rfl
@[simp] theorem State.countWrite_qdl (p : Nat) : (s.countWrite p).qdl = s.qdl := rfl
@[simp] theorem State.countWrite_ctl (p : Nat) : (s.countWrite p).ctl = s.ctl := rfl
@[simp] theorem State.countWrite_spec (p : Nat) : (s.countWrite p).spec = s.spec := rfl
@[simp] theorem State.countWrite_dma (p : Nat) : (s.countWrite p).dma = s.dma := rfl
@[simp] theorem State.countWrite_mode (p : Nat) : (s.countWrite p).mode = s.mode := rfl
@[simp] theorem State.countWrite_pwm (p : Nat) : (s.countWrite p).pwm = s.pwm := rfl
@[simp] theorem State.countWrite_gd (p : Nat) : (s.countWrite p).gd = s.gd := rfl
@[simp] theorem State.countWrite_prot (p : Nat) : (s.countWrite p).prot = s.prot := rfl
@[simp] theorem State.countWrite_safe (p : Nat) : (s.countWrite p).safe = s.safe := rfl
@[simp] theorem State.countWrite_rly (p : Nat) : (s.countWrite p).rly = s.rly := rfl
@[simp] theorem State.countWrite_met (p : Nat) : (s.countWrite p).met = s.met := rfl
@[simp] theorem State.countWrite_hrm (p : Nat) : (s.countWrite p).hrm = s.hrm := rfl
@[simp] theorem State.countWrite_hsw (p : Nat) : (s.countWrite p).hsw = s.hsw := rfl
@[simp] theorem State.countWrite_ctx (p : Nat) : (s.countWrite p).ctx = s.ctx := rfl
@[simp] theorem State.countWrite_ldg (p : Nat) : (s.countWrite p).ldg = s.ldg := rfl
@[simp] theorem State.countWrite_bus (p : Nat) : (s.countWrite p).bus = s.bus := rfl
@[simp] theorem State.countWrite_host (p : Nat) : (s.countWrite p).host = s.host := rfl
@[simp] theorem State.countWrite_sb (p : Nat) : (s.countWrite p).sb = s.sb := rfl
@[simp] theorem State.countWrite_pins (p : Nat) : (s.countWrite p).pins = s.pins := rfl
@[simp] theorem State.countWrite_jtag (p : Nat) : (s.countWrite p).jtag = s.jtag := rfl

/-! ### State.setSramByte changes sram -/

@[simp] theorem State.setSramByte_pending (a : Nat) (v : Byte) : (s.setSramByte a v).pending = s.pending := rfl
@[simp] theorem State.setSramByte_now (a : Nat) (v : Byte) : (s.setSramByte a v).now = s.now := rfl
@[simp] theorem State.setSramByte_regs (a : Nat) (v : Byte) : (s.setSramByte a v).regs = s.regs := rfl
@[simp] theorem State.setSramByte_nvm (a : Nat) (v : Byte) : (s.setSramByte a v).nvm = s.nvm := rfl
@[simp] theorem State.setSramByte_freeIdx (a : Nat) (v : Byte) : (s.setSramByte a v).freeIdx = s.freeIdx := rfl
@[simp] theorem State.setSramByte_tick0 (a : Nat) (v : Byte) : (s.setSramByte a v).tick0 = s.tick0 := rfl
@[simp] theorem State.setSramByte_beat (a : Nat) (v : Byte) : (s.setSramByte a v).beat = s.beat := rfl
@[simp] theorem State.setSramByte_evq (a : Nat) (v : Byte) : (s.setSramByte a v).evq = s.evq := rfl
@[simp] theorem State.setSramByte_lastStatus (a : Nat) (v : Byte) : (s.setSramByte a v).lastStatus = s.lastStatus := rfl
@[simp] theorem State.setSramByte_lastRead (a : Nat) (v : Byte) : (s.setSramByte a v).lastRead = s.lastRead := rfl
@[simp] theorem State.setSramByte_irqc (a : Nat) (v : Byte) : (s.setSramByte a v).irqc = s.irqc := rfl
@[simp] theorem State.setSramByte_log (a : Nat) (v : Byte) : (s.setSramByte a v).log = s.log := rfl
@[simp] theorem State.setSramByte_nvmc (a : Nat) (v : Byte) : (s.setSramByte a v).nvmc = s.nvmc := rfl
@[simp] theorem State.setSramByte_pwr (a : Nat) (v : Byte) : (s.setSramByte a v).pwr = s.pwr := rfl
@[simp] theorem State.setSramByte_cmp (a : Nat) (v : Byte) : (s.setSramByte a v).cmp = s.cmp := rfl
@[simp] theorem State.setSramByte_cps (a : Nat) (v : Byte) : (s.setSramByte a v).cps = s.cps := rfl
@[simp] theorem State.setSramByte_adc (a : Nat) (v : Byte) : (s.setSramByte a v).adc = s.adc := rfl
@[simp] theorem State.setSramByte_resamp (a : Nat) (v : Byte) : (s.setSramByte a v).resamp = s.resamp := rfl
@[simp] theorem State.setSramByte_cht (a : Nat) (v : Byte) : (s.setSramByte a v).cht = s.cht := rfl
@[simp] theorem State.setSramByte_qdl (a : Nat) (v : Byte) : (s.setSramByte a v).qdl = s.qdl := rfl
@[simp] theorem State.setSramByte_ctl (a : Nat) (v : Byte) : (s.setSramByte a v).ctl = s.ctl := rfl
@[simp] theorem State.setSramByte_spec (a : Nat) (v : Byte) : (s.setSramByte a v).spec = s.spec := rfl
@[simp] theorem State.setSramByte_dma (a : Nat) (v : Byte) : (s.setSramByte a v).dma = s.dma := rfl
@[simp] theorem State.setSramByte_mode (a : Nat) (v : Byte) : (s.setSramByte a v).mode = s.mode := rfl
@[simp] theorem State.setSramByte_pwm (a : Nat) (v : Byte) : (s.setSramByte a v).pwm = s.pwm := rfl
@[simp] theorem State.setSramByte_gd (a : Nat) (v : Byte) : (s.setSramByte a v).gd = s.gd := rfl
@[simp] theorem State.setSramByte_prot (a : Nat) (v : Byte) : (s.setSramByte a v).prot = s.prot := rfl
@[simp] theorem State.setSramByte_safe (a : Nat) (v : Byte) : (s.setSramByte a v).safe = s.safe := rfl
@[simp] theorem State.setSramByte_rly (a : Nat) (v : Byte) : (s.setSramByte a v).rly = s.rly := rfl
@[simp] theorem State.setSramByte_met (a : Nat) (v : Byte) : (s.setSramByte a v).met = s.met := rfl
@[simp] theorem State.setSramByte_hrm (a : Nat) (v : Byte) : (s.setSramByte a v).hrm = s.hrm := rfl
@[simp] theorem State.setSramByte_hsw (a : Nat) (v : Byte) : (s.setSramByte a v).hsw = s.hsw := rfl
@[simp] theorem State.setSramByte_ctx (a : Nat) (v : Byte) : (s.setSramByte a v).ctx = s.ctx := rfl
@[simp] theorem State.setSramByte_ldg (a : Nat) (v : Byte) : (s.setSramByte a v).ldg = s.ldg := rfl
@[simp] theorem State.setSramByte_bus (a : Nat) (v : Byte) : (s.setSramByte a v).bus = s.bus := rfl
@[simp] theorem State.setSramByte_host (a : Nat) (v : Byte) : (s.setSramByte a v).host = s.host := rfl
@[simp] theorem State.setSramByte_sb (a : Nat) (v : Byte) : (s.setSramByte a v).sb = s.sb := rfl
@[simp] theorem State.setSramByte_pins (a : Nat) (v : Byte) : (s.setSramByte a v).pins = s.pins := rfl
@[simp] theorem State.setSramByte_jtag (a : Nat) (v : Byte) : (s.setSramByte a v).jtag = s.jtag := rfl

/-! ### State.setNvmByte changes nvm -/

@[simp] theorem State.setNvmByte_pending (a : Nat) (v : Byte) : (s.setNvmByte a v).pending = s.pending := rfl
@[simp] theorem State.setNvmByte_now (a : Nat) (v : Byte) : (s.setNvmByte a v).now = s.now := rfl
@[simp] theorem State.setNvmByte_regs (a : Nat) (v : Byte) : (s.setNvmByte a v).regs = s.regs := rfl
@[simp] theorem State.setNvmByte_sram (a : Nat) (v : Byte) : (s.setNvmByte a v).sram = s.sram := rfl
@[simp] theorem State.setNvmByte_freeIdx (a : Nat) (v : Byte) : (s.setNvmByte a v).freeIdx = s.freeIdx := rfl
@[simp] theorem State.setNvmByte_tick0 (a : Nat) (v : Byte) : (s.setNvmByte a v).tick0 = s.tick0 := rfl
@[simp] theorem State.setNvmByte_beat (a : Nat) (v : Byte) : (s.setNvmByte a v).beat = s.beat := rfl
@[simp] theorem State.setNvmByte_evq (a : Nat) (v : Byte) : (s.setNvmByte a v).evq = s.evq := rfl
@[simp] theorem State.setNvmByte_lastStatus (a : Nat) (v : Byte) : (s.setNvmByte a v).lastStatus = s.lastStatus := rfl
@[simp] theorem State.setNvmByte_lastRead (a : Nat) (v : Byte) : (s.setNvmByte a v).lastRead = s.lastRead := rfl
@[simp] theorem State.setNvmByte_irqc (a : Nat) (v : Byte) : (s.setNvmByte a v).irqc = s.irqc := rfl
@[simp] theorem State.setNvmByte_log (a : Nat) (v : Byte) : (s.setNvmByte a v).log = s.log := rfl
@[simp] theorem State.setNvmByte_nvmc (a : Nat) (v : Byte) : (s.setNvmByte a v).nvmc = s.nvmc := rfl
@[simp] theorem State.setNvmByte_pwr (a : Nat) (v : Byte) : (s.setNvmByte a v).pwr = s.pwr := rfl
@[simp] theorem State.setNvmByte_cmp (a : Nat) (v : Byte) : (s.setNvmByte a v).cmp = s.cmp := rfl
@[simp] theorem State.setNvmByte_cps (a : Nat) (v : Byte) : (s.setNvmByte a v).cps = s.cps := rfl
@[simp] theorem State.setNvmByte_adc (a : Nat) (v : Byte) : (s.setNvmByte a v).adc = s.adc := rfl
@[simp] theorem State.setNvmByte_resamp (a : Nat) (v : Byte) : (s.setNvmByte a v).resamp = s.resamp := rfl
@[simp] theorem State.setNvmByte_cht (a : Nat) (v : Byte) : (s.setNvmByte a v).cht = s.cht := rfl
@[simp] theorem State.setNvmByte_qdl (a : Nat) (v : Byte) : (s.setNvmByte a v).qdl = s.qdl := rfl
@[simp] theorem State.setNvmByte_ctl (a : Nat) (v : Byte) : (s.setNvmByte a v).ctl = s.ctl := rfl
@[simp] theorem State.setNvmByte_spec (a : Nat) (v : Byte) : (s.setNvmByte a v).spec = s.spec := rfl
@[simp] theorem State.setNvmByte_dma (a : Nat) (v : Byte) : (s.setNvmByte a v).dma = s.dma := rfl
@[simp] theorem State.setNvmByte_mode (a : Nat) (v : Byte) : (s.setNvmByte a v).mode = s.mode := rfl
@[simp] theorem State.setNvmByte_pwm (a : Nat) (v : Byte) : (s.setNvmByte a v).pwm = s.pwm := rfl
@[simp] theorem State.setNvmByte_gd (a : Nat) (v : Byte) : (s.setNvmByte a v).gd = s.gd := rfl
@[simp] theorem State.setNvmByte_prot (a : Nat) (v : Byte) : (s.setNvmByte a v).prot = s.prot := rfl
@[simp] theorem State.setNvmByte_safe (a : Nat) (v : Byte) : (s.setNvmByte a v).safe = s.safe := rfl
@[simp] theorem State.setNvmByte_rly (a : Nat) (v : Byte) : (s.setNvmByte a v).rly = s.rly := rfl
@[simp] theorem State.setNvmByte_met (a : Nat) (v : Byte) : (s.setNvmByte a v).met = s.met := rfl
@[simp] theorem State.setNvmByte_hrm (a : Nat) (v : Byte) : (s.setNvmByte a v).hrm = s.hrm := rfl
@[simp] theorem State.setNvmByte_hsw (a : Nat) (v : Byte) : (s.setNvmByte a v).hsw = s.hsw := rfl
@[simp] theorem State.setNvmByte_ctx (a : Nat) (v : Byte) : (s.setNvmByte a v).ctx = s.ctx := rfl
@[simp] theorem State.setNvmByte_ldg (a : Nat) (v : Byte) : (s.setNvmByte a v).ldg = s.ldg := rfl
@[simp] theorem State.setNvmByte_bus (a : Nat) (v : Byte) : (s.setNvmByte a v).bus = s.bus := rfl
@[simp] theorem State.setNvmByte_host (a : Nat) (v : Byte) : (s.setNvmByte a v).host = s.host := rfl
@[simp] theorem State.setNvmByte_sb (a : Nat) (v : Byte) : (s.setNvmByte a v).sb = s.sb := rfl
@[simp] theorem State.setNvmByte_pins (a : Nat) (v : Byte) : (s.setNvmByte a v).pins = s.pins := rfl
@[simp] theorem State.setNvmByte_jtag (a : Nat) (v : Byte) : (s.setNvmByte a v).jtag = s.jtag := rfl

/-! ### State.nvmEraseIf changes nvm -/

@[simp] theorem State.nvmEraseIf_pending (p : Nat → Bool) : (s.nvmEraseIf p).pending = s.pending := rfl
@[simp] theorem State.nvmEraseIf_now (p : Nat → Bool) : (s.nvmEraseIf p).now = s.now := rfl
@[simp] theorem State.nvmEraseIf_regs (p : Nat → Bool) : (s.nvmEraseIf p).regs = s.regs := rfl
@[simp] theorem State.nvmEraseIf_sram (p : Nat → Bool) : (s.nvmEraseIf p).sram = s.sram := rfl
@[simp] theorem State.nvmEraseIf_freeIdx (p : Nat → Bool) : (s.nvmEraseIf p).freeIdx = s.freeIdx := rfl
@[simp] theorem State.nvmEraseIf_tick0 (p : Nat → Bool) : (s.nvmEraseIf p).tick0 = s.tick0 := rfl
@[simp] theorem State.nvmEraseIf_beat (p : Nat → Bool) : (s.nvmEraseIf p).beat = s.beat := rfl
@[simp] theorem State.nvmEraseIf_evq (p : Nat → Bool) : (s.nvmEraseIf p).evq = s.evq := rfl
@[simp] theorem State.nvmEraseIf_lastStatus (p : Nat → Bool) : (s.nvmEraseIf p).lastStatus = s.lastStatus := rfl
@[simp] theorem State.nvmEraseIf_lastRead (p : Nat → Bool) : (s.nvmEraseIf p).lastRead = s.lastRead := rfl
@[simp] theorem State.nvmEraseIf_irqc (p : Nat → Bool) : (s.nvmEraseIf p).irqc = s.irqc := rfl
@[simp] theorem State.nvmEraseIf_log (p : Nat → Bool) : (s.nvmEraseIf p).log = s.log := rfl
@[simp] theorem State.nvmEraseIf_nvmc (p : Nat → Bool) : (s.nvmEraseIf p).nvmc = s.nvmc := rfl
@[simp] theorem State.nvmEraseIf_pwr (p : Nat → Bool) : (s.nvmEraseIf p).pwr = s.pwr := rfl
@[simp] theorem State.nvmEraseIf_cmp (p : Nat → Bool) : (s.nvmEraseIf p).cmp = s.cmp := rfl
@[simp] theorem State.nvmEraseIf_cps (p : Nat → Bool) : (s.nvmEraseIf p).cps = s.cps := rfl
@[simp] theorem State.nvmEraseIf_adc (p : Nat → Bool) : (s.nvmEraseIf p).adc = s.adc := rfl
@[simp] theorem State.nvmEraseIf_resamp (p : Nat → Bool) : (s.nvmEraseIf p).resamp = s.resamp := rfl
@[simp] theorem State.nvmEraseIf_cht (p : Nat → Bool) : (s.nvmEraseIf p).cht = s.cht := rfl
@[simp] theorem State.nvmEraseIf_qdl (p : Nat → Bool) : (s.nvmEraseIf p).qdl = s.qdl := rfl
@[simp] theorem State.nvmEraseIf_ctl (p : Nat → Bool) : (s.nvmEraseIf p).ctl = s.ctl := rfl
@[simp] theorem State.nvmEraseIf_spec (p : Nat → Bool) : (s.nvmEraseIf p).spec = s.spec := rfl
@[simp] theorem State.nvmEraseIf_dma (p : Nat → Bool) : (s.nvmEraseIf p).dma = s.dma := rfl
@[simp] theorem State.nvmEraseIf_mode (p : Nat → Bool) : (s.nvmEraseIf p).mode = s.mode := rfl
@[simp] theorem State.nvmEraseIf_pwm (p : Nat → Bool) : (s.nvmEraseIf p).pwm = s.pwm := rfl
@[simp] theorem State.nvmEraseIf_gd (p : Nat → Bool) : (s.nvmEraseIf p).gd = s.gd := rfl
@[simp] theorem State.nvmEraseIf_prot (p : Nat → Bool) : (s.nvmEraseIf p).prot = s.prot := rfl
@[simp] theorem State.nvmEraseIf_safe (p : Nat → Bool) : (s.nvmEraseIf p).safe = s.safe := rfl
@[simp] theorem State.nvmEraseIf_rly (p : Nat → Bool) : (s.nvmEraseIf p).rly = s.rly := rfl
@[simp] theorem State.nvmEraseIf_met (p : Nat → Bool) : (s.nvmEraseIf p).met = s.met := rfl
@[simp] theorem State.nvmEraseIf_hrm (p : Nat → Bool) : (s.nvmEraseIf p).hrm = s.hrm := rfl
@[simp] theorem State.nvmEraseIf_hsw (p : Nat → Bool) : (s.nvmEraseIf p).hsw = s.hsw := rfl
@[simp] theorem State.nvmEraseIf_ctx (p : Nat → Bool) : (s.nvmEraseIf p).ctx = s.ctx := rfl
@[simp] theorem State.nvmEraseIf_ldg (p : Nat → Bool) : (s.nvmEraseIf p).ldg = s.ldg := rfl
@[simp] theorem State.nvmEraseIf_bus (p : Nat → Bool) : (s.nvmEraseIf p).bus = s.bus := rfl
@[simp] theorem State.nvmEraseIf_host (p : Nat → Bool) : (s.nvmEraseIf p).host = s.host := rfl
@[simp] theorem State.nvmEraseIf_sb (p : Nat → Bool) : (s.nvmEraseIf p).sb = s.sb := rfl
@[simp] theorem State.nvmEraseIf_pins (p : Nat → Bool) : (s.nvmEraseIf p).pins = s.pins := rfl
@[simp] theorem State.nvmEraseIf_jtag (p : Nat → Bool) : (s.nvmEraseIf p).jtag = s.jtag := rfl

/-! ### State.pulseIn changes evq -/

@[simp] theorem State.pulseIn_pending (k e : Nat) : (s.pulseIn k e).pending = s.pending := rfl
@[simp] theorem State.pulseIn_now (k e : Nat) : (s.pulseIn k e).now = s.now := rfl
@[simp] theorem State.pulseIn_regs (k e : Nat) : (s.pulseIn k e).regs = s.regs := rfl
@[simp] theorem State.pulseIn_sram (k e : Nat) : (s.pulseIn k e).sram = s.sram := rfl
@[simp] theorem State.pulseIn_nvm (k e : Nat) : (s.pulseIn k e).nvm = s.nvm := rfl
@[simp] theorem State.pulseIn_freeIdx (k e : Nat) : (s.pulseIn k e).freeIdx = s.freeIdx := rfl
@[simp] theorem State.pulseIn_tick0 (k e : Nat) : (s.pulseIn k e).tick0 = s.tick0 := rfl
@[simp] theorem State.pulseIn_beat (k e : Nat) : (s.pulseIn k e).beat = s.beat := rfl
@[simp] theorem State.pulseIn_lastStatus (k e : Nat) : (s.pulseIn k e).lastStatus = s.lastStatus := rfl
@[simp] theorem State.pulseIn_lastRead (k e : Nat) : (s.pulseIn k e).lastRead = s.lastRead := rfl
@[simp] theorem State.pulseIn_irqc (k e : Nat) : (s.pulseIn k e).irqc = s.irqc := rfl
@[simp] theorem State.pulseIn_log (k e : Nat) : (s.pulseIn k e).log = s.log := rfl
@[simp] theorem State.pulseIn_nvmc (k e : Nat) : (s.pulseIn k e).nvmc = s.nvmc := rfl
@[simp] theorem State.pulseIn_pwr (k e : Nat) : (s.pulseIn k e).pwr = s.pwr := rfl
@[simp] theorem State.pulseIn_cmp (k e : Nat) : (s.pulseIn k e).cmp = s.cmp := rfl
@[simp] theorem State.pulseIn_cps (k e : Nat) : (s.pulseIn k e).cps = s.cps := rfl
@[simp] theorem State.pulseIn_adc (k e : Nat) : (s.pulseIn k e).adc = s.adc := rfl
@[simp] theorem State.pulseIn_resamp (k e : Nat) : (s.pulseIn k e).resamp = s.resamp := rfl
@[simp] theorem State.pulseIn_cht (k e : Nat) : (s.pulseIn k e).cht = s.cht := rfl
@[simp] theorem State.pulseIn_qdl (k e : Nat) : (s.pulseIn k e).qdl = s.qdl := rfl
@[simp] theorem State.pulseIn_ctl (k e : Nat) : (s.pulseIn k e).ctl = s.ctl := rfl
@[simp] theorem State.pulseIn_spec (k e : Nat) : (s.pulseIn k e).spec = s.spec := rfl
@[simp] theorem State.pulseIn_dma (k e : Nat) : (s.pulseIn k e).dma = s.dma := rfl
@[simp] theorem State.pulseIn_mode (k e : Nat) : (s.pulseIn k e).mode = s.mode := rfl
@[simp] theorem State.pulseIn_pwm (k e : Nat) : (s.pulseIn k e).pwm = s.pwm := rfl
@[simp] theorem State.pulseIn_gd (k e : Nat) : (s.pulseIn k e).gd = s.gd := rfl
@[simp] theorem State.pulseIn_prot (k e : Nat) : (s.pulseIn k e).prot = s.prot := rfl
@[simp] theorem State.pulseIn_safe (k e : Nat) : (s.pulseIn k e).safe = s.safe := rfl
@[simp] theorem State.pulseIn_rly (k e : Nat) : (s.pulseIn k e).rly = s.rly := rfl
@[simp] theorem State.pulseIn_met (k e : Nat) : (s.pulseIn k e).met = s.met := rfl
@[simp] theorem State.pulseIn_hrm (k e : Nat) : (s.pulseIn k e).hrm = s.hrm := rfl
@[simp] theorem State.pulseIn_hsw (k e : Nat) : (s.pulseIn k e).hsw = s.hsw := rfl
@[simp] theorem State.pulseIn_ctx (k e : Nat) : (s.pulseIn k e).ctx = s.ctx := rfl
@[simp] theorem State.pulseIn_ldg (k e : Nat) : (s.pulseIn k e).ldg = s.ldg := rfl
@[simp] theorem State.pulseIn_bus (k e : Nat) : (s.pulseIn k e).bus = s.bus := rfl
@[simp] theorem State.pulseIn_host (k e : Nat) : (s.pulseIn k e).host = s.host := rfl
@[simp] theorem State.pulseIn_sb (k e : Nat) : (s.pulseIn k e).sb = s.sb := rfl
@[simp] theorem State.pulseIn_pins (k e : Nat) : (s.pulseIn k e).pins = s.pins := rfl
@[simp] theorem State.pulseIn_jtag (k e : Nat) : (s.pulseIn k e).jtag = s.jtag := rfl

/-! ### State.pulse changes evq -/

@[simp] theorem State.pulse_pending (e : Nat) : (s.pulse e).pending = s.pending := rfl
@[simp] theorem State.pulse_now (e : Nat) : (s.pulse e).now = s.now := rfl
@[simp] theorem State.pulse_regs (e : Nat) : (s.pulse e).regs = s.regs := rfl
@[simp] theorem State.pulse_sram (e : Nat) : (s.pulse e).sram = s.sram := rfl
@[simp] theorem State.pulse_nvm (e : Nat) : (s.pulse e).nvm = s.nvm := rfl
@[simp] theorem State.pulse_freeIdx (e : Nat) : (s.pulse e).freeIdx = s.freeIdx := rfl
@[simp] theorem State.pulse_tick0 (e : Nat) : (s.pulse e).tick0 = s.tick0 := rfl
@[simp] theorem State.pulse_beat (e : Nat) : (s.pulse e).beat = s.beat := rfl
@[simp] theorem State.pulse_lastStatus (e : Nat) : (s.pulse e).lastStatus = s.lastStatus := rfl
@[simp] theorem State.pulse_lastRead (e : Nat) : (s.pulse e).lastRead = s.lastRead := rfl
@[simp] theorem State.pulse_irqc (e : Nat) : (s.pulse e).irqc = s.irqc := rfl
@[simp] theorem State.pulse_log (e : Nat) : (s.pulse e).log = s.log := rfl
@[simp] theorem State.pulse_nvmc (e : Nat) : (s.pulse e).nvmc = s.nvmc := rfl
@[simp] theorem State.pulse_pwr (e : Nat) : (s.pulse e).pwr = s.pwr := rfl
@[simp] theorem State.pulse_cmp (e : Nat) : (s.pulse e).cmp = s.cmp := rfl
@[simp] theorem State.pulse_cps (e : Nat) : (s.pulse e).cps = s.cps := rfl
@[simp] theorem State.pulse_adc (e : Nat) : (s.pulse e).adc = s.adc := rfl
@[simp] theorem State.pulse_resamp (e : Nat) : (s.pulse e).resamp = s.resamp := rfl
@[simp] theorem State.pulse_cht (e : Nat) : (s.pulse e).cht = s.cht := rfl
@[simp] theorem State.pulse_qdl (e : Nat) : (s.pulse e).qdl = s.qdl := rfl
@[simp] theorem State.pulse_ctl (e : Nat) : (s.pulse e).ctl = s.ctl := rfl
@[simp] theorem State.pulse_spec (e : Nat) : (s.pulse e).spec = s.spec := rfl
@[simp] theorem State.pulse_dma (e : Nat) : (s.pulse e).dma = s.dma := rfl
@[simp] theorem State.pulse_mode (e : Nat) : (s.pulse e).mode = s.mode := rfl
@[simp] theorem State.pulse_pwm (e : Nat) : (s.pulse e).pwm = s.pwm := rfl
@[simp] theorem State.pulse_gd (e : Nat) : (s.pulse e).gd = s.gd := rfl
@[simp] theorem State.pulse_prot (e : Nat) : (s.pulse e).prot = s.prot := rfl
@[simp] theorem State.pulse_safe (e : Nat) : (s.pulse e).safe = s.safe := rfl
@[simp] theorem State.pulse_rly (e : Nat) : (s.pulse e).rly = s.rly := rfl
@[simp] theorem State.pulse_met (e : Nat) : (s.pulse e).met = s.met := rfl
@[simp] theorem State.pulse_hrm (e : Nat) : (s.pulse e).hrm = s.hrm := rfl
@[simp] theorem State.pulse_hsw (e : Nat) : (s.pulse e).hsw = s.hsw := rfl
@[simp] theorem State.pulse_ctx (e : Nat) : (s.pulse e).ctx = s.ctx := rfl
@[simp] theorem State.pulse_ldg (e : Nat) : (s.pulse e).ldg = s.ldg := rfl
@[simp] theorem State.pulse_bus (e : Nat) : (s.pulse e).bus = s.bus := rfl
@[simp] theorem State.pulse_host (e : Nat) : (s.pulse e).host = s.host := rfl
@[simp] theorem State.pulse_sb (e : Nat) : (s.pulse e).sb = s.sb := rfl
@[simp] theorem State.pulse_pins (e : Nat) : (s.pulse e).pins = s.pins := rfl
@[simp] theorem State.pulse_jtag (e : Nat) : (s.pulse e).jtag = s.jtag := rfl

/-! ### State.setLog changes log -/

@[simp] theorem State.setLog_pending (l : LogSt) : (s.setLog l).pending = s.pending := rfl
@[simp] theorem State.setLog_now (l : LogSt) : (s.setLog l).now = s.now := rfl
@[simp] theorem State.setLog_regs (l : LogSt) : (s.setLog l).regs = s.regs := rfl
@[simp] theorem State.setLog_sram (l : LogSt) : (s.setLog l).sram = s.sram := rfl
@[simp] theorem State.setLog_nvm (l : LogSt) : (s.setLog l).nvm = s.nvm := rfl
@[simp] theorem State.setLog_freeIdx (l : LogSt) : (s.setLog l).freeIdx = s.freeIdx := rfl
@[simp] theorem State.setLog_tick0 (l : LogSt) : (s.setLog l).tick0 = s.tick0 := rfl
@[simp] theorem State.setLog_beat (l : LogSt) : (s.setLog l).beat = s.beat := rfl
@[simp] theorem State.setLog_evq (l : LogSt) : (s.setLog l).evq = s.evq := rfl
@[simp] theorem State.setLog_lastStatus (l : LogSt) : (s.setLog l).lastStatus = s.lastStatus := rfl
@[simp] theorem State.setLog_lastRead (l : LogSt) : (s.setLog l).lastRead = s.lastRead := rfl
@[simp] theorem State.setLog_irqc (l : LogSt) : (s.setLog l).irqc = s.irqc := rfl
@[simp] theorem State.setLog_nvmc (l : LogSt) : (s.setLog l).nvmc = s.nvmc := rfl
@[simp] theorem State.setLog_pwr (l : LogSt) : (s.setLog l).pwr = s.pwr := rfl
@[simp] theorem State.setLog_cmp (l : LogSt) : (s.setLog l).cmp = s.cmp := rfl
@[simp] theorem State.setLog_cps (l : LogSt) : (s.setLog l).cps = s.cps := rfl
@[simp] theorem State.setLog_adc (l : LogSt) : (s.setLog l).adc = s.adc := rfl
@[simp] theorem State.setLog_resamp (l : LogSt) : (s.setLog l).resamp = s.resamp := rfl
@[simp] theorem State.setLog_cht (l : LogSt) : (s.setLog l).cht = s.cht := rfl
@[simp] theorem State.setLog_qdl (l : LogSt) : (s.setLog l).qdl = s.qdl := rfl
@[simp] theorem State.setLog_ctl (l : LogSt) : (s.setLog l).ctl = s.ctl := rfl
@[simp] theorem State.setLog_spec (l : LogSt) : (s.setLog l).spec = s.spec := rfl
@[simp] theorem State.setLog_dma (l : LogSt) : (s.setLog l).dma = s.dma := rfl
@[simp] theorem State.setLog_mode (l : LogSt) : (s.setLog l).mode = s.mode := rfl
@[simp] theorem State.setLog_pwm (l : LogSt) : (s.setLog l).pwm = s.pwm := rfl
@[simp] theorem State.setLog_gd (l : LogSt) : (s.setLog l).gd = s.gd := rfl
@[simp] theorem State.setLog_prot (l : LogSt) : (s.setLog l).prot = s.prot := rfl
@[simp] theorem State.setLog_safe (l : LogSt) : (s.setLog l).safe = s.safe := rfl
@[simp] theorem State.setLog_rly (l : LogSt) : (s.setLog l).rly = s.rly := rfl
@[simp] theorem State.setLog_met (l : LogSt) : (s.setLog l).met = s.met := rfl
@[simp] theorem State.setLog_hrm (l : LogSt) : (s.setLog l).hrm = s.hrm := rfl
@[simp] theorem State.setLog_hsw (l : LogSt) : (s.setLog l).hsw = s.hsw := rfl
@[simp] theorem State.setLog_ctx (l : LogSt) : (s.setLog l).ctx = s.ctx := rfl
@[simp] theorem State.setLog_ldg (l : LogSt) : (s.setLog l).ldg = s.ldg := rfl
@[simp] theorem State.setLog_bus (l : LogSt) : (s.setLog l).bus = s.bus := rfl
@[simp] theorem State.setLog_host (l : LogSt) : (s.setLog l).host = s.host := rfl
@[simp] theorem State.setLog_sb (l : LogSt) : (s.setLog l).sb = s.sb := rfl
@[simp] theorem State.setLog_pins (l : LogSt) : (s.setLog l).pins = s.pins := rfl
@[simp] theorem State.setLog_jtag (l : LogSt) : (s.setLog l).jtag = s.jtag := rfl

/-! ### State.modAdc changes adc -/

@[simp] theorem State.modAdc_pending (n : Nat) (f : AdcCh → AdcCh) : (s.modAdc n f).pending = s.pending := rfl
@[simp] theorem State.modAdc_now (n : Nat) (f : AdcCh → AdcCh) : (s.modAdc n f).now = s.now := rfl
@[simp] theorem State.modAdc_regs (n : Nat) (f : AdcCh → AdcCh) : (s.modAdc n f).regs = s.regs := rfl
@[simp] theorem State.modAdc_sram (n : Nat) (f : AdcCh → AdcCh) : (s.modAdc n f).sram = s.sram := rfl
@[simp] theorem State.modAdc_nvm (n : Nat) (f : AdcCh → AdcCh) : (s.modAdc n f).nvm = s.nvm := rfl
@[simp] theorem State.modAdc_freeIdx (n : Nat) (f : AdcCh → AdcCh) : (s.modAdc n f).freeIdx = s.freeIdx := rfl
@[simp] theorem State.modAdc_tick0 (n : Nat) (f : AdcCh → AdcCh) : (s.modAdc n f).tick0 = s.tick0 := rfl
@[simp] theorem State.modAdc_beat (n : Nat) (f : AdcCh → AdcCh) : (s.modAdc n f).beat = s.beat := rfl
@[simp] theorem State.modAdc_evq (n : Nat) (f : AdcCh → AdcCh) : (s.modAdc n f).evq = s.evq := rfl
@[simp] theorem State.modAdc_lastStatus (n : Nat) (f : AdcCh → AdcCh) : (s.modAdc n f).lastStatus = s.lastStatus := rfl
@[simp] theorem State.modAdc_lastRead (n : Nat) (f : AdcCh → AdcCh) : (s.modAdc n f).lastRead = s.lastRead := rfl
@[simp] theorem State.modAdc_irqc (n : Nat) (f : AdcCh → AdcCh) : (s.modAdc n f).irqc = s.irqc := rfl
@[simp] theorem State.modAdc_log (n : Nat) (f : AdcCh → AdcCh) : (s.modAdc n f).log = s.log := rfl
@[simp] theorem State.modAdc_nvmc (n : Nat) (f : AdcCh → AdcCh) : (s.modAdc n f).nvmc = s.nvmc := rfl
@[simp] theorem State.modAdc_pwr (n : Nat) (f : AdcCh → AdcCh) : (s.modAdc n f).pwr = s.pwr := rfl
@[simp] theorem State.modAdc_cmp (n : Nat) (f : AdcCh → AdcCh) : (s.modAdc n f).cmp = s.cmp := rfl
@[simp] theorem State.modAdc_cps (n : Nat) (f : AdcCh → AdcCh) : (s.modAdc n f).cps = s.cps := rfl
@[simp] theorem State.modAdc_resamp (n : Nat) (f : AdcCh → AdcCh) : (s.modAdc n f).resamp = s.resamp := rfl
@[simp] theorem State.modAdc_cht (n : Nat) (f : AdcCh → AdcCh) : (s.modAdc n f).cht = s.cht := rfl
@[simp] theorem State.modAdc_qdl (n : Nat) (f : AdcCh → AdcCh) : (s.modAdc n f).qdl = s.qdl := rfl
@[simp] theorem State.modAdc_ctl (n : Nat) (f : AdcCh → AdcCh) : (s.modAdc n f).ctl = s.ctl := rfl
@[simp] theorem State.modAdc_spec (n : Nat) (f : AdcCh → AdcCh) : (s.modAdc n f).spec = s.spec := rfl
@[simp] theorem State.modAdc_dma (n : Nat) (f : AdcCh → AdcCh) : (s.modAdc n f).dma = s.dma := rfl
@[simp] theorem State.modAdc_mode (n : Nat) (f : AdcCh → AdcCh) : (s.modAdc n f).mode = s.mode := rfl
@[simp] theorem State.modAdc_pwm (n : Nat) (f : AdcCh → AdcCh) : (s.modAdc n f).pwm = s.pwm := rfl
@[simp] theorem State.modAdc_gd (n : Nat) (f : AdcCh → AdcCh) : (s.modAdc n f).gd = s.gd := rfl
@[simp] theorem State.modAdc_prot (n : Nat) (f : AdcCh → AdcCh) : (s.modAdc n f).prot = s.prot := rfl
@[simp] theorem State.modAdc_safe (n : Nat) (f : AdcCh → AdcCh) : (s.modAdc n f).safe = s.safe := rfl
@[simp] theorem State.modAdc_rly (n : Nat) (f : AdcCh → AdcCh) : (s.modAdc n f).rly = s.rly := rfl
@[simp] theorem State.modAdc_met (n : Nat) (f : AdcCh → AdcCh) : (s.modAdc n f).met = s.met := rfl
@[simp] theorem State.modAdc_hrm (n : Nat) (f : AdcCh → AdcCh) : (s.modAdc n f).hrm = s.hrm := rfl
@[simp] theorem State.modAdc_hsw (n : Nat) (f : AdcCh → AdcCh) : (s.modAdc n f).hsw = s.hsw := rfl
@[simp] theorem State.modAdc_ctx (n : Nat) (f : AdcCh → AdcCh) : (s.modAdc n f).ctx = s.ctx := rfl
@[simp] theorem State.modAdc_ldg (n : Nat) (f : AdcCh → AdcCh) : (s.modAdc n f).ldg = s.ldg := rfl
@[simp] theorem State.modAdc_bus (n : Nat) (f : AdcCh → AdcCh) : (s.modAdc n f).bus = s.bus := rfl
@[simp] theorem State.modAdc_host (n : Nat) (f : AdcCh → AdcCh) : (s.modAdc n f).host = s.host := rfl
@[simp] theorem State.modAdc_sb (n : Nat) (f : AdcCh → AdcCh) : (s.modAdc n f).sb = s.sb := rfl
@[simp] theorem State.modAdc_pins (n : Nat) (f : AdcCh → AdcCh) : (s.modAdc n f).pins = s.pins := rfl
@[simp] theorem State.modAdc_jtag (n : Nat) (f : AdcCh → AdcCh) : (s.modAdc n f).jtag = s.jtag := rfl

/-! ### State.modCmp changes cmp -/

@[simp] theorem State.modCmp_pending (n : Nat) (f : CmpCh → CmpCh) : (s.modCmp n f).pending = s.pending := rfl
@[simp] theorem State.modCmp_now (n : Nat) (f : CmpCh → CmpCh) : (s.modCmp n f).now = s.now := rfl
@[simp] theorem State.modCmp_regs (n : Nat) (f : CmpCh → CmpCh) : (s.modCmp n f).regs = s.regs := rfl
@[simp] theorem State.modCmp_sram (n : Nat) (f : CmpCh → CmpCh) : (s.modCmp n f).sram = s.sram := rfl
@[simp] theorem State.modCmp_nvm (n : Nat) (f : CmpCh → CmpCh) : (s.modCmp n f).nvm = s.nvm := rfl
@[simp] theorem State.modCmp_freeIdx (n : Nat) (f : CmpCh → CmpCh) : (s.modCmp n f).freeIdx = s.freeIdx := rfl
@[simp] theorem State.modCmp_tick0 (n : Nat) (f : CmpCh → CmpCh) : (s.modCmp n f).tick0 = s.tick0 := rfl
@[simp] theorem State.modCmp_beat (n : Nat) (f : CmpCh → CmpCh) : (s.modCmp n f).beat = s.beat := rfl
@[simp] theorem State.modCmp_evq (n : Nat) (f : CmpCh → CmpCh) : (s.modCmp n f).evq = s.evq := rfl
@[simp] theorem State.modCmp_lastStatus (n : Nat) (f : CmpCh → CmpCh) : (s.modCmp n f).lastStatus = s.lastStatus := rfl
@[simp] theorem State.modCmp_lastRead (n : Nat) (f : CmpCh → CmpCh) : (s.modCmp n f).lastRead = s.lastRead := rfl
@[simp] theorem State.modCmp_irqc (n : Nat) (f : CmpCh → CmpCh) : (s.modCmp n f).irqc = s.irqc := rfl
@[simp] theorem State.modCmp_log (n : Nat) (f : CmpCh → CmpCh) : (s.modCmp n f).log = s.log := rfl
@[simp] theorem State.modCmp_nvmc (n : Nat) (f : CmpCh → CmpCh) : (s.modCmp n f).nvmc = s.nvmc := rfl
@[simp] theorem State.modCmp_pwr (n : Nat) (f : CmpCh → CmpCh) : (s.modCmp n f).pwr = s.pwr := rfl
@[simp] theorem State.modCmp_cps (n : Nat) (f : CmpCh → CmpCh) : (s.modCmp n f).cps = s.cps := rfl
@[simp] theorem State.modCmp_adc (n : Nat) (f : CmpCh → CmpCh) : (s.modCmp n f).adc = s.adc := rfl
@[simp] theorem State.modCmp_resamp (n : Nat) (f : CmpCh → CmpCh) : (s.modCmp n f).resamp = s.resamp := rfl
@[simp] theorem State.modCmp_cht (n : Nat) (f : CmpCh → CmpCh) : (s.modCmp n f).cht = s.cht := rfl
@[simp] theorem State.modCmp_qdl (n : Nat) (f : CmpCh → CmpCh) : (s.modCmp n f).qdl = s.qdl := rfl
@[simp] theorem State.modCmp_ctl (n : Nat) (f : CmpCh → CmpCh) : (s.modCmp n f).ctl = s.ctl := rfl
@[simp] theorem State.modCmp_spec (n : Nat) (f : CmpCh → CmpCh) : (s.modCmp n f).spec = s.spec := rfl
@[simp] theorem State.modCmp_dma (n : Nat) (f : CmpCh → CmpCh) : (s.modCmp n f).dma = s.dma := rfl
@[simp] theorem State.modCmp_mode (n : Nat) (f : CmpCh → CmpCh) : (s.modCmp n f).mode = s.mode := rfl
@[simp] theorem State.modCmp_pwm (n : Nat) (f : CmpCh → CmpCh) : (s.modCmp n f).pwm = s.pwm := rfl
@[simp] theorem State.modCmp_gd (n : Nat) (f : CmpCh → CmpCh) : (s.modCmp n f).gd = s.gd := rfl
@[simp] theorem State.modCmp_prot (n : Nat) (f : CmpCh → CmpCh) : (s.modCmp n f).prot = s.prot := rfl
@[simp] theorem State.modCmp_safe (n : Nat) (f : CmpCh → CmpCh) : (s.modCmp n f).safe = s.safe := rfl
@[simp] theorem State.modCmp_rly (n : Nat) (f : CmpCh → CmpCh) : (s.modCmp n f).rly = s.rly := rfl
@[simp] theorem State.modCmp_met (n : Nat) (f : CmpCh → CmpCh) : (s.modCmp n f).met = s.met := rfl
@[simp] theorem State.modCmp_hrm (n : Nat) (f : CmpCh → CmpCh) : (s.modCmp n f).hrm = s.hrm := rfl
@[simp] theorem State.modCmp_hsw (n : Nat) (f : CmpCh → CmpCh) : (s.modCmp n f).hsw = s.hsw := rfl
@[simp] theorem State.modCmp_ctx (n : Nat) (f : CmpCh → CmpCh) : (s.modCmp n f).ctx = s.ctx := rfl
@[simp] theorem State.modCmp_ldg (n : Nat) (f : CmpCh → CmpCh) : (s.modCmp n f).ldg = s.ldg := rfl
@[simp] theorem State.modCmp_bus (n : Nat) (f : CmpCh → CmpCh) : (s.modCmp n f).bus = s.bus := rfl
@[simp] theorem State.modCmp_host (n : Nat) (f : CmpCh → CmpCh) : (s.modCmp n f).host = s.host := rfl
@[simp] theorem State.modCmp_sb (n : Nat) (f : CmpCh → CmpCh) : (s.modCmp n f).sb = s.sb := rfl
@[simp] theorem State.modCmp_pins (n : Nat) (f : CmpCh → CmpCh) : (s.modCmp n f).pins = s.pins := rfl
@[simp] theorem State.modCmp_jtag (n : Nat) (f : CmpCh → CmpCh) : (s.modCmp n f).jtag = s.jtag := rfl

/-! ### State.modCps changes cps -/

@[simp] theorem State.modCps_pending (f : CpsSt → CpsSt) : (s.modCps f).pending = s.pending := rfl
@[simp] theorem State.modCps_now (f : CpsSt → CpsSt) : (s.modCps f).now = s.now := rfl
@[simp] theorem State.modCps_regs (f : CpsSt → CpsSt) : (s.modCps f).regs = s.regs := rfl
@[simp] theorem State.modCps_sram (f : CpsSt → CpsSt) : (s.modCps f).sram = s.sram := rfl
@[simp] theorem State.modCps_nvm (f : CpsSt → CpsSt) : (s.modCps f).nvm = s.nvm := rfl
@[simp] theorem State.modCps_freeIdx (f : CpsSt → CpsSt) : (s.modCps f).freeIdx = s.freeIdx := rfl
@[simp] theorem State.modCps_tick0 (f : CpsSt → CpsSt) : (s.modCps f).tick0 = s.tick0 := rfl
@[simp] theorem State.modCps_beat (f : CpsSt → CpsSt) : (s.modCps f).beat = s.beat := rfl
@[simp] theorem State.modCps_evq (f : CpsSt → CpsSt) : (s.modCps f).evq = s.evq := rfl
@[simp] theorem State.modCps_lastStatus (f : CpsSt → CpsSt) : (s.modCps f).lastStatus = s.lastStatus := rfl
@[simp] theorem State.modCps_lastRead (f : CpsSt → CpsSt) : (s.modCps f).lastRead = s.lastRead := rfl
@[simp] theorem State.modCps_irqc (f : CpsSt → CpsSt) : (s.modCps f).irqc = s.irqc := rfl
@[simp] theorem State.modCps_log (f : CpsSt → CpsSt) : (s.modCps f).log = s.log := rfl
@[simp] theorem State.modCps_nvmc (f : CpsSt → CpsSt) : (s.modCps f).nvmc = s.nvmc := rfl
@[simp] theorem State.modCps_pwr (f : CpsSt → CpsSt) : (s.modCps f).pwr = s.pwr := rfl
@[simp] theorem State.modCps_cmp (f : CpsSt → CpsSt) : (s.modCps f).cmp = s.cmp := rfl
@[simp] theorem State.modCps_adc (f : CpsSt → CpsSt) : (s.modCps f).adc = s.adc := rfl
@[simp] theorem State.modCps_resamp (f : CpsSt → CpsSt) : (s.modCps f).resamp = s.resamp := rfl
@[simp] theorem State.modCps_cht (f : CpsSt → CpsSt) : (s.modCps f).cht = s.cht := rfl
@[simp] theorem State.modCps_qdl (f : CpsSt → CpsSt) : (s.modCps f).qdl = s.qdl := rfl
@[simp] theorem State.modCps_ctl (f : CpsSt → CpsSt) : (s.modCps f).ctl = s.ctl := rfl
@[simp] theorem State.modCps_spec (f : CpsSt → CpsSt) : (s.modCps f).spec = s.spec := rfl
@[simp] theorem State.modCps_dma (f : CpsSt → CpsSt) : (s.modCps f).dma = s.dma := rfl
@[simp] theorem State.modCps_mode (f : CpsSt → CpsSt) : (s.modCps f).mode = s.mode := rfl
@[simp] theorem State.modCps_pwm (f : CpsSt → CpsSt) : (s.modCps f).pwm = s.pwm := rfl
@[simp] theorem State.modCps_gd (f : CpsSt → CpsSt) : (s.modCps f).gd = s.gd := rfl
@[simp] theorem State.modCps_prot (f : CpsSt → CpsSt) : (s.modCps f).prot = s.prot := rfl
@[simp] theorem State.modCps_safe (f : CpsSt → CpsSt) : (s.modCps f).safe = s.safe := rfl
@[simp] theorem State.modCps_rly (f : CpsSt → CpsSt) : (s.modCps f).rly = s.rly := rfl
@[simp] theorem State.modCps_met (f : CpsSt → CpsSt) : (s.modCps f).met = s.met := rfl
@[simp] theorem State.modCps_hrm (f : CpsSt → CpsSt) : (s.modCps f).hrm = s.hrm := rfl
@[simp] theorem State.modCps_hsw (f : CpsSt → CpsSt) : (s.modCps f).hsw = s.hsw := rfl
@[simp] theorem State.modCps_ctx (f : CpsSt → CpsSt) : (s.modCps f).ctx = s.ctx := rfl
@[simp] theorem State.modCps_ldg (f : CpsSt → CpsSt) : (s.modCps f).ldg = s.ldg := rfl
@[simp] theorem State.modCps_bus (f : CpsSt → CpsSt) : (s.modCps f).bus = s.bus := rfl
@[simp] theorem State.modCps_host (f : CpsSt → CpsSt) : (s.modCps f).host = s.host := rfl
@[simp] theorem State.modCps_sb (f : CpsSt → CpsSt) : (s.modCps f).sb = s.sb := rfl
@[simp] theorem State.modCps_pins (f : CpsSt → CpsSt) : (s.modCps f).pins = s.pins := rfl
@[simp] theorem State.modCps_jtag (f : CpsSt → CpsSt) : (s.modCps f).jtag = s.jtag := rfl

/-! ### State.modStep changes ctl -/

@[simp] theorem State.modStep_pending (n : Nat) (f : StepRec → StepRec) : (s.modStep n f).pending = s.pending := rfl
@[simp] theorem State.modStep_now (n : Nat) (f : StepRec → StepRec) : (s.modStep n f).now = s.now := rfl
@[simp] theorem State.modStep_regs (n : Nat) (f : StepRec → StepRec) : (s.modStep n f).regs = s.regs := rfl
@[simp] theorem State.modStep_sram (n : Nat) (f : StepRec → StepRec) : (s.modStep n f).sram = s.sram := rfl
@[simp] theorem State.modStep_nvm (n : Nat) (f : StepRec → StepRec) : (s.modStep n f).nvm = s.nvm := rfl
@[simp] theorem State.modStep_freeIdx (n : Nat) (f : StepRec → StepRec) : (s.modStep n f).freeIdx = s.freeIdx := rfl
@[simp] theorem State.modStep_tick0 (n : Nat) (f : StepRec → StepRec) : (s.modStep n f).tick0 = s.tick0 := rfl
@[simp] theorem State.modStep_beat (n : Nat) (f : StepRec → StepRec) : (s.modStep n f).beat = s.beat := rfl
@[simp] theorem State.modStep_evq (n : Nat) (f : StepRec → StepRec) : (s.modStep n f).evq = s.evq := rfl
@[simp] theorem State.modStep_lastStatus (n : Nat) (f : StepRec → StepRec) : (s.modStep n f).lastStatus = s.lastStatus := rfl
@[simp] theorem State.modStep_lastRead (n : Nat) (f : StepRec → StepRec) : (s.modStep n f).lastRead = s.lastRead := rfl
@[simp] theorem State.modStep_irqc (n : Nat) (f : StepRec → StepRec) : (s.modStep n f).irqc = s.irqc := rfl
@[simp] theorem State.modStep_log (n : Nat) (f : StepRec → StepRec) : (s.modStep n f).log = s.log := rfl
@[simp] theorem State.modStep_nvmc (n : Nat) (f : StepRec → StepRec) : (s.modStep n f).nvmc = s.nvmc := rfl
@[simp] theorem State.modStep_pwr (n : Nat) (f : StepRec → StepRec) : (s.modStep n f).pwr = s.pwr := rfl
@[simp] theorem State.modStep_cmp (n : Nat) (f : StepRec → StepRec) : (s.modStep n f).cmp = s.cmp := rfl
@[simp] theorem State.modStep_cps (n : Nat) (f : StepRec → StepRec) : (s.modStep n f).cps = s.cps := rfl
@[simp] theorem State.modStep_adc (n : Nat) (f : StepRec → StepRec) : (s.modStep n f).adc = s.adc := rfl
@[simp] theorem State.modStep_resamp (n : Nat) (f : StepRec → StepRec) : (s.modStep n f).resamp = s.resamp := rfl
@[simp] theorem State.modStep_cht (n : Nat) (f : StepRec → StepRec) : (s.modStep n f).cht = s.cht := rfl
@[simp] theorem State.modStep_qdl (n : Nat) (f : StepRec → StepRec) : (s.modStep n f).qdl = s.qdl := rfl
@[simp] theorem State.modStep_spec (n : Nat) (f : StepRec → StepRec) : (s.modStep n f).spec = s.spec := rfl
@[simp] theorem State.modStep_dma (n : Nat) (f : StepRec → StepRec) : (s.modStep n f).dma = s.dma := rfl
@[simp] theorem State.modStep_mode (n : Nat) (f : StepRec → StepRec) : (s.modStep n f).mode = s.mode := rfl
@[simp] theorem State.modStep_pwm (n : Nat) (f : StepRec → StepRec) : (s.modStep n f).pwm = s.pwm := rfl
@[simp] theorem State.modStep_gd (n : Nat) (f : StepRec → StepRec) : (s.modStep n f).gd = s.gd := rfl
@[simp] theorem State.modStep_prot (n : Nat) (f : StepRec → StepRec) : (s.modStep n f).prot = s.prot := rfl
@[simp] theorem State.modStep_safe (n : Nat) (f : StepRec → StepRec) : (s.modStep n f).safe = s.safe := rfl
@[simp] theorem State.modStep_rly (n : Nat) (f : StepRec → StepRec) : (s.modStep n f).rly = s.rly := rfl
@[simp] theorem State.modStep_met (n : Nat) (f : StepRec → StepRec) : (s.modStep n f).met = s.met := rfl
@[simp] theorem State.modStep_hrm (n : Nat) (f : StepRec → StepRec) : (s.modStep n f).hrm = s.hrm := rfl
@[simp] theorem State.modStep_hsw (n : Nat) (f : StepRec → StepRec) : (s.modStep n f).hsw = s.hsw := rfl
@[simp] theorem State.modStep_ctx (n : Nat) (f : StepRec → StepRec) : (s.modStep n f).ctx = s.ctx := rfl
@[simp] theorem State.modStep_ldg (n : Nat) (f : StepRec → StepRec) : (s.modStep n f).ldg = s.ldg := rfl
@[simp] theorem State.modStep_bus (n : Nat) (f : StepRec → StepRec) : (s.modStep n f).bus = s.bus := rfl
@[simp] theorem State.modStep_host (n : Nat) (f : StepRec → StepRec) : (s.modStep n f).host = s.host := rfl
@[simp] theorem State.modStep_sb (n : Nat) (f : StepRec → StepRec) : (s.modStep n f).sb = s.sb := rfl
@[simp] theorem State.modStep_pins (n : Nat) (f : StepRec → StepRec) : (s.modStep n f).pins = s.pins := rfl
@[simp] theorem State.modStep_jtag (n : Nat) (f : StepRec → StepRec) : (s.modStep n f).jtag = s.jtag := rfl

/-! ### State.setCtlVar changes ctl -/

@[simp] theorem State.setCtlVar_pending (n : Nat) (x : F32) : (s.setCtlVar n x).pending = s.pending := rfl
@[simp] theorem State.setCtlVar_now (n : Nat) (x : F32) : (s.setCtlVar n x).now = s.now := rfl
@[simp] theorem State.setCtlVar_regs (n : Nat) (x : F32) : (s.setCtlVar n x).regs = s.regs := rfl
@[simp] theorem State.setCtlVar_sram (n : Nat) (x : F32) : (s.setCtlVar n x).sram = s.sram := rfl
@[simp] theorem State.setCtlVar_nvm (n : Nat) (x : F32) : (s.setCtlVar n x).nvm = s.nvm := rfl
@[simp] theorem State.setCtlVar_freeIdx (n : Nat) (x : F32) : (s.setCtlVar n x).freeIdx = s.freeIdx := rfl
@[simp] theorem State.setCtlVar_tick0 (n : Nat) (x : F32) : (s.setCtlVar n x).tick0 = s.tick0 := rfl
@[simp] theorem State.setCtlVar_beat (n : Nat) (x : F32) : (s.setCtlVar n x).beat = s.beat := rfl
@[simp] theorem State.setCtlVar_evq (n : Nat) (x : F32) : (s.setCtlVar n x).evq = s.evq := rfl
@[simp] theorem State.setCtlVar_lastStatus (n : Nat) (x : F32) : (s.setCtlVar n x).lastStatus = s.lastStatus := rfl
@[simp] theorem State.setCtlVar_lastRead (n : Nat) (x : F32) : (s.setCtlVar n x).lastRead = s.lastRead := rfl
@[simp] theorem State.setCtlVar_irqc (n : Nat) (x : F32) : (s.setCtlVar n x).irqc = s.irqc := rfl
@[simp] theorem State.setCtlVar_log (n : Nat) (x : F32) : (s.setCtlVar n x).log = s.log := rfl
@[simp] theorem State.setCtlVar_nvmc (n : Nat) (x : F32) : (s.setCtlVar n x).nvmc = s.nvmc := rfl
@[simp] theorem State.setCtlVar_pwr (n : Nat) (x : F32) : (s.setCtlVar n x).pwr = s.pwr := rfl
@[simp] theorem State.setCtlVar_cmp (n : Nat) (x : F32) : (s.setCtlVar n x).cmp = s.cmp := rfl
@[simp] theorem State.setCtlVar_cps (n : Nat) (x : F32) : (s.setCtlVar n x).cps = s.cps := rfl
@[simp] theorem State.setCtlVar_adc (n : Nat) (x : F32) : (s.setCtlVar n x).adc = s.adc := rfl
@[simp] theorem State.setCtlVar_resamp (n : Nat) (x : F32) : (s.setCtlVar n x).resamp = s.resamp := rfl
@[simp] theorem State.setCtlVar_cht (n : Nat) (x : F32) : (s.setCtlVar n x).cht = s.cht := rfl
@[simp] theorem State.setCtlVar_qdl (n : Nat) (x : F32) : (s.setCtlVar n x).qdl = s.qdl := rfl
@[simp] theorem State.setCtlVar_spec (n : Nat) (x : F32) : (s.setCtlVar n x).spec = s.spec := rfl
@[simp] theorem State.setCtlVar_dma (n : Nat) (x : F32) : (s.setCtlVar n x).dma = s.dma := rfl
@[simp] theorem State.setCtlVar_mode (n : Nat) (x : F32) : (s.setCtlVar n x).mode = s.mode := rfl
@[simp] theorem State.setCtlVar_pwm (n : Nat) (x : F32) : (s.setCtlVar n x).pwm = s.pwm := rfl
@[simp] theorem State.setCtlVar_gd (n : Nat) (x : F32) : (s.setCtlVar n x).gd = s.gd := rfl
@[simp] theorem State.setCtlVar_prot (n : Nat) (x : F32) : (s.setCtlVar n x).prot = s.prot := rfl
@[simp] theorem State.setCtlVar_safe (n : Nat) (x : F32) : (s.setCtlVar n x).safe = s.safe := rfl
@[simp] theorem State.setCtlVar_rly (n : Nat) (x : F32) : (s.setCtlVar n x).rly = s.rly := rfl
@[simp] theorem State.setCtlVar_met (n : Nat) (x : F32) : (s.setCtlVar n x).met = s.met := rfl
@[simp] theorem State.setCtlVar_hrm (n : Nat) (x : F32) : (s.setCtlVar n x).hrm = s.hrm := rfl
@[simp] theorem State.setCtlVar_hsw (n : Nat) (x : F32) : (s.setCtlVar n x).hsw = s.hsw := rfl
@[simp] theorem State.setCtlVar_ctx (n : Nat) (x : F32) : (s.setCtlVar n x).ctx = s.ctx := rfl
@[simp] theorem State.setCtlVar_ldg (n : Nat) (x : F32) : (s.setCtlVar n x).ldg = s.ldg := rfl
@[simp] theorem State.setCtlVar_bus (n : Nat) (x : F32) : (s.setCtlVar n x).bus = s.bus := rfl
@[simp] theorem State.setCtlVar_host (n : Nat) (x : F32) : (s.setCtlVar n x).host = s.host := rfl
@[simp] theorem State.setCtlVar_sb (n : Nat) (x : F32) : (s.setCtlVar n x).sb = s.sb := rfl
@[simp] theorem State.setCtlVar_pins (n : Nat) (x : F32) : (s.setCtlVar n x).pins = s.pins := rfl
@[simp] theorem State.setCtlVar_jtag (n : Nat) (x : F32) : (s.setCtlVar n x).jtag = s.jtag := rfl

/-! ### State.modDma changes dma -/

@[simp] theorem State.modDma_pending (n : Nat) (f : DmaCh → DmaCh) : (s.modDma n f).pending = s.pending := rfl
@[simp] theorem State.modDma_now (n : Nat) (f : DmaCh → DmaCh) : (s.modDma n f).now = s.now := rfl
@[simp] theorem State.modDma_regs (n : Nat) (f : DmaCh → DmaCh) : (s.modDma n f).regs = s.regs := rfl
@[simp] theorem State.modDma_sram (n : Nat) (f : DmaCh → DmaCh) : (s.modDma n f).sram = s.sram := rfl
@[simp] theorem State.modDma_nvm (n : Nat) (f : DmaCh → DmaCh) : (s.modDma n f).nvm = s.nvm := rfl
@[simp] theorem State.modDma_freeIdx (n : Nat) (f : DmaCh → DmaCh) : (s.modDma n f).freeIdx = s.freeIdx := rfl
@[simp] theorem State.modDma_tick0 (n : Nat) (f : DmaCh → DmaCh) : (s.modDma n f).tick0 = s.tick0 := rfl
@[simp] theorem State.modDma_beat (n : Nat) (f : DmaCh → DmaCh) : (s.modDma n f).beat = s.beat := rfl
@[simp] theorem State.modDma_evq (n : Nat) (f : DmaCh → DmaCh) : (s.modDma n f).evq = s.evq := rfl
@[simp] theorem State.modDma_lastStatus (n : Nat) (f : DmaCh → DmaCh) : (s.modDma n f).lastStatus = s.lastStatus := rfl
@[simp] theorem State.modDma_lastRead (n : Nat) (f : DmaCh → DmaCh) : (s.modDma n f).lastRead = s.lastRead := rfl
@[simp] theorem State.modDma_irqc (n : Nat) (f : DmaCh → DmaCh) : (s.modDma n f).irqc = s.irqc := rfl
@[simp] theorem State.modDma_log (n : Nat) (f : DmaCh → DmaCh) : (s.modDma n f).log = s.log := rfl
@[simp] theorem State.modDma_nvmc (n : Nat) (f : DmaCh → DmaCh) : (s.modDma n f).nvmc = s.nvmc := rfl
@[simp] theorem State.modDma_pwr (n : Nat) (f : DmaCh → DmaCh) : (s.modDma n f).pwr = s.pwr := rfl
@[simp] theorem State.modDma_cmp (n : Nat) (f : DmaCh → DmaCh) : (s.modDma n f).cmp = s.cmp := rfl
@[simp] theorem State.modDma_cps (n : Nat) (f : DmaCh → DmaCh) : (s.modDma n f).cps = s.cps := rfl
@[simp] theorem State.modDma_adc (n : Nat) (f : DmaCh → DmaCh) : (s.modDma n f).adc = s.adc := rfl
@[simp] theorem State.modDma_resamp (n : Nat) (f : DmaCh → DmaCh) : (s.modDma n f).resamp = s.resamp := rfl
@[simp] theorem State.modDma_cht (n : Nat) (f : DmaCh → DmaCh) : (s.modDma n f).cht = s.cht := rfl
@[simp] theorem State.modDma_qdl (n : Nat) (f : DmaCh → DmaCh) : (s.modDma n f).qdl = s.qdl := rfl
@[simp] theorem State.modDma_ctl (n : Nat) (f : DmaCh → DmaCh) : (s.modDma n f).ctl = s.ctl := rfl
@[simp] theorem State.modDma_spec (n : Nat) (f : DmaCh → DmaCh) : (s.modDma n f).spec = s.spec := rfl
@[simp] theorem State.modDma_mode (n : Nat) (f : DmaCh → DmaCh) : (s.modDma n f).mode = s.mode := rfl
@[simp] theorem State.modDma_pwm (n : Nat) (f : DmaCh → DmaCh) : (s.modDma n f).pwm = s.pwm := rfl
@[simp] theorem State.modDma_gd (n : Nat) (f : DmaCh → DmaCh) : (s.modDma n f).gd = s.gd := rfl
@[simp] theorem State.modDma_prot (n : Nat) (f : DmaCh → DmaCh) : (s.modDma n f).prot = s.prot := rfl
@[simp] theorem State.modDma_safe (n : Nat) (f : DmaCh → DmaCh) : (s.modDma n f).safe = s.safe := rfl
@[simp] theorem State.modDma_rly (n : Nat) (f : DmaCh → DmaCh) : (s.modDma n f).rly = s.rly := rfl
@[simp] theorem State.modDma_met (n : Nat) (f : DmaCh → DmaCh) : (s.modDma n f).met = s.met := rfl
@[simp] theorem State.modDma_hrm (n : Nat) (f : DmaCh → DmaCh) : (s.modDma n f).hrm = s.hrm := rfl
@[simp] theorem State.modDma_hsw (n : Nat) (f : DmaCh → DmaCh) : (s.modDma n f).hsw = s.hsw := rfl
@[simp] theorem State.modDma_ctx (n : Nat) (f : DmaCh → DmaCh) : (s.modDma n f).ctx = s.ctx := rfl
@[simp] theorem State.modDma_ldg (n : Nat) (f : DmaCh → DmaCh) : (s.modDma n f).ldg = s.ldg := rfl
@[simp] theorem State.modDma_bus (n : Nat) (f : DmaCh → DmaCh) : (s.modDma n f).bus = s.bus := rfl
@[simp] theorem State.modDma_host (n : Nat) (f : DmaCh → DmaCh) : (s.modDma n f).host = s.host := rfl
@[simp] theorem State.modDma_sb (n : Nat) (f : DmaCh → DmaCh) : (s.modDma n f).sb = s.sb := rfl
@[simp] theorem State.modDma_pins (n : Nat) (f : DmaCh → DmaCh) : (s.modDma n f).pins = s.pins := rfl
@[simp] theorem State.modDma_jtag (n : Nat) (f : DmaCh → DmaCh) : (s.modDma n f).jtag = s.jtag := rfl

/-! ### State.modGd changes gd -/

@[simp] theorem State.modGd_pending (n : Nat) (f : GdLeg → GdLeg) : (s.modGd n f).pending = s.pending := rfl
@[simp] theorem State.modGd_now (n : Nat) (f : GdLeg → GdLeg) : (s.modGd n f).now = s.now := rfl
@[simp] theorem State.modGd_regs (n : Nat) (f : GdLeg → GdLeg) : (s.modGd n f).regs = s.regs := rfl
@[simp] theorem State.modGd_sram (n : Nat) (f : GdLeg → GdLeg) : (s.modGd n f).sram = s.sram := rfl
@[simp] theorem State.modGd_nvm (n : Nat) (f : GdLeg → GdLeg) : (s.modGd n f).nvm = s.nvm := rfl
@[simp] theorem State.modGd_freeIdx (n : Nat) (f : GdLeg → GdLeg) : (s.modGd n f).freeIdx = s.freeIdx := rfl
@[simp] theorem State.modGd_tick0 (n : Nat) (f : GdLeg → GdLeg) : (s.modGd n f).tick0 = s.tick0 := rfl
@[simp] theorem State.modGd_beat (n : Nat) (f : GdLeg → GdLeg) : (s.modGd n f).beat = s.beat := rfl
@[simp] theorem State.modGd_evq (n : Nat) (f : GdLeg → GdLeg) : (s.modGd n f).evq = s.evq := rfl
@[simp] theorem State.modGd_lastStatus (n : Nat) (f : GdLeg → GdLeg) : (s.modGd n f).lastStatus = s.lastStatus := rfl
@[simp] theorem State.modGd_lastRead (n : Nat) (f : GdLeg → GdLeg) : (s.modGd n f).lastRead = s.lastRead := rfl
@[simp] theorem State.modGd_irqc (n : Nat) (f : GdLeg → GdLeg) : (s.modGd n f).irqc = s.irqc := rfl
@[simp] theorem State.modGd_log (n : Nat) (f : GdLeg → GdLeg) : (s.modGd n f).log = s.log := rfl
@[simp] theorem State.modGd_nvmc (n : Nat) (f : GdLeg → GdLeg) : (s.modGd n f).nvmc = s.nvmc := rfl
@[simp] theorem State.modGd_pwr (n : Nat) (f : GdLeg → GdLeg) : (s.modGd n f).pwr = s.pwr := rfl
@[simp] theorem State.modGd_cmp (n : Nat) (f : GdLeg → GdLeg) : (s.modGd n f).cmp = s.cmp := rfl
@[simp] theorem State.modGd_cps (n : Nat) (f : GdLeg → GdLeg) : (s.modGd n f).cps = s.cps := rfl
@[simp] theorem State.modGd_adc (n : Nat) (f : GdLeg → GdLeg) : (s.modGd n f).adc = s.adc := rfl
@[simp] theorem State.modGd_resamp (n : Nat) (f : GdLeg → GdLeg) : (s.modGd n f).resamp = s.resamp := rfl
@[simp] theorem State.modGd_cht (n : Nat) (f : GdLeg → GdLeg) : (s.modGd n f).cht = s.cht := rfl
@[simp] theorem State.modGd_qdl (n : Nat) (f : GdLeg → GdLeg) : (s.modGd n f).qdl = s.qdl := rfl
@[simp] theorem State.modGd_ctl (n : Nat) (f : GdLeg → GdLeg) : (s.modGd n f).ctl = s.ctl := rfl
@[simp] theorem State.modGd_spec (n : Nat) (f : GdLeg → GdLeg) : (s.modGd n f).spec = s.spec := rfl
@[simp] theorem State.modGd_dma (n : Nat) (f : GdLeg → GdLeg) : (s.modGd n f).dma = s.dma := rfl
@[simp] theorem State.modGd_mode (n : Nat) (f : GdLeg → GdLeg) : (s.modGd n f).mode = s.mode := rfl
@[simp] theorem State.modGd_pwm (n : Nat) (f : GdLeg → GdLeg) : (s.modGd n f).pwm = s.pwm := rfl
@[simp] theorem State.modGd_prot (n : Nat) (f : GdLeg → GdLeg) : (s.modGd n f).prot = s.prot := rfl
@[simp] theorem State.modGd_safe (n : Nat) (f : GdLeg → GdLeg) : (s.modGd n f).safe = s.safe := rfl
@[simp] theorem State.modGd_rly (n : Nat) (f : GdLeg → GdLeg) : (s.modGd n f).rly = s.rly := rfl
@[simp] theorem State.modGd_met (n : Nat) (f : GdLeg → GdLeg) : (s.modGd n f).met = s.met := rfl
@[simp] theorem State.modGd_hrm (n : Nat) (f : GdLeg → GdLeg) : (s.modGd n f).hrm = s.hrm := rfl
@[simp] theorem State.modGd_hsw (n : Nat) (f : GdLeg → GdLeg) : (s.modGd n f).hsw = s.hsw := rfl
@[simp] theorem State.modGd_ctx (n : Nat) (f : GdLeg → GdLeg) : (s.modGd n f).ctx = s.ctx := rfl
@[simp] theorem State.modGd_ldg (n : Nat) (f : GdLeg → GdLeg) : (s.modGd n f).ldg = s.ldg := rfl
@[simp] theorem State.modGd_bus (n : Nat) (f : GdLeg → GdLeg) : (s.modGd n f).bus = s.bus := rfl
@[simp] theorem State.modGd_host (n : Nat) (f : GdLeg → GdLeg) : (s.modGd n f).host = s.host := rfl
@[simp] theorem State.modGd_sb (n : Nat) (f : GdLeg → GdLeg) : (s.modGd n f).sb = s.sb := rfl
@[simp] theorem State.modGd_pins (n : Nat) (f : GdLeg → GdLeg) : (s.modGd n f).pins = s.pins := rfl
@[simp] theorem State.modGd_jtag (n : Nat) (f : GdLeg → GdLeg) : (s.modGd n f).jtag = s.jtag := rfl

/-! ### State.modPwm changes pwm -/

@[simp] theorem State.modPwm_pending (n : Nat) (f : PwmLeg → PwmLeg) : (s.modPwm n f).pending = s.pending := rfl
@[simp] theorem State.modPwm_now (n : Nat) (f : PwmLeg → PwmLeg) : (s.modPwm n f).now = s.now := rfl
@[simp] theorem State.modPwm_regs (n : Nat) (f : PwmLeg → PwmLeg) : (s.modPwm n f).regs = s.regs := rfl
@[simp] theorem State.modPwm_sram (n : Nat) (f : PwmLeg → PwmLeg) : (s.modPwm n f).sram = s.sram := rfl
@[simp] theorem State.modPwm_nvm (n : Nat) (f : PwmLeg → PwmLeg) : (s.modPwm n f).nvm = s.nvm := rfl
@[simp] theorem State.modPwm_freeIdx (n : Nat) (f : PwmLeg → PwmLeg) : (s.modPwm n f).freeIdx = s.freeIdx := rfl
@[simp] theorem State.modPwm_tick0 (n : Nat) (f : PwmLeg → PwmLeg) : (s.modPwm n f).tick0 = s.tick0 := rfl
@[simp] theorem State.modPwm_beat (n : Nat) (f : PwmLeg → PwmLeg) : (s.modPwm n f).beat = s.beat := rfl
@[simp] theorem State.modPwm_evq (n : Nat) (f : PwmLeg → PwmLeg) : (s.modPwm n f).evq = s.evq := rfl
@[simp] theorem State.modPwm_lastStatus (n : Nat) (f : PwmLeg → PwmLeg) : (s.modPwm n f).lastStatus = s.lastStatus := rfl
@[simp] theorem State.modPwm_lastRead (n : Nat) (f : PwmLeg → PwmLeg) : (s.modPwm n f).lastRead = s.lastRead := rfl
@[simp] theorem State.modPwm_irqc (n : Nat) (f : PwmLeg → PwmLeg) : (s.modPwm n f).irqc = s.irqc := rfl
@[simp] theorem State.modPwm_log (n : Nat) (f : PwmLeg → PwmLeg) : (s.modPwm n f).log = s.log := rfl
@[simp] theorem State.modPwm_nvmc (n : Nat) (f : PwmLeg → PwmLeg) : (s.modPwm n f).nvmc = s.nvmc := rfl
@[simp] theorem State.modPwm_pwr (n : Nat) (f : PwmLeg → PwmLeg) : (s.modPwm n f).pwr = s.pwr := rfl
@[simp] theorem State.modPwm_cmp (n : Nat) (f : PwmLeg → PwmLeg) : (s.modPwm n f).cmp = s.cmp := rfl
@[simp] theorem State.modPwm_cps (n : Nat) (f : PwmLeg → PwmLeg) : (s.modPwm n f).cps = s.cps := rfl
@[simp] theorem State.modPwm_adc (n : Nat) (f : PwmLeg → PwmLeg) : (s.modPwm n f).adc = s.adc := rfl
@[simp] theorem State.modPwm_resamp (n : Nat) (f : PwmLeg → PwmLeg) : (s.modPwm n f).resamp = s.resamp := rfl
@[simp] theorem State.modPwm_cht (n : Nat) (f : PwmLeg → PwmLeg) : (s.modPwm n f).cht = s.cht := rfl
@[simp] theorem State.modPwm_qdl (n : Nat) (f : PwmLeg → PwmLeg) : (s.modPwm n f).qdl = s.qdl := rfl
@[simp] theorem State.modPwm_ctl (n : Nat) (f : PwmLeg → PwmLeg) : (s.modPwm n f).ctl = s.ctl := rfl
@[simp] theorem State.modPwm_spec (n : Nat) (f : PwmLeg → PwmLeg) : (s.modPwm n f).spec = s.spec := rfl
@[simp] theorem State.modPwm_dma (n : Nat) (f : PwmLeg → PwmLeg) : (s.modPwm n f).dma = s.dma := rfl
@[simp] theorem State.modPwm_mode (n : Nat) (f : PwmLeg → PwmLeg) : (s.modPwm n f).mode = s.mode := rfl
@[simp] theorem State.modPwm_gd (n : Nat) (f : PwmLeg → PwmLeg) : (s.modPwm n f).gd = s.gd := rfl
@[simp] theorem State.modPwm_prot (n : Nat) (f : PwmLeg → PwmLeg) : (s.modPwm n f).prot = s.prot := rfl
@[simp] theorem State.modPwm_safe (n : Nat) (f : PwmLeg → PwmLeg) : (s.modPwm n f).safe = s.safe := rfl
@[simp] theorem State.modPwm_rly (n : Nat) (f : PwmLeg → PwmLeg) : (s.modPwm n f).rly = s.rly := rfl
@[simp] theorem State.modPwm_met (n : Nat) (f : PwmLeg → PwmLeg) : (s.modPwm n f).met = s.met := rfl
@[simp] theorem State.modPwm_hrm (n : Nat) (f : PwmLeg → PwmLeg) : (s.modPwm n f).hrm = s.hrm := rfl
@[simp] theorem State.modPwm_hsw (n : Nat) (f : PwmLeg → PwmLeg) : (s.modPwm n f).hsw = s.hsw := rfl
@[simp] theorem State.modPwm_ctx (n : Nat) (f : PwmLeg → PwmLeg) : (s.modPwm n f).ctx = s.ctx := rfl
@[simp] theorem State.modPwm_ldg (n : Nat) (f : PwmLeg → PwmLeg) : (s.modPwm n f).ldg = s.ldg := rfl
@[simp] theorem State.modPwm_bus (n : Nat) (f : PwmLeg → PwmLeg) : (s.modPwm n f).bus = s.bus := rfl
@[simp] theorem State.modPwm_host (n : Nat) (f : PwmLeg → PwmLeg) : (s.modPwm n f).host = s.host := rfl
@[simp] theorem State.modPwm_sb (n : Nat) (f : PwmLeg → PwmLeg) : (s.modPwm n f).sb = s.sb := rfl
@[simp] theorem State.modPwm_pins (n : Nat) (f : PwmLeg → PwmLeg) : (s.modPwm n f).pins = s.pins := rfl
@[simp] theorem State.modPwm_jtag (n : Nat) (f : PwmLeg → PwmLeg) : (s.modPwm n f).jtag = s.jtag := rfl

/-! ### State.modHsw changes hsw -/

@[simp] theorem State.modHsw_pending (n : Nat) (f : HswCh → HswCh) : (s.modHsw n f).pending = s.pending := rfl
@[simp] theorem State.modHsw_now (n : Nat) (f : HswCh → HswCh) : (s.modHsw n f).now = s.now := rfl
@[simp] theorem State.modHsw_regs (n : Nat) (f : HswCh → HswCh) : (s.modHsw n f).regs = s.regs := rfl
@[simp] theorem State.modHsw_sram (n : Nat) (f : HswCh → HswCh) : (s.modHsw n f).sram = s.sram := rfl
@[simp] theorem State.modHsw_nvm (n : Nat) (f : HswCh → HswCh) : (s.modHsw n f).nvm = s.nvm := rfl
@[simp] theorem State.modHsw_freeIdx (n : Nat) (f : HswCh → HswCh) : (s.modHsw n f).freeIdx = s.freeIdx := rfl
@[simp] theorem State.modHsw_tick0 (n : Nat) (f : HswCh → HswCh) : (s.modHsw n f).tick0 = s.tick0 := rfl
@[simp] theorem State.modHsw_beat (n : Nat) (f : HswCh → HswCh) : (s.modHsw n f).beat = s.beat := rfl
@[simp] theorem State.modHsw_evq (n : Nat) (f : HswCh → HswCh) : (s.modHsw n f).evq = s.evq := rfl
@[simp] theorem State.modHsw_lastStatus (n : Nat) (f : HswCh → HswCh) : (s.modHsw n f).lastStatus = s.lastStatus := rfl
@[simp] theorem State.modHsw_lastRead (n : Nat) (f : HswCh → HswCh) : (s.modHsw n f).lastRead = s.lastRead := rfl
@[simp] theorem State.modHsw_irqc (n : Nat) (f : HswCh → HswCh) : (s.modHsw n f).irqc = s.irqc := rfl
@[simp] theorem State.modHsw_log (n : Nat) (f : HswCh → HswCh) : (s.modHsw n f).log = s.log := rfl
@[simp] theorem State.modHsw_nvmc (n : Nat) (f : HswCh → HswCh) : (s.modHsw n f).nvmc = s.nvmc := rfl
@[simp] theorem State.modHsw_pwr (n : Nat) (f : HswCh → HswCh) : (s.modHsw n f).pwr = s.pwr := rfl
@[simp] theorem State.modHsw_cmp (n : Nat) (f : HswCh → HswCh) : (s.modHsw n f).cmp = s.cmp := rfl
@[simp] theorem State.modHsw_cps (n : Nat) (f : HswCh → HswCh) : (s.modHsw n f).cps = s.cps := rfl
@[simp] theorem State.modHsw_adc (n : Nat) (f : HswCh → HswCh) : (s.modHsw n f).adc = s.adc := rfl
@[simp] theorem State.modHsw_resamp (n : Nat) (f : HswCh → HswCh) : (s.modHsw n f).resamp = s.resamp := rfl
@[simp] theorem State.modHsw_cht (n : Nat) (f : HswCh → HswCh) : (s.modHsw n f).cht = s.cht := rfl
@[simp] theorem State.modHsw_qdl (n : Nat) (f : HswCh → HswCh) : (s.modHsw n f).qdl = s.qdl := rfl
@[simp] theorem State.modHsw_ctl (n : Nat) (f : HswCh → HswCh) : (s.modHsw n f).ctl = s.ctl := rfl
@[simp] theorem State.modHsw_spec (n : Nat) (f : HswCh → HswCh) : (s.modHsw n f).spec = s.spec := rfl
@[simp] theorem State.modHsw_dma (n : Nat) (f : HswCh → HswCh) : (s.modHsw n f).dma = s.dma := rfl
@[simp] theorem State.modHsw_mode (n : Nat) (f : HswCh → HswCh) : (s.modHsw n f).mode = s.mode := rfl
@[simp] theorem State.modHsw_pwm (n : Nat) (f : HswCh → HswCh) : (s.modHsw n f).pwm = s.pwm := rfl
@[simp] theorem State.modHsw_gd (n : Nat) (f : HswCh → HswCh) : (s.modHsw n f).gd = s.gd := rfl
@[simp] theorem State.modHsw_prot (n : Nat) (f : HswCh → HswCh) : (s.modHsw n f).prot = s.prot := rfl
@[simp] theorem State.modHsw_safe (n : Nat) (f : HswCh → HswCh) : (s.modHsw n f).safe = s.safe := rfl
@[simp] theorem State.modHsw_rly (n : Nat) (f : HswCh → HswCh) : (s.modHsw n f).rly = s.rly := rfl
@[simp] theorem State.modHsw_met (n : Nat) (f : HswCh → HswCh) : (s.modHsw n f).met = s.met := rfl
@[simp] theorem State.modHsw_hrm (n : Nat) (f : HswCh → HswCh) : (s.modHsw n f).hrm = s.hrm := rfl
@[simp] theorem State.modHsw_ctx (n : Nat) (f : HswCh → HswCh) : (s.modHsw n f).ctx = s.ctx := rfl
@[simp] theorem State.modHsw_ldg (n : Nat) (f : HswCh → HswCh) : (s.modHsw n f).ldg = s.ldg := rfl
@[simp] theorem State.modHsw_bus (n : Nat) (f : HswCh → HswCh) : (s.modHsw n f).bus = s.bus := rfl
@[simp] theorem State.modHsw_host (n : Nat) (f : HswCh → HswCh) : (s.modHsw n f).host = s.host := rfl
@[simp] theorem State.modHsw_sb (n : Nat) (f : HswCh → HswCh) : (s.modHsw n f).sb = s.sb := rfl
@[simp] theorem State.modHsw_pins (n : Nat) (f : HswCh → HswCh) : (s.modHsw n f).pins = s.pins := rfl
@[simp] theorem State.modHsw_jtag (n : Nat) (f : HswCh → HswCh) : (s.modHsw n f).jtag = s.jtag := rfl

/-! ### State.modCmd changes ctx -/

@[simp] theorem State.modCmd_pending (n : Nat) (f : Cmd → Cmd) : (s.modCmd n f).pending = s.pending := rfl
@[simp] theorem State.modCmd_now (n : Nat) (f : Cmd → Cmd) : (s.modCmd n f).now = s.now := rfl
@[simp] theorem State.modCmd_regs (n : Nat) (f : Cmd → Cmd) : (s.modCmd n f).regs = s.regs := rfl
@[simp] theorem State.modCmd_sram (n : Nat) (f : Cmd → Cmd) : (s.modCmd n f).sram = s.sram := rfl
@[simp] theorem State.modCmd_nvm (n : Nat) (f : Cmd → Cmd) : (s.modCmd n f).nvm = s.nvm := rfl
@[simp] theorem State.modCmd_freeIdx (n : Nat) (f : Cmd → Cmd) : (s.modCmd n f).freeIdx = s.freeIdx := rfl
@[simp] theorem State.modCmd_tick0 (n : Nat) (f : Cmd → Cmd) : (s.modCmd n f).tick0 = s.tick0 := rfl
@[simp] theorem State.modCmd_beat (n : Nat) (f : Cmd → Cmd) : (s.modCmd n f).beat = s.beat := rfl
@[simp] theorem State.modCmd_evq (n : Nat) (f : Cmd → Cmd) : (s.modCmd n f).evq = s.evq := rfl
@[simp] theorem State.modCmd_lastStatus (n : Nat) (f : Cmd → Cmd) : (s.modCmd n f).lastStatus = s.lastStatus := rfl
@[simp] theorem State.modCmd_lastRead (n : Nat) (f : Cmd → Cmd) : (s.modCmd n f).lastRead = s.lastRead := rfl
@[simp] theorem State.modCmd_irqc (n : Nat) (f : Cmd → Cmd) : (s.modCmd n f).irqc = s.irqc := rfl
@[simp] theorem State.modCmd_log (n : Nat) (f : Cmd → Cmd) : (s.modCmd n f).log = s.log := rfl
@[simp] theorem State.modCmd_nvmc (n : Nat) (f : Cmd → Cmd) : (s.modCmd n f).nvmc = s.nvmc := rfl
@[simp] theorem State.modCmd_pwr (n : Nat) (f : Cmd → Cmd) : (s.modCmd n f).pwr = s.pwr := rfl
@[simp] theorem State.modCmd_cmp (n : Nat) (f : Cmd → Cmd) : (s.modCmd n f).cmp = s.cmp := rfl
@[simp] theorem State.modCmd_cps (n : Nat) (f : Cmd → Cmd) : (s.modCmd n f).cps = s.cps := rfl
@[simp] theorem State.modCmd_adc (n : Nat) (f : Cmd → Cmd) : (s.modCmd n f).adc = s.adc := rfl
@[simp] theorem State.modCmd_resamp (n : Nat) (f : Cmd → Cmd) : (s.modCmd n f).resamp = s.resamp := rfl
@[simp] theorem State.modCmd_cht (n : Nat) (f : Cmd → Cmd) : (s.modCmd n f).cht = s.cht := rfl
@[simp] theorem State.modCmd_qdl (n : Nat) (f : Cmd → Cmd) : (s.modCmd n f).qdl = s.qdl := rfl
@[simp] theorem State.modCmd_ctl (n : Nat) (f : Cmd → Cmd) : (s.modCmd n f).ctl = s.ctl := rfl
@[simp] theorem State.modCmd_spec (n : Nat) (f : Cmd → Cmd) : (s.modCmd n f).spec = s.spec := rfl
@[simp] theorem State.modCmd_dma (n : Nat) (f : Cmd → Cmd) : (s.modCmd n f).dma = s.dma := rfl
@[simp] theorem State.modCmd_mode (n : Nat) (f : Cmd → Cmd) : (s.modCmd n f).mode = s.mode := rfl
@[simp] theorem State.modCmd_pwm (n : Nat) (f : Cmd → Cmd) : (s.modCmd n f).pwm = s.pwm := rfl
@[simp] theorem State.modCmd_gd (n : Nat) (f : Cmd → Cmd) : (s.modCmd n f).gd = s.gd := rfl
@[simp] theorem State.modCmd_prot (n : Nat) (f : Cmd → Cmd) : (s.modCmd n f).prot = s.prot := rfl
@[simp] theorem State.modCmd_safe (n : Nat) (f : Cmd → Cmd) : (s.modCmd n f).safe = s.safe := rfl
@[simp] theorem State.modCmd_rly (n : Nat) (f : Cmd → Cmd) : (s.modCmd n f).rly = s.rly := rfl
@[simp] theorem State.modCmd_met (n : Nat) (f : Cmd → Cmd) : (s.modCmd n f).met = s.met := rfl
@[simp] theorem State.modCmd_hrm (n : Nat) (f : Cmd → Cmd) : (s.modCmd n f).hrm = s.hrm := rfl
@[simp] theorem State.modCmd_hsw (n : Nat) (f : Cmd → Cmd) : (s.modCmd n f).hsw = s.hsw := rfl
@[simp] theorem State.modCmd_ldg (n : Nat) (f : Cmd → Cmd) : (s.modCmd n f).ldg = s.ldg := rfl
@[simp] theorem State.modCmd_bus (n : Nat) (f : Cmd → Cmd) : (s.modCmd n f).bus = s.bus := rfl
@[simp] theorem State.modCmd_host (n : Nat) (f : Cmd → Cmd) : (s.modCmd n f).host = s.host := rfl
@[simp] theorem State.modCmd_sb (n : Nat) (f : Cmd → Cmd) : (s.modCmd n f).sb = s.sb := rfl
@[simp] theorem State.modCmd_pins (n : Nat) (f : Cmd → Cmd) : (s.modCmd n f).pins = s.pins := rfl
@[simp] theorem State.modCmd_jtag (n : Nat) (f : Cmd → Cmd) : (s.modCmd n f).jtag = s.jtag := rfl

/-! ### State.modSpec changes spec -/

@[simp] theorem State.modSpec_pending (n : Nat) (f : SpecCh → SpecCh) : (s.modSpec n f).pending = s.pending := rfl
@[simp] theorem State.modSpec_now (n : Nat) (f : SpecCh → SpecCh) : (s.modSpec n f).now = s.now := rfl
@[simp] theorem State.modSpec_regs (n : Nat) (f : SpecCh → SpecCh) : (s.modSpec n f).regs = s.regs := rfl
@[simp] theorem State.modSpec_sram (n : Nat) (f : SpecCh → SpecCh) : (s.modSpec n f).sram = s.sram := rfl
@[simp] theorem State.modSpec_nvm (n : Nat) (f : SpecCh → SpecCh) : (s.modSpec n f).nvm = s.nvm := rfl
@[simp] theorem State.modSpec_freeIdx (n : Nat) (f : SpecCh → SpecCh) : (s.modSpec n f).freeIdx = s.freeIdx := rfl
@[simp] theorem State.modSpec_tick0 (n : Nat) (f : SpecCh → SpecCh) : (s.modSpec n f).tick0 = s.tick0 := rfl
@[simp] theorem State.modSpec_beat (n : Nat) (f : SpecCh → SpecCh) : (s.modSpec n f).beat = s.beat := rfl
@[simp] theorem State.modSpec_evq (n : Nat) (f : SpecCh → SpecCh) : (s.modSpec n f).evq = s.evq := rfl
@[simp] theorem State.modSpec_lastStatus (n : Nat) (f : SpecCh → SpecCh) : (s.modSpec n f).lastStatus = s.lastStatus := rfl
@[simp] theorem State.modSpec_lastRead (n : Nat) (f : SpecCh → SpecCh) : (s.modSpec n f).lastRead = s.lastRead := rfl
@[simp] theorem State.modSpec_irqc (n : Nat) (f : SpecCh → SpecCh) : (s.modSpec n f).irqc = s.irqc := rfl
@[simp] theorem State.modSpec_log (n : Nat) (f : SpecCh → SpecCh) : (s.modSpec n f).log = s.log := rfl
@[simp] theorem State.modSpec_nvmc (n : Nat) (f : SpecCh → SpecCh) : (s.modSpec n f).nvmc = s.nvmc := rfl
@[simp] theorem State.modSpec_pwr (n : Nat) (f : SpecCh → SpecCh) : (s.modSpec n f).pwr = s.pwr := rfl
@[simp] theorem State.modSpec_cmp (n : Nat) (f : SpecCh → SpecCh) : (s.modSpec n f).cmp = s.cmp := rfl
@[simp] theorem State.modSpec_cps (n : Nat) (f : SpecCh → SpecCh) : (s.modSpec n f).cps = s.cps := rfl
@[simp] theorem State.modSpec_adc (n : Nat) (f : SpecCh → SpecCh) : (s.modSpec n f).adc = s.adc := rfl
@[simp] theorem State.modSpec_resamp (n : Nat) (f : SpecCh → SpecCh) : (s.modSpec n f).resamp = s.resamp := rfl
@[simp] theorem State.modSpec_cht (n : Nat) (f : SpecCh → SpecCh) : (s.modSpec n f).cht = s.cht := rfl
@[simp] theorem State.modSpec_qdl (n : Nat) (f : SpecCh → SpecCh) : (s.modSpec n f).qdl = s.qdl := rfl
@[simp] theorem State.modSpec_ctl (n : Nat) (f : SpecCh → SpecCh) : (s.modSpec n f).ctl = s.ctl := rfl
@[simp] theorem State.modSpec_dma (n : Nat) (f : SpecCh → SpecCh) : (s.modSpec n f).dma = s.dma := rfl
@[simp] theorem State.modSpec_mode (n : Nat) (f : SpecCh → SpecCh) : (s.modSpec n f).mode = s.mode := rfl
@[simp] theorem State.modSpec_pwm (n : Nat) (f : SpecCh → SpecCh) : (s.modSpec n f).pwm = s.pwm := rfl
@[simp] theorem State.modSpec_gd (n : Nat) (f : SpecCh → SpecCh) : (s.modSpec n f).gd = s.gd := rfl
@[simp] theorem State.modSpec_prot (n : Nat) (f : SpecCh → SpecCh) : (s.modSpec n f).prot = s.prot := rfl
@[simp] theorem State.modSpec_safe (n : Nat) (f : SpecCh → SpecCh) : (s.modSpec n f).safe = s.safe := rfl
@[simp] theorem State.modSpec_rly (n : Nat) (f : SpecCh → SpecCh) : (s.modSpec n f).rly = s.rly := rfl
@[simp] theorem State.modSpec_met (n : Nat) (f : SpecCh → SpecCh) : (s.modSpec n f).met = s.met := rfl
@[simp] theorem State.modSpec_hrm (n : Nat) (f : SpecCh → SpecCh) : (s.modSpec n f).hrm = s.hrm := rfl
@[simp] theorem State.modSpec_hsw (n : Nat) (f : SpecCh → SpecCh) : (s.modSpec n f).hsw = s.hsw := rfl
@[simp] theorem State.modSpec_ctx (n : Nat) (f : SpecCh → SpecCh) : (s.modSpec n f).ctx = s.ctx := rfl
@[simp] theorem State.modSpec_ldg (n : Nat) (f : SpecCh → SpecCh) : (s.modSpec n f).ldg = s.ldg := rfl
@[simp] theorem State.modSpec_bus (n : Nat) (f : SpecCh → SpecCh) : (s.modSpec n f).bus = s.bus := rfl
@[simp] theorem State.modSpec_host (n : Nat) (f : SpecCh → SpecCh) : (s.modSpec n f).host = s.host := rfl
@[simp] theorem State.modSpec_sb (n : Nat) (f : SpecCh → SpecCh) : (s.modSpec n f).sb = s.sb := rfl
@[simp] theorem State.modSpec_pins (n : Nat) (f : SpecCh → SpecCh) : (s.modSpec n f).pins = s.pins := rfl
@[simp] theorem State.modSpec_jtag (n : Nat) (f : SpecCh → SpecCh) : (s.modSpec n f).jtag = s.jtag := rfl

/-! ### State.modQdl changes qdl -/

@[simp] theorem State.modQdl_pending (f : QdlSt → QdlSt) : (s.modQdl f).pending = s.pending := rfl
@[simp] theorem State.modQdl_now (f : QdlSt → QdlSt) : (s.modQdl f).now = s.now := rfl
@[simp] theorem State.modQdl_regs (f : QdlSt → QdlSt) : (s.modQdl f).regs = s.regs := rfl
@[simp] theorem State.modQdl_sram (f : QdlSt → QdlSt) : (s.modQdl f).sram = s.sram := rfl
@[simp] theorem State.modQdl_nvm (f : QdlSt → QdlSt) : (s.modQdl f).nvm = s.nvm := rfl
@[simp] theorem State.modQdl_freeIdx (f : QdlSt → QdlSt) : (s.modQdl f).freeIdx = s.freeIdx := rfl
@[simp] theorem State.modQdl_tick0 (f : QdlSt → QdlSt) : (s.modQdl f).tick0 = s.tick0 := rfl
@[simp] theorem State.modQdl_beat (f : QdlSt → QdlSt) : (s.modQdl f).beat = s.beat := rfl
@[simp] theorem State.modQdl_evq (f : QdlSt → QdlSt) : (s.modQdl f).evq = s.evq := rfl
@[simp] theorem State.modQdl_lastStatus (f : QdlSt → QdlSt) : (s.modQdl f).lastStatus = s.lastStatus := rfl
@[simp] theorem State.modQdl_lastRead (f : QdlSt → QdlSt) : (s.modQdl f).lastRead = s.lastRead := rfl
@[simp] theorem State.modQdl_irqc (f : QdlSt → QdlSt) : (s.modQdl f).irqc = s.irqc := rfl
@[simp] theorem State.modQdl_log (f : QdlSt → QdlSt) : (s.modQdl f).log = s.log := rfl
@[simp] theorem State.modQdl_nvmc (f : QdlSt → QdlSt) : (s.modQdl f).nvmc = s.nvmc := rfl
@[simp] theorem State.modQdl_pwr (f : QdlSt → QdlSt) : (s.modQdl f).pwr = s.pwr := rfl
@[simp] theorem State.modQdl_cmp (f : QdlSt → QdlSt) : (s.modQdl f).cmp = s.cmp := rfl
@[simp] theorem State.modQdl_cps (f : QdlSt → QdlSt) : (s.modQdl f).cps = s.cps := rfl
@[simp] theorem State.modQdl_adc (f : QdlSt → QdlSt) : (s.modQdl f).adc = s.adc := rfl
@[simp] theorem State.modQdl_resamp (f : QdlSt → QdlSt) : (s.modQdl f).resamp = s.resamp := rfl
@[simp] theorem State.modQdl_cht (f : QdlSt → QdlSt) : (s.modQdl f).cht = s.cht := rfl
@[simp] theorem State.modQdl_ctl (f : QdlSt → QdlSt) : (s.modQdl f).ctl = s.ctl := rfl
@[simp] theorem State.modQdl_spec (f : QdlSt → QdlSt) : (s.modQdl f).spec = s.spec := rfl
@[simp] theorem State.modQdl_dma (f : QdlSt → QdlSt) : (s.modQdl f).dma = s.dma := rfl
@[simp] theorem State.modQdl_mode (f : QdlSt → QdlSt) : (s.modQdl f).mode = s.mode := rfl
@[simp] theorem State.modQdl_pwm (f : QdlSt → QdlSt) : (s.modQdl f).pwm = s.pwm := rfl
@[simp] theorem State.modQdl_gd (f : QdlSt → QdlSt) : (s.modQdl f).gd = s.gd := rfl
@[simp] theorem State.modQdl_prot (f : QdlSt → QdlSt) : (s.modQdl f).prot = s.prot := rfl
@[simp] theorem State.modQdl_safe (f : QdlSt → QdlSt) : (s.modQdl f).safe = s.safe := rfl
@[simp] theorem State.modQdl_rly (f : QdlSt → QdlSt) : (s.modQdl f).rly = s.rly := rfl
@[simp] theorem State.modQdl_met (f : QdlSt → QdlSt) : (s.modQdl f).met = s.met := rfl
@[simp] theorem State.modQdl_hrm (f : QdlSt → QdlSt) : (s.modQdl f).hrm = s.hrm := rfl
@[simp] theorem State.modQdl_hsw (f : QdlSt → QdlSt) : (s.modQdl f).hsw = s.hsw := rfl
@[simp] theorem State.modQdl_ctx (f : QdlSt → QdlSt) : (s.modQdl f).ctx = s.ctx := rfl
@[simp] theorem State.modQdl_ldg (f : QdlSt → QdlSt) : (s.modQdl f).ldg = s.ldg := rfl
@[simp] theorem State.modQdl_bus (f : QdlSt → QdlSt) : (s.modQdl f).bus = s.bus := rfl
@[simp] theorem State.modQdl_host (f : QdlSt → QdlSt) : (s.modQdl f).host = s.host := rfl
@[simp] theorem State.modQdl_sb (f : QdlSt → QdlSt) : (s.modQdl f).sb = s.sb := rfl
@[simp] theorem State.modQdl_pins (f : QdlSt → QdlSt) : (s.modQdl f).pins = s.pins := rfl
@[simp] theorem State.modQdl_jtag (f : QdlSt → QdlSt) : (s.modQdl f).jtag = s.jtag := rfl

/-! ### State.modTracker changes mode -/

@[simp] theorem State.modTracker_pending (n : Nat) (f : Tracker → Tracker) : (s.modTracker n f).pending = s.pending := rfl
@[simp] theorem State.modTracker_now (n : Nat) (f : Tracker → Tracker) : (s.modTracker n f).now = s.now := rfl
@[simp] theorem State.modTracker_regs (n : Nat) (f : Tracker → Tracker) : (s.modTracker n f).regs = s.regs := rfl
@[simp] theorem State.modTracker_sram (n : Nat) (f : Tracker → Tracker) : (s.modTracker n f).sram = s.sram := rfl
@[simp] theorem State.modTracker_nvm (n : Nat) (f : Tracker → Tracker) : (s.modTracker n f).nvm = s.nvm := rfl
@[simp] theorem State.modTracker_freeIdx (n : Nat) (f : Tracker → Tracker) : (s.modTracker n f).freeIdx = s.freeIdx := rfl
@[simp] theorem State.modTracker_tick0 (n : Nat) (f : Tracker → Tracker) : (s.modTracker n f).tick0 = s.tick0 := rfl
@[simp] theorem State.modTracker_beat (n : Nat) (f : Tracker → Tracker) : (s.modTracker n f).beat = s.beat := rfl
@[simp] theorem State.modTracker_evq (n : Nat) (f : Tracker → Tracker) : (s.modTracker n f).evq = s.evq := rfl
@[simp] theorem State.modTracker_lastStatus (n : Nat) (f : Tracker → Tracker) : (s.modTracker n f).lastStatus = s.lastStatus := rfl
@[simp] theorem State.modTracker_lastRead (n : Nat) (f : Tracker → Tracker) : (s.modTracker n f).lastRead = s.lastRead := rfl
@[simp] theorem State.modTracker_irqc (n : Nat) (f : Tracker → Tracker) : (s.modTracker n f).irqc = s.irqc := rfl
@[simp] theorem State.modTracker_log (n : Nat) (f : Tracker → Tracker) : (s.modTracker n f).log = s.log := rfl
@[simp] theorem State.modTracker_nvmc (n : Nat) (f : Tracker → Tracker) : (s.modTracker n f).nvmc = s.nvmc := rfl
@[simp] theorem State.modTracker_pwr (n : Nat) (f : Tracker → Tracker) : (s.modTracker n f).pwr = s.pwr := rfl
@[simp] theorem State.modTracker_cmp (n : Nat) (f : Tracker → Tracker) : (s.modTracker n f).cmp = s.cmp := rfl
@[simp] theorem State.modTracker_cps (n : Nat) (f : Tracker → Tracker) : (s.modTracker n f).cps = s.cps := rfl
@[simp] theorem State.modTracker_adc (n : Nat) (f : Tracker → Tracker) : (s.modTracker n f).adc = s.adc := rfl
@[simp] theorem State.modTracker_resamp (n : Nat) (f : Tracker → Tracker) : (s.modTracker n f).resamp = s.resamp := rfl
@[simp] theorem State.modTracker_cht (n : Nat) (f : Tracker → Tracker) : (s.modTracker n f).cht = s.cht := rfl
@[simp] theorem State.modTracker_qdl (n : Nat) (f : Tracker → Tracker) : (s.modTracker n f).qdl = s.qdl := rfl
@[simp] theorem State.modTracker_ctl (n : Nat) (f : Tracker → Tracker) : (s.modTracker n f).ctl = s.ctl := rfl
@[simp] theorem State.modTracker_spec (n : Nat) (f : Tracker → Tracker) : (s.modTracker n f).spec = s.spec := rfl
@[simp] theorem State.modTracker_dma (n : Nat) (f : Tracker → Tracker) : (s.modTracker n f).dma = s.dma := rfl
@[simp] theorem State.modTracker_pwm (n : Nat) (f : Tracker → Tracker) : (s.modTracker n f).pwm = s.pwm := rfl
@[simp] theorem State.modTracker_gd (n : Nat) (f : Tracker → Tracker) : (s.modTracker n f).gd = s.gd := rfl
@[simp] theorem State.modTracker_prot (n : Nat) (f : Tracker → Tracker) : (s.modTracker n f).prot = s.prot := rfl
@[simp] theorem State.modTracker_safe (n : Nat) (f : Tracker → Tracker) : (s.modTracker n f).safe = s.safe := rfl
@[simp] theorem State.modTracker_rly (n : Nat) (f : Tracker → Tracker) : (s.modTracker n f).rly = s.rly := rfl
@[simp] theorem State.modTracker_met (n : Nat) (f : Tracker → Tracker) : (s.modTracker n f).met = s.met := rfl
@[simp] theorem State.modTracker_hrm (n : Nat) (f : Tracker → Tracker) : (s.modTracker n f).hrm = s.hrm := rfl
@[simp] theorem State.modTracker_hsw (n : Nat) (f : Tracker → Tracker) : (s.modTracker n f).hsw = s.hsw := rfl
@[simp] theorem State.modTracker_ctx (n : Nat) (f : Tracker → Tracker) : (s.modTracker n f).ctx = s.ctx := rfl
@[simp] theorem State.modTracker_ldg (n : Nat) (f : Tracker → Tracker) : (s.modTracker n f).ldg = s.ldg := rfl
@[simp] theorem State.modTracker_bus (n : Nat) (f : Tracker → Tracker) : (s.modTracker n f).bus = s.bus := rfl
@[simp] theorem State.modTracker_host (n : Nat) (f : Tracker → Tracker) : (s.modTracker n f).host = s.host := rfl
@[simp] theorem State.modTracker_sb (n : Nat) (f : Tracker → Tracker) : (s.modTracker n f).sb = s.sb := rfl
@[simp] theorem State.modTracker_pins (n : Nat) (f : Tracker → Tracker) : (s.modTracker n f).pins = s.pins := rfl
@[simp] theorem State.modTracker_jtag (n : Nat) (f : Tracker → Tracker) : (s.modTracker n f).jtag = s.jtag := rfl

end Sys2Proof.Machine
end

