-- ==== Sys2Proof/Laws/Frames.lean ====
section
/-! SUPPORT. Frames of the shared operations: which fields of the state an occurrence of an event, a log record, a refusal, the
passage of time and a write to the byte memories leave alone. -/

namespace Sys2Proof.Machine

variable (s : State)

/-! ### State.blockSet leaves all but regs -/

@[simp] theorem State.blockSet_pending (a : Nat) (v : Word) : (s.blockSet a v).pending = s.pending := by
  unfold State.blockSet; split <;> rfl
@[simp] theorem State.blockSet_now (a : Nat) (v : Word) : (s.blockSet a v).now = s.now := by
  unfold State.blockSet; split <;> rfl
@[simp] theorem State.blockSet_sram (a : Nat) (v : Word) : (s.blockSet a v).sram = s.sram := by
  unfold State.blockSet; split <;> rfl
@[simp] theorem State.blockSet_nvm (a : Nat) (v : Word) : (s.blockSet a v).nvm = s.nvm := by
  unfold State.blockSet; split <;> rfl
@[simp] theorem State.blockSet_freeIdx (a : Nat) (v : Word) : (s.blockSet a v).freeIdx = s.freeIdx := by
  unfold State.blockSet; split <;> rfl
@[simp] theorem State.blockSet_tick0 (a : Nat) (v : Word) : (s.blockSet a v).tick0 = s.tick0 := by
  unfold State.blockSet; split <;> rfl
@[simp] theorem State.blockSet_beat (a : Nat) (v : Word) : (s.blockSet a v).beat = s.beat := by
  unfold State.blockSet; split <;> rfl
@[simp] theorem State.blockSet_evq (a : Nat) (v : Word) : (s.blockSet a v).evq = s.evq := by
  unfold State.blockSet; split <;> rfl
@[simp] theorem State.blockSet_lastStatus (a : Nat) (v : Word) : (s.blockSet a v).lastStatus = s.lastStatus := by
  unfold State.blockSet; split <;> rfl
@[simp] theorem State.blockSet_lastRead (a : Nat) (v : Word) : (s.blockSet a v).lastRead = s.lastRead := by
  unfold State.blockSet; split <;> rfl
@[simp] theorem State.blockSet_irqc (a : Nat) (v : Word) : (s.blockSet a v).irqc = s.irqc := by
  unfold State.blockSet; split <;> rfl
@[simp] theorem State.blockSet_log (a : Nat) (v : Word) : (s.blockSet a v).log = s.log := by
  unfold State.blockSet; split <;> rfl
@[simp] theorem State.blockSet_nvmc (a : Nat) (v : Word) : (s.blockSet a v).nvmc = s.nvmc := by
  unfold State.blockSet; split <;> rfl
@[simp] theorem State.blockSet_pwr (a : Nat) (v : Word) : (s.blockSet a v).pwr = s.pwr := by
  unfold State.blockSet; split <;> rfl
@[simp] theorem State.blockSet_cmp (a : Nat) (v : Word) : (s.blockSet a v).cmp = s.cmp := by
  unfold State.blockSet; split <;> rfl
@[simp] theorem State.blockSet_cps (a : Nat) (v : Word) : (s.blockSet a v).cps = s.cps := by
  unfold State.blockSet; split <;> rfl
@[simp] theorem State.blockSet_adc (a : Nat) (v : Word) : (s.blockSet a v).adc = s.adc := by
  unfold State.blockSet; split <;> rfl
@[simp] theorem State.blockSet_resamp (a : Nat) (v : Word) : (s.blockSet a v).resamp = s.resamp := by
  unfold State.blockSet; split <;> rfl
@[simp] theorem State.blockSet_cht (a : Nat) (v : Word) : (s.blockSet a v).cht = s.cht := by
  unfold State.blockSet; split <;> rfl
@[simp] theorem State.blockSet_qdl (a : Nat) (v : Word) : (s.blockSet a v).qdl = s.qdl := by
  unfold State.blockSet; split <;> rfl
@[simp] theorem State.blockSet_ctl (a : Nat) (v : Word) : (s.blockSet a v).ctl = s.ctl := by
  unfold State.blockSet; split <;> rfl
@[simp] theorem State.blockSet_spec (a : Nat) (v : Word) : (s.blockSet a v).spec = s.spec := by
  unfold State.blockSet; split <;> rfl
@[simp] theorem State.blockSet_dma (a : Nat) (v : Word) : (s.blockSet a v).dma = s.dma := by
  unfold State.blockSet; split <;> rfl
@[simp] theorem State.blockSet_mode (a : Nat) (v : Word) : (s.blockSet a v).mode = s.mode := by
  unfold State.blockSet; split <;> rfl
@[simp] theorem State.blockSet_pwm (a : Nat) (v : Word) : (s.blockSet a v).pwm = s.pwm := by
  unfold State.blockSet; split <;> rfl
@[simp] theorem State.blockSet_gd (a : Nat) (v : Word) : (s.blockSet a v).gd = s.gd := by
  unfold State.blockSet; split <;> rfl
@[simp] theorem State.blockSet_prot (a : Nat) (v : Word) : (s.blockSet a v).prot = s.prot := by
  unfold State.blockSet; split <;> rfl
@[simp] theorem State.blockSet_safe (a : Nat) (v : Word) : (s.blockSet a v).safe = s.safe := by
  unfold State.blockSet; split <;> rfl
@[simp] theorem State.blockSet_rly (a : Nat) (v : Word) : (s.blockSet a v).rly = s.rly := by
  unfold State.blockSet; split <;> rfl
@[simp] theorem State.blockSet_met (a : Nat) (v : Word) : (s.blockSet a v).met = s.met := by
  unfold State.blockSet; split <;> rfl
@[simp] theorem State.blockSet_hrm (a : Nat) (v : Word) : (s.blockSet a v).hrm = s.hrm := by
  unfold State.blockSet; split <;> rfl
@[simp] theorem State.blockSet_hsw (a : Nat) (v : Word) : (s.blockSet a v).hsw = s.hsw := by
  unfold State.blockSet; split <;> rfl
@[simp] theorem State.blockSet_ctx (a : Nat) (v : Word) : (s.blockSet a v).ctx = s.ctx := by
  unfold State.blockSet; split <;> rfl
@[simp] theorem State.blockSet_ldg (a : Nat) (v : Word) : (s.blockSet a v).ldg = s.ldg := by
  unfold State.blockSet; split <;> rfl
@[simp] theorem State.blockSet_bus (a : Nat) (v : Word) : (s.blockSet a v).bus = s.bus := by
  unfold State.blockSet; split <;> rfl
@[simp] theorem State.blockSet_host (a : Nat) (v : Word) : (s.blockSet a v).host = s.host := by
  unfold State.blockSet; split <;> rfl
@[simp] theorem State.blockSet_sb (a : Nat) (v : Word) : (s.blockSet a v).sb = s.sb := by
  unfold State.blockSet; split <;> rfl
@[simp] theorem State.blockSet_pins (a : Nat) (v : Word) : (s.blockSet a v).pins = s.pins := by
  unfold State.blockSet; split <;> rfl
@[simp] theorem State.blockSet_jtag (a : Nat) (v : Word) : (s.blockSet a v).jtag = s.jtag := by
  unfold State.blockSet; split <;> rfl

/-! ### State.announceFrom leaves all but irqc -/

@[simp] theorem State.announceFrom_pending (t : State) (n : Nat) : (s.announceFrom t n).pending = t.pending := by
  unfold State.announceFrom; split <;> rfl
@[simp] theorem State.announceFrom_now (t : State) (n : Nat) : (s.announceFrom t n).now = t.now := by
  unfold State.announceFrom; split <;> rfl
@[simp] theorem State.announceFrom_regs (t : State) (n : Nat) : (s.announceFrom t n).regs = t.regs := by
  unfold State.announceFrom; split <;> rfl
@[simp] theorem State.announceFrom_sram (t : State) (n : Nat) : (s.announceFrom t n).sram = t.sram := by
  unfold State.announceFrom; split <;> rfl
@[simp] theorem State.announceFrom_nvm (t : State) (n : Nat) : (s.announceFrom t n).nvm = t.nvm := by
  unfold State.announceFrom; split <;> rfl
@[simp] theorem State.announceFrom_freeIdx (t : State) (n : Nat) : (s.announceFrom t n).freeIdx = t.freeIdx := by
  unfold State.announceFrom; split <;> rfl
@[simp] theorem State.announceFrom_tick0 (t : State) (n : Nat) : (s.announceFrom t n).tick0 = t.tick0 := by
  unfold State.announceFrom; split <;> rfl
@[simp] theorem State.announceFrom_beat (t : State) (n : Nat) : (s.announceFrom t n).beat = t.beat := by
  unfold State.announceFrom; split <;> rfl
@[simp] theorem State.announceFrom_evq (t : State) (n : Nat) : (s.announceFrom t n).evq = t.evq := by
  unfold State.announceFrom; split <;> rfl
@[simp] theorem State.announceFrom_lastStatus (t : State) (n : Nat) : (s.announceFrom t n).lastStatus = t.lastStatus := by
  unfold State.announceFrom; split <;> rfl
@[simp] theorem State.announceFrom_lastRead (t : State) (n : Nat) : (s.announceFrom t n).lastRead = t.lastRead := by
  unfold State.announceFrom; split <;> rfl
@[simp] theorem State.announceFrom_log (t : State) (n : Nat) : (s.announceFrom t n).log = t.log := by
  unfold State.announceFrom; split <;> rfl
@[simp] theorem State.announceFrom_nvmc (t : State) (n : Nat) : (s.announceFrom t n).nvmc = t.nvmc := by
  unfold State.announceFrom; split <;> rfl
@[simp] theorem State.announceFrom_pwr (t : State) (n : Nat) : (s.announceFrom t n).pwr = t.pwr := by
  unfold State.announceFrom; split <;> rfl
@[simp] theorem State.announceFrom_cmp (t : State) (n : Nat) : (s.announceFrom t n).cmp = t.cmp := by
  unfold State.announceFrom; split <;> rfl
@[simp] theorem State.announceFrom_cps (t : State) (n : Nat) : (s.announceFrom t n).cps = t.cps := by
  unfold State.announceFrom; split <;> rfl
@[simp] theorem State.announceFrom_adc (t : State) (n : Nat) : (s.announceFrom t n).adc = t.adc := by
  unfold State.announceFrom; split <;> rfl
@[simp] theorem State.announceFrom_resamp (t : State) (n : Nat) : (s.announceFrom t n).resamp = t.resamp := by
  unfold State.announceFrom; split <;> rfl
@[simp] theorem State.announceFrom_cht (t : State) (n : Nat) : (s.announceFrom t n).cht = t.cht := by
  unfold State.announceFrom; split <;> rfl
@[simp] theorem State.announceFrom_qdl (t : State) (n : Nat) : (s.announceFrom t n).qdl = t.qdl := by
  unfold State.announceFrom; split <;> rfl
@[simp] theorem State.announceFrom_ctl (t : State) (n : Nat) : (s.announceFrom t n).ctl = t.ctl := by
  unfold State.announceFrom; split <;> rfl
@[simp] theorem State.announceFrom_spec (t : State) (n : Nat) : (s.announceFrom t n).spec = t.spec := by
  unfold State.announceFrom; split <;> rfl
@[simp] theorem State.announceFrom_dma (t : State) (n : Nat) : (s.announceFrom t n).dma = t.dma := by
  unfold State.announceFrom; split <;> rfl
@[simp] theorem State.announceFrom_mode (t : State) (n : Nat) : (s.announceFrom t n).mode = t.mode := by
  unfold State.announceFrom; split <;> rfl
@[simp] theorem State.announceFrom_pwm (t : State) (n : Nat) : (s.announceFrom t n).pwm = t.pwm := by
  unfold State.announceFrom; split <;> rfl
@[simp] theorem State.announceFrom_gd (t : State) (n : Nat) : (s.announceFrom t n).gd = t.gd := by
  unfold State.announceFrom; split <;> rfl
@[simp] theorem State.announceFrom_prot (t : State) (n : Nat) : (s.announceFrom t n).prot = t.prot := by
  unfold State.announceFrom; split <;> rfl
@[simp] theorem State.announceFrom_safe (t : State) (n : Nat) : (s.announceFrom t n).safe = t.safe := by
  unfold State.announceFrom; split <;> rfl
@[simp] theorem State.announceFrom_rly (t : State) (n : Nat) : (s.announceFrom t n).rly = t.rly := by
  unfold State.announceFrom; split <;> rfl
@[simp] theorem State.announceFrom_met (t : State) (n : Nat) : (s.announceFrom t n).met = t.met := by
  unfold State.announceFrom; split <;> rfl
@[simp] theorem State.announceFrom_hrm (t : State) (n : Nat) : (s.announceFrom t n).hrm = t.hrm := by
  unfold State.announceFrom; split <;> rfl
@[simp] theorem State.announceFrom_hsw (t : State) (n : Nat) : (s.announceFrom t n).hsw = t.hsw := by
  unfold State.announceFrom; split <;> rfl
@[simp] theorem State.announceFrom_ctx (t : State) (n : Nat) : (s.announceFrom t n).ctx = t.ctx := by
  unfold State.announceFrom; split <;> rfl
@[simp] theorem State.announceFrom_ldg (t : State) (n : Nat) : (s.announceFrom t n).ldg = t.ldg := by
  unfold State.announceFrom; split <;> rfl
@[simp] theorem State.announceFrom_bus (t : State) (n : Nat) : (s.announceFrom t n).bus = t.bus := by
  unfold State.announceFrom; split <;> rfl
@[simp] theorem State.announceFrom_host (t : State) (n : Nat) : (s.announceFrom t n).host = t.host := by
  unfold State.announceFrom; split <;> rfl
@[simp] theorem State.announceFrom_sb (t : State) (n : Nat) : (s.announceFrom t n).sb = t.sb := by
  unfold State.announceFrom; split <;> rfl
@[simp] theorem State.announceFrom_pins (t : State) (n : Nat) : (s.announceFrom t n).pins = t.pins := by
  unfold State.announceFrom; split <;> rfl
@[simp] theorem State.announceFrom_jtag (t : State) (n : Nat) : (s.announceFrom t n).jtag = t.jtag := by
  unfold State.announceFrom; split <;> rfl

/-! ### State.pendIn leaves all but irqc -/

@[simp] theorem State.pendIn_pending (d n : Nat) : (s.pendIn d n).pending = s.pending := by
  unfold State.pendIn; split <;> rfl
@[simp] theorem State.pendIn_now (d n : Nat) : (s.pendIn d n).now = s.now := by
  unfold State.pendIn; split <;> rfl
@[simp] theorem State.pendIn_regs (d n : Nat) : (s.pendIn d n).regs = s.regs := by
  unfold State.pendIn; split <;> rfl
@[simp] theorem State.pendIn_sram (d n : Nat) : (s.pendIn d n).sram = s.sram := by
  unfold State.pendIn; split <;> rfl
@[simp] theorem State.pendIn_nvm (d n : Nat) : (s.pendIn d n).nvm = s.nvm := by
  unfold State.pendIn; split <;> rfl
@[simp] theorem State.pendIn_freeIdx (d n : Nat) : (s.pendIn d n).freeIdx = s.freeIdx := by
  unfold State.pendIn; split <;> rfl
@[simp] theorem State.pendIn_tick0 (d n : Nat) : (s.pendIn d n).tick0 = s.tick0 := by
  unfold State.pendIn; split <;> rfl
@[simp] theorem State.pendIn_beat (d n : Nat) : (s.pendIn d n).beat = s.beat := by
  unfold State.pendIn; split <;> rfl
@[simp] theorem State.pendIn_evq (d n : Nat) : (s.pendIn d n).evq = s.evq := by
  unfold State.pendIn; split <;> rfl
@[simp] theorem State.pendIn_lastStatus (d n : Nat) : (s.pendIn d n).lastStatus = s.lastStatus := by
  unfold State.pendIn; split <;> rfl
@[simp] theorem State.pendIn_lastRead (d n : Nat) : (s.pendIn d n).lastRead = s.lastRead := by
  unfold State.pendIn; split <;> rfl
@[simp] theorem State.pendIn_log (d n : Nat) : (s.pendIn d n).log = s.log := by
  unfold State.pendIn; split <;> rfl
@[simp] theorem State.pendIn_nvmc (d n : Nat) : (s.pendIn d n).nvmc = s.nvmc := by
  unfold State.pendIn; split <;> rfl
@[simp] theorem State.pendIn_pwr (d n : Nat) : (s.pendIn d n).pwr = s.pwr := by
  unfold State.pendIn; split <;> rfl
@[simp] theorem State.pendIn_cmp (d n : Nat) : (s.pendIn d n).cmp = s.cmp := by
  unfold State.pendIn; split <;> rfl
@[simp] theorem State.pendIn_cps (d n : Nat) : (s.pendIn d n).cps = s.cps := by
  unfold State.pendIn; split <;> rfl
@[simp] theorem State.pendIn_adc (d n : Nat) : (s.pendIn d n).adc = s.adc := by
  unfold State.pendIn; split <;> rfl
@[simp] theorem State.pendIn_resamp (d n : Nat) : (s.pendIn d n).resamp = s.resamp := by
  unfold State.pendIn; split <;> rfl
@[simp] theorem State.pendIn_cht (d n : Nat) : (s.pendIn d n).cht = s.cht := by
  unfold State.pendIn; split <;> rfl
@[simp] theorem State.pendIn_qdl (d n : Nat) : (s.pendIn d n).qdl = s.qdl := by
  unfold State.pendIn; split <;> rfl
@[simp] theorem State.pendIn_ctl (d n : Nat) : (s.pendIn d n).ctl = s.ctl := by
  unfold State.pendIn; split <;> rfl
@[simp] theorem State.pendIn_spec (d n : Nat) : (s.pendIn d n).spec = s.spec := by
  unfold State.pendIn; split <;> rfl
@[simp] theorem State.pendIn_dma (d n : Nat) : (s.pendIn d n).dma = s.dma := by
  unfold State.pendIn; split <;> rfl
@[simp] theorem State.pendIn_mode (d n : Nat) : (s.pendIn d n).mode = s.mode := by
  unfold State.pendIn; split <;> rfl
@[simp] theorem State.pendIn_pwm (d n : Nat) : (s.pendIn d n).pwm = s.pwm := by
  unfold State.pendIn; split <;> rfl
@[simp] theorem State.pendIn_gd (d n : Nat) : (s.pendIn d n).gd = s.gd := by
  unfold State.pendIn; split <;> rfl
@[simp] theorem State.pendIn_prot (d n : Nat) : (s.pendIn d n).prot = s.prot := by
  unfold State.pendIn; split <;> rfl
@[simp] theorem State.pendIn_safe (d n : Nat) : (s.pendIn d n).safe = s.safe := by
  unfold State.pendIn; split <;> rfl
@[simp] theorem State.pendIn_rly (d n : Nat) : (s.pendIn d n).rly = s.rly := by
  unfold State.pendIn; split <;> rfl
@[simp] theorem State.pendIn_met (d n : Nat) : (s.pendIn d n).met = s.met := by
  unfold State.pendIn; split <;> rfl
@[simp] theorem State.pendIn_hrm (d n : Nat) : (s.pendIn d n).hrm = s.hrm := by
  unfold State.pendIn; split <;> rfl
@[simp] theorem State.pendIn_hsw (d n : Nat) : (s.pendIn d n).hsw = s.hsw := by
  unfold State.pendIn; split <;> rfl
@[simp] theorem State.pendIn_ctx (d n : Nat) : (s.pendIn d n).ctx = s.ctx := by
  unfold State.pendIn; split <;> rfl
@[simp] theorem State.pendIn_ldg (d n : Nat) : (s.pendIn d n).ldg = s.ldg := by
  unfold State.pendIn; split <;> rfl
@[simp] theorem State.pendIn_bus (d n : Nat) : (s.pendIn d n).bus = s.bus := by
  unfold State.pendIn; split <;> rfl
@[simp] theorem State.pendIn_host (d n : Nat) : (s.pendIn d n).host = s.host := by
  unfold State.pendIn; split <;> rfl
@[simp] theorem State.pendIn_sb (d n : Nat) : (s.pendIn d n).sb = s.sb := by
  unfold State.pendIn; split <;> rfl
@[simp] theorem State.pendIn_pins (d n : Nat) : (s.pendIn d n).pins = s.pins := by
  unfold State.pendIn; split <;> rfl
@[simp] theorem State.pendIn_jtag (d n : Nat) : (s.pendIn d n).jtag = s.jtag := by
  unfold State.pendIn; split <;> rfl

/-! ### State.pendSrc leaves all but irqc -/

@[simp] theorem State.pendSrc_pending (n : Nat) : (s.pendSrc n).pending = s.pending := by
  exact s.pendIn_pending _ _
@[simp] theorem State.pendSrc_now (n : Nat) : (s.pendSrc n).now = s.now := by
  exact s.pendIn_now _ _
@[simp] theorem State.pendSrc_regs (n : Nat) : (s.pendSrc n).regs = s.regs := by
  exact s.pendIn_regs _ _
@[simp] theorem State.pendSrc_sram (n : Nat) : (s.pendSrc n).sram = s.sram := by
  exact s.pendIn_sram _ _
@[simp] theorem State.pendSrc_nvm (n : Nat) : (s.pendSrc n).nvm = s.nvm := by
  exact s.pendIn_nvm _ _
@[simp] theorem State.pendSrc_freeIdx (n : Nat) : (s.pendSrc n).freeIdx = s.freeIdx := by
  exact s.pendIn_freeIdx _ _
@[simp] theorem State.pendSrc_tick0 (n : Nat) : (s.pendSrc n).tick0 = s.tick0 := by
  exact s.pendIn_tick0 _ _
@[simp] theorem State.pendSrc_beat (n : Nat) : (s.pendSrc n).beat = s.beat := by
  exact s.pendIn_beat _ _
@[simp] theorem State.pendSrc_evq (n : Nat) : (s.pendSrc n).evq = s.evq := by
  exact s.pendIn_evq _ _
@[simp] theorem State.pendSrc_lastStatus (n : Nat) : (s.pendSrc n).lastStatus = s.lastStatus := by
  exact s.pendIn_lastStatus _ _
@[simp] theorem State.pendSrc_lastRead (n : Nat) : (s.pendSrc n).lastRead = s.lastRead := by
  exact s.pendIn_lastRead _ _
@[simp] theorem State.pendSrc_log (n : Nat) : (s.pendSrc n).log = s.log := by
  exact s.pendIn_log _ _
@[simp] theorem State.pendSrc_nvmc (n : Nat) : (s.pendSrc n).nvmc = s.nvmc := by
  exact s.pendIn_nvmc _ _
@[simp] theorem State.pendSrc_pwr (n : Nat) : (s.pendSrc n).pwr = s.pwr := by
  exact s.pendIn_pwr _ _
@[simp] theorem State.pendSrc_cmp (n : Nat) : (s.pendSrc n).cmp = s.cmp := by
  exact s.pendIn_cmp _ _
@[simp] theorem State.pendSrc_cps (n : Nat) : (s.pendSrc n).cps = s.cps := by
  exact s.pendIn_cps _ _
@[simp] theorem State.pendSrc_adc (n : Nat) : (s.pendSrc n).adc = s.adc := by
  exact s.pendIn_adc _ _
@[simp] theorem State.pendSrc_resamp (n : Nat) : (s.pendSrc n).resamp = s.resamp := by
  exact s.pendIn_resamp _ _
@[simp] theorem State.pendSrc_cht (n : Nat) : (s.pendSrc n).cht = s.cht := by
  exact s.pendIn_cht _ _
@[simp] theorem State.pendSrc_qdl (n : Nat) : (s.pendSrc n).qdl = s.qdl := by
  exact s.pendIn_qdl _ _
@[simp] theorem State.pendSrc_ctl (n : Nat) : (s.pendSrc n).ctl = s.ctl := by
  exact s.pendIn_ctl _ _
@[simp] theorem State.pendSrc_spec (n : Nat) : (s.pendSrc n).spec = s.spec := by
  exact s.pendIn_spec _ _
@[simp] theorem State.pendSrc_dma (n : Nat) : (s.pendSrc n).dma = s.dma := by
  exact s.pendIn_dma _ _
@[simp] theorem State.pendSrc_mode (n : Nat) : (s.pendSrc n).mode = s.mode := by
  exact s.pendIn_mode _ _
@[simp] theorem State.pendSrc_pwm (n : Nat) : (s.pendSrc n).pwm = s.pwm := by
  exact s.pendIn_pwm _ _
@[simp] theorem State.pendSrc_gd (n : Nat) : (s.pendSrc n).gd = s.gd := by
  exact s.pendIn_gd _ _
@[simp] theorem State.pendSrc_prot (n : Nat) : (s.pendSrc n).prot = s.prot := by
  exact s.pendIn_prot _ _
@[simp] theorem State.pendSrc_safe (n : Nat) : (s.pendSrc n).safe = s.safe := by
  exact s.pendIn_safe _ _
@[simp] theorem State.pendSrc_rly (n : Nat) : (s.pendSrc n).rly = s.rly := by
  exact s.pendIn_rly _ _
@[simp] theorem State.pendSrc_met (n : Nat) : (s.pendSrc n).met = s.met := by
  exact s.pendIn_met _ _
@[simp] theorem State.pendSrc_hrm (n : Nat) : (s.pendSrc n).hrm = s.hrm := by
  exact s.pendIn_hrm _ _
@[simp] theorem State.pendSrc_hsw (n : Nat) : (s.pendSrc n).hsw = s.hsw := by
  exact s.pendIn_hsw _ _
@[simp] theorem State.pendSrc_ctx (n : Nat) : (s.pendSrc n).ctx = s.ctx := by
  exact s.pendIn_ctx _ _
@[simp] theorem State.pendSrc_ldg (n : Nat) : (s.pendSrc n).ldg = s.ldg := by
  exact s.pendIn_ldg _ _
@[simp] theorem State.pendSrc_bus (n : Nat) : (s.pendSrc n).bus = s.bus := by
  exact s.pendIn_bus _ _
@[simp] theorem State.pendSrc_host (n : Nat) : (s.pendSrc n).host = s.host := by
  exact s.pendIn_host _ _
@[simp] theorem State.pendSrc_sb (n : Nat) : (s.pendSrc n).sb = s.sb := by
  exact s.pendIn_sb _ _
@[simp] theorem State.pendSrc_pins (n : Nat) : (s.pendSrc n).pins = s.pins := by
  exact s.pendIn_pins _ _
@[simp] theorem State.pendSrc_jtag (n : Nat) : (s.pendSrc n).jtag = s.jtag := by
  exact s.pendIn_jtag _ _

/-! ### State.raiseSrc leaves all but irqc -/

@[simp] theorem State.raiseSrc_pending (n : Nat) : (s.raiseSrc n).pending = s.pending := by
  unfold State.raiseSrc; split <;> simp
@[simp] theorem State.raiseSrc_now (n : Nat) : (s.raiseSrc n).now = s.now := by
  unfold State.raiseSrc; split <;> simp
@[simp] theorem State.raiseSrc_regs (n : Nat) : (s.raiseSrc n).regs = s.regs := by
  unfold State.raiseSrc; split <;> simp
@[simp] theorem State.raiseSrc_sram (n : Nat) : (s.raiseSrc n).sram = s.sram := by
  unfold State.raiseSrc; split <;> simp
@[simp] theorem State.raiseSrc_nvm (n : Nat) : (s.raiseSrc n).nvm = s.nvm := by
  unfold State.raiseSrc; split <;> simp
@[simp] theorem State.raiseSrc_freeIdx (n : Nat) : (s.raiseSrc n).freeIdx = s.freeIdx := by
  unfold State.raiseSrc; split <;> simp
@[simp] theorem State.raiseSrc_tick0 (n : Nat) : (s.raiseSrc n).tick0 = s.tick0 := by
  unfold State.raiseSrc; split <;> simp
@[simp] theorem State.raiseSrc_beat (n : Nat) : (s.raiseSrc n).beat = s.beat := by
  unfold State.raiseSrc; split <;> simp
@[simp] theorem State.raiseSrc_evq (n : Nat) : (s.raiseSrc n).evq = s.evq := by
  unfold State.raiseSrc; split <;> simp
@[simp] theorem State.raiseSrc_lastStatus (n : Nat) : (s.raiseSrc n).lastStatus = s.lastStatus := by
  unfold State.raiseSrc; split <;> simp
@[simp] theorem State.raiseSrc_lastRead (n : Nat) : (s.raiseSrc n).lastRead = s.lastRead := by
  unfold State.raiseSrc; split <;> simp
@[simp] theorem State.raiseSrc_log (n : Nat) : (s.raiseSrc n).log = s.log := by
  unfold State.raiseSrc; split <;> simp
@[simp] theorem State.raiseSrc_nvmc (n : Nat) : (s.raiseSrc n).nvmc = s.nvmc := by
  unfold State.raiseSrc; split <;> simp
@[simp] theorem State.raiseSrc_pwr (n : Nat) : (s.raiseSrc n).pwr = s.pwr := by
  unfold State.raiseSrc; split <;> simp
@[simp] theorem State.raiseSrc_cmp (n : Nat) : (s.raiseSrc n).cmp = s.cmp := by
  unfold State.raiseSrc; split <;> simp
@[simp] theorem State.raiseSrc_cps (n : Nat) : (s.raiseSrc n).cps = s.cps := by
  unfold State.raiseSrc; split <;> simp
@[simp] theorem State.raiseSrc_adc (n : Nat) : (s.raiseSrc n).adc = s.adc := by
  unfold State.raiseSrc; split <;> simp
@[simp] theorem State.raiseSrc_resamp (n : Nat) : (s.raiseSrc n).resamp = s.resamp := by
  unfold State.raiseSrc; split <;> simp
@[simp] theorem State.raiseSrc_cht (n : Nat) : (s.raiseSrc n).cht = s.cht := by
  unfold State.raiseSrc; split <;> simp
@[simp] theorem State.raiseSrc_qdl (n : Nat) : (s.raiseSrc n).qdl = s.qdl := by
  unfold State.raiseSrc; split <;> simp
@[simp] theorem State.raiseSrc_ctl (n : Nat) : (s.raiseSrc n).ctl = s.ctl := by
  unfold State.raiseSrc; split <;> simp
@[simp] theorem State.raiseSrc_spec (n : Nat) : (s.raiseSrc n).spec = s.spec := by
  unfold State.raiseSrc; split <;> simp
@[simp] theorem State.raiseSrc_dma (n : Nat) : (s.raiseSrc n).dma = s.dma := by
  unfold State.raiseSrc; split <;> simp
@[simp] theorem State.raiseSrc_mode (n : Nat) : (s.raiseSrc n).mode = s.mode := by
  unfold State.raiseSrc; split <;> simp
@[simp] theorem State.raiseSrc_pwm (n : Nat) : (s.raiseSrc n).pwm = s.pwm := by
  unfold State.raiseSrc; split <;> simp
@[simp] theorem State.raiseSrc_gd (n : Nat) : (s.raiseSrc n).gd = s.gd := by
  unfold State.raiseSrc; split <;> simp
@[simp] theorem State.raiseSrc_prot (n : Nat) : (s.raiseSrc n).prot = s.prot := by
  unfold State.raiseSrc; split <;> simp
@[simp] theorem State.raiseSrc_safe (n : Nat) : (s.raiseSrc n).safe = s.safe := by
  unfold State.raiseSrc; split <;> simp
@[simp] theorem State.raiseSrc_rly (n : Nat) : (s.raiseSrc n).rly = s.rly := by
  unfold State.raiseSrc; split <;> simp
@[simp] theorem State.raiseSrc_met (n : Nat) : (s.raiseSrc n).met = s.met := by
  unfold State.raiseSrc; split <;> simp
@[simp] theorem State.raiseSrc_hrm (n : Nat) : (s.raiseSrc n).hrm = s.hrm := by
  unfold State.raiseSrc; split <;> simp
@[simp] theorem State.raiseSrc_hsw (n : Nat) : (s.raiseSrc n).hsw = s.hsw := by
  unfold State.raiseSrc; split <;> simp
@[simp] theorem State.raiseSrc_ctx (n : Nat) : (s.raiseSrc n).ctx = s.ctx := by
  unfold State.raiseSrc; split <;> simp
@[simp] theorem State.raiseSrc_ldg (n : Nat) : (s.raiseSrc n).ldg = s.ldg := by
  unfold State.raiseSrc; split <;> simp
@[simp] theorem State.raiseSrc_bus (n : Nat) : (s.raiseSrc n).bus = s.bus := by
  unfold State.raiseSrc; split <;> simp
@[simp] theorem State.raiseSrc_host (n : Nat) : (s.raiseSrc n).host = s.host := by
  unfold State.raiseSrc; split <;> simp
@[simp] theorem State.raiseSrc_sb (n : Nat) : (s.raiseSrc n).sb = s.sb := by
  unfold State.raiseSrc; split <;> simp
@[simp] theorem State.raiseSrc_pins (n : Nat) : (s.raiseSrc n).pins = s.pins := by
  unfold State.raiseSrc; split <;> simp
@[simp] theorem State.raiseSrc_jtag (n : Nat) : (s.raiseSrc n).jtag = s.jtag := by
  unfold State.raiseSrc; split <;> simp

/-! ### State.raiseNext leaves all but irqc -/

@[simp] theorem State.raiseNext_pending (n : Nat) : (s.raiseNext n).pending = s.pending := by
  unfold State.raiseNext; split <;> simp
@[simp] theorem State.raiseNext_now (n : Nat) : (s.raiseNext n).now = s.now := by
  unfold State.raiseNext; split <;> simp
@[simp] theorem State.raiseNext_regs (n : Nat) : (s.raiseNext n).regs = s.regs := by
  unfold State.raiseNext; split <;> simp
@[simp] theorem State.raiseNext_sram (n : Nat) : (s.raiseNext n).sram = s.sram := by
  unfold State.raiseNext; split <;> simp
@[simp] theorem State.raiseNext_nvm (n : Nat) : (s.raiseNext n).nvm = s.nvm := by
  unfold State.raiseNext; split <;> simp
@[simp] theorem State.raiseNext_freeIdx (n : Nat) : (s.raiseNext n).freeIdx = s.freeIdx := by
  unfold State.raiseNext; split <;> simp
@[simp] theorem State.raiseNext_tick0 (n : Nat) : (s.raiseNext n).tick0 = s.tick0 := by
  unfold State.raiseNext; split <;> simp
@[simp] theorem State.raiseNext_beat (n : Nat) : (s.raiseNext n).beat = s.beat := by
  unfold State.raiseNext; split <;> simp
@[simp] theorem State.raiseNext_evq (n : Nat) : (s.raiseNext n).evq = s.evq := by
  unfold State.raiseNext; split <;> simp
@[simp] theorem State.raiseNext_lastStatus (n : Nat) : (s.raiseNext n).lastStatus = s.lastStatus := by
  unfold State.raiseNext; split <;> simp
@[simp] theorem State.raiseNext_lastRead (n : Nat) : (s.raiseNext n).lastRead = s.lastRead := by
  unfold State.raiseNext; split <;> simp
@[simp] theorem State.raiseNext_log (n : Nat) : (s.raiseNext n).log = s.log := by
  unfold State.raiseNext; split <;> simp
@[simp] theorem State.raiseNext_nvmc (n : Nat) : (s.raiseNext n).nvmc = s.nvmc := by
  unfold State.raiseNext; split <;> simp
@[simp] theorem State.raiseNext_pwr (n : Nat) : (s.raiseNext n).pwr = s.pwr := by
  unfold State.raiseNext; split <;> simp
@[simp] theorem State.raiseNext_cmp (n : Nat) : (s.raiseNext n).cmp = s.cmp := by
  unfold State.raiseNext; split <;> simp
@[simp] theorem State.raiseNext_cps (n : Nat) : (s.raiseNext n).cps = s.cps := by
  unfold State.raiseNext; split <;> simp
@[simp] theorem State.raiseNext_adc (n : Nat) : (s.raiseNext n).adc = s.adc := by
  unfold State.raiseNext; split <;> simp
@[simp] theorem State.raiseNext_resamp (n : Nat) : (s.raiseNext n).resamp = s.resamp := by
  unfold State.raiseNext; split <;> simp
@[simp] theorem State.raiseNext_cht (n : Nat) : (s.raiseNext n).cht = s.cht := by
  unfold State.raiseNext; split <;> simp
@[simp] theorem State.raiseNext_qdl (n : Nat) : (s.raiseNext n).qdl = s.qdl := by
  unfold State.raiseNext; split <;> simp
@[simp] theorem State.raiseNext_ctl (n : Nat) : (s.raiseNext n).ctl = s.ctl := by
  unfold State.raiseNext; split <;> simp
@[simp] theorem State.raiseNext_spec (n : Nat) : (s.raiseNext n).spec = s.spec := by
  unfold State.raiseNext; split <;> simp
@[simp] theorem State.raiseNext_dma (n : Nat) : (s.raiseNext n).dma = s.dma := by
  unfold State.raiseNext; split <;> simp
@[simp] theorem State.raiseNext_mode (n : Nat) : (s.raiseNext n).mode = s.mode := by
  unfold State.raiseNext; split <;> simp
@[simp] theorem State.raiseNext_pwm (n : Nat) : (s.raiseNext n).pwm = s.pwm := by
  unfold State.raiseNext; split <;> simp
@[simp] theorem State.raiseNext_gd (n : Nat) : (s.raiseNext n).gd = s.gd := by
  unfold State.raiseNext; split <;> simp
@[simp] theorem State.raiseNext_prot (n : Nat) : (s.raiseNext n).prot = s.prot := by
  unfold State.raiseNext; split <;> simp
@[simp] theorem State.raiseNext_safe (n : Nat) : (s.raiseNext n).safe = s.safe := by
  unfold State.raiseNext; split <;> simp
@[simp] theorem State.raiseNext_rly (n : Nat) : (s.raiseNext n).rly = s.rly := by
  unfold State.raiseNext; split <;> simp
@[simp] theorem State.raiseNext_met (n : Nat) : (s.raiseNext n).met = s.met := by
  unfold State.raiseNext; split <;> simp
@[simp] theorem State.raiseNext_hrm (n : Nat) : (s.raiseNext n).hrm = s.hrm := by
  unfold State.raiseNext; split <;> simp
@[simp] theorem State.raiseNext_hsw (n : Nat) : (s.raiseNext n).hsw = s.hsw := by
  unfold State.raiseNext; split <;> simp
@[simp] theorem State.raiseNext_ctx (n : Nat) : (s.raiseNext n).ctx = s.ctx := by
  unfold State.raiseNext; split <;> simp
@[simp] theorem State.raiseNext_ldg (n : Nat) : (s.raiseNext n).ldg = s.ldg := by
  unfold State.raiseNext; split <;> simp
@[simp] theorem State.raiseNext_bus (n : Nat) : (s.raiseNext n).bus = s.bus := by
  unfold State.raiseNext; split <;> simp
@[simp] theorem State.raiseNext_host (n : Nat) : (s.raiseNext n).host = s.host := by
  unfold State.raiseNext; split <;> simp
@[simp] theorem State.raiseNext_sb (n : Nat) : (s.raiseNext n).sb = s.sb := by
  unfold State.raiseNext; split <;> simp
@[simp] theorem State.raiseNext_pins (n : Nat) : (s.raiseNext n).pins = s.pins := by
  unfold State.raiseNext; split <;> simp
@[simp] theorem State.raiseNext_jtag (n : Nat) : (s.raiseNext n).jtag = s.jtag := by
  unfold State.raiseNext; split <;> simp

/-! ### State.note leaves all but regs, tick0, irqc -/

@[simp] theorem State.note_pending (p b : Nat) : (s.note p b).pending = s.pending := by
  unfold State.note; dsimp only; (repeat' split) <;> simp
@[simp] theorem State.note_now (p b : Nat) : (s.note p b).now = s.now := by
  unfold State.note; dsimp only; (repeat' split) <;> simp
@[simp] theorem State.note_sram (p b : Nat) : (s.note p b).sram = s.sram := by
  unfold State.note; dsimp only; (repeat' split) <;> simp
@[simp] theorem State.note_nvm (p b : Nat) : (s.note p b).nvm = s.nvm := by
  unfold State.note; dsimp only; (repeat' split) <;> simp
@[simp] theorem State.note_freeIdx (p b : Nat) : (s.note p b).freeIdx = s.freeIdx := by
  unfold State.note; dsimp only; (repeat' split) <;> simp
@[simp] theorem State.note_beat (p b : Nat) : (s.note p b).beat = s.beat := by
  unfold State.note; dsimp only; (repeat' split) <;> simp
@[simp] theorem State.note_evq (p b : Nat) : (s.note p b).evq = s.evq := by
  unfold State.note; dsimp only; (repeat' split) <;> simp
@[simp] theorem State.note_lastStatus (p b : Nat) : (s.note p b).lastStatus = s.lastStatus := by
  unfold State.note; dsimp only; (repeat' split) <;> simp
@[simp] theorem State.note_lastRead (p b : Nat) : (s.note p b).lastRead = s.lastRead := by
  unfold State.note; dsimp only; (repeat' split) <;> simp
@[simp] theorem State.note_log (p b : Nat) : (s.note p b).log = s.log := by
  unfold State.note; dsimp only; (repeat' split) <;> simp
@[simp] theorem State.note_nvmc (p b : Nat) : (s.note p b).nvmc = s.nvmc := by
  unfold State.note; dsimp only; (repeat' split) <;> simp
@[simp] theorem State.note_pwr (p b : Nat) : (s.note p b).pwr = s.pwr := by
  unfold State.note; dsimp only; (repeat' split) <;> simp
@[simp] theorem State.note_cmp (p b : Nat) : (s.note p b).cmp = s.cmp := by
  unfold State.note; dsimp only; (repeat' split) <;> simp
@[simp] theorem State.note_cps (p b : Nat) : (s.note p b).cps = s.cps := by
  unfold State.note; dsimp only; (repeat' split) <;> simp
@[simp] theorem State.note_adc (p b : Nat) : (s.note p b).adc = s.adc := by
  unfold State.note; dsimp only; (repeat' split) <;> simp
@[simp] theorem State.note_resamp (p b : Nat) : (s.note p b).resamp = s.resamp := by
  unfold State.note; dsimp only; (repeat' split) <;> simp
@[simp] theorem State.note_cht (p b : Nat) : (s.note p b).cht = s.cht := by
  unfold State.note; dsimp only; (repeat' split) <;> simp
@[simp] theorem State.note_qdl (p b : Nat) : (s.note p b).qdl = s.qdl := by
  unfold State.note; dsimp only; (repeat' split) <;> simp
@[simp] theorem State.note_ctl (p b : Nat) : (s.note p b).ctl = s.ctl := by
  unfold State.note; dsimp only; (repeat' split) <;> simp
@[simp] theorem State.note_spec (p b : Nat) : (s.note p b).spec = s.spec := by
  unfold State.note; dsimp only; (repeat' split) <;> simp
@[simp] theorem State.note_dma (p b : Nat) : (s.note p b).dma = s.dma := by
  unfold State.note; dsimp only; (repeat' split) <;> simp
@[simp] theorem State.note_mode (p b : Nat) : (s.note p b).mode = s.mode := by
  unfold State.note; dsimp only; (repeat' split) <;> simp
@[simp] theorem State.note_pwm (p b : Nat) : (s.note p b).pwm = s.pwm := by
  unfold State.note; dsimp only; (repeat' split) <;> simp
@[simp] theorem State.note_gd (p b : Nat) : (s.note p b).gd = s.gd := by
  unfold State.note; dsimp only; (repeat' split) <;> simp
@[simp] theorem State.note_prot (p b : Nat) : (s.note p b).prot = s.prot := by
  unfold State.note; dsimp only; (repeat' split) <;> simp
@[simp] theorem State.note_safe (p b : Nat) : (s.note p b).safe = s.safe := by
  unfold State.note; dsimp only; (repeat' split) <;> simp
@[simp] theorem State.note_rly (p b : Nat) : (s.note p b).rly = s.rly := by
  unfold State.note; dsimp only; (repeat' split) <;> simp
@[simp] theorem State.note_met (p b : Nat) : (s.note p b).met = s.met := by
  unfold State.note; dsimp only; (repeat' split) <;> simp
@[simp] theorem State.note_hrm (p b : Nat) : (s.note p b).hrm = s.hrm := by
  unfold State.note; dsimp only; (repeat' split) <;> simp
@[simp] theorem State.note_hsw (p b : Nat) : (s.note p b).hsw = s.hsw := by
  unfold State.note; dsimp only; (repeat' split) <;> simp
@[simp] theorem State.note_ctx (p b : Nat) : (s.note p b).ctx = s.ctx := by
  unfold State.note; dsimp only; (repeat' split) <;> simp
@[simp] theorem State.note_ldg (p b : Nat) : (s.note p b).ldg = s.ldg := by
  unfold State.note; dsimp only; (repeat' split) <;> simp
@[simp] theorem State.note_bus (p b : Nat) : (s.note p b).bus = s.bus := by
  unfold State.note; dsimp only; (repeat' split) <;> simp
@[simp] theorem State.note_host (p b : Nat) : (s.note p b).host = s.host := by
  unfold State.note; dsimp only; (repeat' split) <;> simp
@[simp] theorem State.note_sb (p b : Nat) : (s.note p b).sb = s.sb := by
  unfold State.note; dsimp only; (repeat' split) <;> simp
@[simp] theorem State.note_pins (p b : Nat) : (s.note p b).pins = s.pins := by
  unfold State.note; dsimp only; (repeat' split) <;> simp
@[simp] theorem State.note_jtag (p b : Nat) : (s.note p b).jtag = s.jtag := by
  unfold State.note; dsimp only; (repeat' split) <;> simp

/-! ### State.noteNext leaves all but regs, tick0, irqc -/

@[simp] theorem State.noteNext_pending (p b : Nat) : (s.noteNext p b).pending = s.pending := by
  unfold State.noteNext; dsimp only; (repeat' split) <;> simp
@[simp] theorem State.noteNext_now (p b : Nat) : (s.noteNext p b).now = s.now := by
  unfold State.noteNext; dsimp only; (repeat' split) <;> simp
@[simp] theorem State.noteNext_sram (p b : Nat) : (s.noteNext p b).sram = s.sram := by
  unfold State.noteNext; dsimp only; (repeat' split) <;> simp
@[simp] theorem State.noteNext_nvm (p b : Nat) : (s.noteNext p b).nvm = s.nvm := by
  unfold State.noteNext; dsimp only; (repeat' split) <;> simp
@[simp] theorem State.noteNext_freeIdx (p b : Nat) : (s.noteNext p b).freeIdx = s.freeIdx := by
  unfold State.noteNext; dsimp only; (repeat' split) <;> simp
@[simp] theorem State.noteNext_beat (p b : Nat) : (s.noteNext p b).beat = s.beat := by
  unfold State.noteNext; dsimp only; (repeat' split) <;> simp
@[simp] theorem State.noteNext_evq (p b : Nat) : (s.noteNext p b).evq = s.evq := by
  unfold State.noteNext; dsimp only; (repeat' split) <;> simp
@[simp] theorem State.noteNext_lastStatus (p b : Nat) : (s.noteNext p b).lastStatus = s.lastStatus := by
  unfold State.noteNext; dsimp only; (repeat' split) <;> simp
@[simp] theorem State.noteNext_lastRead (p b : Nat) : (s.noteNext p b).lastRead = s.lastRead := by
  unfold State.noteNext; dsimp only; (repeat' split) <;> simp
@[simp] theorem State.noteNext_log (p b : Nat) : (s.noteNext p b).log = s.log := by
  unfold State.noteNext; dsimp only; (repeat' split) <;> simp
@[simp] theorem State.noteNext_nvmc (p b : Nat) : (s.noteNext p b).nvmc = s.nvmc := by
  unfold State.noteNext; dsimp only; (repeat' split) <;> simp
@[simp] theorem State.noteNext_pwr (p b : Nat) : (s.noteNext p b).pwr = s.pwr := by
  unfold State.noteNext; dsimp only; (repeat' split) <;> simp
@[simp] theorem State.noteNext_cmp (p b : Nat) : (s.noteNext p b).cmp = s.cmp := by
  unfold State.noteNext; dsimp only; (repeat' split) <;> simp
@[simp] theorem State.noteNext_cps (p b : Nat) : (s.noteNext p b).cps = s.cps := by
  unfold State.noteNext; dsimp only; (repeat' split) <;> simp
@[simp] theorem State.noteNext_adc (p b : Nat) : (s.noteNext p b).adc = s.adc := by
  unfold State.noteNext; dsimp only; (repeat' split) <;> simp
@[simp] theorem State.noteNext_resamp (p b : Nat) : (s.noteNext p b).resamp = s.resamp := by
  unfold State.noteNext; dsimp only; (repeat' split) <;> simp
@[simp] theorem State.noteNext_cht (p b : Nat) : (s.noteNext p b).cht = s.cht := by
  unfold State.noteNext; dsimp only; (repeat' split) <;> simp
@[simp] theorem State.noteNext_qdl (p b : Nat) : (s.noteNext p b).qdl = s.qdl := by
  unfold State.noteNext; dsimp only; (repeat' split) <;> simp
@[simp] theorem State.noteNext_ctl (p b : Nat) : (s.noteNext p b).ctl = s.ctl := by
  unfold State.noteNext; dsimp only; (repeat' split) <;> simp
@[simp] theorem State.noteNext_spec (p b : Nat) : (s.noteNext p b).spec = s.spec := by
  unfold State.noteNext; dsimp only; (repeat' split) <;> simp
@[simp] theorem State.noteNext_dma (p b : Nat) : (s.noteNext p b).dma = s.dma := by
  unfold State.noteNext; dsimp only; (repeat' split) <;> simp
@[simp] theorem State.noteNext_mode (p b : Nat) : (s.noteNext p b).mode = s.mode := by
  unfold State.noteNext; dsimp only; (repeat' split) <;> simp
@[simp] theorem State.noteNext_pwm (p b : Nat) : (s.noteNext p b).pwm = s.pwm := by
  unfold State.noteNext; dsimp only; (repeat' split) <;> simp
@[simp] theorem State.noteNext_gd (p b : Nat) : (s.noteNext p b).gd = s.gd := by
  unfold State.noteNext; dsimp only; (repeat' split) <;> simp
@[simp] theorem State.noteNext_prot (p b : Nat) : (s.noteNext p b).prot = s.prot := by
  unfold State.noteNext; dsimp only; (repeat' split) <;> simp
@[simp] theorem State.noteNext_safe (p b : Nat) : (s.noteNext p b).safe = s.safe := by
  unfold State.noteNext; dsimp only; (repeat' split) <;> simp
@[simp] theorem State.noteNext_rly (p b : Nat) : (s.noteNext p b).rly = s.rly := by
  unfold State.noteNext; dsimp only; (repeat' split) <;> simp
@[simp] theorem State.noteNext_met (p b : Nat) : (s.noteNext p b).met = s.met := by
  unfold State.noteNext; dsimp only; (repeat' split) <;> simp
@[simp] theorem State.noteNext_hrm (p b : Nat) : (s.noteNext p b).hrm = s.hrm := by
  unfold State.noteNext; dsimp only; (repeat' split) <;> simp
@[simp] theorem State.noteNext_hsw (p b : Nat) : (s.noteNext p b).hsw = s.hsw := by
  unfold State.noteNext; dsimp only; (repeat' split) <;> simp
@[simp] theorem State.noteNext_ctx (p b : Nat) : (s.noteNext p b).ctx = s.ctx := by
  unfold State.noteNext; dsimp only; (repeat' split) <;> simp
@[simp] theorem State.noteNext_ldg (p b : Nat) : (s.noteNext p b).ldg = s.ldg := by
  unfold State.noteNext; dsimp only; (repeat' split) <;> simp
@[simp] theorem State.noteNext_bus (p b : Nat) : (s.noteNext p b).bus = s.bus := by
  unfold State.noteNext; dsimp only; (repeat' split) <;> simp
@[simp] theorem State.noteNext_host (p b : Nat) : (s.noteNext p b).host = s.host := by
  unfold State.noteNext; dsimp only; (repeat' split) <;> simp
@[simp] theorem State.noteNext_sb (p b : Nat) : (s.noteNext p b).sb = s.sb := by
  unfold State.noteNext; dsimp only; (repeat' split) <;> simp
@[simp] theorem State.noteNext_pins (p b : Nat) : (s.noteNext p b).pins = s.pins := by
  unfold State.noteNext; dsimp only; (repeat' split) <;> simp
@[simp] theorem State.noteNext_jtag (p b : Nat) : (s.noteNext p b).jtag = s.jtag := by
  unfold State.noteNext; dsimp only; (repeat' split) <;> simp

/-! ### State.occur leaves all but regs, tick0, irqc, evq -/

@[simp] theorem State.occur_pending (p b : Nat) : (s.occur p b).pending = s.pending := by
  unfold State.occur; split <;> simp
@[simp] theorem State.occur_now (p b : Nat) : (s.occur p b).now = s.now := by
  unfold State.occur; split <;> simp
@[simp] theorem State.occur_sram (p b : Nat) : (s.occur p b).sram = s.sram := by
  unfold State.occur; split <;> simp
@[simp] theorem State.occur_nvm (p b : Nat) : (s.occur p b).nvm = s.nvm := by
  unfold State.occur; split <;> simp
@[simp] theorem State.occur_freeIdx (p b : Nat) : (s.occur p b).freeIdx = s.freeIdx := by
  unfold State.occur; split <;> simp
@[simp] theorem State.occur_beat (p b : Nat) : (s.occur p b).beat = s.beat := by
  unfold State.occur; split <;> simp
@[simp] theorem State.occur_lastStatus (p b : Nat) : (s.occur p b).lastStatus = s.lastStatus := by
  unfold State.occur; split <;> simp
@[simp] theorem State.occur_lastRead (p b : Nat) : (s.occur p b).lastRead = s.lastRead := by
  unfold State.occur; split <;> simp
@[simp] theorem State.occur_log (p b : Nat) : (s.occur p b).log = s.log := by
  unfold State.occur; split <;> simp
@[simp] theorem State.occur_nvmc (p b : Nat) : (s.occur p b).nvmc = s.nvmc := by
  unfold State.occur; split <;> simp
@[simp] theorem State.occur_pwr (p b : Nat) : (s.occur p b).pwr = s.pwr := by
  unfold State.occur; split <;> simp
@[simp] theorem State.occur_cmp (p b : Nat) : (s.occur p b).cmp = s.cmp := by
  unfold State.occur; split <;> simp
@[simp] theorem State.occur_cps (p b : Nat) : (s.occur p b).cps = s.cps := by
  unfold State.occur; split <;> simp
@[simp] theorem State.occur_adc (p b : Nat) : (s.occur p b).adc = s.adc := by
  unfold State.occur; split <;> simp
@[simp] theorem State.occur_resamp (p b : Nat) : (s.occur p b).resamp = s.resamp := by
  unfold State.occur; split <;> simp
@[simp] theorem State.occur_cht (p b : Nat) : (s.occur p b).cht = s.cht := by
  unfold State.occur; split <;> simp
@[simp] theorem State.occur_qdl (p b : Nat) : (s.occur p b).qdl = s.qdl := by
  unfold State.occur; split <;> simp
@[simp] theorem State.occur_ctl (p b : Nat) : (s.occur p b).ctl = s.ctl := by
  unfold State.occur; split <;> simp
@[simp] theorem State.occur_spec (p b : Nat) : (s.occur p b).spec = s.spec := by
  unfold State.occur; split <;> simp
@[simp] theorem State.occur_dma (p b : Nat) : (s.occur p b).dma = s.dma := by
  unfold State.occur; split <;> simp
@[simp] theorem State.occur_mode (p b : Nat) : (s.occur p b).mode = s.mode := by
  unfold State.occur; split <;> simp
@[simp] theorem State.occur_pwm (p b : Nat) : (s.occur p b).pwm = s.pwm := by
  unfold State.occur; split <;> simp
@[simp] theorem State.occur_gd (p b : Nat) : (s.occur p b).gd = s.gd := by
  unfold State.occur; split <;> simp
@[simp] theorem State.occur_prot (p b : Nat) : (s.occur p b).prot = s.prot := by
  unfold State.occur; split <;> simp
@[simp] theorem State.occur_safe (p b : Nat) : (s.occur p b).safe = s.safe := by
  unfold State.occur; split <;> simp
@[simp] theorem State.occur_rly (p b : Nat) : (s.occur p b).rly = s.rly := by
  unfold State.occur; split <;> simp
@[simp] theorem State.occur_met (p b : Nat) : (s.occur p b).met = s.met := by
  unfold State.occur; split <;> simp
@[simp] theorem State.occur_hrm (p b : Nat) : (s.occur p b).hrm = s.hrm := by
  unfold State.occur; split <;> simp
@[simp] theorem State.occur_hsw (p b : Nat) : (s.occur p b).hsw = s.hsw := by
  unfold State.occur; split <;> simp
@[simp] theorem State.occur_ctx (p b : Nat) : (s.occur p b).ctx = s.ctx := by
  unfold State.occur; split <;> simp
@[simp] theorem State.occur_ldg (p b : Nat) : (s.occur p b).ldg = s.ldg := by
  unfold State.occur; split <;> simp
@[simp] theorem State.occur_bus (p b : Nat) : (s.occur p b).bus = s.bus := by
  unfold State.occur; split <;> simp
@[simp] theorem State.occur_host (p b : Nat) : (s.occur p b).host = s.host := by
  unfold State.occur; split <;> simp
@[simp] theorem State.occur_sb (p b : Nat) : (s.occur p b).sb = s.sb := by
  unfold State.occur; split <;> simp
@[simp] theorem State.occur_pins (p b : Nat) : (s.occur p b).pins = s.pins := by
  unfold State.occur; split <;> simp
@[simp] theorem State.occur_jtag (p b : Nat) : (s.occur p b).jtag = s.jtag := by
  unfold State.occur; split <;> simp

/-! ### State.occurNext leaves all but regs, tick0, irqc, evq -/

@[simp] theorem State.occurNext_pending (p b : Nat) : (s.occurNext p b).pending = s.pending := by
  unfold State.occurNext; split <;> simp
@[simp] theorem State.occurNext_now (p b : Nat) : (s.occurNext p b).now = s.now := by
  unfold State.occurNext; split <;> simp
@[simp] theorem State.occurNext_sram (p b : Nat) : (s.occurNext p b).sram = s.sram := by
  unfold State.occurNext; split <;> simp
@[simp] theorem State.occurNext_nvm (p b : Nat) : (s.occurNext p b).nvm = s.nvm := by
  unfold State.occurNext; split <;> simp
@[simp] theorem State.occurNext_freeIdx (p b : Nat) : (s.occurNext p b).freeIdx = s.freeIdx := by
  unfold State.occurNext; split <;> simp
@[simp] theorem State.occurNext_beat (p b : Nat) : (s.occurNext p b).beat = s.beat := by
  unfold State.occurNext; split <;> simp
@[simp] theorem State.occurNext_lastStatus (p b : Nat) : (s.occurNext p b).lastStatus = s.lastStatus := by
  unfold State.occurNext; split <;> simp
@[simp] theorem State.occurNext_lastRead (p b : Nat) : (s.occurNext p b).lastRead = s.lastRead := by
  unfold State.occurNext; split <;> simp
@[simp] theorem State.occurNext_log (p b : Nat) : (s.occurNext p b).log = s.log := by
  unfold State.occurNext; split <;> simp
@[simp] theorem State.occurNext_nvmc (p b : Nat) : (s.occurNext p b).nvmc = s.nvmc := by
  unfold State.occurNext; split <;> simp
@[simp] theorem State.occurNext_pwr (p b : Nat) : (s.occurNext p b).pwr = s.pwr := by
  unfold State.occurNext; split <;> simp
@[simp] theorem State.occurNext_cmp (p b : Nat) : (s.occurNext p b).cmp = s.cmp := by
  unfold State.occurNext; split <;> simp
@[simp] theorem State.occurNext_cps (p b : Nat) : (s.occurNext p b).cps = s.cps := by
  unfold State.occurNext; split <;> simp
@[simp] theorem State.occurNext_adc (p b : Nat) : (s.occurNext p b).adc = s.adc := by
  unfold State.occurNext; split <;> simp
@[simp] theorem State.occurNext_resamp (p b : Nat) : (s.occurNext p b).resamp = s.resamp := by
  unfold State.occurNext; split <;> simp
@[simp] theorem State.occurNext_cht (p b : Nat) : (s.occurNext p b).cht = s.cht := by
  unfold State.occurNext; split <;> simp
@[simp] theorem State.occurNext_qdl (p b : Nat) : (s.occurNext p b).qdl = s.qdl := by
  unfold State.occurNext; split <;> simp
@[simp] theorem State.occurNext_ctl (p b : Nat) : (s.occurNext p b).ctl = s.ctl := by
  unfold State.occurNext; split <;> simp
@[simp] theorem State.occurNext_spec (p b : Nat) : (s.occurNext p b).spec = s.spec := by
  unfold State.occurNext; split <;> simp
@[simp] theorem State.occurNext_dma (p b : Nat) : (s.occurNext p b).dma = s.dma := by
  unfold State.occurNext; split <;> simp
@[simp] theorem State.occurNext_mode (p b : Nat) : (s.occurNext p b).mode = s.mode := by
  unfold State.occurNext; split <;> simp
@[simp] theorem State.occurNext_pwm (p b : Nat) : (s.occurNext p b).pwm = s.pwm := by
  unfold State.occurNext; split <;> simp
@[simp] theorem State.occurNext_gd (p b : Nat) : (s.occurNext p b).gd = s.gd := by
  unfold State.occurNext; split <;> simp
@[simp] theorem State.occurNext_prot (p b : Nat) : (s.occurNext p b).prot = s.prot := by
  unfold State.occurNext; split <;> simp
@[simp] theorem State.occurNext_safe (p b : Nat) : (s.occurNext p b).safe = s.safe := by
  unfold State.occurNext; split <;> simp
@[simp] theorem State.occurNext_rly (p b : Nat) : (s.occurNext p b).rly = s.rly := by
  unfold State.occurNext; split <;> simp
@[simp] theorem State.occurNext_met (p b : Nat) : (s.occurNext p b).met = s.met := by
  unfold State.occurNext; split <;> simp
@[simp] theorem State.occurNext_hrm (p b : Nat) : (s.occurNext p b).hrm = s.hrm := by
  unfold State.occurNext; split <;> simp
@[simp] theorem State.occurNext_hsw (p b : Nat) : (s.occurNext p b).hsw = s.hsw := by
  unfold State.occurNext; split <;> simp
@[simp] theorem State.occurNext_ctx (p b : Nat) : (s.occurNext p b).ctx = s.ctx := by
  unfold State.occurNext; split <;> simp
@[simp] theorem State.occurNext_ldg (p b : Nat) : (s.occurNext p b).ldg = s.ldg := by
  unfold State.occurNext; split <;> simp
@[simp] theorem State.occurNext_bus (p b : Nat) : (s.occurNext p b).bus = s.bus := by
  unfold State.occurNext; split <;> simp
@[simp] theorem State.occurNext_host (p b : Nat) : (s.occurNext p b).host = s.host := by
  unfold State.occurNext; split <;> simp
@[simp] theorem State.occurNext_sb (p b : Nat) : (s.occurNext p b).sb = s.sb := by
  unfold State.occurNext; split <;> simp
@[simp] theorem State.occurNext_pins (p b : Nat) : (s.occurNext p b).pins = s.pins := by
  unfold State.occurNext; split <;> simp
@[simp] theorem State.occurNext_jtag (p b : Nat) : (s.occurNext p b).jtag = s.jtag := by
  unfold State.occurNext; split <;> simp

/-! ### State.logStage leaves all but regs, tick0, irqc, log -/

@[simp] theorem State.logStage_pending (r : LogRec) : (s.logStage r).pending = s.pending := by
  simp [State.logStage, apply_ite State.pending]
@[simp] theorem State.logStage_now (r : LogRec) : (s.logStage r).now = s.now := by
  simp [State.logStage, apply_ite State.now]
@[simp] theorem State.logStage_sram (r : LogRec) : (s.logStage r).sram = s.sram := by
  simp [State.logStage, apply_ite State.sram]
@[simp] theorem State.logStage_nvm (r : LogRec) : (s.logStage r).nvm = s.nvm := by
  simp [State.logStage, apply_ite State.nvm]
@[simp] theorem State.logStage_freeIdx (r : LogRec) : (s.logStage r).freeIdx = s.freeIdx := by
  simp [State.logStage, apply_ite State.freeIdx]
@[simp] theorem State.logStage_beat (r : LogRec) : (s.logStage r).beat = s.beat := by
  simp [State.logStage, apply_ite State.beat]
@[simp] theorem State.logStage_evq (r : LogRec) : (s.logStage r).evq = s.evq := by
  simp [State.logStage, apply_ite State.evq]
@[simp] theorem State.logStage_lastStatus (r : LogRec) : (s.logStage r).lastStatus = s.lastStatus := by
  simp [State.logStage, apply_ite State.lastStatus]
@[simp] theorem State.logStage_lastRead (r : LogRec) : (s.logStage r).lastRead = s.lastRead := by
  simp [State.logStage, apply_ite State.lastRead]
@[simp] theorem State.logStage_nvmc (r : LogRec) : (s.logStage r).nvmc = s.nvmc := by
  simp [State.logStage, apply_ite State.nvmc]
@[simp] theorem State.logStage_pwr (r : LogRec) : (s.logStage r).pwr = s.pwr := by
  simp [State.logStage, apply_ite State.pwr]
@[simp] theorem State.logStage_cmp (r : LogRec) : (s.logStage r).cmp = s.cmp := by
  simp [State.logStage, apply_ite State.cmp]
@[simp] theorem State.logStage_cps (r : LogRec) : (s.logStage r).cps = s.cps := by
  simp [State.logStage, apply_ite State.cps]
@[simp] theorem State.logStage_adc (r : LogRec) : (s.logStage r).adc = s.adc := by
  simp [State.logStage, apply_ite State.adc]
@[simp] theorem State.logStage_resamp (r : LogRec) : (s.logStage r).resamp = s.resamp := by
  simp [State.logStage, apply_ite State.resamp]
@[simp] theorem State.logStage_cht (r : LogRec) : (s.logStage r).cht = s.cht := by
  simp [State.logStage, apply_ite State.cht]
@[simp] theorem State.logStage_qdl (r : LogRec) : (s.logStage r).qdl = s.qdl := by
  simp [State.logStage, apply_ite State.qdl]
@[simp] theorem State.logStage_ctl (r : LogRec) : (s.logStage r).ctl = s.ctl := by
  simp [State.logStage, apply_ite State.ctl]
@[simp] theorem State.logStage_spec (r : LogRec) : (s.logStage r).spec = s.spec := by
  simp [State.logStage, apply_ite State.spec]
@[simp] theorem State.logStage_dma (r : LogRec) : (s.logStage r).dma = s.dma := by
  simp [State.logStage, apply_ite State.dma]
@[simp] theorem State.logStage_mode (r : LogRec) : (s.logStage r).mode = s.mode := by
  simp [State.logStage, apply_ite State.mode]
@[simp] theorem State.logStage_pwm (r : LogRec) : (s.logStage r).pwm = s.pwm := by
  simp [State.logStage, apply_ite State.pwm]
@[simp] theorem State.logStage_gd (r : LogRec) : (s.logStage r).gd = s.gd := by
  simp [State.logStage, apply_ite State.gd]
@[simp] theorem State.logStage_prot (r : LogRec) : (s.logStage r).prot = s.prot := by
  simp [State.logStage, apply_ite State.prot]
@[simp] theorem State.logStage_safe (r : LogRec) : (s.logStage r).safe = s.safe := by
  simp [State.logStage, apply_ite State.safe]
@[simp] theorem State.logStage_rly (r : LogRec) : (s.logStage r).rly = s.rly := by
  simp [State.logStage, apply_ite State.rly]
@[simp] theorem State.logStage_met (r : LogRec) : (s.logStage r).met = s.met := by
  simp [State.logStage, apply_ite State.met]
@[simp] theorem State.logStage_hrm (r : LogRec) : (s.logStage r).hrm = s.hrm := by
  simp [State.logStage, apply_ite State.hrm]
@[simp] theorem State.logStage_hsw (r : LogRec) : (s.logStage r).hsw = s.hsw := by
  simp [State.logStage, apply_ite State.hsw]
@[simp] theorem State.logStage_ctx (r : LogRec) : (s.logStage r).ctx = s.ctx := by
  simp [State.logStage, apply_ite State.ctx]
@[simp] theorem State.logStage_ldg (r : LogRec) : (s.logStage r).ldg = s.ldg := by
  simp [State.logStage, apply_ite State.ldg]
@[simp] theorem State.logStage_bus (r : LogRec) : (s.logStage r).bus = s.bus := by
  simp [State.logStage, apply_ite State.bus]
@[simp] theorem State.logStage_host (r : LogRec) : (s.logStage r).host = s.host := by
  simp [State.logStage, apply_ite State.host]
@[simp] theorem State.logStage_sb (r : LogRec) : (s.logStage r).sb = s.sb := by
  simp [State.logStage, apply_ite State.sb]
@[simp] theorem State.logStage_pins (r : LogRec) : (s.logStage r).pins = s.pins := by
  simp [State.logStage, apply_ite State.pins]
@[simp] theorem State.logStage_jtag (r : LogRec) : (s.logStage r).jtag = s.jtag := by
  simp [State.logStage, apply_ite State.jtag]

/-! ### State.logLast leaves all but regs, log -/

@[simp] theorem State.logLast_pending (c f : Nat) (d0 d1 : Word) : (s.logLast c f d0 d1).pending = s.pending := by
  simp [State.logLast, apply_ite State.pending]
@[simp] theorem State.logLast_now (c f : Nat) (d0 d1 : Word) : (s.logLast c f d0 d1).now = s.now := by
  simp [State.logLast, apply_ite State.now]
@[simp] theorem State.logLast_sram (c f : Nat) (d0 d1 : Word) : (s.logLast c f d0 d1).sram = s.sram := by
  simp [State.logLast, apply_ite State.sram]
@[simp] theorem State.logLast_nvm (c f : Nat) (d0 d1 : Word) : (s.logLast c f d0 d1).nvm = s.nvm := by
  simp [State.logLast, apply_ite State.nvm]
@[simp] theorem State.logLast_freeIdx (c f : Nat) (d0 d1 : Word) : (s.logLast c f d0 d1).freeIdx = s.freeIdx := by
  simp [State.logLast, apply_ite State.freeIdx]
@[simp] theorem State.logLast_tick0 (c f : Nat) (d0 d1 : Word) : (s.logLast c f d0 d1).tick0 = s.tick0 := by
  simp [State.logLast, apply_ite State.tick0]
@[simp] theorem State.logLast_beat (c f : Nat) (d0 d1 : Word) : (s.logLast c f d0 d1).beat = s.beat := by
  simp [State.logLast, apply_ite State.beat]
@[simp] theorem State.logLast_evq (c f : Nat) (d0 d1 : Word) : (s.logLast c f d0 d1).evq = s.evq := by
  simp [State.logLast, apply_ite State.evq]
@[simp] theorem State.logLast_lastStatus (c f : Nat) (d0 d1 : Word) : (s.logLast c f d0 d1).lastStatus = s.lastStatus := by
  simp [State.logLast, apply_ite State.lastStatus]
@[simp] theorem State.logLast_lastRead (c f : Nat) (d0 d1 : Word) : (s.logLast c f d0 d1).lastRead = s.lastRead := by
  simp [State.logLast, apply_ite State.lastRead]
@[simp] theorem State.logLast_irqc (c f : Nat) (d0 d1 : Word) : (s.logLast c f d0 d1).irqc = s.irqc := by
  simp [State.logLast, apply_ite State.irqc]
@[simp] theorem State.logLast_nvmc (c f : Nat) (d0 d1 : Word) : (s.logLast c f d0 d1).nvmc = s.nvmc := by
  simp [State.logLast, apply_ite State.nvmc]
@[simp] theorem State.logLast_pwr (c f : Nat) (d0 d1 : Word) : (s.logLast c f d0 d1).pwr = s.pwr := by
  simp [State.logLast, apply_ite State.pwr]
@[simp] theorem State.logLast_cmp (c f : Nat) (d0 d1 : Word) : (s.logLast c f d0 d1).cmp = s.cmp := by
  simp [State.logLast, apply_ite State.cmp]
@[simp] theorem State.logLast_cps (c f : Nat) (d0 d1 : Word) : (s.logLast c f d0 d1).cps = s.cps := by
  simp [State.logLast, apply_ite State.cps]
@[simp] theorem State.logLast_adc (c f : Nat) (d0 d1 : Word) : (s.logLast c f d0 d1).adc = s.adc := by
  simp [State.logLast, apply_ite State.adc]
@[simp] theorem State.logLast_resamp (c f : Nat) (d0 d1 : Word) : (s.logLast c f d0 d1).resamp = s.resamp := by
  simp [State.logLast, apply_ite State.resamp]
@[simp] theorem State.logLast_cht (c f : Nat) (d0 d1 : Word) : (s.logLast c f d0 d1).cht = s.cht := by
  simp [State.logLast, apply_ite State.cht]
@[simp] theorem State.logLast_qdl (c f : Nat) (d0 d1 : Word) : (s.logLast c f d0 d1).qdl = s.qdl := by
  simp [State.logLast, apply_ite State.qdl]
@[simp] theorem State.logLast_ctl (c f : Nat) (d0 d1 : Word) : (s.logLast c f d0 d1).ctl = s.ctl := by
  simp [State.logLast, apply_ite State.ctl]
@[simp] theorem State.logLast_spec (c f : Nat) (d0 d1 : Word) : (s.logLast c f d0 d1).spec = s.spec := by
  simp [State.logLast, apply_ite State.spec]
@[simp] theorem State.logLast_dma (c f : Nat) (d0 d1 : Word) : (s.logLast c f d0 d1).dma = s.dma := by
  simp [State.logLast, apply_ite State.dma]
@[simp] theorem State.logLast_mode (c f : Nat) (d0 d1 : Word) : (s.logLast c f d0 d1).mode = s.mode := by
  simp [State.logLast, apply_ite State.mode]
@[simp] theorem State.logLast_pwm (c f : Nat) (d0 d1 : Word) : (s.logLast c f d0 d1).pwm = s.pwm := by
  simp [State.logLast, apply_ite State.pwm]
@[simp] theorem State.logLast_gd (c f : Nat) (d0 d1 : Word) : (s.logLast c f d0 d1).gd = s.gd := by
  simp [State.logLast, apply_ite State.gd]
@[simp] theorem State.logLast_prot (c f : Nat) (d0 d1 : Word) : (s.logLast c f d0 d1).prot = s.prot := by
  simp [State.logLast, apply_ite State.prot]
@[simp] theorem State.logLast_safe (c f : Nat) (d0 d1 : Word) : (s.logLast c f d0 d1).safe = s.safe := by
  simp [State.logLast, apply_ite State.safe]
@[simp] theorem State.logLast_rly (c f : Nat) (d0 d1 : Word) : (s.logLast c f d0 d1).rly = s.rly := by
  simp [State.logLast, apply_ite State.rly]
@[simp] theorem State.logLast_met (c f : Nat) (d0 d1 : Word) : (s.logLast c f d0 d1).met = s.met := by
  simp [State.logLast, apply_ite State.met]
@[simp] theorem State.logLast_hrm (c f : Nat) (d0 d1 : Word) : (s.logLast c f d0 d1).hrm = s.hrm := by
  simp [State.logLast, apply_ite State.hrm]
@[simp] theorem State.logLast_hsw (c f : Nat) (d0 d1 : Word) : (s.logLast c f d0 d1).hsw = s.hsw := by
  simp [State.logLast, apply_ite State.hsw]
@[simp] theorem State.logLast_ctx (c f : Nat) (d0 d1 : Word) : (s.logLast c f d0 d1).ctx = s.ctx := by
  simp [State.logLast, apply_ite State.ctx]
@[simp] theorem State.logLast_ldg (c f : Nat) (d0 d1 : Word) : (s.logLast c f d0 d1).ldg = s.ldg := by
  simp [State.logLast, apply_ite State.ldg]
@[simp] theorem State.logLast_bus (c f : Nat) (d0 d1 : Word) : (s.logLast c f d0 d1).bus = s.bus := by
  simp [State.logLast, apply_ite State.bus]
@[simp] theorem State.logLast_host (c f : Nat) (d0 d1 : Word) : (s.logLast c f d0 d1).host = s.host := by
  simp [State.logLast, apply_ite State.host]
@[simp] theorem State.logLast_sb (c f : Nat) (d0 d1 : Word) : (s.logLast c f d0 d1).sb = s.sb := by
  simp [State.logLast, apply_ite State.sb]
@[simp] theorem State.logLast_pins (c f : Nat) (d0 d1 : Word) : (s.logLast c f d0 d1).pins = s.pins := by
  simp [State.logLast, apply_ite State.pins]
@[simp] theorem State.logLast_jtag (c f : Nat) (d0 d1 : Word) : (s.logLast c f d0 d1).jtag = s.jtag := by
  simp [State.logLast, apply_ite State.jtag]

/-! ### State.logDropped leaves all but regs, tick0, irqc, log -/

@[simp] theorem State.logDropped_pending (r : LogRec) : (s.logDropped r).pending = s.pending := by
  unfold State.logDropped; (repeat' split) <;> simp
@[simp] theorem State.logDropped_now (r : LogRec) : (s.logDropped r).now = s.now := by
  unfold State.logDropped; (repeat' split) <;> simp
@[simp] theorem State.logDropped_sram (r : LogRec) : (s.logDropped r).sram = s.sram := by
  unfold State.logDropped; (repeat' split) <;> simp
@[simp] theorem State.logDropped_nvm (r : LogRec) : (s.logDropped r).nvm = s.nvm := by
  unfold State.logDropped; (repeat' split) <;> simp
@[simp] theorem State.logDropped_freeIdx (r : LogRec) : (s.logDropped r).freeIdx = s.freeIdx := by
  unfold State.logDropped; (repeat' split) <;> simp
@[simp] theorem State.logDropped_beat (r : LogRec) : (s.logDropped r).beat = s.beat := by
  unfold State.logDropped; (repeat' split) <;> simp
@[simp] theorem State.logDropped_evq (r : LogRec) : (s.logDropped r).evq = s.evq := by
  unfold State.logDropped; (repeat' split) <;> simp
@[simp] theorem State.logDropped_lastStatus (r : LogRec) : (s.logDropped r).lastStatus = s.lastStatus := by
  unfold State.logDropped; (repeat' split) <;> simp
@[simp] theorem State.logDropped_lastRead (r : LogRec) : (s.logDropped r).lastRead = s.lastRead := by
  unfold State.logDropped; (repeat' split) <;> simp
@[simp] theorem State.logDropped_nvmc (r : LogRec) : (s.logDropped r).nvmc = s.nvmc := by
  unfold State.logDropped; (repeat' split) <;> simp
@[simp] theorem State.logDropped_pwr (r : LogRec) : (s.logDropped r).pwr = s.pwr := by
  unfold State.logDropped; (repeat' split) <;> simp
@[simp] theorem State.logDropped_cmp (r : LogRec) : (s.logDropped r).cmp = s.cmp := by
  unfold State.logDropped; (repeat' split) <;> simp
@[simp] theorem State.logDropped_cps (r : LogRec) : (s.logDropped r).cps = s.cps := by
  unfold State.logDropped; (repeat' split) <;> simp
@[simp] theorem State.logDropped_adc (r : LogRec) : (s.logDropped r).adc = s.adc := by
  unfold State.logDropped; (repeat' split) <;> simp
@[simp] theorem State.logDropped_resamp (r : LogRec) : (s.logDropped r).resamp = s.resamp := by
  unfold State.logDropped; (repeat' split) <;> simp
@[simp] theorem State.logDropped_cht (r : LogRec) : (s.logDropped r).cht = s.cht := by
  unfold State.logDropped; (repeat' split) <;> simp
@[simp] theorem State.logDropped_qdl (r : LogRec) : (s.logDropped r).qdl = s.qdl := by
  unfold State.logDropped; (repeat' split) <;> simp
@[simp] theorem State.logDropped_ctl (r : LogRec) : (s.logDropped r).ctl = s.ctl := by
  unfold State.logDropped; (repeat' split) <;> simp
@[simp] theorem State.logDropped_spec (r : LogRec) : (s.logDropped r).spec = s.spec := by
  unfold State.logDropped; (repeat' split) <;> simp
@[simp] theorem State.logDropped_dma (r : LogRec) : (s.logDropped r).dma = s.dma := by
  unfold State.logDropped; (repeat' split) <;> simp
@[simp] theorem State.logDropped_mode (r : LogRec) : (s.logDropped r).mode = s.mode := by
  unfold State.logDropped; (repeat' split) <;> simp
@[simp] theorem State.logDropped_pwm (r : LogRec) : (s.logDropped r).pwm = s.pwm := by
  unfold State.logDropped; (repeat' split) <;> simp
@[simp] theorem State.logDropped_gd (r : LogRec) : (s.logDropped r).gd = s.gd := by
  unfold State.logDropped; (repeat' split) <;> simp
@[simp] theorem State.logDropped_prot (r : LogRec) : (s.logDropped r).prot = s.prot := by
  unfold State.logDropped; (repeat' split) <;> simp
@[simp] theorem State.logDropped_safe (r : LogRec) : (s.logDropped r).safe = s.safe := by
  unfold State.logDropped; (repeat' split) <;> simp
@[simp] theorem State.logDropped_rly (r : LogRec) : (s.logDropped r).rly = s.rly := by
  unfold State.logDropped; (repeat' split) <;> simp
@[simp] theorem State.logDropped_met (r : LogRec) : (s.logDropped r).met = s.met := by
  unfold State.logDropped; (repeat' split) <;> simp
@[simp] theorem State.logDropped_hrm (r : LogRec) : (s.logDropped r).hrm = s.hrm := by
  unfold State.logDropped; (repeat' split) <;> simp
@[simp] theorem State.logDropped_hsw (r : LogRec) : (s.logDropped r).hsw = s.hsw := by
  unfold State.logDropped; (repeat' split) <;> simp
@[simp] theorem State.logDropped_ctx (r : LogRec) : (s.logDropped r).ctx = s.ctx := by
  unfold State.logDropped; (repeat' split) <;> simp
@[simp] theorem State.logDropped_ldg (r : LogRec) : (s.logDropped r).ldg = s.ldg := by
  unfold State.logDropped; (repeat' split) <;> simp
@[simp] theorem State.logDropped_bus (r : LogRec) : (s.logDropped r).bus = s.bus := by
  unfold State.logDropped; (repeat' split) <;> simp
@[simp] theorem State.logDropped_host (r : LogRec) : (s.logDropped r).host = s.host := by
  unfold State.logDropped; (repeat' split) <;> simp
@[simp] theorem State.logDropped_sb (r : LogRec) : (s.logDropped r).sb = s.sb := by
  unfold State.logDropped; (repeat' split) <;> simp
@[simp] theorem State.logDropped_pins (r : LogRec) : (s.logDropped r).pins = s.pins := by
  unfold State.logDropped; (repeat' split) <;> simp
@[simp] theorem State.logDropped_jtag (r : LogRec) : (s.logDropped r).jtag = s.jtag := by
  unfold State.logDropped; (repeat' split) <;> simp

/-! ### State.logNow leaves all but regs, tick0, irqc, log -/

@[simp] theorem State.logNow_pending (c : Nat) (d0 d1 : Word) : (s.logNow c d0 d1).pending = s.pending := by
  simp [State.logNow]
@[simp] theorem State.logNow_now (c : Nat) (d0 d1 : Word) : (s.logNow c d0 d1).now = s.now := by
  simp [State.logNow]
@[simp] theorem State.logNow_sram (c : Nat) (d0 d1 : Word) : (s.logNow c d0 d1).sram = s.sram := by
  simp [State.logNow]
@[simp] theorem State.logNow_nvm (c : Nat) (d0 d1 : Word) : (s.logNow c d0 d1).nvm = s.nvm := by
  simp [State.logNow]
@[simp] theorem State.logNow_freeIdx (c : Nat) (d0 d1 : Word) : (s.logNow c d0 d1).freeIdx = s.freeIdx := by
  simp [State.logNow]
@[simp] theorem State.logNow_beat (c : Nat) (d0 d1 : Word) : (s.logNow c d0 d1).beat = s.beat := by
  simp [State.logNow]
@[simp] theorem State.logNow_evq (c : Nat) (d0 d1 : Word) : (s.logNow c d0 d1).evq = s.evq := by
  simp [State.logNow]
@[simp] theorem State.logNow_lastStatus (c : Nat) (d0 d1 : Word) : (s.logNow c d0 d1).lastStatus = s.lastStatus := by
  simp [State.logNow]
@[simp] theorem State.logNow_lastRead (c : Nat) (d0 d1 : Word) : (s.logNow c d0 d1).lastRead = s.lastRead := by
  simp [State.logNow]
@[simp] theorem State.logNow_nvmc (c : Nat) (d0 d1 : Word) : (s.logNow c d0 d1).nvmc = s.nvmc := by
  simp [State.logNow]
@[simp] theorem State.logNow_pwr (c : Nat) (d0 d1 : Word) : (s.logNow c d0 d1).pwr = s.pwr := by
  simp [State.logNow]
@[simp] theorem State.logNow_cmp (c : Nat) (d0 d1 : Word) : (s.logNow c d0 d1).cmp = s.cmp := by
  simp [State.logNow]
@[simp] theorem State.logNow_cps (c : Nat) (d0 d1 : Word) : (s.logNow c d0 d1).cps = s.cps := by
  simp [State.logNow]
@[simp] theorem State.logNow_adc (c : Nat) (d0 d1 : Word) : (s.logNow c d0 d1).adc = s.adc := by
  simp [State.logNow]
@[simp] theorem State.logNow_resamp (c : Nat) (d0 d1 : Word) : (s.logNow c d0 d1).resamp = s.resamp := by
  simp [State.logNow]
@[simp] theorem State.logNow_cht (c : Nat) (d0 d1 : Word) : (s.logNow c d0 d1).cht = s.cht := by
  simp [State.logNow]
@[simp] theorem State.logNow_qdl (c : Nat) (d0 d1 : Word) : (s.logNow c d0 d1).qdl = s.qdl := by
  simp [State.logNow]
@[simp] theorem State.logNow_ctl (c : Nat) (d0 d1 : Word) : (s.logNow c d0 d1).ctl = s.ctl := by
  simp [State.logNow]
@[simp] theorem State.logNow_spec (c : Nat) (d0 d1 : Word) : (s.logNow c d0 d1).spec = s.spec := by
  simp [State.logNow]
@[simp] theorem State.logNow_dma (c : Nat) (d0 d1 : Word) : (s.logNow c d0 d1).dma = s.dma := by
  simp [State.logNow]
@[simp] theorem State.logNow_mode (c : Nat) (d0 d1 : Word) : (s.logNow c d0 d1).mode = s.mode := by
  simp [State.logNow]
@[simp] theorem State.logNow_pwm (c : Nat) (d0 d1 : Word) : (s.logNow c d0 d1).pwm = s.pwm := by
  simp [State.logNow]
@[simp] theorem State.logNow_gd (c : Nat) (d0 d1 : Word) : (s.logNow c d0 d1).gd = s.gd := by
  simp [State.logNow]
@[simp] theorem State.logNow_prot (c : Nat) (d0 d1 : Word) : (s.logNow c d0 d1).prot = s.prot := by
  simp [State.logNow]
@[simp] theorem State.logNow_safe (c : Nat) (d0 d1 : Word) : (s.logNow c d0 d1).safe = s.safe := by
  simp [State.logNow]
@[simp] theorem State.logNow_rly (c : Nat) (d0 d1 : Word) : (s.logNow c d0 d1).rly = s.rly := by
  simp [State.logNow]
@[simp] theorem State.logNow_met (c : Nat) (d0 d1 : Word) : (s.logNow c d0 d1).met = s.met := by
  simp [State.logNow]
@[simp] theorem State.logNow_hrm (c : Nat) (d0 d1 : Word) : (s.logNow c d0 d1).hrm = s.hrm := by
  simp [State.logNow]
@[simp] theorem State.logNow_hsw (c : Nat) (d0 d1 : Word) : (s.logNow c d0 d1).hsw = s.hsw := by
  simp [State.logNow]
@[simp] theorem State.logNow_ctx (c : Nat) (d0 d1 : Word) : (s.logNow c d0 d1).ctx = s.ctx := by
  simp [State.logNow]
@[simp] theorem State.logNow_ldg (c : Nat) (d0 d1 : Word) : (s.logNow c d0 d1).ldg = s.ldg := by
  simp [State.logNow]
@[simp] theorem State.logNow_bus (c : Nat) (d0 d1 : Word) : (s.logNow c d0 d1).bus = s.bus := by
  simp [State.logNow]
@[simp] theorem State.logNow_host (c : Nat) (d0 d1 : Word) : (s.logNow c d0 d1).host = s.host := by
  simp [State.logNow]
@[simp] theorem State.logNow_sb (c : Nat) (d0 d1 : Word) : (s.logNow c d0 d1).sb = s.sb := by
  simp [State.logNow]
@[simp] theorem State.logNow_pins (c : Nat) (d0 d1 : Word) : (s.logNow c d0 d1).pins = s.pins := by
  simp [State.logNow]
@[simp] theorem State.logNow_jtag (c : Nat) (d0 d1 : Word) : (s.logNow c d0 d1).jtag = s.jtag := by
  simp [State.logNow]

/-! ### State.logRec leaves all but regs, tick0, irqc, log -/

@[simp] theorem State.logRec_pending (c : Nat) (d0 d1 : Word) : (s.logRec c d0 d1).pending = s.pending := by
  unfold State.logRec; split <;> simp
@[simp] theorem State.logRec_now (c : Nat) (d0 d1 : Word) : (s.logRec c d0 d1).now = s.now := by
  unfold State.logRec; split <;> simp
@[simp] theorem State.logRec_sram (c : Nat) (d0 d1 : Word) : (s.logRec c d0 d1).sram = s.sram := by
  unfold State.logRec; split <;> simp
@[simp] theorem State.logRec_nvm (c : Nat) (d0 d1 : Word) : (s.logRec c d0 d1).nvm = s.nvm := by
  unfold State.logRec; split <;> simp
@[simp] theorem State.logRec_freeIdx (c : Nat) (d0 d1 : Word) : (s.logRec c d0 d1).freeIdx = s.freeIdx := by
  unfold State.logRec; split <;> simp
@[simp] theorem State.logRec_beat (c : Nat) (d0 d1 : Word) : (s.logRec c d0 d1).beat = s.beat := by
  unfold State.logRec; split <;> simp
@[simp] theorem State.logRec_evq (c : Nat) (d0 d1 : Word) : (s.logRec c d0 d1).evq = s.evq := by
  unfold State.logRec; split <;> simp
@[simp] theorem State.logRec_lastStatus (c : Nat) (d0 d1 : Word) : (s.logRec c d0 d1).lastStatus = s.lastStatus := by
  unfold State.logRec; split <;> simp
@[simp] theorem State.logRec_lastRead (c : Nat) (d0 d1 : Word) : (s.logRec c d0 d1).lastRead = s.lastRead := by
  unfold State.logRec; split <;> simp
@[simp] theorem State.logRec_nvmc (c : Nat) (d0 d1 : Word) : (s.logRec c d0 d1).nvmc = s.nvmc := by
  unfold State.logRec; split <;> simp
@[simp] theorem State.logRec_pwr (c : Nat) (d0 d1 : Word) : (s.logRec c d0 d1).pwr = s.pwr := by
  unfold State.logRec; split <;> simp
@[simp] theorem State.logRec_cmp (c : Nat) (d0 d1 : Word) : (s.logRec c d0 d1).cmp = s.cmp := by
  unfold State.logRec; split <;> simp
@[simp] theorem State.logRec_cps (c : Nat) (d0 d1 : Word) : (s.logRec c d0 d1).cps = s.cps := by
  unfold State.logRec; split <;> simp
@[simp] theorem State.logRec_adc (c : Nat) (d0 d1 : Word) : (s.logRec c d0 d1).adc = s.adc := by
  unfold State.logRec; split <;> simp
@[simp] theorem State.logRec_resamp (c : Nat) (d0 d1 : Word) : (s.logRec c d0 d1).resamp = s.resamp := by
  unfold State.logRec; split <;> simp
@[simp] theorem State.logRec_cht (c : Nat) (d0 d1 : Word) : (s.logRec c d0 d1).cht = s.cht := by
  unfold State.logRec; split <;> simp
@[simp] theorem State.logRec_qdl (c : Nat) (d0 d1 : Word) : (s.logRec c d0 d1).qdl = s.qdl := by
  unfold State.logRec; split <;> simp
@[simp] theorem State.logRec_ctl (c : Nat) (d0 d1 : Word) : (s.logRec c d0 d1).ctl = s.ctl := by
  unfold State.logRec; split <;> simp
@[simp] theorem State.logRec_spec (c : Nat) (d0 d1 : Word) : (s.logRec c d0 d1).spec = s.spec := by
  unfold State.logRec; split <;> simp
@[simp] theorem State.logRec_dma (c : Nat) (d0 d1 : Word) : (s.logRec c d0 d1).dma = s.dma := by
  unfold State.logRec; split <;> simp
@[simp] theorem State.logRec_mode (c : Nat) (d0 d1 : Word) : (s.logRec c d0 d1).mode = s.mode := by
  unfold State.logRec; split <;> simp
@[simp] theorem State.logRec_pwm (c : Nat) (d0 d1 : Word) : (s.logRec c d0 d1).pwm = s.pwm := by
  unfold State.logRec; split <;> simp
@[simp] theorem State.logRec_gd (c : Nat) (d0 d1 : Word) : (s.logRec c d0 d1).gd = s.gd := by
  unfold State.logRec; split <;> simp
@[simp] theorem State.logRec_prot (c : Nat) (d0 d1 : Word) : (s.logRec c d0 d1).prot = s.prot := by
  unfold State.logRec; split <;> simp
@[simp] theorem State.logRec_safe (c : Nat) (d0 d1 : Word) : (s.logRec c d0 d1).safe = s.safe := by
  unfold State.logRec; split <;> simp
@[simp] theorem State.logRec_rly (c : Nat) (d0 d1 : Word) : (s.logRec c d0 d1).rly = s.rly := by
  unfold State.logRec; split <;> simp
@[simp] theorem State.logRec_met (c : Nat) (d0 d1 : Word) : (s.logRec c d0 d1).met = s.met := by
  unfold State.logRec; split <;> simp
@[simp] theorem State.logRec_hrm (c : Nat) (d0 d1 : Word) : (s.logRec c d0 d1).hrm = s.hrm := by
  unfold State.logRec; split <;> simp
@[simp] theorem State.logRec_hsw (c : Nat) (d0 d1 : Word) : (s.logRec c d0 d1).hsw = s.hsw := by
  unfold State.logRec; split <;> simp
@[simp] theorem State.logRec_ctx (c : Nat) (d0 d1 : Word) : (s.logRec c d0 d1).ctx = s.ctx := by
  unfold State.logRec; split <;> simp
@[simp] theorem State.logRec_ldg (c : Nat) (d0 d1 : Word) : (s.logRec c d0 d1).ldg = s.ldg := by
  unfold State.logRec; split <;> simp
@[simp] theorem State.logRec_bus (c : Nat) (d0 d1 : Word) : (s.logRec c d0 d1).bus = s.bus := by
  unfold State.logRec; split <;> simp
@[simp] theorem State.logRec_host (c : Nat) (d0 d1 : Word) : (s.logRec c d0 d1).host = s.host := by
  unfold State.logRec; split <;> simp
@[simp] theorem State.logRec_sb (c : Nat) (d0 d1 : Word) : (s.logRec c d0 d1).sb = s.sb := by
  unfold State.logRec; split <;> simp
@[simp] theorem State.logRec_pins (c : Nat) (d0 d1 : Word) : (s.logRec c d0 d1).pins = s.pins := by
  unfold State.logRec; split <;> simp
@[simp] theorem State.logRec_jtag (c : Nat) (d0 d1 : Word) : (s.logRec c d0 d1).jtag = s.jtag := by
  unfold State.logRec; split <;> simp

/-! ### State.refuse leaves all but regs, tick0, pwr -/

@[simp] theorem State.refuse_pending (p : Nat) (st : Status) : (s.refuse p st).pending = s.pending := by
  unfold State.refuse; (repeat' split) <;> first | rfl | simp
@[simp] theorem State.refuse_now (p : Nat) (st : Status) : (s.refuse p st).now = s.now := by
  unfold State.refuse; (repeat' split) <;> first | rfl | simp
@[simp] theorem State.refuse_sram (p : Nat) (st : Status) : (s.refuse p st).sram = s.sram := by
  unfold State.refuse; (repeat' split) <;> first | rfl | simp
@[simp] theorem State.refuse_nvm (p : Nat) (st : Status) : (s.refuse p st).nvm = s.nvm := by
  unfold State.refuse; (repeat' split) <;> first | rfl | simp
@[simp] theorem State.refuse_freeIdx (p : Nat) (st : Status) : (s.refuse p st).freeIdx = s.freeIdx := by
  unfold State.refuse; (repeat' split) <;> first | rfl | simp
@[simp] theorem State.refuse_beat (p : Nat) (st : Status) : (s.refuse p st).beat = s.beat := by
  unfold State.refuse; (repeat' split) <;> first | rfl | simp
@[simp] theorem State.refuse_evq (p : Nat) (st : Status) : (s.refuse p st).evq = s.evq := by
  unfold State.refuse; (repeat' split) <;> first | rfl | simp
@[simp] theorem State.refuse_lastStatus (p : Nat) (st : Status) : (s.refuse p st).lastStatus = s.lastStatus := by
  unfold State.refuse; (repeat' split) <;> first | rfl | simp
@[simp] theorem State.refuse_lastRead (p : Nat) (st : Status) : (s.refuse p st).lastRead = s.lastRead := by
  unfold State.refuse; (repeat' split) <;> first | rfl | simp
@[simp] theorem State.refuse_irqc (p : Nat) (st : Status) : (s.refuse p st).irqc = s.irqc := by
  unfold State.refuse; (repeat' split) <;> first | rfl | simp
@[simp] theorem State.refuse_log (p : Nat) (st : Status) : (s.refuse p st).log = s.log := by
  unfold State.refuse; (repeat' split) <;> first | rfl | simp
@[simp] theorem State.refuse_nvmc (p : Nat) (st : Status) : (s.refuse p st).nvmc = s.nvmc := by
  unfold State.refuse; (repeat' split) <;> first | rfl | simp
@[simp] theorem State.refuse_cmp (p : Nat) (st : Status) : (s.refuse p st).cmp = s.cmp := by
  unfold State.refuse; (repeat' split) <;> first | rfl | simp
@[simp] theorem State.refuse_cps (p : Nat) (st : Status) : (s.refuse p st).cps = s.cps := by
  unfold State.refuse; (repeat' split) <;> first | rfl | simp
@[simp] theorem State.refuse_adc (p : Nat) (st : Status) : (s.refuse p st).adc = s.adc := by
  unfold State.refuse; (repeat' split) <;> first | rfl | simp
@[simp] theorem State.refuse_resamp (p : Nat) (st : Status) : (s.refuse p st).resamp = s.resamp := by
  unfold State.refuse; (repeat' split) <;> first | rfl | simp
@[simp] theorem State.refuse_cht (p : Nat) (st : Status) : (s.refuse p st).cht = s.cht := by
  unfold State.refuse; (repeat' split) <;> first | rfl | simp
@[simp] theorem State.refuse_qdl (p : Nat) (st : Status) : (s.refuse p st).qdl = s.qdl := by
  unfold State.refuse; (repeat' split) <;> first | rfl | simp
@[simp] theorem State.refuse_ctl (p : Nat) (st : Status) : (s.refuse p st).ctl = s.ctl := by
  unfold State.refuse; (repeat' split) <;> first | rfl | simp
@[simp] theorem State.refuse_spec (p : Nat) (st : Status) : (s.refuse p st).spec = s.spec := by
  unfold State.refuse; (repeat' split) <;> first | rfl | simp
@[simp] theorem State.refuse_dma (p : Nat) (st : Status) : (s.refuse p st).dma = s.dma := by
  unfold State.refuse; (repeat' split) <;> first | rfl | simp
@[simp] theorem State.refuse_mode (p : Nat) (st : Status) : (s.refuse p st).mode = s.mode := by
  unfold State.refuse; (repeat' split) <;> first | rfl | simp
@[simp] theorem State.refuse_pwm (p : Nat) (st : Status) : (s.refuse p st).pwm = s.pwm := by
  unfold State.refuse; (repeat' split) <;> first | rfl | simp
@[simp] theorem State.refuse_gd (p : Nat) (st : Status) : (s.refuse p st).gd = s.gd := by
  unfold State.refuse; (repeat' split) <;> first | rfl | simp
@[simp] theorem State.refuse_prot (p : Nat) (st : Status) : (s.refuse p st).prot = s.prot := by
  unfold State.refuse; (repeat' split) <;> first | rfl | simp
@[simp] theorem State.refuse_safe (p : Nat) (st : Status) : (s.refuse p st).safe = s.safe := by
  unfold State.refuse; (repeat' split) <;> first | rfl | simp
@[simp] theorem State.refuse_rly (p : Nat) (st : Status) : (s.refuse p st).rly = s.rly := by
  unfold State.refuse; (repeat' split) <;> first | rfl | simp
@[simp] theorem State.refuse_met (p : Nat) (st : Status) : (s.refuse p st).met = s.met := by
  unfold State.refuse; (repeat' split) <;> first | rfl | simp
@[simp] theorem State.refuse_hrm (p : Nat) (st : Status) : (s.refuse p st).hrm = s.hrm := by
  unfold State.refuse; (repeat' split) <;> first | rfl | simp
@[simp] theorem State.refuse_hsw (p : Nat) (st : Status) : (s.refuse p st).hsw = s.hsw := by
  unfold State.refuse; (repeat' split) <;> first | rfl | simp
@[simp] theorem State.refuse_ctx (p : Nat) (st : Status) : (s.refuse p st).ctx = s.ctx := by
  unfold State.refuse; (repeat' split) <;> first | rfl | simp
@[simp] theorem State.refuse_ldg (p : Nat) (st : Status) : (s.refuse p st).ldg = s.ldg := by
  unfold State.refuse; (repeat' split) <;> first | rfl | simp
@[simp] theorem State.refuse_bus (p : Nat) (st : Status) : (s.refuse p st).bus = s.bus := by
  unfold State.refuse; (repeat' split) <;> first | rfl | simp
@[simp] theorem State.refuse_host (p : Nat) (st : Status) : (s.refuse p st).host = s.host := by
  unfold State.refuse; (repeat' split) <;> first | rfl | simp
@[simp] theorem State.refuse_sb (p : Nat) (st : Status) : (s.refuse p st).sb = s.sb := by
  unfold State.refuse; (repeat' split) <;> first | rfl | simp
@[simp] theorem State.refuse_pins (p : Nat) (st : Status) : (s.refuse p st).pins = s.pins := by
  unfold State.refuse; (repeat' split) <;> first | rfl | simp
@[simp] theorem State.refuse_jtag (p : Nat) (st : Status) : (s.refuse p st).jtag = s.jtag := by
  unfold State.refuse; (repeat' split) <;> first | rfl | simp

/-! ### State.elapse leaves all but now, tick0, pwr, cps, met, resamp -/

@[simp] theorem State.elapse_pending (n : Nat) : (s.elapse n).pending = s.pending := rfl
@[simp] theorem State.elapse_regs (n : Nat) : (s.elapse n).regs = s.regs := rfl
@[simp] theorem State.elapse_sram (n : Nat) : (s.elapse n).sram = s.sram := rfl
@[simp] theorem State.elapse_nvm (n : Nat) : (s.elapse n).nvm = s.nvm := rfl
@[simp] theorem State.elapse_freeIdx (n : Nat) : (s.elapse n).freeIdx = s.freeIdx := rfl
@[simp] theorem State.elapse_beat (n : Nat) : (s.elapse n).beat = s.beat := rfl
@[simp] theorem State.elapse_evq (n : Nat) : (s.elapse n).evq = s.evq := rfl
@[simp] theorem State.elapse_lastStatus (n : Nat) : (s.elapse n).lastStatus = s.lastStatus := rfl
@[simp] theorem State.elapse_lastRead (n : Nat) : (s.elapse n).lastRead = s.lastRead := rfl
@[simp] theorem State.elapse_irqc (n : Nat) : (s.elapse n).irqc = s.irqc := rfl
@[simp] theorem State.elapse_log (n : Nat) : (s.elapse n).log = s.log := rfl
@[simp] theorem State.elapse_nvmc (n : Nat) : (s.elapse n).nvmc = s.nvmc := rfl
@[simp] theorem State.elapse_cmp (n : Nat) : (s.elapse n).cmp = s.cmp := rfl
@[simp] theorem State.elapse_adc (n : Nat) : (s.elapse n).adc = s.adc := rfl
@[simp] theorem State.elapse_cht (n : Nat) : (s.elapse n).cht = s.cht := rfl
@[simp] theorem State.elapse_qdl (n : Nat) : (s.elapse n).qdl = s.qdl := rfl
@[simp] theorem State.elapse_ctl (n : Nat) : (s.elapse n).ctl = s.ctl := rfl
@[simp] theorem State.elapse_spec (n : Nat) : (s.elapse n).spec = s.spec := rfl
@[simp] theorem State.elapse_dma (n : Nat) : (s.elapse n).dma = s.dma := rfl
@[simp] theorem State.elapse_mode (n : Nat) : (s.elapse n).mode = s.mode := rfl
@[simp] theorem State.elapse_pwm (n : Nat) : (s.elapse n).pwm = s.pwm := rfl
@[simp] theorem State.elapse_gd (n : Nat) : (s.elapse n).gd = s.gd := rfl
@[simp] theorem State.elapse_prot (n : Nat) : (s.elapse n).prot = s.prot := rfl
@[simp] theorem State.elapse_safe (n : Nat) : (s.elapse n).safe = s.safe := rfl
@[simp] theorem State.elapse_rly (n : Nat) : (s.elapse n).rly = s.rly := rfl
@[simp] theorem State.elapse_hrm (n : Nat) : (s.elapse n).hrm = s.hrm := rfl
@[simp] theorem State.elapse_hsw (n : Nat) : (s.elapse n).hsw = s.hsw := rfl
@[simp] theorem State.elapse_ctx (n : Nat) : (s.elapse n).ctx = s.ctx := rfl
@[simp] theorem State.elapse_ldg (n : Nat) : (s.elapse n).ldg = s.ldg := rfl
@[simp] theorem State.elapse_bus (n : Nat) : (s.elapse n).bus = s.bus := rfl
@[simp] theorem State.elapse_host (n : Nat) : (s.elapse n).host = s.host := rfl
@[simp] theorem State.elapse_sb (n : Nat) : (s.elapse n).sb = s.sb := rfl
@[simp] theorem State.elapse_pins (n : Nat) : (s.elapse n).pins = s.pins := rfl
@[simp] theorem State.elapse_jtag (n : Nat) : (s.elapse n).jtag = s.jtag := rfl

/-! ### State.elapseTo leaves all but now, tick0, pwr, cps, met, resamp -/

@[simp] theorem State.elapseTo_pending (t : Nat) : (s.elapseTo t).pending = s.pending := by
  exact State.elapse_pending _ _
@[simp] theorem State.elapseTo_regs (t : Nat) : (s.elapseTo t).regs = s.regs := by
  exact State.elapse_regs _ _
@[simp] theorem State.elapseTo_sram (t : Nat) : (s.elapseTo t).sram = s.sram := by
  exact State.elapse_sram _ _
@[simp] theorem State.elapseTo_nvm (t : Nat) : (s.elapseTo t).nvm = s.nvm := by
  exact State.elapse_nvm _ _
@[simp] theorem State.elapseTo_freeIdx (t : Nat) : (s.elapseTo t).freeIdx = s.freeIdx := by
  exact State.elapse_freeIdx _ _
@[simp] theorem State.elapseTo_beat (t : Nat) : (s.elapseTo t).beat = s.beat := by
  exact State.elapse_beat _ _
@[simp] theorem State.elapseTo_evq (t : Nat) : (s.elapseTo t).evq = s.evq := by
  exact State.elapse_evq _ _
@[simp] theorem State.elapseTo_lastStatus (t : Nat) : (s.elapseTo t).lastStatus = s.lastStatus := by
  exact State.elapse_lastStatus _ _
@[simp] theorem State.elapseTo_lastRead (t : Nat) : (s.elapseTo t).lastRead = s.lastRead := by
  exact State.elapse_lastRead _ _
@[simp] theorem State.elapseTo_irqc (t : Nat) : (s.elapseTo t).irqc = s.irqc := by
  exact State.elapse_irqc _ _
@[simp] theorem State.elapseTo_log (t : Nat) : (s.elapseTo t).log = s.log := by
  exact State.elapse_log _ _
@[simp] theorem State.elapseTo_nvmc (t : Nat) : (s.elapseTo t).nvmc = s.nvmc := by
  exact State.elapse_nvmc _ _
@[simp] theorem State.elapseTo_cmp (t : Nat) : (s.elapseTo t).cmp = s.cmp := by
  exact State.elapse_cmp _ _
@[simp] theorem State.elapseTo_adc (t : Nat) : (s.elapseTo t).adc = s.adc := by
  exact State.elapse_adc _ _
@[simp] theorem State.elapseTo_cht (t : Nat) : (s.elapseTo t).cht = s.cht := by
  exact State.elapse_cht _ _
@[simp] theorem State.elapseTo_qdl (t : Nat) : (s.elapseTo t).qdl = s.qdl := by
  exact State.elapse_qdl _ _
@[simp] theorem State.elapseTo_ctl (t : Nat) : (s.elapseTo t).ctl = s.ctl := by
  exact State.elapse_ctl _ _
@[simp] theorem State.elapseTo_spec (t : Nat) : (s.elapseTo t).spec = s.spec := by
  exact State.elapse_spec _ _
@[simp] theorem State.elapseTo_dma (t : Nat) : (s.elapseTo t).dma = s.dma := by
  exact State.elapse_dma _ _
@[simp] theorem State.elapseTo_mode (t : Nat) : (s.elapseTo t).mode = s.mode := by
  exact State.elapse_mode _ _
@[simp] theorem State.elapseTo_pwm (t : Nat) : (s.elapseTo t).pwm = s.pwm := by
  exact State.elapse_pwm _ _
@[simp] theorem State.elapseTo_gd (t : Nat) : (s.elapseTo t).gd = s.gd := by
  exact State.elapse_gd _ _
@[simp] theorem State.elapseTo_prot (t : Nat) : (s.elapseTo t).prot = s.prot := by
  exact State.elapse_prot _ _
@[simp] theorem State.elapseTo_safe (t : Nat) : (s.elapseTo t).safe = s.safe := by
  exact State.elapse_safe _ _
@[simp] theorem State.elapseTo_rly (t : Nat) : (s.elapseTo t).rly = s.rly := by
  exact State.elapse_rly _ _
@[simp] theorem State.elapseTo_hrm (t : Nat) : (s.elapseTo t).hrm = s.hrm := by
  exact State.elapse_hrm _ _
@[simp] theorem State.elapseTo_hsw (t : Nat) : (s.elapseTo t).hsw = s.hsw := by
  exact State.elapse_hsw _ _
@[simp] theorem State.elapseTo_ctx (t : Nat) : (s.elapseTo t).ctx = s.ctx := by
  exact State.elapse_ctx _ _
@[simp] theorem State.elapseTo_ldg (t : Nat) : (s.elapseTo t).ldg = s.ldg := by
  exact State.elapse_ldg _ _
@[simp] theorem State.elapseTo_bus (t : Nat) : (s.elapseTo t).bus = s.bus := by
  exact State.elapse_bus _ _
@[simp] theorem State.elapseTo_host (t : Nat) : (s.elapseTo t).host = s.host := by
  exact State.elapse_host _ _
@[simp] theorem State.elapseTo_sb (t : Nat) : (s.elapseTo t).sb = s.sb := by
  exact State.elapse_sb _ _
@[simp] theorem State.elapseTo_pins (t : Nat) : (s.elapseTo t).pins = s.pins := by
  exact State.elapse_pins _ _
@[simp] theorem State.elapseTo_jtag (t : Nat) : (s.elapseTo t).jtag = s.jtag := by
  exact State.elapse_jtag _ _

/-! ### State.elapseFine leaves all but now, tick0, pwr, cps, met, resamp -/

@[simp] theorem State.elapseFine_pending (t : Nat) : (s.elapseFine t).pending = s.pending := by
  exact State.elapse_pending _ _
@[simp] theorem State.elapseFine_regs (t : Nat) : (s.elapseFine t).regs = s.regs := by
  exact State.elapse_regs _ _
@[simp] theorem State.elapseFine_sram (t : Nat) : (s.elapseFine t).sram = s.sram := by
  exact State.elapse_sram _ _
@[simp] theorem State.elapseFine_nvm (t : Nat) : (s.elapseFine t).nvm = s.nvm := by
  exact State.elapse_nvm _ _
@[simp] theorem State.elapseFine_freeIdx (t : Nat) : (s.elapseFine t).freeIdx = s.freeIdx := by
  exact State.elapse_freeIdx _ _
@[simp] theorem State.elapseFine_beat (t : Nat) : (s.elapseFine t).beat = s.beat := by
  exact State.elapse_beat _ _
@[simp] theorem State.elapseFine_evq (t : Nat) : (s.elapseFine t).evq = s.evq := by
  exact State.elapse_evq _ _
@[simp] theorem State.elapseFine_lastStatus (t : Nat) : (s.elapseFine t).lastStatus = s.lastStatus := by
  exact State.elapse_lastStatus _ _
@[simp] theorem State.elapseFine_lastRead (t : Nat) : (s.elapseFine t).lastRead = s.lastRead := by
  exact State.elapse_lastRead _ _
@[simp] theorem State.elapseFine_irqc (t : Nat) : (s.elapseFine t).irqc = s.irqc := by
  exact State.elapse_irqc _ _
@[simp] theorem State.elapseFine_log (t : Nat) : (s.elapseFine t).log = s.log := by
  exact State.elapse_log _ _
@[simp] theorem State.elapseFine_nvmc (t : Nat) : (s.elapseFine t).nvmc = s.nvmc := by
  exact State.elapse_nvmc _ _
@[simp] theorem State.elapseFine_cmp (t : Nat) : (s.elapseFine t).cmp = s.cmp := by
  exact State.elapse_cmp _ _
@[simp] theorem State.elapseFine_adc (t : Nat) : (s.elapseFine t).adc = s.adc := by
  exact State.elapse_adc _ _
@[simp] theorem State.elapseFine_cht (t : Nat) : (s.elapseFine t).cht = s.cht := by
  exact State.elapse_cht _ _
@[simp] theorem State.elapseFine_qdl (t : Nat) : (s.elapseFine t).qdl = s.qdl := by
  exact State.elapse_qdl _ _
@[simp] theorem State.elapseFine_ctl (t : Nat) : (s.elapseFine t).ctl = s.ctl := by
  exact State.elapse_ctl _ _
@[simp] theorem State.elapseFine_spec (t : Nat) : (s.elapseFine t).spec = s.spec := by
  exact State.elapse_spec _ _
@[simp] theorem State.elapseFine_dma (t : Nat) : (s.elapseFine t).dma = s.dma := by
  exact State.elapse_dma _ _
@[simp] theorem State.elapseFine_mode (t : Nat) : (s.elapseFine t).mode = s.mode := by
  exact State.elapse_mode _ _
@[simp] theorem State.elapseFine_pwm (t : Nat) : (s.elapseFine t).pwm = s.pwm := by
  exact State.elapse_pwm _ _
@[simp] theorem State.elapseFine_gd (t : Nat) : (s.elapseFine t).gd = s.gd := by
  exact State.elapse_gd _ _
@[simp] theorem State.elapseFine_prot (t : Nat) : (s.elapseFine t).prot = s.prot := by
  exact State.elapse_prot _ _
@[simp] theorem State.elapseFine_safe (t : Nat) : (s.elapseFine t).safe = s.safe := by
  exact State.elapse_safe _ _
@[simp] theorem State.elapseFine_rly (t : Nat) : (s.elapseFine t).rly = s.rly := by
  exact State.elapse_rly _ _
@[simp] theorem State.elapseFine_hrm (t : Nat) : (s.elapseFine t).hrm = s.hrm := by
  exact State.elapse_hrm _ _
@[simp] theorem State.elapseFine_hsw (t : Nat) : (s.elapseFine t).hsw = s.hsw := by
  exact State.elapse_hsw _ _
@[simp] theorem State.elapseFine_ctx (t : Nat) : (s.elapseFine t).ctx = s.ctx := by
  exact State.elapse_ctx _ _
@[simp] theorem State.elapseFine_ldg (t : Nat) : (s.elapseFine t).ldg = s.ldg := by
  exact State.elapse_ldg _ _
@[simp] theorem State.elapseFine_bus (t : Nat) : (s.elapseFine t).bus = s.bus := by
  exact State.elapse_bus _ _
@[simp] theorem State.elapseFine_host (t : Nat) : (s.elapseFine t).host = s.host := by
  exact State.elapse_host _ _
@[simp] theorem State.elapseFine_sb (t : Nat) : (s.elapseFine t).sb = s.sb := by
  exact State.elapse_sb _ _
@[simp] theorem State.elapseFine_pins (t : Nat) : (s.elapseFine t).pins = s.pins := by
  exact State.elapse_pins _ _
@[simp] theorem State.elapseFine_jtag (t : Nat) : (s.elapseFine t).jtag = s.jtag := by
  exact State.elapse_jtag _ _

/-! ### State.elapseLpo leaves all but now, tick0, pwr, cps, met, resamp -/

@[simp] theorem State.elapseLpo_pending (k : Nat) : (s.elapseLpo k).pending = s.pending := by
  exact State.elapse_pending _ _
@[simp] theorem State.elapseLpo_regs (k : Nat) : (s.elapseLpo k).regs = s.regs := by
  exact State.elapse_regs _ _
@[simp] theorem State.elapseLpo_sram (k : Nat) : (s.elapseLpo k).sram = s.sram := by
  exact State.elapse_sram _ _
@[simp] theorem State.elapseLpo_nvm (k : Nat) : (s.elapseLpo k).nvm = s.nvm := by
  exact State.elapse_nvm _ _
@[simp] theorem State.elapseLpo_freeIdx (k : Nat) : (s.elapseLpo k).freeIdx = s.freeIdx := by
  exact State.elapse_freeIdx _ _
@[simp] theorem State.elapseLpo_beat (k : Nat) : (s.elapseLpo k).beat = s.beat := by
  exact State.elapse_beat _ _
@[simp] theorem State.elapseLpo_evq (k : Nat) : (s.elapseLpo k).evq = s.evq := by
  exact State.elapse_evq _ _
@[simp] theorem State.elapseLpo_lastStatus (k : Nat) : (s.elapseLpo k).lastStatus = s.lastStatus := by
  exact State.elapse_lastStatus _ _
@[simp] theorem State.elapseLpo_lastRead (k : Nat) : (s.elapseLpo k).lastRead = s.lastRead := by
  exact State.elapse_lastRead _ _
@[simp] theorem State.elapseLpo_irqc (k : Nat) : (s.elapseLpo k).irqc = s.irqc := by
  exact State.elapse_irqc _ _
@[simp] theorem State.elapseLpo_log (k : Nat) : (s.elapseLpo k).log = s.log := by
  exact State.elapse_log _ _
@[simp] theorem State.elapseLpo_nvmc (k : Nat) : (s.elapseLpo k).nvmc = s.nvmc := by
  exact State.elapse_nvmc _ _
@[simp] theorem State.elapseLpo_cmp (k : Nat) : (s.elapseLpo k).cmp = s.cmp := by
  exact State.elapse_cmp _ _
@[simp] theorem State.elapseLpo_adc (k : Nat) : (s.elapseLpo k).adc = s.adc := by
  exact State.elapse_adc _ _
@[simp] theorem State.elapseLpo_cht (k : Nat) : (s.elapseLpo k).cht = s.cht := by
  exact State.elapse_cht _ _
@[simp] theorem State.elapseLpo_qdl (k : Nat) : (s.elapseLpo k).qdl = s.qdl := by
  exact State.elapse_qdl _ _
@[simp] theorem State.elapseLpo_ctl (k : Nat) : (s.elapseLpo k).ctl = s.ctl := by
  exact State.elapse_ctl _ _
@[simp] theorem State.elapseLpo_spec (k : Nat) : (s.elapseLpo k).spec = s.spec := by
  exact State.elapse_spec _ _
@[simp] theorem State.elapseLpo_dma (k : Nat) : (s.elapseLpo k).dma = s.dma := by
  exact State.elapse_dma _ _
@[simp] theorem State.elapseLpo_mode (k : Nat) : (s.elapseLpo k).mode = s.mode := by
  exact State.elapse_mode _ _
@[simp] theorem State.elapseLpo_pwm (k : Nat) : (s.elapseLpo k).pwm = s.pwm := by
  exact State.elapse_pwm _ _
@[simp] theorem State.elapseLpo_gd (k : Nat) : (s.elapseLpo k).gd = s.gd := by
  exact State.elapse_gd _ _
@[simp] theorem State.elapseLpo_prot (k : Nat) : (s.elapseLpo k).prot = s.prot := by
  exact State.elapse_prot _ _
@[simp] theorem State.elapseLpo_safe (k : Nat) : (s.elapseLpo k).safe = s.safe := by
  exact State.elapse_safe _ _
@[simp] theorem State.elapseLpo_rly (k : Nat) : (s.elapseLpo k).rly = s.rly := by
  exact State.elapse_rly _ _
@[simp] theorem State.elapseLpo_hrm (k : Nat) : (s.elapseLpo k).hrm = s.hrm := by
  exact State.elapse_hrm _ _
@[simp] theorem State.elapseLpo_hsw (k : Nat) : (s.elapseLpo k).hsw = s.hsw := by
  exact State.elapse_hsw _ _
@[simp] theorem State.elapseLpo_ctx (k : Nat) : (s.elapseLpo k).ctx = s.ctx := by
  exact State.elapse_ctx _ _
@[simp] theorem State.elapseLpo_ldg (k : Nat) : (s.elapseLpo k).ldg = s.ldg := by
  exact State.elapse_ldg _ _
@[simp] theorem State.elapseLpo_bus (k : Nat) : (s.elapseLpo k).bus = s.bus := by
  exact State.elapse_bus _ _
@[simp] theorem State.elapseLpo_host (k : Nat) : (s.elapseLpo k).host = s.host := by
  exact State.elapse_host _ _
@[simp] theorem State.elapseLpo_sb (k : Nat) : (s.elapseLpo k).sb = s.sb := by
  exact State.elapse_sb _ _
@[simp] theorem State.elapseLpo_pins (k : Nat) : (s.elapseLpo k).pins = s.pins := by
  exact State.elapse_pins _ _
@[simp] theorem State.elapseLpo_jtag (k : Nat) : (s.elapseLpo k).jtag = s.jtag := by
  exact State.elapse_jtag _ _

/-! ### State.setTb leaves all but pwm -/

@[simp] theorem State.setTb_pending (k : Nat) (t : Timebase) : (s.setTb k t).pending = s.pending := by
  unfold State.setTb; split <;> rfl
@[simp] theorem State.setTb_now (k : Nat) (t : Timebase) : (s.setTb k t).now = s.now := by
  unfold State.setTb; split <;> rfl
@[simp] theorem State.setTb_regs (k : Nat) (t : Timebase) : (s.setTb k t).regs = s.regs := by
  unfold State.setTb; split <;> rfl
@[simp] theorem State.setTb_sram (k : Nat) (t : Timebase) : (s.setTb k t).sram = s.sram := by
  unfold State.setTb; split <;> rfl
@[simp] theorem State.setTb_nvm (k : Nat) (t : Timebase) : (s.setTb k t).nvm = s.nvm := by
  unfold State.setTb; split <;> rfl
@[simp] theorem State.setTb_freeIdx (k : Nat) (t : Timebase) : (s.setTb k t).freeIdx = s.freeIdx := by
  unfold State.setTb; split <;> rfl
@[simp] theorem State.setTb_tick0 (k : Nat) (t : Timebase) : (s.setTb k t).tick0 = s.tick0 := by
  unfold State.setTb; split <;> rfl
@[simp] theorem State.setTb_beat (k : Nat) (t : Timebase) : (s.setTb k t).beat = s.beat := by
  unfold State.setTb; split <;> rfl
@[simp] theorem State.setTb_evq (k : Nat) (t : Timebase) : (s.setTb k t).evq = s.evq := by
  unfold State.setTb; split <;> rfl
@[simp] theorem State.setTb_lastStatus (k : Nat) (t : Timebase) : (s.setTb k t).lastStatus = s.lastStatus := by
  unfold State.setTb; split <;> rfl
@[simp] theorem State.setTb_lastRead (k : Nat) (t : Timebase) : (s.setTb k t).lastRead = s.lastRead := by
  unfold State.setTb; split <;> rfl
@[simp] theorem State.setTb_irqc (k : Nat) (t : Timebase) : (s.setTb k t).irqc = s.irqc := by
  unfold State.setTb; split <;> rfl
@[simp] theorem State.setTb_log (k : Nat) (t : Timebase) : (s.setTb k t).log = s.log := by
  unfold State.setTb; split <;> rfl
@[simp] theorem State.setTb_nvmc (k : Nat) (t : Timebase) : (s.setTb k t).nvmc = s.nvmc := by
  unfold State.setTb; split <;> rfl
@[simp] theorem State.setTb_pwr (k : Nat) (t : Timebase) : (s.setTb k t).pwr = s.pwr := by
  unfold State.setTb; split <;> rfl
@[simp] theorem State.setTb_cmp (k : Nat) (t : Timebase) : (s.setTb k t).cmp = s.cmp := by
  unfold State.setTb; split <;> rfl
@[simp] theorem State.setTb_cps (k : Nat) (t : Timebase) : (s.setTb k t).cps = s.cps := by
  unfold State.setTb; split <;> rfl
@[simp] theorem State.setTb_adc (k : Nat) (t : Timebase) : (s.setTb k t).adc = s.adc := by
  unfold State.setTb; split <;> rfl
@[simp] theorem State.setTb_resamp (k : Nat) (t : Timebase) : (s.setTb k t).resamp = s.resamp := by
  unfold State.setTb; split <;> rfl
@[simp] theorem State.setTb_cht (k : Nat) (t : Timebase) : (s.setTb k t).cht = s.cht := by
  unfold State.setTb; split <;> rfl
@[simp] theorem State.setTb_qdl (k : Nat) (t : Timebase) : (s.setTb k t).qdl = s.qdl := by
  unfold State.setTb; split <;> rfl
@[simp] theorem State.setTb_ctl (k : Nat) (t : Timebase) : (s.setTb k t).ctl = s.ctl := by
  unfold State.setTb; split <;> rfl
@[simp] theorem State.setTb_spec (k : Nat) (t : Timebase) : (s.setTb k t).spec = s.spec := by
  unfold State.setTb; split <;> rfl
@[simp] theorem State.setTb_dma (k : Nat) (t : Timebase) : (s.setTb k t).dma = s.dma := by
  unfold State.setTb; split <;> rfl
@[simp] theorem State.setTb_mode (k : Nat) (t : Timebase) : (s.setTb k t).mode = s.mode := by
  unfold State.setTb; split <;> rfl
@[simp] theorem State.setTb_gd (k : Nat) (t : Timebase) : (s.setTb k t).gd = s.gd := by
  unfold State.setTb; split <;> rfl
@[simp] theorem State.setTb_prot (k : Nat) (t : Timebase) : (s.setTb k t).prot = s.prot := by
  unfold State.setTb; split <;> rfl
@[simp] theorem State.setTb_safe (k : Nat) (t : Timebase) : (s.setTb k t).safe = s.safe := by
  unfold State.setTb; split <;> rfl
@[simp] theorem State.setTb_rly (k : Nat) (t : Timebase) : (s.setTb k t).rly = s.rly := by
  unfold State.setTb; split <;> rfl
@[simp] theorem State.setTb_met (k : Nat) (t : Timebase) : (s.setTb k t).met = s.met := by
  unfold State.setTb; split <;> rfl
@[simp] theorem State.setTb_hrm (k : Nat) (t : Timebase) : (s.setTb k t).hrm = s.hrm := by
  unfold State.setTb; split <;> rfl
@[simp] theorem State.setTb_hsw (k : Nat) (t : Timebase) : (s.setTb k t).hsw = s.hsw := by
  unfold State.setTb; split <;> rfl
@[simp] theorem State.setTb_ctx (k : Nat) (t : Timebase) : (s.setTb k t).ctx = s.ctx := by
  unfold State.setTb; split <;> rfl
@[simp] theorem State.setTb_ldg (k : Nat) (t : Timebase) : (s.setTb k t).ldg = s.ldg := by
  unfold State.setTb; split <;> rfl
@[simp] theorem State.setTb_bus (k : Nat) (t : Timebase) : (s.setTb k t).bus = s.bus := by
  unfold State.setTb; split <;> rfl
@[simp] theorem State.setTb_host (k : Nat) (t : Timebase) : (s.setTb k t).host = s.host := by
  unfold State.setTb; split <;> rfl
@[simp] theorem State.setTb_sb (k : Nat) (t : Timebase) : (s.setTb k t).sb = s.sb := by
  unfold State.setTb; split <;> rfl
@[simp] theorem State.setTb_pins (k : Nat) (t : Timebase) : (s.setTb k t).pins = s.pins := by
  unfold State.setTb; split <;> rfl
@[simp] theorem State.setTb_jtag (k : Nat) (t : Timebase) : (s.setTb k t).jtag = s.jtag := by
  unfold State.setTb; split <;> rfl

/-! ### State.setSramBytes leaves all but sram -/

@[simp] theorem State.setSramBytes_pending (a : Nat) (bs : List Byte) : (s.setSramBytes a bs).pending = s.pending := by
  induction bs generalizing s a with
  | nil => rfl
  | cons b bs ih => unfold State.setSramBytes; simp [ih]
@[simp] theorem State.setSramBytes_now (a : Nat) (bs : List Byte) : (s.setSramBytes a bs).now = s.now := by
  induction bs generalizing s a with
  | nil => rfl
  | cons b bs ih => unfold State.setSramBytes; simp [ih]
@[simp] theorem State.setSramBytes_regs (a : Nat) (bs : List Byte) : (s.setSramBytes a bs).regs = s.regs := by
  induction bs generalizing s a with
  | nil => rfl
  | cons b bs ih => unfold State.setSramBytes; simp [ih]
@[simp] theorem State.setSramBytes_nvm (a : Nat) (bs : List Byte) : (s.setSramBytes a bs).nvm = s.nvm := by
  induction bs generalizing s a with
  | nil => rfl
  | cons b bs ih => unfold State.setSramBytes; simp [ih]
@[simp] theorem State.setSramBytes_freeIdx (a : Nat) (bs : List Byte) : (s.setSramBytes a bs).freeIdx = s.freeIdx := by
  induction bs generalizing s a with
  | nil => rfl
  | cons b bs ih => unfold State.setSramBytes; simp [ih]
@[simp] theorem State.setSramBytes_tick0 (a : Nat) (bs : List Byte) : (s.setSramBytes a bs).tick0 = s.tick0 := by
  induction bs generalizing s a with
  | nil => rfl
  | cons b bs ih => unfold State.setSramBytes; simp [ih]
@[simp] theorem State.setSramBytes_beat (a : Nat) (bs : List Byte) : (s.setSramBytes a bs).beat = s.beat := by
  induction bs generalizing s a with
  | nil => rfl
  | cons b bs ih => unfold State.setSramBytes; simp [ih]
@[simp] theorem State.setSramBytes_evq (a : Nat) (bs : List Byte) : (s.setSramBytes a bs).evq = s.evq := by
  induction bs generalizing s a with
  | nil => rfl
  | cons b bs ih => unfold State.setSramBytes; simp [ih]
@[simp] theorem State.setSramBytes_lastStatus (a : Nat) (bs : List Byte) : (s.setSramBytes a bs).lastStatus = s.lastStatus := by
  induction bs generalizing s a with
  | nil => rfl
  | cons b bs ih => unfold State.setSramBytes; simp [ih]
@[simp] theorem State.setSramBytes_lastRead (a : Nat) (bs : List Byte) : (s.setSramBytes a bs).lastRead = s.lastRead := by
  induction bs generalizing s a with
  | nil => rfl
  | cons b bs ih => unfold State.setSramBytes; simp [ih]
@[simp] theorem State.setSramBytes_irqc (a : Nat) (bs : List Byte) : (s.setSramBytes a bs).irqc = s.irqc := by
  induction bs generalizing s a with
  | nil => rfl
  | cons b bs ih => unfold State.setSramBytes; simp [ih]
@[simp] theorem State.setSramBytes_log (a : Nat) (bs : List Byte) : (s.setSramBytes a bs).log = s.log := by
  induction bs generalizing s a with
  | nil => rfl
  | cons b bs ih => unfold State.setSramBytes; simp [ih]
@[simp] theorem State.setSramBytes_nvmc (a : Nat) (bs : List Byte) : (s.setSramBytes a bs).nvmc = s.nvmc := by
  induction bs generalizing s a with
  | nil => rfl
  | cons b bs ih => unfold State.setSramBytes; simp [ih]
@[simp] theorem State.setSramBytes_pwr (a : Nat) (bs : List Byte) : (s.setSramBytes a bs).pwr = s.pwr := by
  induction bs generalizing s a with
  | nil => rfl
  | cons b bs ih => unfold State.setSramBytes; simp [ih]
@[simp] theorem State.setSramBytes_cmp (a : Nat) (bs : List Byte) : (s.setSramBytes a bs).cmp = s.cmp := by
  induction bs generalizing s a with
  | nil => rfl
  | cons b bs ih => unfold State.setSramBytes; simp [ih]
@[simp] theorem State.setSramBytes_cps (a : Nat) (bs : List Byte) : (s.setSramBytes a bs).cps = s.cps := by
  induction bs generalizing s a with
  | nil => rfl
  | cons b bs ih => unfold State.setSramBytes; simp [ih]
@[simp] theorem State.setSramBytes_adc (a : Nat) (bs : List Byte) : (s.setSramBytes a bs).adc = s.adc := by
  induction bs generalizing s a with
  | nil => rfl
  | cons b bs ih => unfold State.setSramBytes; simp [ih]
@[simp] theorem State.setSramBytes_resamp (a : Nat) (bs : List Byte) : (s.setSramBytes a bs).resamp = s.resamp := by
  induction bs generalizing s a with
  | nil => rfl
  | cons b bs ih => unfold State.setSramBytes; simp [ih]
@[simp] theorem State.setSramBytes_cht (a : Nat) (bs : List Byte) : (s.setSramBytes a bs).cht = s.cht := by
  induction bs generalizing s a with
  | nil => rfl
  | cons b bs ih => unfold State.setSramBytes; simp [ih]
@[simp] theorem State.setSramBytes_qdl (a : Nat) (bs : List Byte) : (s.setSramBytes a bs).qdl = s.qdl := by
  induction bs generalizing s a with
  | nil => rfl
  | cons b bs ih => unfold State.setSramBytes; simp [ih]
@[simp] theorem State.setSramBytes_ctl (a : Nat) (bs : List Byte) : (s.setSramBytes a bs).ctl = s.ctl := by
  induction bs generalizing s a with
  | nil => rfl
  | cons b bs ih => unfold State.setSramBytes; simp [ih]
@[simp] theorem State.setSramBytes_spec (a : Nat) (bs : List Byte) : (s.setSramBytes a bs).spec = s.spec := by
  induction bs generalizing s a with
  | nil => rfl
  | cons b bs ih => unfold State.setSramBytes; simp [ih]
@[simp] theorem State.setSramBytes_dma (a : Nat) (bs : List Byte) : (s.setSramBytes a bs).dma = s.dma := by
  induction bs generalizing s a with
  | nil => rfl
  | cons b bs ih => unfold State.setSramBytes; simp [ih]
@[simp] theorem State.setSramBytes_mode (a : Nat) (bs : List Byte) : (s.setSramBytes a bs).mode = s.mode := by
  induction bs generalizing s a with
  | nil => rfl
  | cons b bs ih => unfold State.setSramBytes; simp [ih]
@[simp] theorem State.setSramBytes_pwm (a : Nat) (bs : List Byte) : (s.setSramBytes a bs).pwm = s.pwm := by
  induction bs generalizing s a with
  | nil => rfl
  | cons b bs ih => unfold State.setSramBytes; simp [ih]
@[simp] theorem State.setSramBytes_gd (a : Nat) (bs : List Byte) : (s.setSramBytes a bs).gd = s.gd := by
  induction bs generalizing s a with
  | nil => rfl
  | cons b bs ih => unfold State.setSramBytes; simp [ih]
@[simp] theorem State.setSramBytes_prot (a : Nat) (bs : List Byte) : (s.setSramBytes a bs).prot = s.prot := by
  induction bs generalizing s a with
  | nil => rfl
  | cons b bs ih => unfold State.setSramBytes; simp [ih]
@[simp] theorem State.setSramBytes_safe (a : Nat) (bs : List Byte) : (s.setSramBytes a bs).safe = s.safe := by
  induction bs generalizing s a with
  | nil => rfl
  | cons b bs ih => unfold State.setSramBytes; simp [ih]
@[simp] theorem State.setSramBytes_rly (a : Nat) (bs : List Byte) : (s.setSramBytes a bs).rly = s.rly := by
  induction bs generalizing s a with
  | nil => rfl
  | cons b bs ih => unfold State.setSramBytes; simp [ih]
@[simp] theorem State.setSramBytes_met (a : Nat) (bs : List Byte) : (s.setSramBytes a bs).met = s.met := by
  induction bs generalizing s a with
  | nil => rfl
  | cons b bs ih => unfold State.setSramBytes; simp [ih]
@[simp] theorem State.setSramBytes_hrm (a : Nat) (bs : List Byte) : (s.setSramBytes a bs).hrm = s.hrm := by
  induction bs generalizing s a with
  | nil => rfl
  | cons b bs ih => unfold State.setSramBytes; simp [ih]
@[simp] theorem State.setSramBytes_hsw (a : Nat) (bs : List Byte) : (s.setSramBytes a bs).hsw = s.hsw := by
  induction bs generalizing s a with
  | nil => rfl
  | cons b bs ih => unfold State.setSramBytes; simp [ih]
@[simp] theorem State.setSramBytes_ctx (a : Nat) (bs : List Byte) : (s.setSramBytes a bs).ctx = s.ctx := by
  induction bs generalizing s a with
  | nil => rfl
  | cons b bs ih => unfold State.setSramBytes; simp [ih]
@[simp] theorem State.setSramBytes_ldg (a : Nat) (bs : List Byte) : (s.setSramBytes a bs).ldg = s.ldg := by
  induction bs generalizing s a with
  | nil => rfl
  | cons b bs ih => unfold State.setSramBytes; simp [ih]
@[simp] theorem State.setSramBytes_bus (a : Nat) (bs : List Byte) : (s.setSramBytes a bs).bus = s.bus := by
  induction bs generalizing s a with
  | nil => rfl
  | cons b bs ih => unfold State.setSramBytes; simp [ih]
@[simp] theorem State.setSramBytes_host (a : Nat) (bs : List Byte) : (s.setSramBytes a bs).host = s.host := by
  induction bs generalizing s a with
  | nil => rfl
  | cons b bs ih => unfold State.setSramBytes; simp [ih]
@[simp] theorem State.setSramBytes_sb (a : Nat) (bs : List Byte) : (s.setSramBytes a bs).sb = s.sb := by
  induction bs generalizing s a with
  | nil => rfl
  | cons b bs ih => unfold State.setSramBytes; simp [ih]
@[simp] theorem State.setSramBytes_pins (a : Nat) (bs : List Byte) : (s.setSramBytes a bs).pins = s.pins := by
  induction bs generalizing s a with
  | nil => rfl
  | cons b bs ih => unfold State.setSramBytes; simp [ih]
@[simp] theorem State.setSramBytes_jtag (a : Nat) (bs : List Byte) : (s.setSramBytes a bs).jtag = s.jtag := by
  induction bs generalizing s a with
  | nil => rfl
  | cons b bs ih => unfold State.setSramBytes; simp [ih]

/-! ### State.setSramWord leaves all but sram -/

@[simp] theorem State.setSramWord_pending (a : Nat) (v : Word) : (s.setSramWord a v).pending = s.pending := by
  simp [State.setSramWord]
@[simp] theorem State.setSramWord_now (a : Nat) (v : Word) : (s.setSramWord a v).now = s.now := by
  simp [State.setSramWord]
@[simp] theorem State.setSramWord_regs (a : Nat) (v : Word) : (s.setSramWord a v).regs = s.regs := by
  simp [State.setSramWord]
@[simp] theorem State.setSramWord_nvm (a : Nat) (v : Word) : (s.setSramWord a v).nvm = s.nvm := by
  simp [State.setSramWord]
@[simp] theorem State.setSramWord_freeIdx (a : Nat) (v : Word) : (s.setSramWord a v).freeIdx = s.freeIdx := by
  simp [State.setSramWord]
@[simp] theorem State.setSramWord_tick0 (a : Nat) (v : Word) : (s.setSramWord a v).tick0 = s.tick0 := by
  simp [State.setSramWord]
@[simp] theorem State.setSramWord_beat (a : Nat) (v : Word) : (s.setSramWord a v).beat = s.beat := by
  simp [State.setSramWord]
@[simp] theorem State.setSramWord_evq (a : Nat) (v : Word) : (s.setSramWord a v).evq = s.evq := by
  simp [State.setSramWord]
@[simp] theorem State.setSramWord_lastStatus (a : Nat) (v : Word) : (s.setSramWord a v).lastStatus = s.lastStatus := by
  simp [State.setSramWord]
@[simp] theorem State.setSramWord_lastRead (a : Nat) (v : Word) : (s.setSramWord a v).lastRead = s.lastRead := by
  simp [State.setSramWord]
@[simp] theorem State.setSramWord_irqc (a : Nat) (v : Word) : (s.setSramWord a v).irqc = s.irqc := by
  simp [State.setSramWord]
@[simp] theorem State.setSramWord_log (a : Nat) (v : Word) : (s.setSramWord a v).log = s.log := by
  simp [State.setSramWord]
@[simp] theorem State.setSramWord_nvmc (a : Nat) (v : Word) : (s.setSramWord a v).nvmc = s.nvmc := by
  simp [State.setSramWord]
@[simp] theorem State.setSramWord_pwr (a : Nat) (v : Word) : (s.setSramWord a v).pwr = s.pwr := by
  simp [State.setSramWord]
@[simp] theorem State.setSramWord_cmp (a : Nat) (v : Word) : (s.setSramWord a v).cmp = s.cmp := by
  simp [State.setSramWord]
@[simp] theorem State.setSramWord_cps (a : Nat) (v : Word) : (s.setSramWord a v).cps = s.cps := by
  simp [State.setSramWord]
@[simp] theorem State.setSramWord_adc (a : Nat) (v : Word) : (s.setSramWord a v).adc = s.adc := by
  simp [State.setSramWord]
@[simp] theorem State.setSramWord_resamp (a : Nat) (v : Word) : (s.setSramWord a v).resamp = s.resamp := by
  simp [State.setSramWord]
@[simp] theorem State.setSramWord_cht (a : Nat) (v : Word) : (s.setSramWord a v).cht = s.cht := by
  simp [State.setSramWord]
@[simp] theorem State.setSramWord_qdl (a : Nat) (v : Word) : (s.setSramWord a v).qdl = s.qdl := by
  simp [State.setSramWord]
@[simp] theorem State.setSramWord_ctl (a : Nat) (v : Word) : (s.setSramWord a v).ctl = s.ctl := by
  simp [State.setSramWord]
@[simp] theorem State.setSramWord_spec (a : Nat) (v : Word) : (s.setSramWord a v).spec = s.spec := by
  simp [State.setSramWord]
@[simp] theorem State.setSramWord_dma (a : Nat) (v : Word) : (s.setSramWord a v).dma = s.dma := by
  simp [State.setSramWord]
@[simp] theorem State.setSramWord_mode (a : Nat) (v : Word) : (s.setSramWord a v).mode = s.mode := by
  simp [State.setSramWord]
@[simp] theorem State.setSramWord_pwm (a : Nat) (v : Word) : (s.setSramWord a v).pwm = s.pwm := by
  simp [State.setSramWord]
@[simp] theorem State.setSramWord_gd (a : Nat) (v : Word) : (s.setSramWord a v).gd = s.gd := by
  simp [State.setSramWord]
@[simp] theorem State.setSramWord_prot (a : Nat) (v : Word) : (s.setSramWord a v).prot = s.prot := by
  simp [State.setSramWord]
@[simp] theorem State.setSramWord_safe (a : Nat) (v : Word) : (s.setSramWord a v).safe = s.safe := by
  simp [State.setSramWord]
@[simp] theorem State.setSramWord_rly (a : Nat) (v : Word) : (s.setSramWord a v).rly = s.rly := by
  simp [State.setSramWord]
@[simp] theorem State.setSramWord_met (a : Nat) (v : Word) : (s.setSramWord a v).met = s.met := by
  simp [State.setSramWord]
@[simp] theorem State.setSramWord_hrm (a : Nat) (v : Word) : (s.setSramWord a v).hrm = s.hrm := by
  simp [State.setSramWord]
@[simp] theorem State.setSramWord_hsw (a : Nat) (v : Word) : (s.setSramWord a v).hsw = s.hsw := by
  simp [State.setSramWord]
@[simp] theorem State.setSramWord_ctx (a : Nat) (v : Word) : (s.setSramWord a v).ctx = s.ctx := by
  simp [State.setSramWord]
@[simp] theorem State.setSramWord_ldg (a : Nat) (v : Word) : (s.setSramWord a v).ldg = s.ldg := by
  simp [State.setSramWord]
@[simp] theorem State.setSramWord_bus (a : Nat) (v : Word) : (s.setSramWord a v).bus = s.bus := by
  simp [State.setSramWord]
@[simp] theorem State.setSramWord_host (a : Nat) (v : Word) : (s.setSramWord a v).host = s.host := by
  simp [State.setSramWord]
@[simp] theorem State.setSramWord_sb (a : Nat) (v : Word) : (s.setSramWord a v).sb = s.sb := by
  simp [State.setSramWord]
@[simp] theorem State.setSramWord_pins (a : Nat) (v : Word) : (s.setSramWord a v).pins = s.pins := by
  simp [State.setSramWord]
@[simp] theorem State.setSramWord_jtag (a : Nat) (v : Word) : (s.setSramWord a v).jtag = s.jtag := by
  simp [State.setSramWord]

/-! ### State.setSramWords leaves all but sram -/

@[simp] theorem State.setSramWords_pending (a : Nat) (bs : List Word) : (s.setSramWords a bs).pending = s.pending := by
  induction bs generalizing s a with
  | nil => rfl
  | cons b bs ih => unfold State.setSramWords; simp [ih]
@[simp] theorem State.setSramWords_now (a : Nat) (bs : List Word) : (s.setSramWords a bs).now = s.now := by
  induction bs generalizing s a with
  | nil => rfl
  | cons b bs ih => unfold State.setSramWords; simp [ih]
@[simp] theorem State.setSramWords_regs (a : Nat) (bs : List Word) : (s.setSramWords a bs).regs = s.regs := by
  induction bs generalizing s a with
  | nil => rfl
  | cons b bs ih => unfold State.setSramWords; simp [ih]
@[simp] theorem State.setSramWords_nvm (a : Nat) (bs : List Word) : (s.setSramWords a bs).nvm = s.nvm := by
  induction bs generalizing s a with
  | nil => rfl
  | cons b bs ih => unfold State.setSramWords; simp [ih]
@[simp] theorem State.setSramWords_freeIdx (a : Nat) (bs : List Word) : (s.setSramWords a bs).freeIdx = s.freeIdx := by
  induction bs generalizing s a with
  | nil => rfl
  | cons b bs ih => unfold State.setSramWords; simp [ih]
@[simp] theorem State.setSramWords_tick0 (a : Nat) (bs : List Word) : (s.setSramWords a bs).tick0 = s.tick0 := by
  induction bs generalizing s a with
  | nil => rfl
  | cons b bs ih => unfold State.setSramWords; simp [ih]
@[simp] theorem State.setSramWords_beat (a : Nat) (bs : List Word) : (s.setSramWords a bs).beat = s.beat := by
  induction bs generalizing s a with
  | nil => rfl
  | cons b bs ih => unfold State.setSramWords; simp [ih]
@[simp] theorem State.setSramWords_evq (a : Nat) (bs : List Word) : (s.setSramWords a bs).evq = s.evq := by
  induction bs generalizing s a with
  | nil => rfl
  | cons b bs ih => unfold State.setSramWords; simp [ih]
@[simp] theorem State.setSramWords_lastStatus (a : Nat) (bs : List Word) : (s.setSramWords a bs).lastStatus = s.lastStatus := by
  induction bs generalizing s a with
  | nil => rfl
  | cons b bs ih => unfold State.setSramWords; simp [ih]
@[simp] theorem State.setSramWords_lastRead (a : Nat) (bs : List Word) : (s.setSramWords a bs).lastRead = s.lastRead := by
  induction bs generalizing s a with
  | nil => rfl
  | cons b bs ih => unfold State.setSramWords; simp [ih]
@[simp] theorem State.setSramWords_irqc (a : Nat) (bs : List Word) : (s.setSramWords a bs).irqc = s.irqc := by
  induction bs generalizing s a with
  | nil => rfl
  | cons b bs ih => unfold State.setSramWords; simp [ih]
@[simp] theorem State.setSramWords_log (a : Nat) (bs : List Word) : (s.setSramWords a bs).log = s.log := by
  induction bs generalizing s a with
  | nil => rfl
  | cons b bs ih => unfold State.setSramWords; simp [ih]
@[simp] theorem State.setSramWords_nvmc (a : Nat) (bs : List Word) : (s.setSramWords a bs).nvmc = s.nvmc := by
  induction bs generalizing s a with
  | nil => rfl
  | cons b bs ih => unfold State.setSramWords; simp [ih]
@[simp] theorem State.setSramWords_pwr (a : Nat) (bs : List Word) : (s.setSramWords a bs).pwr = s.pwr := by
  induction bs generalizing s a with
  | nil => rfl
  | cons b bs ih => unfold State.setSramWords; simp [ih]
@[simp] theorem State.setSramWords_cmp (a : Nat) (bs : List Word) : (s.setSramWords a bs).cmp = s.cmp := by
  induction bs generalizing s a with
  | nil => rfl
  | cons b bs ih => unfold State.setSramWords; simp [ih]
@[simp] theorem State.setSramWords_cps (a : Nat) (bs : List Word) : (s.setSramWords a bs).cps = s.cps := by
  induction bs generalizing s a with
  | nil => rfl
  | cons b bs ih => unfold State.setSramWords; simp [ih]
@[simp] theorem State.setSramWords_adc (a : Nat) (bs : List Word) : (s.setSramWords a bs).adc = s.adc := by
  induction bs generalizing s a with
  | nil => rfl
  | cons b bs ih => unfold State.setSramWords; simp [ih]
@[simp] theorem State.setSramWords_resamp (a : Nat) (bs : List Word) : (s.setSramWords a bs).resamp = s.resamp := by
  induction bs generalizing s a with
  | nil => rfl
  | cons b bs ih => unfold State.setSramWords; simp [ih]
@[simp] theorem State.setSramWords_cht (a : Nat) (bs : List Word) : (s.setSramWords a bs).cht = s.cht := by
  induction bs generalizing s a with
  | nil => rfl
  | cons b bs ih => unfold State.setSramWords; simp [ih]
@[simp] theorem State.setSramWords_qdl (a : Nat) (bs : List Word) : (s.setSramWords a bs).qdl = s.qdl := by
  induction bs generalizing s a with
  | nil => rfl
  | cons b bs ih => unfold State.setSramWords; simp [ih]
@[simp] theorem State.setSramWords_ctl (a : Nat) (bs : List Word) : (s.setSramWords a bs).ctl = s.ctl := by
  induction bs generalizing s a with
  | nil => rfl
  | cons b bs ih => unfold State.setSramWords; simp [ih]
@[simp] theorem State.setSramWords_spec (a : Nat) (bs : List Word) : (s.setSramWords a bs).spec = s.spec := by
  induction bs generalizing s a with
  | nil => rfl
  | cons b bs ih => unfold State.setSramWords; simp [ih]
@[simp] theorem State.setSramWords_dma (a : Nat) (bs : List Word) : (s.setSramWords a bs).dma = s.dma := by
  induction bs generalizing s a with
  | nil => rfl
  | cons b bs ih => unfold State.setSramWords; simp [ih]
@[simp] theorem State.setSramWords_mode (a : Nat) (bs : List Word) : (s.setSramWords a bs).mode = s.mode := by
  induction bs generalizing s a with
  | nil => rfl
  | cons b bs ih => unfold State.setSramWords; simp [ih]
@[simp] theorem State.setSramWords_pwm (a : Nat) (bs : List Word) : (s.setSramWords a bs).pwm = s.pwm := by
  induction bs generalizing s a with
  | nil => rfl
  | cons b bs ih => unfold State.setSramWords; simp [ih]
@[simp] theorem State.setSramWords_gd (a : Nat) (bs : List Word) : (s.setSramWords a bs).gd = s.gd := by
  induction bs generalizing s a with
  | nil => rfl
  | cons b bs ih => unfold State.setSramWords; simp [ih]
@[simp] theorem State.setSramWords_prot (a : Nat) (bs : List Word) : (s.setSramWords a bs).prot = s.prot := by
  induction bs generalizing s a with
  | nil => rfl
  | cons b bs ih => unfold State.setSramWords; simp [ih]
@[simp] theorem State.setSramWords_safe (a : Nat) (bs : List Word) : (s.setSramWords a bs).safe = s.safe := by
  induction bs generalizing s a with
  | nil => rfl
  | cons b bs ih => unfold State.setSramWords; simp [ih]
@[simp] theorem State.setSramWords_rly (a : Nat) (bs : List Word) : (s.setSramWords a bs).rly = s.rly := by
  induction bs generalizing s a with
  | nil => rfl
  | cons b bs ih => unfold State.setSramWords; simp [ih]
@[simp] theorem State.setSramWords_met (a : Nat) (bs : List Word) : (s.setSramWords a bs).met = s.met := by
  induction bs generalizing s a with
  | nil => rfl
  | cons b bs ih => unfold State.setSramWords; simp [ih]
@[simp] theorem State.setSramWords_hrm (a : Nat) (bs : List Word) : (s.setSramWords a bs).hrm = s.hrm := by
  induction bs generalizing s a with
  | nil => rfl
  | cons b bs ih => unfold State.setSramWords; simp [ih]
@[simp] theorem State.setSramWords_hsw (a : Nat) (bs : List Word) : (s.setSramWords a bs).hsw = s.hsw := by
  induction bs generalizing s a with
  | nil => rfl
  | cons b bs ih => unfold State.setSramWords; simp [ih]
@[simp] theorem State.setSramWords_ctx (a : Nat) (bs : List Word) : (s.setSramWords a bs).ctx = s.ctx := by
  induction bs generalizing s a with
  | nil => rfl
  | cons b bs ih => unfold State.setSramWords; simp [ih]
@[simp] theorem State.setSramWords_ldg (a : Nat) (bs : List Word) : (s.setSramWords a bs).ldg = s.ldg := by
  induction bs generalizing s a with
  | nil => rfl
  | cons b bs ih => unfold State.setSramWords; simp [ih]
@[simp] theorem State.setSramWords_bus (a : Nat) (bs : List Word) : (s.setSramWords a bs).bus = s.bus := by
  induction bs generalizing s a with
  | nil => rfl
  | cons b bs ih => unfold State.setSramWords; simp [ih]
@[simp] theorem State.setSramWords_host (a : Nat) (bs : List Word) : (s.setSramWords a bs).host = s.host := by
  induction bs generalizing s a with
  | nil => rfl
  | cons b bs ih => unfold State.setSramWords; simp [ih]
@[simp] theorem State.setSramWords_sb (a : Nat) (bs : List Word) : (s.setSramWords a bs).sb = s.sb := by
  induction bs generalizing s a with
  | nil => rfl
  | cons b bs ih => unfold State.setSramWords; simp [ih]
@[simp] theorem State.setSramWords_pins (a : Nat) (bs : List Word) : (s.setSramWords a bs).pins = s.pins := by
  induction bs generalizing s a with
  | nil => rfl
  | cons b bs ih => unfold State.setSramWords; simp [ih]
@[simp] theorem State.setSramWords_jtag (a : Nat) (bs : List Word) : (s.setSramWords a bs).jtag = s.jtag := by
  induction bs generalizing s a with
  | nil => rfl
  | cons b bs ih => unfold State.setSramWords; simp [ih]

/-! ### State.nvmProgram leaves all but nvm -/

@[simp] theorem State.nvmProgram_pending (a : Nat) (bs : List Byte) : (s.nvmProgram a bs).pending = s.pending := by
  induction bs generalizing s a with
  | nil => rfl
  | cons b bs ih => unfold State.nvmProgram; simp [ih]
@[simp] theorem State.nvmProgram_now (a : Nat) (bs : List Byte) : (s.nvmProgram a bs).now = s.now := by
  induction bs generalizing s a with
  | nil => rfl
  | cons b bs ih => unfold State.nvmProgram; simp [ih]
@[simp] theorem State.nvmProgram_regs (a : Nat) (bs : List Byte) : (s.nvmProgram a bs).regs = s.regs := by
  induction bs generalizing s a with
  | nil => rfl
  | cons b bs ih => unfold State.nvmProgram; simp [ih]
@[simp] theorem State.nvmProgram_sram (a : Nat) (bs : List Byte) : (s.nvmProgram a bs).sram = s.sram := by
  induction bs generalizing s a with
  | nil => rfl
  | cons b bs ih => unfold State.nvmProgram; simp [ih]
@[simp] theorem State.nvmProgram_freeIdx (a : Nat) (bs : List Byte) : (s.nvmProgram a bs).freeIdx = s.freeIdx := by
  induction bs generalizing s a with
  | nil => rfl
  | cons b bs ih => unfold State.nvmProgram; simp [ih]
@[simp] theorem State.nvmProgram_tick0 (a : Nat) (bs : List Byte) : (s.nvmProgram a bs).tick0 = s.tick0 := by
  induction bs generalizing s a with
  | nil => rfl
  | cons b bs ih => unfold State.nvmProgram; simp [ih]
@[simp] theorem State.nvmProgram_beat (a : Nat) (bs : List Byte) : (s.nvmProgram a bs).beat = s.beat := by
  induction bs generalizing s a with
  | nil => rfl
  | cons b bs ih => unfold State.nvmProgram; simp [ih]
@[simp] theorem State.nvmProgram_evq (a : Nat) (bs : List Byte) : (s.nvmProgram a bs).evq = s.evq := by
  induction bs generalizing s a with
  | nil => rfl
  | cons b bs ih => unfold State.nvmProgram; simp [ih]
@[simp] theorem State.nvmProgram_lastStatus (a : Nat) (bs : List Byte) : (s.nvmProgram a bs).lastStatus = s.lastStatus := by
  induction bs generalizing s a with
  | nil => rfl
  | cons b bs ih => unfold State.nvmProgram; simp [ih]
@[simp] theorem State.nvmProgram_lastRead (a : Nat) (bs : List Byte) : (s.nvmProgram a bs).lastRead = s.lastRead := by
  induction bs generalizing s a with
  | nil => rfl
  | cons b bs ih => unfold State.nvmProgram; simp [ih]
@[simp] theorem State.nvmProgram_irqc (a : Nat) (bs : List Byte) : (s.nvmProgram a bs).irqc = s.irqc := by
  induction bs generalizing s a with
  | nil => rfl
  | cons b bs ih => unfold State.nvmProgram; simp [ih]
@[simp] theorem State.nvmProgram_log (a : Nat) (bs : List Byte) : (s.nvmProgram a bs).log = s.log := by
  induction bs generalizing s a with
  | nil => rfl
  | cons b bs ih => unfold State.nvmProgram; simp [ih]
@[simp] theorem State.nvmProgram_nvmc (a : Nat) (bs : List Byte) : (s.nvmProgram a bs).nvmc = s.nvmc := by
  induction bs generalizing s a with
  | nil => rfl
  | cons b bs ih => unfold State.nvmProgram; simp [ih]
@[simp] theorem State.nvmProgram_pwr (a : Nat) (bs : List Byte) : (s.nvmProgram a bs).pwr = s.pwr := by
  induction bs generalizing s a with
  | nil => rfl
  | cons b bs ih => unfold State.nvmProgram; simp [ih]
@[simp] theorem State.nvmProgram_cmp (a : Nat) (bs : List Byte) : (s.nvmProgram a bs).cmp = s.cmp := by
  induction bs generalizing s a with
  | nil => rfl
  | cons b bs ih => unfold State.nvmProgram; simp [ih]
@[simp] theorem State.nvmProgram_cps (a : Nat) (bs : List Byte) : (s.nvmProgram a bs).cps = s.cps := by
  induction bs generalizing s a with
  | nil => rfl
  | cons b bs ih => unfold State.nvmProgram; simp [ih]
@[simp] theorem State.nvmProgram_adc (a : Nat) (bs : List Byte) : (s.nvmProgram a bs).adc = s.adc := by
  induction bs generalizing s a with
  | nil => rfl
  | cons b bs ih => unfold State.nvmProgram; simp [ih]
@[simp] theorem State.nvmProgram_resamp (a : Nat) (bs : List Byte) : (s.nvmProgram a bs).resamp = s.resamp := by
  induction bs generalizing s a with
  | nil => rfl
  | cons b bs ih => unfold State.nvmProgram; simp [ih]
@[simp] theorem State.nvmProgram_cht (a : Nat) (bs : List Byte) : (s.nvmProgram a bs).cht = s.cht := by
  induction bs generalizing s a with
  | nil => rfl
  | cons b bs ih => unfold State.nvmProgram; simp [ih]
@[simp] theorem State.nvmProgram_qdl (a : Nat) (bs : List Byte) : (s.nvmProgram a bs).qdl = s.qdl := by
  induction bs generalizing s a with
  | nil => rfl
  | cons b bs ih => unfold State.nvmProgram; simp [ih]
@[simp] theorem State.nvmProgram_ctl (a : Nat) (bs : List Byte) : (s.nvmProgram a bs).ctl = s.ctl := by
  induction bs generalizing s a with
  | nil => rfl
  | cons b bs ih => unfold State.nvmProgram; simp [ih]
@[simp] theorem State.nvmProgram_spec (a : Nat) (bs : List Byte) : (s.nvmProgram a bs).spec = s.spec := by
  induction bs generalizing s a with
  | nil => rfl
  | cons b bs ih => unfold State.nvmProgram; simp [ih]
@[simp] theorem State.nvmProgram_dma (a : Nat) (bs : List Byte) : (s.nvmProgram a bs).dma = s.dma := by
  induction bs generalizing s a with
  | nil => rfl
  | cons b bs ih => unfold State.nvmProgram; simp [ih]
@[simp] theorem State.nvmProgram_mode (a : Nat) (bs : List Byte) : (s.nvmProgram a bs).mode = s.mode := by
  induction bs generalizing s a with
  | nil => rfl
  | cons b bs ih => unfold State.nvmProgram; simp [ih]
@[simp] theorem State.nvmProgram_pwm (a : Nat) (bs : List Byte) : (s.nvmProgram a bs).pwm = s.pwm := by
  induction bs generalizing s a with
  | nil => rfl
  | cons b bs ih => unfold State.nvmProgram; simp [ih]
@[simp] theorem State.nvmProgram_gd (a : Nat) (bs : List Byte) : (s.nvmProgram a bs).gd = s.gd := by
  induction bs generalizing s a with
  | nil => rfl
  | cons b bs ih => unfold State.nvmProgram; simp [ih]
@[simp] theorem State.nvmProgram_prot (a : Nat) (bs : List Byte) : (s.nvmProgram a bs).prot = s.prot := by
  induction bs generalizing s a with
  | nil => rfl
  | cons b bs ih => unfold State.nvmProgram; simp [ih]
@[simp] theorem State.nvmProgram_safe (a : Nat) (bs : List Byte) : (s.nvmProgram a bs).safe = s.safe := by
  induction bs generalizing s a with
  | nil => rfl
  | cons b bs ih => unfold State.nvmProgram; simp [ih]
@[simp] theorem State.nvmProgram_rly (a : Nat) (bs : List Byte) : (s.nvmProgram a bs).rly = s.rly := by
  induction bs generalizing s a with
  | nil => rfl
  | cons b bs ih => unfold State.nvmProgram; simp [ih]
@[simp] theorem State.nvmProgram_met (a : Nat) (bs : List Byte) : (s.nvmProgram a bs).met = s.met := by
  induction bs generalizing s a with
  | nil => rfl
  | cons b bs ih => unfold State.nvmProgram; simp [ih]
@[simp] theorem State.nvmProgram_hrm (a : Nat) (bs : List Byte) : (s.nvmProgram a bs).hrm = s.hrm := by
  induction bs generalizing s a with
  | nil => rfl
  | cons b bs ih => unfold State.nvmProgram; simp [ih]
@[simp] theorem State.nvmProgram_hsw (a : Nat) (bs : List Byte) : (s.nvmProgram a bs).hsw = s.hsw := by
  induction bs generalizing s a with
  | nil => rfl
  | cons b bs ih => unfold State.nvmProgram; simp [ih]
@[simp] theorem State.nvmProgram_ctx (a : Nat) (bs : List Byte) : (s.nvmProgram a bs).ctx = s.ctx := by
  induction bs generalizing s a with
  | nil => rfl
  | cons b bs ih => unfold State.nvmProgram; simp [ih]
@[simp] theorem State.nvmProgram_ldg (a : Nat) (bs : List Byte) : (s.nvmProgram a bs).ldg = s.ldg := by
  induction bs generalizing s a with
  | nil => rfl
  | cons b bs ih => unfold State.nvmProgram; simp [ih]
@[simp] theorem State.nvmProgram_bus (a : Nat) (bs : List Byte) : (s.nvmProgram a bs).bus = s.bus := by
  induction bs generalizing s a with
  | nil => rfl
  | cons b bs ih => unfold State.nvmProgram; simp [ih]
@[simp] theorem State.nvmProgram_host (a : Nat) (bs : List Byte) : (s.nvmProgram a bs).host = s.host := by
  induction bs generalizing s a with
  | nil => rfl
  | cons b bs ih => unfold State.nvmProgram; simp [ih]
@[simp] theorem State.nvmProgram_sb (a : Nat) (bs : List Byte) : (s.nvmProgram a bs).sb = s.sb := by
  induction bs generalizing s a with
  | nil => rfl
  | cons b bs ih => unfold State.nvmProgram; simp [ih]
@[simp] theorem State.nvmProgram_pins (a : Nat) (bs : List Byte) : (s.nvmProgram a bs).pins = s.pins := by
  induction bs generalizing s a with
  | nil => rfl
  | cons b bs ih => unfold State.nvmProgram; simp [ih]
@[simp] theorem State.nvmProgram_jtag (a : Nat) (bs : List Byte) : (s.nvmProgram a bs).jtag = s.jtag := by
  induction bs generalizing s a with
  | nil => rfl
  | cons b bs ih => unfold State.nvmProgram; simp [ih]

end Sys2Proof.Machine
end

