-- ==== Sys2Proof/Laws/Views.lean ====
section
/-! SUPPORT. What the views of the state make of the shared operations: registers, their fields and bits, and the domains that are
on, where an operation does not touch what a view reads. -/

namespace Sys2Proof.Machine

variable (s : State)

@[simp] theorem State.domOn_setReg (a : Nat) (v : Word) (q : Nat) : (s.setReg a v).domOn q = s.domOn q := by
  simp [State.domOn]
@[simp] theorem State.domReady_setReg (a : Nat) (v : Word) (q : Nat) : (s.setReg a v).domReady q = s.domReady q := by
  simp [State.domReady]
@[simp] theorem State.domOn_put (f : Field) (v : Nat) (q : Nat) : (s.put f v).domOn q = s.domOn q := by
  simp [State.domOn]
@[simp] theorem State.domReady_put (f : Field) (v : Nat) (q : Nat) : (s.put f v).domReady q = s.domReady q := by
  simp [State.domReady]
@[simp] theorem State.domOn_putI (f : Field) (v : Int) (q : Nat) : (s.putI f v).domOn q = s.domOn q := by
  simp [State.domOn]
@[simp] theorem State.domReady_putI (f : Field) (v : Int) (q : Nat) : (s.putI f v).domReady q = s.domReady q := by
  simp [State.domReady]
@[simp] theorem State.domOn_putFlag (f : Field) (v : Bool) (q : Nat) : (s.putFlag f v).domOn q = s.domOn q := by
  simp [State.domOn]
@[simp] theorem State.domReady_putFlag (f : Field) (v : Bool) (q : Nat) : (s.putFlag f v).domReady q = s.domReady q := by
  simp [State.domReady]
@[simp] theorem State.domOn_inc (f : Field) (q : Nat) : (s.inc f).domOn q = s.domOn q := by
  simp [State.domOn]
@[simp] theorem State.domReady_inc (f : Field) (q : Nat) : (s.inc f).domReady q = s.domReady q := by
  simp [State.domReady]
@[simp] theorem State.domOn_incSat (f : Field) (q : Nat) : (s.incSat f).domOn q = s.domOn q := by
  simp [State.domOn]
@[simp] theorem State.domReady_incSat (f : Field) (q : Nat) : (s.incSat f).domReady q = s.domReady q := by
  simp [State.domReady]
@[simp] theorem State.domOn_putBit (a b : Nat) (v : Bool) (q : Nat) : (s.putBit a b v).domOn q = s.domOn q := by
  simp [State.domOn]
@[simp] theorem State.domReady_putBit (a b : Nat) (v : Bool) (q : Nat) : (s.putBit a b v).domReady q = s.domReady q := by
  simp [State.domReady]
@[simp] theorem State.domOn_countWrite (p : Nat) (q : Nat) : (s.countWrite p).domOn q = s.domOn q := by
  simp [State.domOn]
@[simp] theorem State.domReady_countWrite (p : Nat) (q : Nat) : (s.countWrite p).domReady q = s.domReady q := by
  simp [State.domReady]
@[simp] theorem State.reg_setSramByte (a : Nat) (v : Byte) (q : Nat) : (s.setSramByte a v).reg q = s.reg q := by
  simp [State.reg]
@[simp] theorem State.get_setSramByte (a : Nat) (v : Byte) (q : Field) : (s.setSramByte a v).get q = s.get q := by
  simp [State.get]
@[simp] theorem State.getI_setSramByte (a : Nat) (v : Byte) (q : Field) : (s.setSramByte a v).getI q = s.getI q := by
  simp [State.getI]
@[simp] theorem State.flag_setSramByte (a : Nat) (v : Byte) (q : Field) : (s.setSramByte a v).flag q = s.flag q := by
  simp [State.flag]
@[simp] theorem State.bitOf_setSramByte (a : Nat) (v : Byte) (q y : Nat) : (s.setSramByte a v).bitOf q y = s.bitOf q y := by
  simp [State.bitOf]
@[simp] theorem State.pageEn_setSramByte (a : Nat) (v : Byte) (q : Nat) : (s.setSramByte a v).pageEn q = s.pageEn q := by
  simp [State.pageEn]
@[simp] theorem State.domOn_setSramByte (a : Nat) (v : Byte) (q : Nat) : (s.setSramByte a v).domOn q = s.domOn q := by
  simp [State.domOn]
@[simp] theorem State.domReady_setSramByte (a : Nat) (v : Byte) (q : Nat) : (s.setSramByte a v).domReady q = s.domReady q := by
  simp [State.domReady]
@[simp] theorem State.reg_setNvmByte (a : Nat) (v : Byte) (q : Nat) : (s.setNvmByte a v).reg q = s.reg q := by
  simp [State.reg]
@[simp] theorem State.get_setNvmByte (a : Nat) (v : Byte) (q : Field) : (s.setNvmByte a v).get q = s.get q := by
  simp [State.get]
@[simp] theorem State.getI_setNvmByte (a : Nat) (v : Byte) (q : Field) : (s.setNvmByte a v).getI q = s.getI q := by
  simp [State.getI]
@[simp] theorem State.flag_setNvmByte (a : Nat) (v : Byte) (q : Field) : (s.setNvmByte a v).flag q = s.flag q := by
  simp [State.flag]
@[simp] theorem State.bitOf_setNvmByte (a : Nat) (v : Byte) (q y : Nat) : (s.setNvmByte a v).bitOf q y = s.bitOf q y := by
  simp [State.bitOf]
@[simp] theorem State.pageEn_setNvmByte (a : Nat) (v : Byte) (q : Nat) : (s.setNvmByte a v).pageEn q = s.pageEn q := by
  simp [State.pageEn]
@[simp] theorem State.domOn_setNvmByte (a : Nat) (v : Byte) (q : Nat) : (s.setNvmByte a v).domOn q = s.domOn q := by
  simp [State.domOn]
@[simp] theorem State.domReady_setNvmByte (a : Nat) (v : Byte) (q : Nat) : (s.setNvmByte a v).domReady q = s.domReady q := by
  simp [State.domReady]
@[simp] theorem State.reg_nvmEraseIf (p : Nat → Bool) (q : Nat) : (s.nvmEraseIf p).reg q = s.reg q := by
  simp [State.reg]
@[simp] theorem State.get_nvmEraseIf (p : Nat → Bool) (q : Field) : (s.nvmEraseIf p).get q = s.get q := by
  simp [State.get]
@[simp] theorem State.getI_nvmEraseIf (p : Nat → Bool) (q : Field) : (s.nvmEraseIf p).getI q = s.getI q := by
  simp [State.getI]
@[simp] theorem State.flag_nvmEraseIf (p : Nat → Bool) (q : Field) : (s.nvmEraseIf p).flag q = s.flag q := by
  simp [State.flag]
@[simp] theorem State.bitOf_nvmEraseIf (p : Nat → Bool) (q y : Nat) : (s.nvmEraseIf p).bitOf q y = s.bitOf q y := by
  simp [State.bitOf]
@[simp] theorem State.pageEn_nvmEraseIf (p : Nat → Bool) (q : Nat) : (s.nvmEraseIf p).pageEn q = s.pageEn q := by
  simp [State.pageEn]
@[simp] theorem State.domOn_nvmEraseIf (p : Nat → Bool) (q : Nat) : (s.nvmEraseIf p).domOn q = s.domOn q := by
  simp [State.domOn]
@[simp] theorem State.domReady_nvmEraseIf (p : Nat → Bool) (q : Nat) : (s.nvmEraseIf p).domReady q = s.domReady q := by
  simp [State.domReady]
@[simp] theorem State.reg_pulseIn (k e : Nat) (q : Nat) : (s.pulseIn k e).reg q = s.reg q := by
  simp [State.reg]
@[simp] theorem State.get_pulseIn (k e : Nat) (q : Field) : (s.pulseIn k e).get q = s.get q := by
  simp [State.get]
@[simp] theorem State.getI_pulseIn (k e : Nat) (q : Field) : (s.pulseIn k e).getI q = s.getI q := by
  simp [State.getI]
@[simp] theorem State.flag_pulseIn (k e : Nat) (q : Field) : (s.pulseIn k e).flag q = s.flag q := by
  simp [State.flag]
@[simp] theorem State.bitOf_pulseIn (k e : Nat) (q y : Nat) : (s.pulseIn k e).bitOf q y = s.bitOf q y := by
  simp [State.bitOf]
@[simp] theorem State.pageEn_pulseIn (k e : Nat) (q : Nat) : (s.pulseIn k e).pageEn q = s.pageEn q := by
  simp [State.pageEn]
@[simp] theorem State.domOn_pulseIn (k e : Nat) (q : Nat) : (s.pulseIn k e).domOn q = s.domOn q := by
  simp [State.domOn]
@[simp] theorem State.domReady_pulseIn (k e : Nat) (q : Nat) : (s.pulseIn k e).domReady q = s.domReady q := by
  simp [State.domReady]
@[simp] theorem State.reg_pulse (e : Nat) (q : Nat) : (s.pulse e).reg q = s.reg q := by
  simp [State.reg]
@[simp] theorem State.get_pulse (e : Nat) (q : Field) : (s.pulse e).get q = s.get q := by
  simp [State.get]
@[simp] theorem State.getI_pulse (e : Nat) (q : Field) : (s.pulse e).getI q = s.getI q := by
  simp [State.getI]
@[simp] theorem State.flag_pulse (e : Nat) (q : Field) : (s.pulse e).flag q = s.flag q := by
  simp [State.flag]
@[simp] theorem State.bitOf_pulse (e : Nat) (q y : Nat) : (s.pulse e).bitOf q y = s.bitOf q y := by
  simp [State.bitOf]
@[simp] theorem State.pageEn_pulse (e : Nat) (q : Nat) : (s.pulse e).pageEn q = s.pageEn q := by
  simp [State.pageEn]
@[simp] theorem State.domOn_pulse (e : Nat) (q : Nat) : (s.pulse e).domOn q = s.domOn q := by
  simp [State.domOn]
@[simp] theorem State.domReady_pulse (e : Nat) (q : Nat) : (s.pulse e).domReady q = s.domReady q := by
  simp [State.domReady]
@[simp] theorem State.reg_setLog (l : LogSt) (q : Nat) : (s.setLog l).reg q = s.reg q := by
  simp [State.reg]
@[simp] theorem State.get_setLog (l : LogSt) (q : Field) : (s.setLog l).get q = s.get q := by
  simp [State.get]
@[simp] theorem State.getI_setLog (l : LogSt) (q : Field) : (s.setLog l).getI q = s.getI q := by
  simp [State.getI]
@[simp] theorem State.flag_setLog (l : LogSt) (q : Field) : (s.setLog l).flag q = s.flag q := by
  simp [State.flag]
@[simp] theorem State.bitOf_setLog (l : LogSt) (q y : Nat) : (s.setLog l).bitOf q y = s.bitOf q y := by
  simp [State.bitOf]
@[simp] theorem State.pageEn_setLog (l : LogSt) (q : Nat) : (s.setLog l).pageEn q = s.pageEn q := by
  simp [State.pageEn]
@[simp] theorem State.domOn_setLog (l : LogSt) (q : Nat) : (s.setLog l).domOn q = s.domOn q := by
  simp [State.domOn]
@[simp] theorem State.domReady_setLog (l : LogSt) (q : Nat) : (s.setLog l).domReady q = s.domReady q := by
  simp [State.domReady]
@[simp] theorem State.reg_modAdc (n : Nat) (f : AdcCh → AdcCh) (q : Nat) : (s.modAdc n f).reg q = s.reg q := by
  simp [State.reg]
@[simp] theorem State.get_modAdc (n : Nat) (f : AdcCh → AdcCh) (q : Field) : (s.modAdc n f).get q = s.get q := by
  simp [State.get]
@[simp] theorem State.getI_modAdc (n : Nat) (f : AdcCh → AdcCh) (q : Field) : (s.modAdc n f).getI q = s.getI q := by
  simp [State.getI]
@[simp] theorem State.flag_modAdc (n : Nat) (f : AdcCh → AdcCh) (q : Field) : (s.modAdc n f).flag q = s.flag q := by
  simp [State.flag]
@[simp] theorem State.bitOf_modAdc (n : Nat) (f : AdcCh → AdcCh) (q y : Nat) : (s.modAdc n f).bitOf q y = s.bitOf q y := by
  simp [State.bitOf]
@[simp] theorem State.pageEn_modAdc (n : Nat) (f : AdcCh → AdcCh) (q : Nat) : (s.modAdc n f).pageEn q = s.pageEn q := by
  simp [State.pageEn]
@[simp] theorem State.domOn_modAdc (n : Nat) (f : AdcCh → AdcCh) (q : Nat) : (s.modAdc n f).domOn q = s.domOn q := by
  simp [State.domOn]
@[simp] theorem State.domReady_modAdc (n : Nat) (f : AdcCh → AdcCh) (q : Nat) : (s.modAdc n f).domReady q = s.domReady q := by
  simp [State.domReady]
@[simp] theorem State.reg_modCmp (n : Nat) (f : CmpCh → CmpCh) (q : Nat) : (s.modCmp n f).reg q = s.reg q := by
  simp [State.reg]
@[simp] theorem State.get_modCmp (n : Nat) (f : CmpCh → CmpCh) (q : Field) : (s.modCmp n f).get q = s.get q := by
  simp [State.get]
@[simp] theorem State.getI_modCmp (n : Nat) (f : CmpCh → CmpCh) (q : Field) : (s.modCmp n f).getI q = s.getI q := by
  simp [State.getI]
@[simp] theorem State.flag_modCmp (n : Nat) (f : CmpCh → CmpCh) (q : Field) : (s.modCmp n f).flag q = s.flag q := by
  simp [State.flag]
@[simp] theorem State.bitOf_modCmp (n : Nat) (f : CmpCh → CmpCh) (q y : Nat) : (s.modCmp n f).bitOf q y = s.bitOf q y := by
  simp [State.bitOf]
@[simp] theorem State.pageEn_modCmp (n : Nat) (f : CmpCh → CmpCh) (q : Nat) : (s.modCmp n f).pageEn q = s.pageEn q := by
  simp [State.pageEn]
@[simp] theorem State.domOn_modCmp (n : Nat) (f : CmpCh → CmpCh) (q : Nat) : (s.modCmp n f).domOn q = s.domOn q := by
  simp [State.domOn]
@[simp] theorem State.domReady_modCmp (n : Nat) (f : CmpCh → CmpCh) (q : Nat) : (s.modCmp n f).domReady q = s.domReady q := by
  simp [State.domReady]
@[simp] theorem State.reg_modCps (f : CpsSt → CpsSt) (q : Nat) : (s.modCps f).reg q = s.reg q := by
  simp [State.reg]
@[simp] theorem State.get_modCps (f : CpsSt → CpsSt) (q : Field) : (s.modCps f).get q = s.get q := by
  simp [State.get]
@[simp] theorem State.getI_modCps (f : CpsSt → CpsSt) (q : Field) : (s.modCps f).getI q = s.getI q := by
  simp [State.getI]
@[simp] theorem State.flag_modCps (f : CpsSt → CpsSt) (q : Field) : (s.modCps f).flag q = s.flag q := by
  simp [State.flag]
@[simp] theorem State.bitOf_modCps (f : CpsSt → CpsSt) (q y : Nat) : (s.modCps f).bitOf q y = s.bitOf q y := by
  simp [State.bitOf]
@[simp] theorem State.pageEn_modCps (f : CpsSt → CpsSt) (q : Nat) : (s.modCps f).pageEn q = s.pageEn q := by
  simp [State.pageEn]
@[simp] theorem State.domOn_modCps (f : CpsSt → CpsSt) (q : Nat) : (s.modCps f).domOn q = s.domOn q := by
  simp [State.domOn]
@[simp] theorem State.domReady_modCps (f : CpsSt → CpsSt) (q : Nat) : (s.modCps f).domReady q = s.domReady q := by
  simp [State.domReady]
@[simp] theorem State.reg_modStep (n : Nat) (f : StepRec → StepRec) (q : Nat) : (s.modStep n f).reg q = s.reg q := by
  simp [State.reg]
@[simp] theorem State.get_modStep (n : Nat) (f : StepRec → StepRec) (q : Field) : (s.modStep n f).get q = s.get q := by
  simp [State.get]
@[simp] theorem State.getI_modStep (n : Nat) (f : StepRec → StepRec) (q : Field) : (s.modStep n f).getI q = s.getI q := by
  simp [State.getI]
@[simp] theorem State.flag_modStep (n : Nat) (f : StepRec → StepRec) (q : Field) : (s.modStep n f).flag q = s.flag q := by
  simp [State.flag]
@[simp] theorem State.bitOf_modStep (n : Nat) (f : StepRec → StepRec) (q y : Nat) : (s.modStep n f).bitOf q y = s.bitOf q y := by
  simp [State.bitOf]
@[simp] theorem State.pageEn_modStep (n : Nat) (f : StepRec → StepRec) (q : Nat) : (s.modStep n f).pageEn q = s.pageEn q := by
  simp [State.pageEn]
@[simp] theorem State.domOn_modStep (n : Nat) (f : StepRec → StepRec) (q : Nat) : (s.modStep n f).domOn q = s.domOn q := by
  simp [State.domOn]
@[simp] theorem State.domReady_modStep (n : Nat) (f : StepRec → StepRec) (q : Nat) : (s.modStep n f).domReady q = s.domReady q := by
  simp [State.domReady]
@[simp] theorem State.reg_setCtlVar (n : Nat) (x : F32) (q : Nat) : (s.setCtlVar n x).reg q = s.reg q := by
  simp [State.reg]
@[simp] theorem State.get_setCtlVar (n : Nat) (x : F32) (q : Field) : (s.setCtlVar n x).get q = s.get q := by
  simp [State.get]
@[simp] theorem State.getI_setCtlVar (n : Nat) (x : F32) (q : Field) : (s.setCtlVar n x).getI q = s.getI q := by
  simp [State.getI]
@[simp] theorem State.flag_setCtlVar (n : Nat) (x : F32) (q : Field) : (s.setCtlVar n x).flag q = s.flag q := by
  simp [State.flag]
@[simp] theorem State.bitOf_setCtlVar (n : Nat) (x : F32) (q y : Nat) : (s.setCtlVar n x).bitOf q y = s.bitOf q y := by
  simp [State.bitOf]
@[simp] theorem State.pageEn_setCtlVar (n : Nat) (x : F32) (q : Nat) : (s.setCtlVar n x).pageEn q = s.pageEn q := by
  simp [State.pageEn]
@[simp] theorem State.domOn_setCtlVar (n : Nat) (x : F32) (q : Nat) : (s.setCtlVar n x).domOn q = s.domOn q := by
  simp [State.domOn]
@[simp] theorem State.domReady_setCtlVar (n : Nat) (x : F32) (q : Nat) : (s.setCtlVar n x).domReady q = s.domReady q := by
  simp [State.domReady]
@[simp] theorem State.reg_modDma (n : Nat) (f : DmaCh → DmaCh) (q : Nat) : (s.modDma n f).reg q = s.reg q := by
  simp [State.reg]
@[simp] theorem State.get_modDma (n : Nat) (f : DmaCh → DmaCh) (q : Field) : (s.modDma n f).get q = s.get q := by
  simp [State.get]
@[simp] theorem State.getI_modDma (n : Nat) (f : DmaCh → DmaCh) (q : Field) : (s.modDma n f).getI q = s.getI q := by
  simp [State.getI]
@[simp] theorem State.flag_modDma (n : Nat) (f : DmaCh → DmaCh) (q : Field) : (s.modDma n f).flag q = s.flag q := by
  simp [State.flag]
@[simp] theorem State.bitOf_modDma (n : Nat) (f : DmaCh → DmaCh) (q y : Nat) : (s.modDma n f).bitOf q y = s.bitOf q y := by
  simp [State.bitOf]
@[simp] theorem State.pageEn_modDma (n : Nat) (f : DmaCh → DmaCh) (q : Nat) : (s.modDma n f).pageEn q = s.pageEn q := by
  simp [State.pageEn]
@[simp] theorem State.domOn_modDma (n : Nat) (f : DmaCh → DmaCh) (q : Nat) : (s.modDma n f).domOn q = s.domOn q := by
  simp [State.domOn]
@[simp] theorem State.domReady_modDma (n : Nat) (f : DmaCh → DmaCh) (q : Nat) : (s.modDma n f).domReady q = s.domReady q := by
  simp [State.domReady]
@[simp] theorem State.reg_modGd (n : Nat) (f : GdLeg → GdLeg) (q : Nat) : (s.modGd n f).reg q = s.reg q := by
  simp [State.reg]
@[simp] theorem State.get_modGd (n : Nat) (f : GdLeg → GdLeg) (q : Field) : (s.modGd n f).get q = s.get q := by
  simp [State.get]
@[simp] theorem State.getI_modGd (n : Nat) (f : GdLeg → GdLeg) (q : Field) : (s.modGd n f).getI q = s.getI q := by
  simp [State.getI]
@[simp] theorem State.flag_modGd (n : Nat) (f : GdLeg → GdLeg) (q : Field) : (s.modGd n f).flag q = s.flag q := by
  simp [State.flag]
@[simp] theorem State.bitOf_modGd (n : Nat) (f : GdLeg → GdLeg) (q y : Nat) : (s.modGd n f).bitOf q y = s.bitOf q y := by
  simp [State.bitOf]
@[simp] theorem State.pageEn_modGd (n : Nat) (f : GdLeg → GdLeg) (q : Nat) : (s.modGd n f).pageEn q = s.pageEn q := by
  simp [State.pageEn]
@[simp] theorem State.domOn_modGd (n : Nat) (f : GdLeg → GdLeg) (q : Nat) : (s.modGd n f).domOn q = s.domOn q := by
  simp [State.domOn]
@[simp] theorem State.domReady_modGd (n : Nat) (f : GdLeg → GdLeg) (q : Nat) : (s.modGd n f).domReady q = s.domReady q := by
  simp [State.domReady]
@[simp] theorem State.reg_modPwm (n : Nat) (f : PwmLeg → PwmLeg) (q : Nat) : (s.modPwm n f).reg q = s.reg q := by
  simp [State.reg]
@[simp] theorem State.get_modPwm (n : Nat) (f : PwmLeg → PwmLeg) (q : Field) : (s.modPwm n f).get q = s.get q := by
  simp [State.get]
@[simp] theorem State.getI_modPwm (n : Nat) (f : PwmLeg → PwmLeg) (q : Field) : (s.modPwm n f).getI q = s.getI q := by
  simp [State.getI]
@[simp] theorem State.flag_modPwm (n : Nat) (f : PwmLeg → PwmLeg) (q : Field) : (s.modPwm n f).flag q = s.flag q := by
  simp [State.flag]
@[simp] theorem State.bitOf_modPwm (n : Nat) (f : PwmLeg → PwmLeg) (q y : Nat) : (s.modPwm n f).bitOf q y = s.bitOf q y := by
  simp [State.bitOf]
@[simp] theorem State.pageEn_modPwm (n : Nat) (f : PwmLeg → PwmLeg) (q : Nat) : (s.modPwm n f).pageEn q = s.pageEn q := by
  simp [State.pageEn]
@[simp] theorem State.domOn_modPwm (n : Nat) (f : PwmLeg → PwmLeg) (q : Nat) : (s.modPwm n f).domOn q = s.domOn q := by
  simp [State.domOn]
@[simp] theorem State.domReady_modPwm (n : Nat) (f : PwmLeg → PwmLeg) (q : Nat) : (s.modPwm n f).domReady q = s.domReady q := by
  simp [State.domReady]
@[simp] theorem State.reg_modHsw (n : Nat) (f : HswCh → HswCh) (q : Nat) : (s.modHsw n f).reg q = s.reg q := by
  simp [State.reg]
@[simp] theorem State.get_modHsw (n : Nat) (f : HswCh → HswCh) (q : Field) : (s.modHsw n f).get q = s.get q := by
  simp [State.get]
@[simp] theorem State.getI_modHsw (n : Nat) (f : HswCh → HswCh) (q : Field) : (s.modHsw n f).getI q = s.getI q := by
  simp [State.getI]
@[simp] theorem State.flag_modHsw (n : Nat) (f : HswCh → HswCh) (q : Field) : (s.modHsw n f).flag q = s.flag q := by
  simp [State.flag]
@[simp] theorem State.bitOf_modHsw (n : Nat) (f : HswCh → HswCh) (q y : Nat) : (s.modHsw n f).bitOf q y = s.bitOf q y := by
  simp [State.bitOf]
@[simp] theorem State.pageEn_modHsw (n : Nat) (f : HswCh → HswCh) (q : Nat) : (s.modHsw n f).pageEn q = s.pageEn q := by
  simp [State.pageEn]
@[simp] theorem State.domOn_modHsw (n : Nat) (f : HswCh → HswCh) (q : Nat) : (s.modHsw n f).domOn q = s.domOn q := by
  simp [State.domOn]
@[simp] theorem State.domReady_modHsw (n : Nat) (f : HswCh → HswCh) (q : Nat) : (s.modHsw n f).domReady q = s.domReady q := by
  simp [State.domReady]
@[simp] theorem State.reg_modCmd (n : Nat) (f : Cmd → Cmd) (q : Nat) : (s.modCmd n f).reg q = s.reg q := by
  simp [State.reg]
@[simp] theorem State.get_modCmd (n : Nat) (f : Cmd → Cmd) (q : Field) : (s.modCmd n f).get q = s.get q := by
  simp [State.get]
@[simp] theorem State.getI_modCmd (n : Nat) (f : Cmd → Cmd) (q : Field) : (s.modCmd n f).getI q = s.getI q := by
  simp [State.getI]
@[simp] theorem State.flag_modCmd (n : Nat) (f : Cmd → Cmd) (q : Field) : (s.modCmd n f).flag q = s.flag q := by
  simp [State.flag]
@[simp] theorem State.bitOf_modCmd (n : Nat) (f : Cmd → Cmd) (q y : Nat) : (s.modCmd n f).bitOf q y = s.bitOf q y := by
  simp [State.bitOf]
@[simp] theorem State.pageEn_modCmd (n : Nat) (f : Cmd → Cmd) (q : Nat) : (s.modCmd n f).pageEn q = s.pageEn q := by
  simp [State.pageEn]
@[simp] theorem State.domOn_modCmd (n : Nat) (f : Cmd → Cmd) (q : Nat) : (s.modCmd n f).domOn q = s.domOn q := by
  simp [State.domOn]
@[simp] theorem State.domReady_modCmd (n : Nat) (f : Cmd → Cmd) (q : Nat) : (s.modCmd n f).domReady q = s.domReady q := by
  simp [State.domReady]
@[simp] theorem State.reg_modSpec (n : Nat) (f : SpecCh → SpecCh) (q : Nat) : (s.modSpec n f).reg q = s.reg q := by
  simp [State.reg]
@[simp] theorem State.get_modSpec (n : Nat) (f : SpecCh → SpecCh) (q : Field) : (s.modSpec n f).get q = s.get q := by
  simp [State.get]
@[simp] theorem State.getI_modSpec (n : Nat) (f : SpecCh → SpecCh) (q : Field) : (s.modSpec n f).getI q = s.getI q := by
  simp [State.getI]
@[simp] theorem State.flag_modSpec (n : Nat) (f : SpecCh → SpecCh) (q : Field) : (s.modSpec n f).flag q = s.flag q := by
  simp [State.flag]
@[simp] theorem State.bitOf_modSpec (n : Nat) (f : SpecCh → SpecCh) (q y : Nat) : (s.modSpec n f).bitOf q y = s.bitOf q y := by
  simp [State.bitOf]
@[simp] theorem State.pageEn_modSpec (n : Nat) (f : SpecCh → SpecCh) (q : Nat) : (s.modSpec n f).pageEn q = s.pageEn q := by
  simp [State.pageEn]
@[simp] theorem State.domOn_modSpec (n : Nat) (f : SpecCh → SpecCh) (q : Nat) : (s.modSpec n f).domOn q = s.domOn q := by
  simp [State.domOn]
@[simp] theorem State.domReady_modSpec (n : Nat) (f : SpecCh → SpecCh) (q : Nat) : (s.modSpec n f).domReady q = s.domReady q := by
  simp [State.domReady]
@[simp] theorem State.reg_modQdl (f : QdlSt → QdlSt) (q : Nat) : (s.modQdl f).reg q = s.reg q := by
  simp [State.reg]
@[simp] theorem State.get_modQdl (f : QdlSt → QdlSt) (q : Field) : (s.modQdl f).get q = s.get q := by
  simp [State.get]
@[simp] theorem State.getI_modQdl (f : QdlSt → QdlSt) (q : Field) : (s.modQdl f).getI q = s.getI q := by
  simp [State.getI]
@[simp] theorem State.flag_modQdl (f : QdlSt → QdlSt) (q : Field) : (s.modQdl f).flag q = s.flag q := by
  simp [State.flag]
@[simp] theorem State.bitOf_modQdl (f : QdlSt → QdlSt) (q y : Nat) : (s.modQdl f).bitOf q y = s.bitOf q y := by
  simp [State.bitOf]
@[simp] theorem State.pageEn_modQdl (f : QdlSt → QdlSt) (q : Nat) : (s.modQdl f).pageEn q = s.pageEn q := by
  simp [State.pageEn]
@[simp] theorem State.domOn_modQdl (f : QdlSt → QdlSt) (q : Nat) : (s.modQdl f).domOn q = s.domOn q := by
  simp [State.domOn]
@[simp] theorem State.domReady_modQdl (f : QdlSt → QdlSt) (q : Nat) : (s.modQdl f).domReady q = s.domReady q := by
  simp [State.domReady]
@[simp] theorem State.reg_modTracker (n : Nat) (f : Tracker → Tracker) (q : Nat) : (s.modTracker n f).reg q = s.reg q := by
  simp [State.reg]
@[simp] theorem State.get_modTracker (n : Nat) (f : Tracker → Tracker) (q : Field) : (s.modTracker n f).get q = s.get q := by
  simp [State.get]
@[simp] theorem State.getI_modTracker (n : Nat) (f : Tracker → Tracker) (q : Field) : (s.modTracker n f).getI q = s.getI q := by
  simp [State.getI]
@[simp] theorem State.flag_modTracker (n : Nat) (f : Tracker → Tracker) (q : Field) : (s.modTracker n f).flag q = s.flag q := by
  simp [State.flag]
@[simp] theorem State.bitOf_modTracker (n : Nat) (f : Tracker → Tracker) (q y : Nat) : (s.modTracker n f).bitOf q y = s.bitOf q y := by
  simp [State.bitOf]
@[simp] theorem State.pageEn_modTracker (n : Nat) (f : Tracker → Tracker) (q : Nat) : (s.modTracker n f).pageEn q = s.pageEn q := by
  simp [State.pageEn]
@[simp] theorem State.domOn_modTracker (n : Nat) (f : Tracker → Tracker) (q : Nat) : (s.modTracker n f).domOn q = s.domOn q := by
  simp [State.domOn]
@[simp] theorem State.domReady_modTracker (n : Nat) (f : Tracker → Tracker) (q : Nat) : (s.modTracker n f).domReady q = s.domReady q := by
  simp [State.domReady]
@[simp] theorem State.domOn_pendSrc (n : Nat) (q : Nat) : (s.pendSrc n).domOn q = s.domOn q := by
  simp [State.domOn]
@[simp] theorem State.domReady_pendSrc (n : Nat) (q : Nat) : (s.pendSrc n).domReady q = s.domReady q := by
  simp [State.domReady]
@[simp] theorem State.domOn_raiseSrc (n : Nat) (q : Nat) : (s.raiseSrc n).domOn q = s.domOn q := by
  simp [State.domOn]
@[simp] theorem State.domReady_raiseSrc (n : Nat) (q : Nat) : (s.raiseSrc n).domReady q = s.domReady q := by
  simp [State.domReady]
@[simp] theorem State.domOn_note (p b : Nat) (q : Nat) : (s.note p b).domOn q = s.domOn q := by
  simp [State.domOn]
@[simp] theorem State.domReady_note (p b : Nat) (q : Nat) : (s.note p b).domReady q = s.domReady q := by
  simp [State.domReady]
@[simp] theorem State.domOn_occur (p b : Nat) (q : Nat) : (s.occur p b).domOn q = s.domOn q := by
  simp [State.domOn]
@[simp] theorem State.domReady_occur (p b : Nat) (q : Nat) : (s.occur p b).domReady q = s.domReady q := by
  simp [State.domReady]
@[simp] theorem State.domOn_occurNext (p b : Nat) (q : Nat) : (s.occurNext p b).domOn q = s.domOn q := by
  simp [State.domOn]
@[simp] theorem State.domReady_occurNext (p b : Nat) (q : Nat) : (s.occurNext p b).domReady q = s.domReady q := by
  simp [State.domReady]
@[simp] theorem State.domOn_logStage (r : LogRec) (q : Nat) : (s.logStage r).domOn q = s.domOn q := by
  simp [State.domOn]
@[simp] theorem State.domReady_logStage (r : LogRec) (q : Nat) : (s.logStage r).domReady q = s.domReady q := by
  simp [State.domReady]
@[simp] theorem State.domOn_logLast (c f : Nat) (d0 d1 : Word) (q : Nat) : (s.logLast c f d0 d1).domOn q = s.domOn q := by
  simp [State.domOn]
@[simp] theorem State.domReady_logLast (c f : Nat) (d0 d1 : Word) (q : Nat) : (s.logLast c f d0 d1).domReady q = s.domReady q := by
  simp [State.domReady]
@[simp] theorem State.domOn_logDropped (r : LogRec) (q : Nat) : (s.logDropped r).domOn q = s.domOn q := by
  simp [State.domOn]
@[simp] theorem State.domReady_logDropped (r : LogRec) (q : Nat) : (s.logDropped r).domReady q = s.domReady q := by
  simp [State.domReady]
@[simp] theorem State.domOn_logNow (c : Nat) (d0 d1 : Word) (q : Nat) : (s.logNow c d0 d1).domOn q = s.domOn q := by
  simp [State.domOn]
@[simp] theorem State.domReady_logNow (c : Nat) (d0 d1 : Word) (q : Nat) : (s.logNow c d0 d1).domReady q = s.domReady q := by
  simp [State.domReady]
@[simp] theorem State.domOn_logRec (c : Nat) (d0 d1 : Word) (q : Nat) : (s.logRec c d0 d1).domOn q = s.domOn q := by
  simp [State.domOn]
@[simp] theorem State.domReady_logRec (c : Nat) (d0 d1 : Word) (q : Nat) : (s.logRec c d0 d1).domReady q = s.domReady q := by
  simp [State.domReady]
@[simp] theorem State.reg_elapse (n : Nat) (q : Nat) : (s.elapse n).reg q = s.reg q := by
  simp [State.reg]
@[simp] theorem State.get_elapse (n : Nat) (q : Field) : (s.elapse n).get q = s.get q := by
  simp [State.get]
@[simp] theorem State.getI_elapse (n : Nat) (q : Field) : (s.elapse n).getI q = s.getI q := by
  simp [State.getI]
@[simp] theorem State.flag_elapse (n : Nat) (q : Field) : (s.elapse n).flag q = s.flag q := by
  simp [State.flag]
@[simp] theorem State.bitOf_elapse (n : Nat) (q y : Nat) : (s.elapse n).bitOf q y = s.bitOf q y := by
  simp [State.bitOf]
@[simp] theorem State.pageEn_elapse (n : Nat) (q : Nat) : (s.elapse n).pageEn q = s.pageEn q := by
  simp [State.pageEn]
@[simp] theorem State.domOn_elapse (n : Nat) (q : Nat) : (s.elapse n).domOn q = s.domOn q := by
  rfl
@[simp] theorem State.domReady_elapse (n : Nat) (q : Nat) : (s.elapse n).domReady q = s.domReady q := by
  rfl
@[simp] theorem State.reg_elapseTo (t : Nat) (q : Nat) : (s.elapseTo t).reg q = s.reg q := by
  simp [State.reg]
@[simp] theorem State.get_elapseTo (t : Nat) (q : Field) : (s.elapseTo t).get q = s.get q := by
  simp [State.get]
@[simp] theorem State.getI_elapseTo (t : Nat) (q : Field) : (s.elapseTo t).getI q = s.getI q := by
  simp [State.getI]
@[simp] theorem State.flag_elapseTo (t : Nat) (q : Field) : (s.elapseTo t).flag q = s.flag q := by
  simp [State.flag]
@[simp] theorem State.bitOf_elapseTo (t : Nat) (q y : Nat) : (s.elapseTo t).bitOf q y = s.bitOf q y := by
  simp [State.bitOf]
@[simp] theorem State.pageEn_elapseTo (t : Nat) (q : Nat) : (s.elapseTo t).pageEn q = s.pageEn q := by
  simp [State.pageEn]
@[simp] theorem State.domOn_elapseTo (t : Nat) (q : Nat) : (s.elapseTo t).domOn q = s.domOn q := by
  exact State.domOn_elapse _ _ _
@[simp] theorem State.domReady_elapseTo (t : Nat) (q : Nat) : (s.elapseTo t).domReady q = s.domReady q := by
  exact State.domReady_elapse _ _ _
@[simp] theorem State.reg_elapseFine (t : Nat) (q : Nat) : (s.elapseFine t).reg q = s.reg q := by
  simp [State.reg]
@[simp] theorem State.get_elapseFine (t : Nat) (q : Field) : (s.elapseFine t).get q = s.get q := by
  simp [State.get]
@[simp] theorem State.getI_elapseFine (t : Nat) (q : Field) : (s.elapseFine t).getI q = s.getI q := by
  simp [State.getI]
@[simp] theorem State.flag_elapseFine (t : Nat) (q : Field) : (s.elapseFine t).flag q = s.flag q := by
  simp [State.flag]
@[simp] theorem State.bitOf_elapseFine (t : Nat) (q y : Nat) : (s.elapseFine t).bitOf q y = s.bitOf q y := by
  simp [State.bitOf]
@[simp] theorem State.pageEn_elapseFine (t : Nat) (q : Nat) : (s.elapseFine t).pageEn q = s.pageEn q := by
  simp [State.pageEn]
@[simp] theorem State.domOn_elapseFine (t : Nat) (q : Nat) : (s.elapseFine t).domOn q = s.domOn q := by
  exact State.domOn_elapse _ _ _
@[simp] theorem State.domReady_elapseFine (t : Nat) (q : Nat) : (s.elapseFine t).domReady q = s.domReady q := by
  exact State.domReady_elapse _ _ _
@[simp] theorem State.reg_elapseLpo (k : Nat) (q : Nat) : (s.elapseLpo k).reg q = s.reg q := by
  simp [State.reg]
@[simp] theorem State.get_elapseLpo (k : Nat) (q : Field) : (s.elapseLpo k).get q = s.get q := by
  simp [State.get]
@[simp] theorem State.getI_elapseLpo (k : Nat) (q : Field) : (s.elapseLpo k).getI q = s.getI q := by
  simp [State.getI]
@[simp] theorem State.flag_elapseLpo (k : Nat) (q : Field) : (s.elapseLpo k).flag q = s.flag q := by
  simp [State.flag]
@[simp] theorem State.bitOf_elapseLpo (k : Nat) (q y : Nat) : (s.elapseLpo k).bitOf q y = s.bitOf q y := by
  simp [State.bitOf]
@[simp] theorem State.pageEn_elapseLpo (k : Nat) (q : Nat) : (s.elapseLpo k).pageEn q = s.pageEn q := by
  simp [State.pageEn]
@[simp] theorem State.domOn_elapseLpo (k : Nat) (q : Nat) : (s.elapseLpo k).domOn q = s.domOn q := by
  exact State.domOn_elapse _ _ _
@[simp] theorem State.domReady_elapseLpo (k : Nat) (q : Nat) : (s.elapseLpo k).domReady q = s.domReady q := by
  exact State.domReady_elapse _ _ _
@[simp] theorem State.reg_setTb (k : Nat) (t : Timebase) (q : Nat) : (s.setTb k t).reg q = s.reg q := by
  simp [State.reg]
@[simp] theorem State.get_setTb (k : Nat) (t : Timebase) (q : Field) : (s.setTb k t).get q = s.get q := by
  simp [State.get]
@[simp] theorem State.getI_setTb (k : Nat) (t : Timebase) (q : Field) : (s.setTb k t).getI q = s.getI q := by
  simp [State.getI]
@[simp] theorem State.flag_setTb (k : Nat) (t : Timebase) (q : Field) : (s.setTb k t).flag q = s.flag q := by
  simp [State.flag]
@[simp] theorem State.bitOf_setTb (k : Nat) (t : Timebase) (q y : Nat) : (s.setTb k t).bitOf q y = s.bitOf q y := by
  simp [State.bitOf]
@[simp] theorem State.pageEn_setTb (k : Nat) (t : Timebase) (q : Nat) : (s.setTb k t).pageEn q = s.pageEn q := by
  simp [State.pageEn]
@[simp] theorem State.domOn_setTb (k : Nat) (t : Timebase) (q : Nat) : (s.setTb k t).domOn q = s.domOn q := by
  simp [State.domOn]
@[simp] theorem State.domReady_setTb (k : Nat) (t : Timebase) (q : Nat) : (s.setTb k t).domReady q = s.domReady q := by
  simp [State.domReady]
@[simp] theorem State.reg_setSramBytes (a : Nat) (bs : List Byte) (q : Nat) : (s.setSramBytes a bs).reg q = s.reg q := by
  simp [State.reg]
@[simp] theorem State.get_setSramBytes (a : Nat) (bs : List Byte) (q : Field) : (s.setSramBytes a bs).get q = s.get q := by
  simp [State.get]
@[simp] theorem State.getI_setSramBytes (a : Nat) (bs : List Byte) (q : Field) : (s.setSramBytes a bs).getI q = s.getI q := by
  simp [State.getI]
@[simp] theorem State.flag_setSramBytes (a : Nat) (bs : List Byte) (q : Field) : (s.setSramBytes a bs).flag q = s.flag q := by
  simp [State.flag]
@[simp] theorem State.bitOf_setSramBytes (a : Nat) (bs : List Byte) (q y : Nat) : (s.setSramBytes a bs).bitOf q y = s.bitOf q y := by
  simp [State.bitOf]
@[simp] theorem State.pageEn_setSramBytes (a : Nat) (bs : List Byte) (q : Nat) : (s.setSramBytes a bs).pageEn q = s.pageEn q := by
  simp [State.pageEn]
@[simp] theorem State.domOn_setSramBytes (a : Nat) (bs : List Byte) (q : Nat) : (s.setSramBytes a bs).domOn q = s.domOn q := by
  simp [State.domOn]
@[simp] theorem State.domReady_setSramBytes (a : Nat) (bs : List Byte) (q : Nat) : (s.setSramBytes a bs).domReady q = s.domReady q := by
  simp [State.domReady]
@[simp] theorem State.reg_setSramWord (a : Nat) (v : Word) (q : Nat) : (s.setSramWord a v).reg q = s.reg q := by
  simp [State.reg]
@[simp] theorem State.get_setSramWord (a : Nat) (v : Word) (q : Field) : (s.setSramWord a v).get q = s.get q := by
  simp [State.get]
@[simp] theorem State.getI_setSramWord (a : Nat) (v : Word) (q : Field) : (s.setSramWord a v).getI q = s.getI q := by
  simp [State.getI]
@[simp] theorem State.flag_setSramWord (a : Nat) (v : Word) (q : Field) : (s.setSramWord a v).flag q = s.flag q := by
  simp [State.flag]
@[simp] theorem State.bitOf_setSramWord (a : Nat) (v : Word) (q y : Nat) : (s.setSramWord a v).bitOf q y = s.bitOf q y := by
  simp [State.bitOf]
@[simp] theorem State.pageEn_setSramWord (a : Nat) (v : Word) (q : Nat) : (s.setSramWord a v).pageEn q = s.pageEn q := by
  simp [State.pageEn]
@[simp] theorem State.domOn_setSramWord (a : Nat) (v : Word) (q : Nat) : (s.setSramWord a v).domOn q = s.domOn q := by
  simp [State.domOn]
@[simp] theorem State.domReady_setSramWord (a : Nat) (v : Word) (q : Nat) : (s.setSramWord a v).domReady q = s.domReady q := by
  simp [State.domReady]
@[simp] theorem State.reg_setSramWords (a : Nat) (bs : List Word) (q : Nat) : (s.setSramWords a bs).reg q = s.reg q := by
  simp [State.reg]
@[simp] theorem State.get_setSramWords (a : Nat) (bs : List Word) (q : Field) : (s.setSramWords a bs).get q = s.get q := by
  simp [State.get]
@[simp] theorem State.getI_setSramWords (a : Nat) (bs : List Word) (q : Field) : (s.setSramWords a bs).getI q = s.getI q := by
  simp [State.getI]
@[simp] theorem State.flag_setSramWords (a : Nat) (bs : List Word) (q : Field) : (s.setSramWords a bs).flag q = s.flag q := by
  simp [State.flag]
@[simp] theorem State.bitOf_setSramWords (a : Nat) (bs : List Word) (q y : Nat) : (s.setSramWords a bs).bitOf q y = s.bitOf q y := by
  simp [State.bitOf]
@[simp] theorem State.pageEn_setSramWords (a : Nat) (bs : List Word) (q : Nat) : (s.setSramWords a bs).pageEn q = s.pageEn q := by
  simp [State.pageEn]
@[simp] theorem State.domOn_setSramWords (a : Nat) (bs : List Word) (q : Nat) : (s.setSramWords a bs).domOn q = s.domOn q := by
  simp [State.domOn]
@[simp] theorem State.domReady_setSramWords (a : Nat) (bs : List Word) (q : Nat) : (s.setSramWords a bs).domReady q = s.domReady q := by
  simp [State.domReady]
@[simp] theorem State.reg_nvmProgram (a : Nat) (bs : List Byte) (q : Nat) : (s.nvmProgram a bs).reg q = s.reg q := by
  simp [State.reg]
@[simp] theorem State.get_nvmProgram (a : Nat) (bs : List Byte) (q : Field) : (s.nvmProgram a bs).get q = s.get q := by
  simp [State.get]
@[simp] theorem State.getI_nvmProgram (a : Nat) (bs : List Byte) (q : Field) : (s.nvmProgram a bs).getI q = s.getI q := by
  simp [State.getI]
@[simp] theorem State.flag_nvmProgram (a : Nat) (bs : List Byte) (q : Field) : (s.nvmProgram a bs).flag q = s.flag q := by
  simp [State.flag]
@[simp] theorem State.bitOf_nvmProgram (a : Nat) (bs : List Byte) (q y : Nat) : (s.nvmProgram a bs).bitOf q y = s.bitOf q y := by
  simp [State.bitOf]
@[simp] theorem State.pageEn_nvmProgram (a : Nat) (bs : List Byte) (q : Nat) : (s.nvmProgram a bs).pageEn q = s.pageEn q := by
  simp [State.pageEn]
@[simp] theorem State.domOn_nvmProgram (a : Nat) (bs : List Byte) (q : Nat) : (s.nvmProgram a bs).domOn q = s.domOn q := by
  simp [State.domOn]
@[simp] theorem State.domReady_nvmProgram (a : Nat) (bs : List Byte) (q : Nat) : (s.nvmProgram a bs).domReady q = s.domReady q := by
  simp [State.domReady]

end Sys2Proof.Machine
end

