-- ==== Sys2Proof/Safety.lean ====
section
/-! DEFINITION. What claims are stated in: a state at rest, an access that is granted and the answer to it, the safe gate levels
of the bridge, and the two invariants that every step keeps. -/

namespace Sys2Proof.Machine

/-- The block is at rest: no level has changed that something would follow from, no router event waits for delivery, and no
command is in flight or has a result to take. -/
def State.AtRest (s : State) : Prop :=
  s.review = s ∧ s.evq = [] ∧ s.ctx.flight = [] ∧ s.ctx.results = []

/-- A word access to the register at `a` is served now (R29, R35 to R37, R43, R141): its page is listed and ready, no soft reset
of it is in progress, and it is not a writable CTL register at offset 0x100 or above while a run of the engine is in progress. -/
def State.serves (s : State) (a : Nat) : Bool :=
  let p := a / 0x1000
  inRegs a && decide (a % 4 = 0) && pageListed p && decide (s.pageStatus p = .ok) && !s.inSrst p &&
  !(ctlHolds a && s.ctl.run.isSome)

/-- The header of page `p` is served now (R29, R35 to R37). -/
def State.headerServed (s : State) (p : Nat) : Prop := p < 64 ∧ s.pageStatus p = .ok

/-- Of the registers, only those that `w` names may differ from `s` to `u`; the two byte memories are the same. -/
def State.Keeps (s u : State) (w : Nat → Prop) : Prop := (∀ a, ¬ w a → u.reg a = s.reg a) ∧ u.sram = s.sram ∧ u.nvm = s.nvm

/-- What a master is told is kept: the state `t` with the answer `st`. -/
def State.told (t : State) (st : Status) : State := { t with lastStatus := st }

/-- `t` after a write to page `p` that was accepted: PG_SEQ counts it (R41), the master is told OK. -/
def State.accepted (t : State) (p : Nat) : State := (t.countWrite p).told .ok

/-- The register at `a` has no rule of its own beyond its fields: a write stores RW fields and clears W1C bits, no more. Left
out are the registers whose chapter gives a write a limit, an action or a condition. -/
def plainReg (a : Nat) : Bool :=
  let o := a % 0x1000
  match a / 0x1000 with
  | 0x01 => a ∉ [Reg.SYS_SWRESET, Reg.SYS_LPO_CAL, Reg.SYS_WDT_CFG, Reg.SYS_WDT_KICK, Reg.SYS_RTC_SEC, Reg.SYS_RTC_ALARM,
      Reg.SYS_MUSTER_END]
  | 0x02 => a < Reg.PWR_MBOX 0 && a ∉ [Reg.PWR_BOR_CFG, Reg.PWR_DOMAIN_EN, Reg.PWR_STATE_REQ]
  | 0x03 => a < Reg.PINS_FUNC 0
  | 0x04 => a ∉ [Reg.HOST_CFG, Reg.HOST_SB_ADDR]
  | 0x05 => a ≠ Reg.CTX_SLICE_US && !(decide (Reg.CTX_QUAR 0 ≤ a) && decide (a ≤ Reg.CTX_QUAR 7))
  | 0x08 => a < 0x08100
  | 0x0C => a ∉ [Reg.CPS_CFG, Reg.CPS_JUMP_THR, Reg.CPS_VIRT_RATE, Reg.CPS_SRC]
  | 0x0D => a ∉ [Reg.CHT_CFG, Reg.CHT_LATEWIN] && !(decide (Reg.CHT_WP_ANGLE 0 ≤ a) && decide (a ≤ Reg.CHT_WP_ANGLE 63)) &&
      !(decide (Reg.CHT_WP_REP 0 ≤ a) && decide (a ≤ Reg.CHT_WP_REP 63))
  | 0x0E => a ∉ [Reg.QDL_CFG, Reg.QDL_RANK, Reg.QDL_ROLE]
  | 0x10 => a ≠ Reg.ADCX_CLK_CFG && (decide (o < 0x80) || (decide (0xC0 ≤ o) && decide (o < 0x200)))
  | 0x11 => a ≠ Reg.ADCI_CFG && (decide (o < 0x80) || (decide (0xC0 ≤ o) && decide (o < 0x200)))
  | 0x12 => Reg.CMP_THR 15 < a
  | 0x16 => a ∉ [Reg.MODE_REQ, Reg.MODE_M_MAX, Reg.MODE_HANDOVER_RAMP, Reg.MODE_MPPT_CFG]
  | 0x18 => a ∉ [Reg.PWM_CFG, Reg.PWM_LOAD, Reg.PWM_CAR_N, Reg.PWM_TB1_PER, Reg.PWM_EVT_PRESC, Reg.PWM_BSR_CFG] &&
      !(decide (Reg.PWM_SH_CMP 0 ≤ a) && decide (a ≤ Reg.PWM_SH_CMP 6))
  | 0x1A => a ∉ [Reg.GD_CFG, Reg.GD_FLT_FILT, Reg.GD_ELC_CFG] &&
      !(decide (Reg.GD_DT_RISE 0 ≤ a) && decide (a ≤ Reg.GD_DT_FALL 6)) &&
      !(decide (Reg.GD_LEG_CTRL 0 ≤ a) && decide (a ≤ Reg.GD_LEG_CTRL 6))
  | 0x1C => a ≠ Reg.MET_CFG
  | 0x1D => true
  | 0x1E => !(decide (Reg.LDG_TENANT_WIN 0 ≤ a) && decide (a ≤ Reg.LDG_TENANT_WIN 7))
  | 0x1F => a ∉ [Reg.BUS_U1_CFG, Reg.BUS_U2_CFG]
  | 0x20 => a ∉ [Reg.PROT_VSHIFT, Reg.PROT_FRT_K, Reg.PROT_PROFILE]
  | 0x22 => a ∉ [Reg.RLY_CTRL, Reg.RLY_WELD, Reg.RLY_PICKUP]
  | 0x24 => Reg.HSW_STAT 1 < a
  | 0x28 => true
  | 0x30 => a ≠ Reg.LOG_CFG
  | _ => false

/-- No leg has its high and its low switch on together. -/
def State.GatesApart (s : State) : Prop := ∀ l ∈ s.gd.legs, ¬(l.hi.on = true ∧ l.lo.on = true)

/-- GPIO0 to GPIO2 are known at the levels they have, so that the next edge will be seen (R495). -/
def State.SeenLevels (s : State) : Prop := s.domReady 1 = true → s.pins.seen = s.gpioLevels

/-- While D3 NAV is on, the active bearing source is the one that R69 and R70 choose now. -/
def State.SourceFollows (s : State) : Prop := s.domOn 3 = true → s.source = s.wantedSource

/-- The engine's next slice is the first of the queued command `c`, of class `k`, and nothing bars its start (R403, R405, R410). -/
def State.starts (s : State) (k : Nat) (c : Cmd) : Prop :=
  s.cmdNext = some (k, c) ∧ c.st = CmdState.queued ∧ (s.sliceTaken k c).startBar c = stOk ∧ (s.sliceTaken k c).dlReached c = false

/-- The state and the command that such a slice's work begins with. -/
def State.started (s : State) (k : Nat) (c : Cmd) : State := (s.sliceTaken k c).cmdMore c
def Cmd.going (c : Cmd) : Cmd := { c with st := .ready }

end Sys2Proof.Machine
end

