-- ==== Sys2Proof/Laws/Ops.lean ====
section
/-! SUPPORT. What the shared operations can do, said once: registers and fields read after a write, event bits and interrupt
sources (R45, R384), log records (R539), the passage of time, the byte memories, and the canonical form that each keeps. -/

namespace Sys2Proof.Machine

variable (s : State)

/-! ### Registers and fields -/

theorem State.reg_setReg (a b : Nat) (v : Word) : (s.setReg a v).reg b = if b = a then v else s.reg b := Sparse.get_set ..

@[simp] theorem State.reg_setReg_self (a : Nat) (v : Word) : (s.setReg a v).reg a = v := Sparse.get_set_self ..

theorem State.reg_setReg_ne {a b : Nat} (v : Word) (h : b ≠ a) : (s.setReg a v).reg b = s.reg b := Sparse.get_set_ne _ v h

theorem State.reg_congr {s t : State} (h : t.regs = s.regs) (a : Nat) : t.reg a = s.reg a := by simp [State.reg, h]

theorem State.reg_put (f : Field) (v a : Nat) :
    (s.put f v).reg a = if a = f.addr then wput (s.reg f.addr) f.lo f.len v else s.reg a := s.reg_setReg ..

theorem State.reg_put_ne {f : Field} (v : Nat) {a : Nat} (h : a ≠ f.addr) : (s.put f v).reg a = s.reg a := s.reg_setReg_ne _ h

theorem State.reg_putFlag_ne {f : Field} (v : Bool) {a : Nat} (h : a ≠ f.addr) : (s.putFlag f v).reg a = s.reg a :=
  s.reg_put_ne _ h

theorem State.reg_inc_ne {f : Field} {a : Nat} (h : a ≠ f.addr) : (s.inc f).reg a = s.reg a := s.reg_put_ne _ h

theorem State.reg_incSat_ne {f : Field} {a : Nat} (h : a ≠ f.addr) : (s.incSat f).reg a = s.reg a := s.reg_put_ne _ h

theorem State.reg_putBit_ne {a b : Nat} (k : Nat) (v : Bool) (h : b ≠ a) : (s.putBit a k v).reg b = s.reg b := s.reg_setReg_ne _ h

theorem State.reg_setW1c_ne {a b : Nat} (k : Nat) (h : b ≠ a) : (s.setW1c a k).reg b = s.reg b := s.reg_putBit_ne k true h

theorem State.reg_setFlag_ne {f : Field} {a : Nat} (h : a ≠ f.addr) : (s.setFlag f).reg a = s.reg a := s.reg_setW1c_ne _ h

theorem State.get_congr {s t : State} {f : Field} (h : t.reg f.addr = s.reg f.addr) : t.get f = s.get f := by simp [State.get, h]

theorem State.flag_congr {s t : State} {f : Field} (h : t.reg f.addr = s.reg f.addr) : t.flag f = s.flag f := by
  simp [State.flag, State.get_congr h]

/-- A field reads back what was put into it, modulo its width. -/
theorem State.get_put_self (f : Field) (v : Nat) (h : f.lo + f.len ≤ 32) : (s.put f v).get f = v % 2 ^ f.len := by
  simp [State.get, State.put, wbits_wput_self _ _ _ _ h]

/-- Putting one field leaves every field of another register, and every field of the same register apart from it. -/
theorem State.get_put_ne {f g : Field} (v : Nat) (h : g.addr ≠ f.addr ∨ g.lo + g.len ≤ f.lo ∨ f.lo + f.len ≤ g.lo) :
    (s.put f v).get g = s.get g := by
  by_cases ha : g.addr = f.addr
  · have h' : g.lo + g.len ≤ f.lo ∨ f.lo + f.len ≤ g.lo := by
      rcases h with h | h
      · exact absurd ha h
      · exact h
    simp [State.get, State.put, ha, wbits_wput_apart _ _ _ _ _ _ h']
  · exact State.get_congr (s.reg_put_ne v ha)

theorem State.flag_putFlag_self (f : Field) (v : Bool) (h : f.lo + f.len ≤ 32) (h1 : 0 < f.len) : (s.putFlag f v).flag f = v := by
  have h2 : 2 ≤ 2 ^ f.len := Nat.pow_le_pow_right (by decide : 0 < 2) h1
  rw [State.flag, State.putFlag, State.get_put_self s f v.toNat h]
  cases v
  · simp
  · have : 1 % 2 ^ f.len = 1 := Nat.mod_eq_of_lt (by omega)
    simp [this]

theorem State.bitOf_putBit (a k : Nat) (v : Bool) (b i : Nat) :
    (s.putBit a k v).bitOf b i = if b = a ∧ i = k ∧ i < 32 then v else s.bitOf b i := by
  rw [State.bitOf, State.putBit, State.reg_setReg]
  by_cases h : b = a
  · subst h
    rw [if_pos rfl, getLsbD_wputBit]
    by_cases hk : i = k <;> by_cases hi : i < 32 <;> simp [hk, hi, State.bitOf]
  · simp [h, State.bitOf]

/-! ### Interrupt sources and event bits -/

@[simp] theorem State.reg_announceFrom (t : State) (n a : Nat) : (s.announceFrom t n).reg a = t.reg a := by
  unfold State.announceFrom; split <;> rfl

@[simp] theorem State.reg_pendIn (d n a : Nat) : (s.pendIn d n).reg a = s.reg a := State.reg_congr (s.pendIn_regs d n) a

@[simp] theorem State.reg_raiseSrc (n a : Nat) : (s.raiseSrc n).reg a = s.reg a := State.reg_congr (s.raiseSrc_regs n) a

@[simp] theorem State.reg_raiseNext (n a : Nat) : (s.raiseNext n).reg a = s.reg a := State.reg_congr (s.raiseNext_regs n) a

/-- The pending bit of a source that is not reserved, on a page that runs, is to be set `d` ticks on (R384). -/
theorem State.mem_soon_pendIn {d n : Nat} (hl : s.live Pg.IRQC = true) (hr : srcReserved n = false) :
    (s.now + d, n) ∈ (s.pendIn d n).irqc.soon := by
  unfold State.pendIn
  cases hc : s.irqc.soon.contains (s.now + d, n)
  · simp [hl, hr, hc]
  · simpa [hl, hr, hc] using hc

/-- A source whose pending bit was to be set by now is pending. -/
theorem State.irqPend_of_soon {t n : Nat} (h : (t, n) ∈ s.irqc.soon) (ht : t ≤ s.now) : s.irqPend n = true := by
  simp only [State.irqPend, Bool.or_eq_true, List.any_eq_true, Bool.and_eq_true, decide_eq_true_eq]
  exact Or.inr ⟨(t, n), h, ht, rfl⟩

theorem evtSource_lt {p b n : Nat} (h : evtSource p b = some n) : n < 128 := by
  unfold evtSource at h
  split at h <;> (repeat' split at h) <;> simp at h <;> omega

/-- What an occurrence of an event does to the registers: its bit of PG_EVT is set where its page is on (R45). -/
theorem State.reg_note (p b a : Nat) :
    (s.note p b).reg a = if s.domOn (pageDomain p) then (s.setW1c (pgEvt p) b).reg a else s.reg a := by
  unfold State.note
  dsimp only
  split
  · split
    · cases evtSource p b with
      | none => rfl
      | some n => exact State.reg_raiseSrc ..
    · rfl
  · rfl

/-- Of the registers, an occurrence of an event writes PG_EVT of its page. -/
theorem State.reg_note_ne {p b a : Nat} (h : a ≠ pgEvt p) : (s.note p b).reg a = s.reg a := by
  rw [State.reg_note, State.reg_setW1c_ne _ _ h, ite_self]

/-- The event bit of an occurrence is set where its page is on. -/
theorem State.bitOf_note_self {p b : Nat} (hd : s.domOn (pageDomain p) = true) (hb : b < 32) :
    (s.note p b).bitOf (pgEvt p) b = true := by
  rw [State.bitOf, State.reg_note, if_pos hd]
  exact (s.bitOf_putBit (pgEvt p) b true (pgEvt p) b).trans (if_pos ⟨rfl, rfl, hb⟩)

/-! ### Log records (R539, R540) -/

theorem State.reg_logStage_ne (r : LogRec) {a : Nat} (h : a / 0x1000 ≠ Pg.LOG) :
    (s.logStage r).reg a = s.reg a := by
  have hz (b : Nat) (hb : b / 0x1000 = Pg.LOG) : a ≠ b := fun he => h (he ▸ hb)
  unfold State.logStage
  dsimp only
  rw [apply_ite (fun t : State => t.reg a)]
  rw [State.reg_note_ne _ (hz (pgEvt Pg.LOG) (by decide)), State.reg_setFlag_ne _ (hz F.LOG_STAT_DROP.addr (by decide)),
    State.reg_inc_ne _ (hz F.LOG_STAT_DROPCNT.addr (by decide)), State.reg_setLog, State.reg_setLog, ite_self]

theorem State.reg_logLast_ne (c f : Nat) (d0 d1 : Word) {a : Nat} (h : a / 0x1000 ≠ Pg.LOG) :
    (s.logLast c f d0 d1).reg a = s.reg a := by
  have hz (b : Nat) (hb : b / 0x1000 = Pg.LOG) : a ≠ b := fun he => h (he ▸ hb)
  unfold State.logLast
  dsimp only
  rw [State.reg_setLog]
  split
  · rfl
  · rw [State.reg_setReg_ne _ _ (hz (Reg.LOG_LAST_DATA 1) (by decide)), State.reg_setReg_ne _ _ (hz (Reg.LOG_LAST_DATA 0) (by decide)),
        State.reg_put_ne _ _ (hz F.LOG_LAST_CODE_FLAGS.addr (by decide)), State.reg_put_ne _ _ (hz F.LOG_LAST_CODE_CODE.addr (by decide))]

theorem State.reg_logDropped_ne (r : LogRec) {a : Nat} (h : a / 0x1000 ≠ Pg.LOG) : (s.logDropped r).reg a = s.reg a := by
  unfold State.logDropped
  rw [apply_ite (fun t : State => t.reg a), State.reg_logStage_ne _ _ h, State.reg_setLog, ite_self]

/-- Of the registers, a record writes the LOG page's alone. -/
theorem State.reg_logRec_ne (c : Nat) (d0 d1 : Word) {a : Nat} (h : a / 0x1000 ≠ Pg.LOG) :
    (s.logRec c d0 d1).reg a = s.reg a := by
  unfold State.logRec
  split
  · unfold State.logNow
    rw [State.reg_logStage_ne _ _ h, State.reg_logDropped_ne _ _ h, State.reg_logLast_ne _ _ _ _ _ h]
  · exact State.reg_setLog ..

/-! ### The byte memories -/

theorem State.sramByte_setSramByte (a b : Nat) (v : Byte) : (s.setSramByte a v).sramByte b = if b = a then v else s.sramByte b :=
  Sparse.get_set ..

/-- Bytes written to SRAM read back, and every other byte is left alone. -/
theorem State.sramByte_setSramBytes (a : Nat) (bs : List Byte) (b : Nat) :
    (s.setSramBytes a bs).sramByte b = if a ≤ b then (bs[b - a]?).getD (s.sramByte b) else s.sramByte b := by
  induction bs generalizing s a with
  | nil => simp [State.setSramBytes]
  | cons x bs ih =>
    unfold State.setSramBytes
    rw [ih, State.sramByte_setSramByte]
    by_cases h : b = a
    · subst h
      have h3 : ¬ b + 1 ≤ b := by omega
      simp [h3]
    · by_cases h1 : a ≤ b
      · obtain ⟨k, hk⟩ : ∃ k, b - a = k + 1 := ⟨b - a - 1, by omega⟩
        have h2 : b - (a + 1) = k := by omega
        have h3 : a + 1 ≤ b := by omega
        simp [h, h1, h3, h2, hk]
      · have h3 : ¬ a + 1 ≤ b := by omega
        simp [h, h1, h3]

theorem State.nvmByte_setNvmByte (a b : Nat) (v : Byte) : (s.setNvmByte a v).nvmByte b = if b = a then v else s.nvmByte b :=
  Sparse.get_set ..

/-- Programming clears bits of the bytes it names, and leaves every other byte alone (R479). -/
theorem State.nvmByte_nvmProgram (a : Nat) (bs : List Byte) (b : Nat) :
    (s.nvmProgram a bs).nvmByte b = if a ≤ b then s.nvmByte b &&& (bs[b - a]?).getD 0xFF#8 else s.nvmByte b := by
  have ff (x : Byte) : x &&& 0xFF#8 = x := by
    have : (0xFF#8 : Byte) = BitVec.allOnes 8 := by decide
    rw [this, BitVec.and_allOnes]
  induction bs generalizing s a with
  | nil => simp [State.nvmProgram]; intro _; exact (ff _).symm
  | cons x bs ih =>
    unfold State.nvmProgram
    rw [ih, State.nvmByte_setNvmByte]
    by_cases h : b = a
    · subst h
      have h3 : ¬ b + 1 ≤ b := by omega
      simp [h3]
    · by_cases h1 : a ≤ b
      · obtain ⟨k, hk⟩ : ∃ k, b - a = k + 1 := ⟨b - a - 1, by omega⟩
        have h2 : b - (a + 1) = k := by omega
        have h3 : a + 1 ≤ b := by omega
        simp [h, h1, h3, h2, hk]
      · have h3 : ¬ a + 1 ≤ b := by omega
        simp [h, h1, h3]

theorem State.nvmByte_nvmEraseIf (p : Nat → Bool) (b : Nat) :
    (s.nvmEraseIf p).nvmByte b = if p b then 0xFF#8 else s.nvmByte b := Sparse.get_clearIf ..

/-! ### The canonical form -/

theorem Memory.wf_iff : Memory.wf s = true ↔ Sparse.wf regDefault s.regs = true ∧ Sparse.wf regDefault s.tick0 = true ∧
    Sparse.wf sramDefault s.sram = true ∧ Sparse.wf nvmDefault s.nvm = true := by
  simp [Memory.wf, and_assoc]

theorem Memory.wf_setReg (a : Nat) (v : Word) (h : Memory.wf s = true) : Memory.wf (s.setReg a v) = true := by
  rw [Memory.wf_iff] at h ⊢; exact ⟨Sparse.wf_set _ _ h.1, h.2⟩

theorem Memory.wf_put (f : Field) (v : Nat) (h : Memory.wf s = true) : Memory.wf (s.put f v) = true := Memory.wf_setReg s _ _ h

theorem Memory.wf_putBit (a b : Nat) (v : Bool) (h : Memory.wf s = true) : Memory.wf (s.putBit a b v) = true :=
  Memory.wf_setReg s _ _ h

theorem Memory.wf_setW1c (a b : Nat) (h : Memory.wf s = true) : Memory.wf (s.setW1c a b) = true := by
  rw [Memory.wf_iff] at h ⊢; exact ⟨Sparse.wf_set _ _ h.1, Sparse.wf_set _ _ h.2.1, h.2.2⟩

theorem Memory.wf_elapse (n : Nat) (h : Memory.wf s = true) : Memory.wf (s.elapse n) = true := by
  rw [Memory.wf_iff] at h ⊢
  refine ⟨h.1, ?_, h.2.2⟩
  by_cases hn : n = 0 <;> simp [State.elapse, hn, h.1, h.2.1]

theorem Memory.wf_clearRegs (p : Nat → Bool) (h : Memory.wf s = true) :
    Memory.wf { s with regs := Sparse.clearIf p s.regs } = true := by
  rw [Memory.wf_iff] at h ⊢; exact ⟨Sparse.wf_clearIf _ h.1, h.2⟩

theorem Memory.wf_setSramByte (a : Nat) (v : Byte) (h : Memory.wf s = true) : Memory.wf (s.setSramByte a v) = true := by
  rw [Memory.wf_iff] at h ⊢; exact ⟨h.1, h.2.1, Sparse.wf_set _ _ h.2.2.1, h.2.2.2⟩

theorem Memory.wf_setSramBytes (a : Nat) (bs : List Byte) (h : Memory.wf s = true) : Memory.wf (s.setSramBytes a bs) = true := by
  induction bs generalizing s a with
  | nil => exact h
  | cons b bs ih => exact ih _ _ (Memory.wf_setSramByte s a b h)

theorem Memory.wf_setSramWords (a : Nat) (ws : List Word) (h : Memory.wf s = true) : Memory.wf (s.setSramWords a ws) = true := by
  induction ws generalizing s a with
  | nil => exact h
  | cons w ws ih => exact ih _ _ (Memory.wf_setSramBytes s a _ h)

theorem Memory.wf_clearSram (p : Nat → Bool) (h : Memory.wf s = true) :
    Memory.wf { s with sram := Sparse.clearIf p s.sram } = true := by
  rw [Memory.wf_iff] at h ⊢; exact ⟨h.1, h.2.1, Sparse.wf_clearIf _ h.2.2.1, h.2.2.2⟩

theorem Memory.wf_setNvmByte (a : Nat) (v : Byte) (h : Memory.wf s = true) : Memory.wf (s.setNvmByte a v) = true := by
  rw [Memory.wf_iff] at h ⊢; exact ⟨h.1, h.2.1, h.2.2.1, Sparse.wf_set _ _ h.2.2.2⟩

theorem Memory.wf_nvmProgram (a : Nat) (bs : List Byte) (h : Memory.wf s = true) : Memory.wf (s.nvmProgram a bs) = true := by
  induction bs generalizing s a with
  | nil => exact h
  | cons b bs ih => exact ih _ _ (Memory.wf_setNvmByte s a _ h)

theorem Memory.wf_nvmEraseIf (p : Nat → Bool) (h : Memory.wf s = true) : Memory.wf (s.nvmEraseIf p) = true := by
  rw [Memory.wf_iff] at h ⊢; exact ⟨h.1, h.2.1, h.2.2.1, Sparse.wf_clearIf _ h.2.2.2⟩

/-- The memories of the machine after reset are in canonical form. -/
theorem Memory.wf_reset : Memory.wf State.reset = true := by decide

end Sys2Proof.Machine
end

