-- ==== Sys2Proof/Laws/Access.lean ====
section
/-! SUPPORT. What a served write of a block register is (R33, R41): the block's own answer, counted and told OK. -/

namespace Sys2Proof.Machine

/-! ### What a master is told is kept, and nothing else -/

@[simp] theorem State.told_pending (s : State) (st : Status) : (s.told st).pending = s.pending := rfl
@[simp] theorem State.told_now (s : State) (st : Status) : (s.told st).now = s.now := rfl
@[simp] theorem State.told_regs (s : State) (st : Status) : (s.told st).regs = s.regs := rfl
@[simp] theorem State.told_sram (s : State) (st : Status) : (s.told st).sram = s.sram := rfl
@[simp] theorem State.told_nvm (s : State) (st : Status) : (s.told st).nvm = s.nvm := rfl
@[simp] theorem State.told_freeIdx (s : State) (st : Status) : (s.told st).freeIdx = s.freeIdx := rfl
@[simp] theorem State.told_tick0 (s : State) (st : Status) : (s.told st).tick0 = s.tick0 := rfl
@[simp] theorem State.told_beat (s : State) (st : Status) : (s.told st).beat = s.beat := rfl
@[simp] theorem State.told_resamp (s : State) (st : Status) : (s.told st).resamp = s.resamp := rfl
@[simp] theorem State.told_evq (s : State) (st : Status) : (s.told st).evq = s.evq := rfl
@[simp] theorem State.told_lastRead (s : State) (st : Status) : (s.told st).lastRead = s.lastRead := rfl
@[simp] theorem State.told_irqc (s : State) (st : Status) : (s.told st).irqc = s.irqc := rfl
@[simp] theorem State.told_log (s : State) (st : Status) : (s.told st).log = s.log := rfl
@[simp] theorem State.told_nvmc (s : State) (st : Status) : (s.told st).nvmc = s.nvmc := rfl
@[simp] theorem State.told_pwr (s : State) (st : Status) : (s.told st).pwr = s.pwr := rfl
@[simp] theorem State.told_cmp (s : State) (st : Status) : (s.told st).cmp = s.cmp := rfl
@[simp] theorem State.told_cps (s : State) (st : Status) : (s.told st).cps = s.cps := rfl
@[simp] theorem State.told_adc (s : State) (st : Status) : (s.told st).adc = s.adc := rfl
@[simp] theorem State.told_cht (s : State) (st : Status) : (s.told st).cht = s.cht := rfl
@[simp] theorem State.told_qdl (s : State) (st : Status) : (s.told st).qdl = s.qdl := rfl
@[simp] theorem State.told_ctl (s : State) (st : Status) : (s.told st).ctl = s.ctl := rfl
@[simp] theorem State.told_spec (s : State) (st : Status) : (s.told st).spec = s.spec := rfl
@[simp] theorem State.told_dma (s : State) (st : Status) : (s.told st).dma = s.dma := rfl
@[simp] theorem State.told_mode (s : State) (st : Status) : (s.told st).mode = s.mode := rfl
@[simp] theorem State.told_pwm (s : State) (st : Status) : (s.told st).pwm = s.pwm := rfl
@[simp] theorem State.told_gd (s : State) (st : Status) : (s.told st).gd = s.gd := rfl
@[simp] theorem State.told_prot (s : State) (st : Status) : (s.told st).prot = s.prot := rfl
@[simp] theorem State.told_safe (s : State) (st : Status) : (s.told st).safe = s.safe := rfl
@[simp] theorem State.told_rly (s : State) (st : Status) : (s.told st).rly = s.rly := rfl
@[simp] theorem State.told_met (s : State) (st : Status) : (s.told st).met = s.met := rfl
@[simp] theorem State.told_hrm (s : State) (st : Status) : (s.told st).hrm = s.hrm := rfl
@[simp] theorem State.told_hsw (s : State) (st : Status) : (s.told st).hsw = s.hsw := rfl
@[simp] theorem State.told_ctx (s : State) (st : Status) : (s.told st).ctx = s.ctx := rfl
@[simp] theorem State.told_ldg (s : State) (st : Status) : (s.told st).ldg = s.ldg := rfl
@[simp] theorem State.told_bus (s : State) (st : Status) : (s.told st).bus = s.bus := rfl
@[simp] theorem State.told_host (s : State) (st : Status) : (s.told st).host = s.host := rfl
@[simp] theorem State.told_sb (s : State) (st : Status) : (s.told st).sb = s.sb := rfl
@[simp] theorem State.told_pins (s : State) (st : Status) : (s.told st).pins = s.pins := rfl
@[simp] theorem State.told_jtag (s : State) (st : Status) : (s.told st).jtag = s.jtag := rfl
@[simp] theorem State.told_lastStatus (s : State) (st : Status) : (s.told st).lastStatus = st := rfl
@[simp] theorem State.reg_told (s : State) (st : Status) (a : Nat) : (s.told st).reg a = s.reg a := rfl
@[simp] theorem State.get_told (s : State) (st : Status) (f : Field) : (s.told st).get f = s.get f := rfl
@[simp] theorem State.getI_told (s : State) (st : Status) (f : Field) : (s.told st).getI f = s.getI f := rfl
@[simp] theorem State.flag_told (s : State) (st : Status) (f : Field) : (s.told st).flag f = s.flag f := rfl
@[simp] theorem State.domOn_told (s : State) (st : Status) (d : Nat) : (s.told st).domOn d = s.domOn d := rfl
@[simp] theorem State.domReady_told (s : State) (st : Status) (d : Nat) : (s.told st).domReady d = s.domReady d := rfl
@[simp] theorem State.pageEn_told (s : State) (st : Status) (p : Nat) : (s.told st).pageEn p = s.pageEn p := rfl
@[simp] theorem State.sramByte_told (s : State) (st : Status) (a : Nat) : (s.told st).sramByte a = s.sramByte a := rfl
@[simp] theorem State.nvmByte_told (s : State) (st : Status) (a : Nat) : (s.told st).nvmByte a = s.nvmByte a := rfl
@[simp] theorem State.live_told (s : State) (st : Status) (p : Nat) : (s.told st).live p = s.live p := rfl
@[simp] theorem State.inSrst_told (s : State) (st : Status) (p : Nat) : (s.told st).inSrst p = s.inSrst p := rfl
@[simp] theorem State.bitOf_told (s : State) (st : Status) (a b : Nat) : (s.told st).bitOf a b = s.bitOf a b := rfl

/-! ### An accepted write, a plain store -/

@[simp] theorem State.accepted_pending (s : State) (p : Nat) : (s.accepted p).pending = s.pending := rfl
@[simp] theorem State.accepted_now (s : State) (p : Nat) : (s.accepted p).now = s.now := rfl
@[simp] theorem State.accepted_sram (s : State) (p : Nat) : (s.accepted p).sram = s.sram := rfl
@[simp] theorem State.accepted_nvm (s : State) (p : Nat) : (s.accepted p).nvm = s.nvm := rfl
@[simp] theorem State.accepted_freeIdx (s : State) (p : Nat) : (s.accepted p).freeIdx = s.freeIdx := rfl
@[simp] theorem State.accepted_tick0 (s : State) (p : Nat) : (s.accepted p).tick0 = s.tick0 := rfl
@[simp] theorem State.accepted_beat (s : State) (p : Nat) : (s.accepted p).beat = s.beat := rfl
@[simp] theorem State.accepted_resamp (s : State) (p : Nat) : (s.accepted p).resamp = s.resamp := rfl
@[simp] theorem State.accepted_evq (s : State) (p : Nat) : (s.accepted p).evq = s.evq := rfl
@[simp] theorem State.accepted_lastRead (s : State) (p : Nat) : (s.accepted p).lastRead = s.lastRead := rfl
@[simp] theorem State.accepted_irqc (s : State) (p : Nat) : (s.accepted p).irqc = s.irqc := rfl
@[simp] theorem State.accepted_log (s : State) (p : Nat) : (s.accepted p).log = s.log := rfl
@[simp] theorem State.accepted_nvmc (s : State) (p : Nat) : (s.accepted p).nvmc = s.nvmc := rfl
@[simp] theorem State.accepted_pwr (s : State) (p : Nat) : (s.accepted p).pwr = s.pwr := rfl
@[simp] theorem State.accepted_cmp (s : State) (p : Nat) : (s.accepted p).cmp = s.cmp := rfl
@[simp] theorem State.accepted_cps (s : State) (p : Nat) : (s.accepted p).cps = s.cps := rfl
@[simp] theorem State.accepted_adc (s : State) (p : Nat) : (s.accepted p).adc = s.adc := rfl
@[simp] theorem State.accepted_cht (s : State) (p : Nat) : (s.accepted p).cht = s.cht := rfl
@[simp] theorem State.accepted_qdl (s : State) (p : Nat) : (s.accepted p).qdl = s.qdl := rfl
@[simp] theorem State.accepted_ctl (s : State) (p : Nat) : (s.accepted p).ctl = s.ctl := rfl
@[simp] theorem State.accepted_spec (s : State) (p : Nat) : (s.accepted p).spec = s.spec := rfl
@[simp] theorem State.accepted_dma (s : State) (p : Nat) : (s.accepted p).dma = s.dma := rfl
@[simp] theorem State.accepted_mode (s : State) (p : Nat) : (s.accepted p).mode = s.mode := rfl
@[simp] theorem State.accepted_pwm (s : State) (p : Nat) : (s.accepted p).pwm = s.pwm := rfl
@[simp] theorem State.accepted_gd (s : State) (p : Nat) : (s.accepted p).gd = s.gd := rfl
@[simp] theorem State.accepted_prot (s : State) (p : Nat) : (s.accepted p).prot = s.prot := rfl
@[simp] theorem State.accepted_safe (s : State) (p : Nat) : (s.accepted p).safe = s.safe := rfl
@[simp] theorem State.accepted_rly (s : State) (p : Nat) : (s.accepted p).rly = s.rly := rfl
@[simp] theorem State.accepted_met (s : State) (p : Nat) : (s.accepted p).met = s.met := rfl
@[simp] theorem State.accepted_hrm (s : State) (p : Nat) : (s.accepted p).hrm = s.hrm := rfl
@[simp] theorem State.accepted_hsw (s : State) (p : Nat) : (s.accepted p).hsw = s.hsw := rfl
@[simp] theorem State.accepted_ctx (s : State) (p : Nat) : (s.accepted p).ctx = s.ctx := rfl
@[simp] theorem State.accepted_ldg (s : State) (p : Nat) : (s.accepted p).ldg = s.ldg := rfl
@[simp] theorem State.accepted_bus (s : State) (p : Nat) : (s.accepted p).bus = s.bus := rfl
@[simp] theorem State.accepted_host (s : State) (p : Nat) : (s.accepted p).host = s.host := rfl
@[simp] theorem State.accepted_sb (s : State) (p : Nat) : (s.accepted p).sb = s.sb := rfl
@[simp] theorem State.accepted_pins (s : State) (p : Nat) : (s.accepted p).pins = s.pins := rfl
@[simp] theorem State.accepted_jtag (s : State) (p : Nat) : (s.accepted p).jtag = s.jtag := rfl
@[simp] theorem State.accepted_lastStatus (s : State) (p : Nat) : (s.accepted p).lastStatus = .ok := rfl

theorem State.reg_accepted_ne (s : State) {p a : Nat} (h : a ≠ pgSeq p) : (s.accepted p).reg a = s.reg a := s.reg_setReg_ne _ h
@[simp] theorem State.reg_accepted_seq (s : State) (p : Nat) : (s.accepted p).reg (pgSeq p) = s.reg (pgSeq p) + 1#32 :=
  s.reg_setReg_self ..
theorem State.get_accepted (s : State) {p : Nat} {f : Field} (h : f.addr ≠ pgSeq p) : (s.accepted p).get f = s.get f :=
  State.get_congr (s.reg_accepted_ne h)
theorem State.flag_accepted (s : State) {p : Nat} {f : Field} (h : f.addr ≠ pgSeq p) : (s.accepted p).flag f = s.flag f :=
  State.flag_congr (s.reg_accepted_ne h)
theorem State.bitOf_accepted (s : State) {p a : Nat} (b : Nat) (h : a ≠ pgSeq p) : (s.accepted p).bitOf a b = s.bitOf a b := by
  rw [State.bitOf, s.reg_accepted_ne h]; rfl
@[simp] theorem State.plainStore_pending (s : State) (a : Nat) (v : Word) : (s.plainStore a v).pending = s.pending := by
  unfold State.plainStore; split <;> rfl
@[simp] theorem State.plainStore_now (s : State) (a : Nat) (v : Word) : (s.plainStore a v).now = s.now := by
  unfold State.plainStore; split <;> rfl
@[simp] theorem State.plainStore_sram (s : State) (a : Nat) (v : Word) : (s.plainStore a v).sram = s.sram := by
  unfold State.plainStore; split <;> rfl
@[simp] theorem State.plainStore_nvm (s : State) (a : Nat) (v : Word) : (s.plainStore a v).nvm = s.nvm := by
  unfold State.plainStore; split <;> rfl
@[simp] theorem State.plainStore_freeIdx (s : State) (a : Nat) (v : Word) : (s.plainStore a v).freeIdx = s.freeIdx := by
  unfold State.plainStore; split <;> rfl
@[simp] theorem State.plainStore_tick0 (s : State) (a : Nat) (v : Word) : (s.plainStore a v).tick0 = s.tick0 := by
  unfold State.plainStore; split <;> rfl
@[simp] theorem State.plainStore_beat (s : State) (a : Nat) (v : Word) : (s.plainStore a v).beat = s.beat := by
  unfold State.plainStore; split <;> rfl
@[simp] theorem State.plainStore_resamp (s : State) (a : Nat) (v : Word) : (s.plainStore a v).resamp = s.resamp := by
  unfold State.plainStore; split <;> rfl
@[simp] theorem State.plainStore_evq (s : State) (a : Nat) (v : Word) : (s.plainStore a v).evq = s.evq := by
  unfold State.plainStore; split <;> rfl
@[simp] theorem State.plainStore_lastStatus (s : State) (a : Nat) (v : Word) : (s.plainStore a v).lastStatus = s.lastStatus := by
  unfold State.plainStore; split <;> rfl
@[simp] theorem State.plainStore_lastRead (s : State) (a : Nat) (v : Word) : (s.plainStore a v).lastRead = s.lastRead := by
  unfold State.plainStore; split <;> rfl
@[simp] theorem State.plainStore_irqc (s : State) (a : Nat) (v : Word) : (s.plainStore a v).irqc = s.irqc := by
  unfold State.plainStore; split <;> rfl
@[simp] theorem State.plainStore_log (s : State) (a : Nat) (v : Word) : (s.plainStore a v).log = s.log := by
  unfold State.plainStore; split <;> rfl
@[simp] theorem State.plainStore_nvmc (s : State) (a : Nat) (v : Word) : (s.plainStore a v).nvmc = s.nvmc := by
  unfold State.plainStore; split <;> rfl
@[simp] theorem State.plainStore_pwr (s : State) (a : Nat) (v : Word) : (s.plainStore a v).pwr = s.pwr := by
  unfold State.plainStore; split <;> rfl
@[simp] theorem State.plainStore_cmp (s : State) (a : Nat) (v : Word) : (s.plainStore a v).cmp = s.cmp := by
  unfold State.plainStore; split <;> rfl
@[simp] theorem State.plainStore_cps (s : State) (a : Nat) (v : Word) : (s.plainStore a v).cps = s.cps := by
  unfold State.plainStore; split <;> rfl
@[simp] theorem State.plainStore_adc (s : State) (a : Nat) (v : Word) : (s.plainStore a v).adc = s.adc := by
  unfold State.plainStore; split <;> rfl
@[simp] theorem State.plainStore_cht (s : State) (a : Nat) (v : Word) : (s.plainStore a v).cht = s.cht := by
  unfold State.plainStore; split <;> rfl
@[simp] theorem State.plainStore_qdl (s : State) (a : Nat) (v : Word) : (s.plainStore a v).qdl = s.qdl := by
  unfold State.plainStore; split <;> rfl
@[simp] theorem State.plainStore_ctl (s : State) (a : Nat) (v : Word) : (s.plainStore a v).ctl = s.ctl := by
  unfold State.plainStore; split <;> rfl
@[simp] theorem State.plainStore_spec (s : State) (a : Nat) (v : Word) : (s.plainStore a v).spec = s.spec := by
  unfold State.plainStore; split <;> rfl
@[simp] theorem State.plainStore_dma (s : State) (a : Nat) (v : Word) : (s.plainStore a v).dma = s.dma := by
  unfold State.plainStore; split <;> rfl
@[simp] theorem State.plainStore_mode (s : State) (a : Nat) (v : Word) : (s.plainStore a v).mode = s.mode := by
  unfold State.plainStore; split <;> rfl
@[simp] theorem State.plainStore_pwm (s : State) (a : Nat) (v : Word) : (s.plainStore a v).pwm = s.pwm := by
  unfold State.plainStore; split <;> rfl
@[simp] theorem State.plainStore_gd (s : State) (a : Nat) (v : Word) : (s.plainStore a v).gd = s.gd := by
  unfold State.plainStore; split <;> rfl
@[simp] theorem State.plainStore_prot (s : State) (a : Nat) (v : Word) : (s.plainStore a v).prot = s.prot := by
  unfold State.plainStore; split <;> rfl
@[simp] theorem State.plainStore_safe (s : State) (a : Nat) (v : Word) : (s.plainStore a v).safe = s.safe := by
  unfold State.plainStore; split <;> rfl
@[simp] theorem State.plainStore_rly (s : State) (a : Nat) (v : Word) : (s.plainStore a v).rly = s.rly := by
  unfold State.plainStore; split <;> rfl
@[simp] theorem State.plainStore_met (s : State) (a : Nat) (v : Word) : (s.plainStore a v).met = s.met := by
  unfold State.plainStore; split <;> rfl
@[simp] theorem State.plainStore_hrm (s : State) (a : Nat) (v : Word) : (s.plainStore a v).hrm = s.hrm := by
  unfold State.plainStore; split <;> rfl
@[simp] theorem State.plainStore_hsw (s : State) (a : Nat) (v : Word) : (s.plainStore a v).hsw = s.hsw := by
  unfold State.plainStore; split <;> rfl
@[simp] theorem State.plainStore_ctx (s : State) (a : Nat) (v : Word) : (s.plainStore a v).ctx = s.ctx := by
  unfold State.plainStore; split <;> rfl
@[simp] theorem State.plainStore_ldg (s : State) (a : Nat) (v : Word) : (s.plainStore a v).ldg = s.ldg := by
  unfold State.plainStore; split <;> rfl
@[simp] theorem State.plainStore_bus (s : State) (a : Nat) (v : Word) : (s.plainStore a v).bus = s.bus := by
  unfold State.plainStore; split <;> rfl
@[simp] theorem State.plainStore_host (s : State) (a : Nat) (v : Word) : (s.plainStore a v).host = s.host := by
  unfold State.plainStore; split <;> rfl
@[simp] theorem State.plainStore_sb (s : State) (a : Nat) (v : Word) : (s.plainStore a v).sb = s.sb := by
  unfold State.plainStore; split <;> rfl
@[simp] theorem State.plainStore_pins (s : State) (a : Nat) (v : Word) : (s.plainStore a v).pins = s.pins := by
  unfold State.plainStore; split <;> rfl
@[simp] theorem State.plainStore_jtag (s : State) (a : Nat) (v : Word) : (s.plainStore a v).jtag = s.jtag := by
  unfold State.plainStore; split <;> rfl
theorem State.reg_plainStore_ne (s : State) {a b : Nat} (v : Word) (h : b ≠ a) : (s.plainStore a v).reg b = s.reg b := by
  unfold State.plainStore
  split
  · exact s.reg_setReg_ne _ h
  · rfl
theorem State.reg_plainStore_self (s : State) {a : Nat} {r : RegRow} (v : Word) (h : regRow? a = some r) :
    (s.plainStore a v).reg a = r.written (s.reg a) (s.regWas a) v := by
  simp only [State.plainStore, h, State.reg_setReg_self]

/-- A writable block register outside the safety groups and CTL, whose write no rule of ownership or power judges first. -/
def directReg (a : Nat) : Bool :=
  decide (0x40 ≤ a % 0x1000) && decide (a / 0x1000 ≠ Pg.CTL) && decide (a / 0x1000 ≠ Pg.PWM ∨ Reg.PWM_SH_CMP 6 < a ∨ a < Reg.PWM_SH_CMP 0) &&
    decide (a ≠ Reg.PWR_DOMAIN_EN) && decide (a ≠ Reg.PWR_STATE_REQ) &&
    (match regRow? a with
    | some r => r.writable && decide (r.group = 6)
    | none => false)

/-- A write by a master is a write in the tick it is granted its beat in (R18). -/
theorem State.accessWrite_eq (s : State) (who : Who) (a : Nat) (v : Word) :
    s.accessWrite who a v = (s.granted (some a)).writeNow who a v := rfl

theorem State.writeNow_direct (s : State) {who : Who} {a : Nat} {v : Word} (hs : s.serves a = true) (hd : directReg a = true)
    (hok : (s.blockWrite who false a v).2 = .ok) :
    s.writeNow who a v = (s.blockWrite who false a v).1.accepted (a / 0x1000) := by
  simp only [directReg, Bool.and_eq_true, decide_eq_true_eq] at hd
  obtain ⟨⟨⟨⟨⟨h1, h2⟩, h3⟩, h4⟩, h5⟩, h6⟩ := hd
  simp only [State.serves, Bool.and_eq_true, decide_eq_true_eq, Bool.not_eq_true'] at hs
  obtain ⟨⟨⟨⟨⟨k1, k2⟩, k3⟩, k4⟩, k5⟩, k6⟩ := hs
  cases hr : regRow? a with
  | none => rw [hr] at h6; cases h6
  | some r =>
    rw [hr] at h6
    simp only [Bool.and_eq_true, decide_eq_true_eq] at h6
    have hl : a < 0x40000 := by simpa [inRegs] using k1
    have hsr : inSram a = false := by simp [inSram]; omega
    have hoff : ¬ a % 0x1000 < 0x40 := by omega
    have hctrl : a % 0x1000 ≠ 0x00C := by omega
    have hsh : (decide (Reg.PWM_SH_CMP 0 ≤ a) && decide (a ≤ Reg.PWM_SH_CMP 6)) = false := by
      simp only [Bool.and_eq_false_iff, decide_eq_false_iff_not]
      rcases h3 with h | h | h
      · have : ¬ (Reg.PWM_SH_CMP 0 ≤ a ∧ a ≤ Reg.PWM_SH_CMP 6) := by
          rintro ⟨x, y⟩
          apply h
          simp only [Reg.PWM_SH_CMP, Pg.PWM] at *
          omega
        by_cases hx : Reg.PWM_SH_CMP 0 ≤ a
        · exact .inr (fun y => this ⟨hx, y⟩)
        · exact .inl hx
      · exact .inr (by omega)
      · exact .inl (by omega)
    simp only [State.writeNow, State.busWriteN, hsr, k1, k2, k3, k4, k6, State.regWrite, hoff, hr, k5, h6.1, h6.2, h2, h4, h5,
      hsh, hok, hctrl, Bool.false_eq_true, if_false, if_true, Bool.not_true, Bool.not_false, Bool.false_or, Bool.and_false,
      Bool.false_and, Bool.true_and, Bool.and_true, decide_false, decide_true, bne_self_eq_false, ne_eq, not_true, not_false_iff,
      Bool.or_false, Bool.true_or, State.accepted, State.told, Nat.lt_irrefl, reduceCtorEq]


/-- A plain register takes what the masks of its row say. -/
theorem State.blockWrite_plain (s : State) {who : Who} {a : Nat} {v : Word} (h : plainReg a = true) :
    s.blockWrite who false a v = (s.plainStore a v, .ok) := by
  unfold plainReg at h
  unfold State.blockWrite
  dsimp only at h
  split at h
  all_goals (first | (rename_i hp; simp only [hp]; done) | (rename_i hp; simp only [hp]) | cases h)
  all_goals simp only [Bool.and_eq_true, Bool.not_eq_true', decide_eq_true_eq, List.mem_cons, not_or, List.not_mem_nil,
    not_false_iff, and_true, Bool.or_eq_true, Bool.and_eq_false_iff, decide_eq_false_iff_not, ne_eq] at h
  · simp [State.sysWrite, h]
  · simp only [State.pwrWrite, if_neg (Nat.not_le.2 h.1), h.2.1, if_false]
  · simp [State.pinsWrite, Nat.not_le.2 h]
  · simp [State.hostWrite, h]
  · have : ¬ (Reg.CTX_QUAR 0 ≤ a ∧ a ≤ Reg.CTX_QUAR 7) := by omega
    simp [State.ctxPageWrite, h, this]
  · simp [State.dmaPageWrite, h]
  · simp [State.cpsWrite, h]
  · obtain ⟨⟨⟨h1, h2⟩, h3⟩, h4⟩ := h
    have e3 : ¬ (Reg.CHT_WP_ANGLE 0 ≤ a ∧ a ≤ Reg.CHT_WP_ANGLE 63) := by omega
    have e4 : ¬ (Reg.CHT_WP_REP 0 ≤ a ∧ a ≤ Reg.CHT_WP_REP 63) := by omega
    simp [State.chtWrite, h1, h2, e3, e4]
  · simp [State.qdlWrite, h]
  · obtain ⟨h1, h2⟩ := h
    have e3 : ¬ (0x80 ≤ a % 0x1000 ∧ a % 0x1000 < 0xC0) := by omega
    have e4 : ¬ (0x200 ≤ a % 0x1000) := by omega
    have e5 : a ≠ Reg.ADCI_CFG := by simp only [Reg.ADCI_CFG]; omega
    simp [State.adcWrite, h1, e3, e4, e5]
  · obtain ⟨h1, h2⟩ := h
    have e3 : ¬ (0x80 ≤ a % 0x1000 ∧ a % 0x1000 < 0xC0) := by omega
    have e4 : ¬ (0x200 ≤ a % 0x1000) := by omega
    have e5 : a ≠ Reg.ADCX_CLK_CFG := by simp only [Reg.ADCX_CLK_CFG]; omega
    simp [State.adcWrite, h1, e3, e4, e5]
  · have e1 : ¬ a ≤ Reg.CMP_CTRL 15 := by simp only [Reg.CMP_CTRL, Reg.CMP_THR] at *; omega
    simp [State.cmpWrite, e1, Nat.not_le.2 h]
  · simp [State.modeWrite, h]
  · simp [State.pwmWrite, h]
  · obtain ⟨⟨⟨h1, h2, h3⟩, h4⟩, h5⟩ := h
    have e4 : ¬ (Reg.GD_DT_RISE 0 ≤ a ∧ a ≤ Reg.GD_DT_FALL 6) := by omega
    have e5 : ¬ (Reg.GD_LEG_CTRL 0 ≤ a ∧ a ≤ Reg.GD_LEG_CTRL 6) := by omega
    simp [State.gdWrite, h1, h2, h3, e4, e5]
  · simp [State.metWrite, h]
  · have e5 : ¬ (Reg.LDG_TENANT_WIN 0 ≤ a ∧ a ≤ Reg.LDG_TENANT_WIN 7) := by omega
    simp [State.ldgWrite, e5]
  · obtain ⟨h1, h2⟩ := h
    have e : ∀ b, b ≠ a → (s.plainStore a v).reg b = s.reg b := by
      intro b hb
      unfold State.plainStore
      split
      · exact s.reg_setReg_ne _ hb
      · rfl
    have f1 : (s.plainStore a v).flag F.BUS_U1_CFG_EN = s.flag F.BUS_U1_CFG_EN := State.flag_congr (e _ (Ne.symm h1))
    have f2 : (s.plainStore a v).flag F.BUS_U2_CFG_EN = s.flag F.BUS_U2_CFG_EN := State.flag_congr (e _ (Ne.symm h2))
    simp only [State.busWritePage, f1, f2, Bool.and_not_self, Bool.or_self, Bool.false_eq_true, if_false]
  · simp [State.protWrite, State.protStore, h]
  · simp [State.rlyWrite, h]
  · have e1 : ¬ a ≤ Reg.HSW_CTRL 1 := by simp only [Reg.HSW_CTRL, Reg.HSW_STAT] at *; omega
    simp [State.hswWrite, e1, Nat.not_le.2 h]
  · simp [State.logWrite, h]
theorem inSram_of_inRegs {a : Nat} (h : inRegs a = true) : inSram a = false := by
  revert h; simp only [inRegs, inSram, decide_eq_true_eq, Bool.and_eq_false_iff, decide_eq_false_iff_not]; omega

/-- An access that the page refuses is recorded there, and the master is told (R35, R36). -/
theorem State.writeNow_refused (s : State) {who : Who} {a : Nat} {v : Word} {st : Status} (h1 : inRegs a = true) (h2 : a % 4 = 0)
    (h3 : pageListed (a / 0x1000) = true) (h : s.pageStatus (a / 0x1000) = st) (hn : st ≠ .ok) :
    s.writeNow who a v = (s.refuse (a / 0x1000) st).told st := by
  cases st
  · exact absurd rfl hn
  all_goals simp [State.writeNow, State.busWriteN, inSram_of_inRegs h1, h1, h2, h3, h, State.told]

/-- An access to a page that serves it is judged by the register's rule, and a refusal recorded (R33, R40). -/
theorem State.writeNow_served (s : State) {who : Who} {a : Nat} {v : Word} (h1 : inRegs a = true) (h2 : a % 4 = 0)
    (h : s.pageStatus (a / 0x1000) = .ok) (hc : (ctlHolds a && s.ctl.run.isSome) = false) :
    s.writeNow who a v =
      (let x := s.regWrite who false a v
       (if x.2 = .ok ∨ a % 0x1000 = 0x00C ∨ a = Reg.PWR_DOMAIN_EN ∨ a = Reg.PWR_STATE_REQ then x.1
        else x.1.refuse (a / 0x1000) x.2).told x.2) := by
  have h3 : pageListed (a / 0x1000) = true := by
    cases hl : pageListed (a / 0x1000)
    · simp [State.pageStatus, hl] at h
    · rfl
  simp only [State.writeNow, State.busWriteN, inSram_of_inRegs h1, h1, h2, h3, h, hc, State.told]
  simp only [Bool.false_eq_true, if_false, if_true, ne_eq, not_true, bne_self_eq_false, Bool.not_true, Bool.or_self,
    Bool.or_eq_true, decide_eq_true_eq, or_assoc, decide_false]

theorem State.pageReady_of_notReady (s : State) {p : Nat} (h : s.pageStatus p = .notReady) : s.pageReady p = false := by
  revert h
  unfold State.pageStatus
  split
  · intro h; cases h
  split
  · rename_i hd
    intro _
    have hd : s.pwr.on.getLsbD (pageDomain p) = false := by simpa [State.domOn] using hd
    have hs : s.domServed (pageDomain p) = false := by
      rw [State.domServed, State.domReady, hd, Bool.false_and, Bool.false_or]
      by_cases h0 : pageDomain p = 0
      · rw [State.domOn, ← h0, hd, Bool.and_false, Bool.false_and]
      · rw [decide_eq_false h0, Bool.false_and, Bool.false_and]
    simp [State.pageReady, hs]
  · split
    · rename_i hd; intro _; simpa using hd
    · intro h; cases h

end Sys2Proof.Machine
end

