-- ==== Sys2Proof/Laws/Rows.lean ====
section
/-! SUPPORT. What each row of the table of operations is: the effect of its rule, and then what that leaves to happen by itself. -/

namespace Sys2Proof.Machine

theorem exec_registerWrite (who : Who) (addr : Nat) (val : Word) (s : State) :
    exec (.registerWrite who addr val) s = .next (s.accessWrite who addr val).settle := rfl
theorem exec_pageEnable (who : Who) (page : Fin 64) (val : Word) (s : State) :
    exec (.pageEnable who page val) s = .next (s.accessWrite who (pgCtrl page) (wputBit val 1 false)).settle := rfl
theorem exec_softReset (who : Who) (page : Fin 64) (val : Word) (s : State) :
    exec (.softReset who page val) s = .next (s.accessWrite who (pgCtrl page) (wputBit val 1 true)).settle := rfl
theorem exec_softResetDone (page : Fin 64) (s : State) :
    exec (.softResetDone page) s = .next (s.softResetDone page).settle := rfl
theorem exec_unitQuarantine (who : Who) (page : Fin 64) (unit : Nat) (val : Word) (s : State) :
    exec (.unitQuarantine who page unit val) s = .next (s.unitQuarWrite who page unit true val).settle := rfl
theorem exec_pageQuarantine (who : Who) (page : Fin 64) (val : Word) (s : State) :
    exec (.pageQuarantine who page val) s = .next (s.accessWrite who (pgCtrl page) (wputBit (wputBit val 1 false) 2 true)).settle := rfl
theorem exec_hostClear (who : Who) (page : Fin 64) (unit : Option Nat) (val : Word) (s : State) :
    exec (.hostClear who page unit val) s = .next (s.hostClear who page unit val).settle := rfl
theorem exec_eventSet (who : Who) (page : Fin 64) (val : Word) (s : State) :
    exec (.eventSet who page val) s = .next (s.accessWrite who (pgEvtSet page) val).settle := rfl
theorem exec_qualificationWindowEnd (page : Fin 64) (unit : Nat) (s : State) :
    exec (.qualificationWindowEnd page unit) s = .next (s.windowEndOf page unit).settle := rfl
theorem exec_cpsUpdate (s : State) :
    exec .cpsUpdate s = .next s.cpsUpdate.settle := rfl
theorem exec_bearCycleIncrement (s : State) :
    exec .bearCycleIncrement s = .next s.bearCycle.settle := rfl
theorem exec_bearingTick (s : State) :
    exec .bearingTick s = .next s.nextBoundary.settle := rfl
theorem exec_blendEnd (s : State) :
    exec .blendEnd s = .next s.blendEnd.settle := rfl
theorem exec_waypointFire (n : Fin 64) (s : State) :
    exec (.waypointFire n) s = .next (s.waypointFire n).settle := rfl
theorem exec_chtWpAngleWrite (who : Who) (n : Fin 64) (val : Word) (s : State) :
    exec (.chtWpAngleWrite who n val) s = .next (s.accessWrite who (Reg.CHT_WP_ANGLE n) val).settle := rfl
theorem exec_chtWpRepWrite (who : Who) (n : Fin 64) (val : Word) (s : State) :
    exec (.chtWpRepWrite who n val) s = .next (s.accessWrite who (Reg.CHT_WP_REP n) val).settle := rfl
theorem exec_cntclr (who : Who) (val : Word) (s : State) :
    exec (.cntclr who val) s = .next (s.accessWrite who Reg.CHT_CFG (wputBit val 0 true)).settle := rfl
theorem exec_leadFrameSend (other : Option (Fin 8)) (s : State) :
    exec (.leadFrameSend other) s = .next (s.leadFrameSend (other.map Fin.val)).settle := rfl
theorem exec_leadFrameReceive (bytes : List Byte) (s : State) :
    exec (.leadFrameReceive bytes) s = .next (s.leadFrameReceive bytes).settle := rfl
theorem exec_followerFrameSend (s : State) :
    exec .followerFrameSend s = .next s.followerFrameSend.settle := rfl
theorem exec_followerFrameReceive (bytes : List Byte) (s : State) :
    exec (.followerFrameReceive bytes) s = .next (s.followerFrameReceive bytes).settle := rfl
theorem exec_bsyncEdge (s : State) :
    exec .bsyncEdge s = .next s.bsyncEdge.settle := rfl
theorem exec_echoSend (s : State) :
    exec .echoSend s = .next s.echoSend.settle := rfl
theorem exec_echoReceive (m : Nat) (s : State) :
    exec (.echoReceive m) s = .next (s.echoReceive m).settle := rfl
theorem exec_echoTimeout (s : State) :
    exec .echoTimeout s = .next s.echoTimeout.settle := rfl
theorem exec_leadMissing (s : State) :
    exec .leadMissing s = .next s.leadMissingAt.settle := rfl
theorem exec_qdlListenTimeout (s : State) :
    exec .qdlListenTimeout s = .next s.listenTimeoutAt.settle := rfl
theorem exec_claimLead (s : State) :
    exec .claimLead s = .next s.claimLead.settle := rfl
theorem exec_qdlLeadlost (s : State) :
    exec .qdlLeadlost s = .next s.leadLostAt.settle := rfl
theorem exec_adcCOutput (ch : Fin 18) (x : Stream) (s : State) :
    exec (.adcCOutput ch x) s = .next (s.cDeliver ch x).settle := rfl
theorem exec_adcMSample (ch : Fin 18) (whole : Int) (part : Fin 1099511627776) (s : State) :
    exec (.adcMSample ch whole part) s = .next (s.mDeliver ch (whole * 1099511627776 + part.val)).settle := rfl
theorem exec_adcSwtrig (who : Who) (isolated : Bool) (g : Fin 4) (val : Word) (s : State) :
    exec (.adcSwtrig who isolated g val) s = .next (s.accessWrite who (if isolated then Reg.ADCI_TRIG g else Reg.ADCX_TRIG g) (wputBit val 31 true)).settle := rfl
theorem exec_adcResultRead (who : Who) (addr : Nat) (s : State) :
    exec (.adcResultRead who addr) s = .next (s.accessRead who addr 4).settle := rfl
theorem exec_adcStuck (ch : Fin 18) (s : State) :
    exec (.adcStuck ch) s = .next (s.adcLost ch 5).settle := rfl
theorem exec_adcClkloss (ch : Fin 18) (s : State) :
    exec (.adcClkloss ch) s = .next (s.adcClkLoss ch).settle := rfl
theorem exec_adcStuckClear (r : Resumed) (s : State) :
    exec (.adcStuckClear r) s = .next (s.adcStuckClear r.ch r.stuck r.clk).settle := rfl
theorem exec_adcRefReady (s : State) :
    exec .adcRefReady s = .next s.adcRefReady.settle := rfl
theorem exec_adcChCtrlWrite (who : Who) (ch : Fin 18) (val : Word) (s : State) :
    exec (.adcChCtrlWrite who ch val) s = .next (s.accessWrite who (adcCtrl ch) val).settle := rfl
theorem exec_adcxClkCfgWrite (who : Who) (val : Word) (s : State) :
    exec (.adcxClkCfgWrite who val) s = .next (s.accessWrite who Reg.ADCX_CLK_CFG val).settle := rfl
theorem exec_ctlSwtrig (who : Who) (input : Fin 4) (val : Word) (s : State) :
    exec (.ctlSwtrig who input val) s = .next (s.accessWrite who Reg.CTL_CFG (wputBit val (8 + input) true)).settle := rfl
theorem exec_ctlStepStart (s : State) :
    exec .ctlStepStart s = .next s.stepStartCtl.settle := rfl
theorem exec_ctlFetch (s : State) :
    exec .ctlFetch s = .next (s.entryIf 0x01).settle := rfl
theorem exec_ctlSlot (s : State) :
    exec .ctlSlot s = .next (s.entryIf 0x02).settle := rfl
theorem exec_ctlXform (s : State) :
    exec .ctlXform s = .next (s.entryIf 0x03).settle := rfl
theorem exec_ctlModu (s : State) :
    exec .ctlModu s = .next (s.entryIf 0x04).settle := rfl
theorem exec_ctlPwmw (s : State) :
    exec .ctlPwmw s = .next (s.entryIf 0x05).settle := rfl
theorem exec_ctlLoad (s : State) :
    exec .ctlLoad s = .next (s.entryIf 0x06).settle := rfl
theorem exec_ctlRate (s : State) :
    exec .ctlRate s = .next (s.entryIf 0x07).settle := rfl
theorem exec_ctlRamp (s : State) :
    exec .ctlRamp s = .next (s.entryIf 0x08).settle := rfl
theorem exec_ctlMov (s : State) :
    exec .ctlMov s = .next (s.entryIf 0x09).settle := rfl
theorem exec_ctlAdd (s : State) :
    exec .ctlAdd s = .next (s.entryIf 0x0A).settle := rfl
theorem exec_ctlSub (s : State) :
    exec .ctlSub s = .next (s.entryIf 0x0B).settle := rfl
theorem exec_ctlMul (s : State) :
    exec .ctlMul s = .next (s.entryIf 0x0C).settle := rfl
theorem exec_ctlFma (s : State) :
    exec .ctlFma s = .next (s.entryIf 0x0D).settle := rfl
theorem exec_ctlClamp (s : State) :
    exec .ctlClamp s = .next (s.entryIf 0x0E).settle := rfl
theorem exec_ctlKonst (s : State) :
    exec .ctlKonst s = .next (s.entryIf 0x0F).settle := rfl
theorem exec_ctlEnd (s : State) :
    exec .ctlEnd s = .next (s.entryIf 0x00).settle := rfl
theorem exec_ctlIllegalEntry (s : State) :
    exec .ctlIllegalEntry s = .next s.entryIllegal.settle := rfl
theorem exec_ctlFetchResume (s : State) :
    exec .ctlFetchResume s = .next s.fetchResume.settle := rfl
theorem exec_ctlFixTimeout (s : State) :
    exec .ctlFixTimeout s = .next s.fixTimeout.settle := rfl
theorem exec_ctlRecompute (s : State) :
    exec .ctlRecompute s = .next (s.redoStart .recompute).settle := rfl
theorem exec_ctlReplay (s : State) :
    exec .ctlReplay s = .next (s.redoStart .replay).settle := rfl
theorem exec_stepWithdraw (s : State) :
    exec .stepWithdraw s = .next s.stepWithdraw.settle := rfl
theorem exec_beartunePlace (s : State) :
    exec .beartunePlace s = .next s.beartunePlace.settle := rfl
theorem exec_ctlBeartuneSet (who : Who) (slot : Fin 32) (val : Word) (s : State) :
    exec (.ctlBeartuneSet who slot val) s = .next (s.accessWrite who (Reg.CTL_SLOT_CFG slot) (wputBit val 1 true)).settle := rfl
theorem exec_ctlSclr (who : Who) (slot : Fin 32) (val : Word) (s : State) :
    exec (.ctlSclr who slot val) s = .next (s.accessWrite who (Reg.CTL_SLOT_CFG slot) (wputBit val 4 true)).settle := rfl
theorem exec_ctlLatmaxClr (who : Who) (val : Word) (s : State) :
    exec (.ctlLatmaxClr who val) s = .next (s.accessWrite who Reg.CTL_LATMAX (wputBit val 31 true)).settle := rfl
theorem exec_specFixDeadline (s : State) :
    exec .specFixDeadline s = .next s.fixDeadline.settle := rfl
theorem exec_controlledTripShutdown (s : State) :
    exec .controlledTripShutdown s = .next s.specShutdown.settle := rfl
theorem exec_substEnd (who : Who) (channels : BitVec 8) (s : State) :
    exec (.substEnd who channels) s = .next (s.accessWrite who Reg.SPEC_SUBST (channels.setWidth 32)).settle := rfl
theorem exec_fixlostRelease (who : Who) (channels : BitVec 8) (s : State) :
    exec (.fixlostRelease who channels) s = .next (s.accessWrite who Reg.SPEC_SUBST (channels.setWidth 32 <<< 8)).settle := rfl
theorem exec_specTripClear (who : Who) (s : State) :
    exec (.specTripClear who) s = .next (s.accessWrite who Reg.SPEC_SUBST 0x08000000#32).settle := rfl
theorem exec_specBandWrite (who : Who) (n : Fin 8) (val : Word) (s : State) :
    exec (.specBandWrite who n val) s = .next (s.accessWrite who (Reg.SPEC_BAND n) val).settle := rfl
theorem exec_drCalibrate (s : State) :
    exec .drCalibrate s = .next (s.sliceOf 0x26).settle := rfl
theorem exec_modeUpdateEnd (s : State) :
    exec .modeUpdateEnd s = .next s.modeUpdateEnd.settle := rfl
theorem exec_modeReqWrite (who : Who) (val : Word) (s : State) :
    exec (.modeReqWrite who val) s = .next (s.accessWrite who Reg.MODE_REQ val).settle := rfl
theorem exec_modeSet (s : State) :
    exec .modeSet s = .next (s.sliceOf 0x52).settle := rfl
theorem exec_mpptPeriodEnd (s : State) :
    exec .mpptPeriodEnd s = .next s.mpptPeriodEnd.settle := rfl
theorem exec_mpptSweep (s : State) :
    exec .mpptSweep s = .next (s.sliceOf 0x22).settle := rfl
theorem exec_mpptSweepTimer (s : State) :
    exec .mpptSweepTimer s = .next s.sweepTimer.settle := rfl
theorem exec_tb0Period (s : State) :
    exec .tb0Period s = .next (s.periodPoint 0).settle := rfl
theorem exec_tb1Zero (s : State) :
    exec .tb1Zero s = .next s.tb1ZeroPoint.settle := rfl
theorem exec_tb1Period (s : State) :
    exec .tb1Period s = .next (s.periodPoint 1).settle := rfl
theorem exec_pwmCompareEdge (leg : Fin 7) (s : State) :
    exec (.pwmCompareEdge leg) s = .next (s.compareEdge leg).settle := rfl
theorem exec_pwmLoadAll (who : Who) (s : State) :
    exec (.pwmLoadAll who) s = .next (s.accessWrite who Reg.PWM_LOAD 1#32).settle := rfl
theorem exec_lateEdgeFire (leg : Fin 7) (s : State) :
    exec (.lateEdgeFire leg) s = .next (s.lateEdge leg).settle := rfl
theorem exec_refreshEnd (leg : Fin 7) (s : State) :
    exec (.refreshEnd leg) s = .next (s.refreshEnd leg).settle := rfl
theorem exec_pwmCfgWrite (who : Who) (val : Word) (s : State) :
    exec (.pwmCfgWrite who val) s = .next (s.accessWrite who Reg.PWM_CFG val).settle := rfl
theorem exec_faultInput (input : Fin 6) (pin : PinLevel) (s : State) :
    exec (.faultInput input pin) s = .next (s.faultInput input (!pin.level) pin.held).settle := rfl
theorem exec_faultHoldExpiry (input : Fin 6) (s : State) :
    exec (.faultHoldExpiry input) s = .next (s.holdExpiry input).settle := rfl
theorem exec_shutdownLowOff (s : State) :
    exec .shutdownLowOff s = .next s.lowOff.settle := rfl
theorem exec_swsd (who : Who) (val : Word) (s : State) :
    exec (.swsd who val) s = .next (s.accessWrite who Reg.GD_CFG (wputBit val 25 true)).settle := rfl
theorem exec_estop (low : Bool) (s : State) :
    exec (.estop low) s = .next (s.estopPinEdge low).settle := rfl
theorem exec_estopclr (who : Who) (val : Word) (s : State) :
    exec (.estopclr who val) s = .next (s.accessWrite who Reg.GD_CFG (wputBit val 24 true)).settle := rfl
theorem exec_release (who : Who) (leg : Fin 7) (val : Word) (s : State) :
    exec (.release who leg val) s = .next (s.accessWrite who (Reg.GD_LEG_CTRL leg) (wputBit val 2 true)).settle := rfl
theorem exec_deadTimeEnd (leg : Fin 7) (s : State) :
    exec (.deadTimeEnd leg) s = .next (s.deadEnd leg).settle := rfl
theorem exec_gminEnd (leg : Fin 7) (s : State) :
    exec (.gminEnd leg) s = .next (s.gminEnd leg).settle := rfl
theorem exec_elcInput (leg : Fin 3) (pin : PinLevel) (s : State) :
    exec (.elcInput leg pin) s = .next (s.elcInput leg pin.level pin.held).settle := rfl
theorem exec_cmpOccurrence (n : Fin 16) (uV : Nat) (s : State) :
    exec (.cmpOccurrence n uV) s = .next (s.cmpInputStep n uV).settle := rfl
theorem exec_fastLaneAssert (n : Fin 16) (uV : Nat) (s : State) :
    exec (.fastLaneAssert n uV) s = .next (s.fastStep n uV).settle := rfl
theorem exec_cmpQualify (n : Fin 16) (s : State) :
    exec (.cmpQualify n) s = .next (s.cmpQualify n).settle := rfl
theorem exec_cmpCtrlWrite (who : Who) (n : Fin 16) (val : Word) (s : State) :
    exec (.cmpCtrlWrite who n val) s = .next (s.accessWrite who (Reg.CMP_CTRL n) val).settle := rfl
theorem exec_routerOutputPulseEnd (out : Fin 4) (s : State) :
    exec (.routerOutputPulseEnd out) s = .next (s.outputPulseEnd out).settle := rfl
theorem exec_evrSwevt (who : Who) (val : Word) (s : State) :
    exec (.evrSwevt who val) s = .next (s.accessWrite who Reg.EVR_SWEVT val).settle := rfl
theorem exec_protStageExpiry (s : State) :
    exec .protStageExpiry s = .next s.stagesExpire.settle := rfl
theorem exec_protFallbackTick (s : State) :
    exec .protFallbackTick s = .next s.fallbackTick.settle := rfl
theorem exec_frtExit (s : State) :
    exec .frtExit s = .next s.frtExit.settle := rfl
theorem exec_reconReady (s : State) :
    exec .reconReady s = .next s.reconReady.settle := rfl
theorem exec_reconRampEnd (s : State) :
    exec .reconRampEnd s = .next s.rampEnd.settle := rfl
theorem exec_profileLoad (who : Who) (val : Word) (s : State) :
    exec (.profileLoad who val) s = .next (s.accessWrite who Reg.PROT_PROFILE (wputBit val 2 true)).settle := rfl
theorem exec_safetyWrite (who : Who) (addr : Nat) (val : Word) (s : State) :
    exec (.safetyWrite who addr val) s = .next (if (safetyGroup addr).isSome then s.accessWrite who addr val else s).settle := rfl
theorem exec_unlock (who : Who) (s : State) :
    exec (.unlock who) s = .next (s.accessWrite who Reg.SAFE_UNLOCK 1#32).settle := rfl
theorem exec_lock (who : Who) (s : State) :
    exec (.lock who) s = .next (s.accessWrite who Reg.SAFE_UNLOCK 2#32).settle := rfl
theorem exec_unlockWindowEnd (s : State) :
    exec .unlockWindowEnd s = .next s.windowEnd.settle := rfl
theorem exec_lockoutEnd (s : State) :
    exec .lockoutEnd s = .next s.lockoutEnd.settle := rfl
theorem exec_newkey (who : Who) (s : State) :
    exec (.newkey who) s = .next (s.accessWrite who Reg.SAFE_UNLOCK 4#32).settle := rfl
theorem exec_sealSample (ra rb : Nat) (s : State) :
    exec (.sealSample ra rb) s = .next (s.sealSample ra rb).settle := rfl
theorem exec_safeChange (s : State) :
    exec .safeChange s = .next (s.sliceOf 0x42).settle := rfl
theorem exec_logArchive (s : State) :
    exec .logArchive s = .next (s.sliceOf 0x41).settle := rfl
theorem exec_rlyFbSample (l1 l2 : Fin 3) (s : State) :
    exec (.rlyFbSample l1 l2) s = .next (s.fbSample l1 l2).settle := rfl
theorem exec_closeRelays (who : Who) (s : State) :
    exec (.closeRelays who) s = .next (s.accessWrite who Reg.RLY_CTRL 1#32).settle := rfl
theorem exec_openRelays (who : Who) (s : State) :
    exec (.openRelays who) s = .next (s.accessWrite who Reg.RLY_CTRL 2#32).settle := rfl
theorem exec_weldtest (who : Who) (s : State) :
    exec (.weldtest who) s = .next (s.accessWrite who Reg.RLY_CTRL 4#32).settle := rfl
theorem exec_proofStepEnd (s : State) :
    exec .proofStepEnd s = .next s.proofStepEnd.settle := rfl
theorem exec_pickupTimeout (s : State) :
    exec .pickupTimeout s = .next s.pickupTimeout.settle := rfl
theorem exec_dropoutTimeout (s : State) :
    exec .dropoutTimeout s = .next s.dropoutTimeout.settle := rfl
theorem exec_permitTimeout (s : State) :
    exec .permitTimeout s = .next s.permitTimeout.settle := rfl
theorem exec_weldTestStart (s : State) :
    exec .weldTestStart s = .next s.weldAuto.settle := rfl
theorem exec_relayProof (s : State) :
    exec .relayProof s = .next (s.sliceOf 0x24).settle := rfl
theorem exec_hswEnable (who : Who) (n : Fin 2) (val : Word) (s : State) :
    exec (.hswEnable who n val) s = .next (s.accessWrite who (Reg.HSW_CTRL n) (wputBit val 0 true)).settle := rfl
theorem exec_hswSample (n : Fin 2) (vsense vgate : Nat) (s : State) :
    exec (.hswSample n vsense vgate) s = .next (s.hswSample n vsense vgate).settle := rfl
theorem exec_hswGateTimeout (n : Fin 2) (s : State) :
    exec (.hswGateTimeout n) s = .next (s.hswGateTimeout n).settle := rfl
theorem exec_hswLimitChange (n : Fin 2) (on : Bool) (s : State) :
    exec (.hswLimitChange n on) s = .next (s.hswLimit n on).settle := rfl
theorem exec_hswFaultTimer (n : Fin 2) (s : State) :
    exec (.hswFaultTimer n) s = .next (s.hswFaultTimer n).settle := rfl
theorem exec_hswShort (n : Fin 2) (s : State) :
    exec (.hswShort n) s = .next (s.hswShort n).settle := rfl
theorem exec_hswRetry (n : Fin 2) (s : State) :
    exec (.hswRetry n) s = .next (s.hswRetry n).settle := rfl
theorem exec_hswAttemptsClear (n : Fin 2) (s : State) :
    exec (.hswAttemptsClear n) s = .next (s.hswAttemptsClear n).settle := rfl
theorem exec_hswQualify (n : Fin 2) (s : State) :
    exec (.hswQualify n) s = .next (s.hswQualify n).settle := rfl
theorem exec_metCycleClose (s : State) :
    exec .metCycleClose s = .next s.metCycleClose.settle := rfl
theorem exec_hrmWindowPlace (s : State) :
    exec .hrmWindowPlace s = .next s.hrmWindowPlace.settle := rfl
theorem exec_eclr (who : Who) (val : Word) (s : State) :
    exec (.eclr who val) s = .next (s.accessWrite who Reg.MET_CFG (wputBit val 28 true)).settle := rfl
theorem exec_meterAngleTurn (s : State) :
    exec .meterAngleTurn s = .next s.meterTurn.settle := rfl
theorem exec_harmSurvey (s : State) :
    exec .harmSurvey s = .next (s.sliceOf 0x20).settle := rfl
theorem exec_waveCapture (s : State) :
    exec .waveCapture s = .next (s.sliceOf 0x21).settle := rfl
theorem exec_uartTransactionStart (uart : Fin 2) (s : State) :
    exec (.uartTransactionStart uart) s = .next (if uart = 0 then s.u1Start else s.u2Start).settle := rfl
theorem exec_uartResponse (uart : Fin 2) (bytes : List Byte) (delay : Nat) (bad : Bool) (s : State) :
    exec (.uartResponse uart bytes delay bad) s = .next (if uart = 0 then s.u1Response bytes delay bad else s.u2Response bytes delay bad).settle := rfl
theorem exec_uartResponseTimeout (uart : Fin 2) (s : State) :
    exec (.uartResponseTimeout uart) s = .next (if uart = 0 then s.u1Timeout else s.u2Timeout).settle := rfl
theorem exec_ledgerPoll (s : State) :
    exec .ledgerPoll s = .next (s.sliceOf 0x31).settle := rfl
theorem exec_autosweepTimer (s : State) :
    exec .autosweepTimer s = .next s.autoSweep.settle := rfl
theorem exec_ledgerClose (s : State) :
    exec .ledgerClose s = .next (s.sliceOf 0x30).settle := rfl
theorem exec_ledgerIntervalClose (s : State) :
    exec .ledgerIntervalClose s = .next s.intervalClose.settle := rfl
theorem exec_shed (s : State) :
    exec .shed s = .next (s.sliceOf 0x32).settle := rfl
theorem exec_restore (s : State) :
    exec .restore s = .next (s.sliceOf 0x33).settle := rfl
theorem exec_shedHoldExpiry (s : State) :
    exec .shedHoldExpiry s = .next s.holdExpired.settle := rfl
theorem exec_tenantSlotWrite (who : Who) (slot : Fin 256) (val : Word) (s : State) :
    exec (.tenantSlotWrite who slot val) s = .next (s.accessWrite who (slotA slot 0) val).settle := rfl
theorem exec_plantBusUpdateStart (s : State) :
    exec .plantBusUpdateStart s = .next s.plantStart.settle := rfl
theorem exec_plantBusUpdate (s : State) :
    exec .plantBusUpdate s = .next s.plantEnd.settle := rfl
theorem exec_go (who : Who) (ch : Fin 16) (val : Word) (s : State) :
    exec (.go who ch val) s = .next (s.accessWrite who (Reg.DMA_CH_CTRL ch) (wputBit val 2 true)).settle := rfl
theorem exec_cont (who : Who) (ch : Fin 16) (val : Word) (s : State) :
    exec (.cont who ch val) s = .next (s.accessWrite who (Reg.DMA_CH_CTRL ch) (wputBit val 6 true)).settle := rfl
theorem exec_stop (who : Who) (ch : Fin 16) (val : Word) (s : State) :
    exec (.stop who ch val) s = .next (s.accessWrite who (Reg.DMA_CH_CTRL ch) (wputBit val 3 true)).settle := rfl
theorem exec_dmaStopDone (ch : Fin 16) (s : State) :
    exec (.dmaStopDone ch) s = .next (s.dmaStopDone ch).settle := rfl
theorem exec_ring (who : Who) (ch : Fin 16) (val : Word) (s : State) :
    exec (.ring who ch val) s = .next (s.accessWrite who (Reg.DMA_CH_CTRL ch) (wputBit val 4 true)).settle := rfl
theorem exec_nop (ch : Fin 16) (s : State) :
    exec (.nop ch) s = .next (s.reelDo ch .nop State.reelNop).settle := rfl
theorem exec_moveWord (ch : Fin 16) (s : State) :
    exec (.moveWord ch) s = .next (s.reelDo ch .moveWord State.reelMove).settle := rfl
theorem exec_moveRound (ch : Fin 16) (s : State) :
    exec (.moveRound ch) s = .next (s.reelDo ch .moveRound State.reelMove).settle := rfl
theorem exec_moveFunnel (ch : Fin 16) (s : State) :
    exec (.moveFunnel ch) s = .next (s.reelDo ch .moveFunnel State.reelMove).settle := rfl
theorem exec_loop (ch : Fin 16) (s : State) :
    exec (.loop ch) s = .next (s.reelDo ch .loop State.reelLoop).settle := rfl
theorem exec_wait (ch : Fin 16) (s : State) :
    exec (.wait ch) s = .next (s.reelDo ch .wait State.reelWait).settle := rfl
theorem exec_waitPass (ch : Fin 16) (s : State) :
    exec (.waitPass ch) s = .next (s.reelWaitPass ch).settle := rfl
theorem exec_waitTimeout (ch : Fin 16) (s : State) :
    exec (.waitTimeout ch) s = .next (s.reelWaitTimeout ch).settle := rfl
theorem exec_signalEvent (ch : Fin 16) (s : State) :
    exec (.signalEvent ch) s = .next (s.reelDo ch .sigEvent State.reelSigEvent).settle := rfl
theorem exec_signalIrq (ch : Fin 16) (s : State) :
    exec (.signalIrq ch) s = .next (s.reelDo ch .sigIrq State.reelSigIrq).settle := rfl
theorem exec_signalContext (ch : Fin 16) (s : State) :
    exec (.signalContext ch) s = .next (s.reelDo ch .sigContext State.reelSigContext).settle := rfl
theorem exec_signalChannel (ch : Fin 16) (s : State) :
    exec (.signalChannel ch) s = .next (s.reelDo ch .sigChannel State.reelSigChannel).settle := rfl
theorem exec_setptrSet (ch : Fin 16) (s : State) :
    exec (.setptrSet ch) s = .next (s.reelDo ch .ptrSet State.reelPtrSet).settle := rfl
theorem exec_setptrAdd (ch : Fin 16) (s : State) :
    exec (.setptrAdd ch) s = .next (s.reelDo ch .ptrAdd State.reelPtrAdd).settle := rfl
theorem exec_setptrLoad (ch : Fin 16) (s : State) :
    exec (.setptrLoad ch) s = .next (s.reelDo ch .ptrLoad State.reelPtrLoad).settle := rfl
theorem exec_setptrCopy (ch : Fin 16) (s : State) :
    exec (.setptrCopy ch) s = .next (s.reelDo ch .ptrCopy State.reelPtrCopy).settle := rfl
theorem exec_write (ch : Fin 16) (s : State) :
    exec (.write ch) s = .next (s.reelDo ch .write State.reelWrite).settle := rfl
theorem exec_dmaEnd (ch : Fin 16) (s : State) :
    exec (.dmaEnd ch) s = .next (s.reelDo ch .endOp State.reelEnd).settle := rfl
theorem exec_dmaIllegal (ch : Fin 16) (s : State) :
    exec (.dmaIllegal ch) s = .next (s.reelDo ch .illegal State.reelIllegal).settle := rfl
theorem exec_dmaResume (ch : Fin 16) (s : State) :
    exec (.dmaResume ch) s = .next (s.reelResume ch).settle := rfl
theorem exec_irqcDoorbell (who : Who) (val : Word) (s : State) :
    exec (.irqcDoorbell who val) s = .next (s.accessWrite who Reg.IRQC_DOORBELL val).settle := rfl
theorem exec_irqcPendSet (who : Who) (k : Fin 4) (val : Word) (s : State) :
    exec (.irqcPendSet who k val) s = .next (s.accessWrite who (Reg.IRQC_PEND_SET k) val).settle := rfl
theorem exec_irqcPendClear (who : Who) (k : Fin 4) (val : Word) (s : State) :
    exec (.irqcPendClear who k val) s = .next (s.accessWrite who (Reg.IRQC_PEND k) val).settle := rfl
theorem exec_irqPacketSend (s : State) :
    exec .irqPacketSend s = .next s.irqPacket.settle := rfl
theorem exec_sqTailDoorbell (who : Who) (ctx : Fin 256) (val : Word) (s : State) :
    exec (.sqTailDoorbell who ctx val) s = .next (s.accessWrite who (ctxA ctx 0x08) val).settle := rfl
theorem exec_contextConfigWrite (who : Who) (ctx : Fin 256) (offset : Fin 64) (val : Word) (s : State) :
    exec (.contextConfigWrite who ctx offset val) s = .next (s.accessWrite who (ctxA ctx offset) val).settle := rfl
theorem exec_cqHeadWrite (who : Who) (ctx : Fin 256) (val : Word) (s : State) :
    exec (.cqHeadWrite who ctx val) s = .next (s.accessWrite who (ctxA ctx 0x18) val).settle := rfl
theorem exec_cmdFetch (s : State) :
    exec .cmdFetch s = .next s.cmdFetch.settle := rfl
theorem exec_cmdSlice (s : State) :
    exec .cmdSlice s = .next s.cmdSlice.settle := rfl
theorem exec_cmdDeadline (s : State) :
    exec .cmdDeadline s = .next s.cmdDeadline.settle := rfl
theorem exec_ctxQualify (ctx : Fin 256) (s : State) :
    exec (.ctxQualify ctx) s = .next (s.ctxQualify ctx).settle := rfl
theorem exec_abort (s : State) :
    exec .abort s = .next (s.sliceOf 0x7F).settle := rfl
theorem exec_readBlock (s : State) :
    exec .readBlock s = .next (s.sliceOf 0x01).settle := rfl
theorem exec_writeBlock (s : State) :
    exec .writeBlock s = .next (s.sliceOf 0x02).settle := rfl
theorem exec_atomicRmw (s : State) :
    exec .atomicRmw s = .next (s.sliceOf 0x03).settle := rfl
theorem exec_nvmWrite (s : State) :
    exec .nvmWrite s = .next (s.sliceOf 0x10).settle := rfl
theorem exec_nvmErase (s : State) :
    exec .nvmErase s = .next (s.sliceOf 0x11).settle := rfl
theorem exec_nvmVerify (s : State) :
    exec .nvmVerify s = .next (s.sliceOf 0x14).settle := rfl
theorem exec_configCommit (s : State) :
    exec .configCommit s = .next (s.sliceOf 0x12).settle := rfl
theorem exec_configLoad (s : State) :
    exec .configLoad s = .next (s.sliceOf 0x13).settle := rfl
theorem exec_isoTest (s : State) :
    exec .isoTest s = .next (s.sliceOf 0x23).settle := rfl
theorem exec_isoTestSettle (s : State) :
    exec .isoTestSettle s = .next s.isoSettled.settle := rfl
theorem exec_selfTest (s : State) :
    exec .selfTest s = .next (s.sliceOf 0x25).settle := rfl
theorem exec_arm (s : State) :
    exec .arm s = .next (s.sliceOf 0x50).settle := rfl
theorem exec_armComplete (s : State) :
    exec .armComplete s = .next s.armComplete.settle := rfl
theorem exec_disarm (s : State) :
    exec .disarm s = .next (s.sliceOf 0x51).settle := rfl
theorem exec_identReport (s : State) :
    exec .identReport s = .next (s.sliceOf 0x60).settle := rfl
theorem exec_genAFrame (bytes : List Byte) (early : Bool) (s : State) :
    exec (.genAFrame bytes early) s = .next (if s.spiKind bytes = .genA then s.genA bytes early else s).settle := rfl
theorem exec_genBFrame (bytes : List Byte) (tail : Nat) (s : State) :
    exec (.genBFrame bytes tail) s = .next (if s.spiKind bytes = .genB then s.genB bytes tail else s).settle := rfl
theorem exec_spiIgnoredFrame (bytes : List Byte) (s : State) :
    exec (.spiIgnoredFrame bytes) s = .next (if s.spiKind bytes = .ignored then s.spiIgnored else s).settle := rfl
theorem exec_spiReservedFrame (bytes : List Byte) (s : State) :
    exec (.spiReservedFrame bytes) s = .next (if s.spiKind bytes = .reserved then s.spiReserved (bytes.length - 1) else s).settle := rfl
theorem exec_lnkRead (bytes : List Byte) (s : State) :
    exec (.lnkRead bytes) s = .next (s.lnkTyped 1 bytes).settle := rfl
theorem exec_lnkWrite (bytes : List Byte) (s : State) :
    exec (.lnkWrite bytes) s = .next (s.lnkTyped 2 bytes).settle := rfl
theorem exec_lnkCmd (bytes : List Byte) (s : State) :
    exec (.lnkCmd bytes) s = .next (s.lnkTyped 3 bytes).settle := rfl
theorem exec_lnkPing (bytes : List Byte) (s : State) :
    exec (.lnkPing bytes) s = .next (s.lnkTyped 7 bytes).settle := rfl
theorem exec_lnkCredit (bytes : List Byte) (s : State) :
    exec (.lnkCredit bytes) s = .next (s.lnkTyped 6 bytes).settle := rfl
theorem exec_lnkReplySend (s : State) :
    exec .lnkReplySend s = .next s.lnkReplySend.settle := rfl
theorem exec_creditPacketSend (s : State) :
    exec .creditPacketSend s = .next s.creditPacket.settle := rfl
theorem exec_lnkAligned (s : State) :
    exec .lnkAligned s = .next s.lnkAligned.settle := rfl
theorem exec_lnkTrainPing (s : State) :
    exec .lnkTrainPing s = .next s.lnkTrainPing.settle := rfl
theorem exec_lnkDown (invalid : Nat) (aligned : Bool) (s : State) :
    exec (.lnkDown invalid aligned) s = .next (s.lnkDown invalid aligned).settle := rfl
theorem exec_lnkDownEnd (s : State) :
    exec .lnkDownEnd s = .next s.lnkDownEnd.settle := rfl
theorem exec_lnkKeepalive (s : State) :
    exec .lnkKeepalive s = .next s.lnkKeepalive.settle := rfl
theorem exec_lnkAckTimeout (s : State) :
    exec .lnkAckTimeout s = .next s.lnkAckTimeout.settle := rfl
theorem exec_lnkRatePropose (s : State) :
    exec .lnkRatePropose s = .next s.lnkRatePropose.settle := rfl
theorem exec_lnkRateFail (s : State) :
    exec .lnkRateFail s = .next s.lnkRateFail.settle := rfl
theorem exec_sbAddressMatch (addr : BitVec 7) (read : Bool) (s : State) :
    exec (.sbAddressMatch addr read) s = .next (s.sbMatch addr read).settle := rfl
theorem exec_sbWrite (bytes : List Byte) (s : State) :
    exec (.sbWrite bytes) s = .next (s.sbWrite bytes).settle := rfl
theorem exec_sbRead (n : Nat) (s : State) :
    exec (.sbRead n) s = .next (s.sbRead n).settle := rfl
theorem exec_sbHoldRelease (s : State) :
    exec .sbHoldRelease s = .next s.sbRelease.settle := rfl
theorem exec_sbStop (s : State) :
    exec .sbStop s = .next s.sbStop.settle := rfl
theorem exec_pwrStateReq (who : Who) (val : Word) (s : State) :
    exec (.pwrStateReq who val) s = .next (s.accessWrite who Reg.PWR_STATE_REQ val).settle := rfl
theorem exec_pwrDomainEn (who : Who) (val : Word) (s : State) :
    exec (.pwrDomainEn who val) s = .next (s.accessWrite who Reg.PWR_DOMAIN_EN val).settle := rfl
theorem exec_domainPowerDown (d : Fin 12) (s : State) :
    exec (.domainPowerDown d) s = .next (s.domainDown d).settle := rfl
theorem exec_domainReady (d : Fin 12) (s : State) :
    exec (.domainReady d) s = .next (s.domainReady d).settle := rfl
theorem exec_transitionEnd (s : State) :
    exec .transitionEnd s = .next s.transitionEnd.settle := rfl
theorem exec_wake (lnk : Bool) (s : State) :
    exec (.wake lnk) s = .next (s.wake lnk).settle := rfl
theorem exec_por (low : Bool) (s : State) :
    exec (.por low) s = .next (s.resetLevel 1 low).settle := rfl
theorem exec_bor (low : Bool) (s : State) :
    exec (.bor low) s = .next (s.resetLevel 2 low).settle := rfl
theorem exec_nrst (low : Bool) (s : State) :
    exec (.nrst low) s = .next (s.resetLevel 3 low).settle := rfl
theorem exec_swreset (who : Who) (val : Word) (s : State) :
    exec (.swreset who val) s = .next (s.accessWrite who Reg.SYS_SWRESET val).settle := rfl
theorem exec_wdtExpiry (s : State) :
    exec .wdtExpiry s = .next s.wdtExpiry.settle := rfl
theorem exec_resetBegin (s : State) :
    exec .resetBegin s = .next s.resetBegin.settle := rfl
theorem exec_resetRelease (ra rb : Nat) (s : State) :
    exec (.resetRelease ra rb) s = .next (s.resetRelease ra rb).settle := rfl
theorem exec_xinSelect (hz : Nat) (s : State) :
    exec (.xinSelect hz) s = .next (s.xinSelect hz).settle := rfl
theorem exec_pllLock (s : State) :
    exec .pllLock s = .next s.pllLock.settle := rfl
theorem exec_pllLoss (s : State) :
    exec .pllLoss s = .next s.pllLoss.settle := rfl
theorem exec_musterEnd (s : State) :
    exec .musterEnd s = .next s.musterTimeout.settle := rfl
theorem exec_musterEndWrite (who : Who) (val : Word) (s : State) :
    exec (.musterEndWrite who val) s = .next (s.accessWrite who Reg.SYS_MUSTER_END val).settle := rfl
theorem exec_rtcSecond (s : State) :
    exec .rtcSecond s = .next s.rtcSecond.settle := rfl
theorem exec_lpoCalStart (who : Option Who) (val : Word) (s : State) :
    exec (.lpoCalStart who val) s = .next (match who with | some w => s.accessWrite w Reg.SYS_LPO_CAL (wputBit val 20 true) | none => s.lpoCalAuto).settle := rfl
theorem exec_lpoCalDone (meas : Nat) (s : State) :
    exec (.lpoCalDone meas) s = .next (s.lpoCalDone meas).settle := rfl
theorem exec_wdtKick (who : Who) (val : Word) (s : State) :
    exec (.wdtKick who val) s = .next (s.accessWrite who Reg.SYS_WDT_KICK val).settle := rfl
theorem exec_wdtWarn (s : State) :
    exec .wdtWarn s = .next s.wdtWarn.settle := rfl
theorem exec_tempSample (raw : Int) (s : State) :
    exec (.tempSample raw) s = .next (s.tempSample raw).settle := rfl
theorem exec_supplyWarning (vio vdda : Nat) (s : State) :
    exec (.supplyWarning vio vdda) s = .next (s.supplyWarning vio vdda).settle := rfl
theorem exec_vkeepCheck (mv : Nat) (s : State) :
    exec (.vkeepCheck mv) s = .next (s.vkeepCheck mv).settle := rfl
theorem exec_identLoaded (s : State) :
    exec .identLoaded s = .next s.identLoaded.settle := rfl
theorem exec_nvmOpStart (s : State) :
    exec .nvmOpStart s = .next s.nvmNext.settle := rfl
theorem exec_nvmOpDone (ticks : Nat) (s : State) :
    exec (.nvmOpDone ticks) s = .next (s.nvmDone ticks).settle := rfl
theorem exec_nvmOpTimeout (s : State) :
    exec .nvmOpTimeout s = .next s.nvmTimeout.settle := rfl
theorem exec_nvmRead (who : Who) (addr width : Nat) (ecc : Fin 3) (s : State) :
    exec (.nvmRead who addr width ecc) s = .next (s.nvmWindowRead who addr width ecc).settle := rfl
theorem exec_logScanDone (s : State) :
    exec .logScanDone s = .next s.logScan.settle := rfl
theorem exec_logFlush (who : Who) (val : Word) (s : State) :
    exec (.logFlush who val) s = .next (s.accessWrite who Reg.LOG_CFG (wputBit val 0 true)).settle := rfl
theorem exec_logRead (s : State) :
    exec .logRead s = .next (s.sliceOf 0x40).settle := rfl
theorem exec_pinsFuncWrite (who : Who) (k : Fin 23) (val : Word) (s : State) :
    exec (.pinsFuncWrite who k val) s = .next (s.accessWrite who (Reg.PINS_FUNC k) val).settle := rfl
theorem exec_gpioEdge (pin : Fin 3) (level : Bool) (s : State) :
    exec (.gpioEdge pin level) s = .next (s.gpioPin pin level).settle := rfl
theorem exec_extest (cells : Option (List Bool)) (s : State) :
    exec (.extest cells) s = .next (s.tapRun 0#4 cells).settle := rfl
theorem exec_samplePreload (cells : Option (List Bool)) (s : State) :
    exec (.samplePreload cells) s = .next (s.tapRun 2#4 cells).settle := rfl
theorem exec_bypass (s : State) :
    exec .bypass s = .next (s.tapLoad 0xF#4).settle := rfl
theorem exec_lnkTrainingStart (s : State) :
    exec .lnkTrainingStart s = .next s.lnkTrainingStart.settle := rfl
theorem exec_lnkRateSwitch (s : State) :
    exec .lnkRateSwitch s = .next s.lnkRateSwitch.settle := rfl
theorem exec_channelOverload (ch : Fin 18) (ones : Nat) (s : State) :
    exec (.channelOverload ch ones) s = .next (s.adcOverload ch ones).settle := rfl
theorem exec_prechargePulseEnd (leg : Fin 7) (s : State) :
    exec (.prechargePulseEnd leg) s = .next (s.pulseEnd leg).settle := rfl

end Sys2Proof.Machine
end

