-- ==== Sys2Proof/Laws/Writes.lean ====
section
/-! SUPPORT. What a served write to each register with a rule of its own is (R33, R41): the operation of its block, counted in
PG_SEQ, the master told OK. -/

namespace Sys2Proof.Machine

variable (s : State) (who : Who) (v : Word)

/-- From the block's own answer to the access. -/
theorem State.writeNow_block {a : Nat} {t : State} (hs : s.serves a = true) (hd : directReg a = true)
    (h : s.blockWrite who false a v = (t, .ok)) : s.writeNow who a v = t.accepted (a / 0x1000) := by
  rw [s.writeNow_direct hs hd (congrArg Prod.snd h), h]

theorem State.write_chtAngle {n : Nat} (hn : n < 64) (hs : s.serves (Reg.CHT_WP_ANGLE n) = true) :
    s.writeNow who (Reg.CHT_WP_ANGLE n) v = (s.chtAngleWrite n v).accepted Pg.CHT := by
  have hd : ∀ n < 64, directReg (Reg.CHT_WP_ANGLE n) = true := by decide
  have ep : Reg.CHT_WP_ANGLE n / 0x1000 = Pg.CHT := by show _ = (_ : Nat); simp only [Reg.CHT_WP_ANGLE, Pg.CHT]; omega
  have e1 : Reg.CHT_WP_ANGLE 0 ≤ Reg.CHT_WP_ANGLE n ∧ Reg.CHT_WP_ANGLE n ≤ Reg.CHT_WP_ANGLE 63 := by simp only [Reg.CHT_WP_ANGLE]; omega
  have e2 : (Reg.CHT_WP_ANGLE n - Reg.CHT_WP_ANGLE 0) / 4 = n := by simp only [Reg.CHT_WP_ANGLE]; omega
  have n_CHT_CFG : Reg.CHT_WP_ANGLE n ≠ Reg.CHT_CFG := by simp only [Reg.CHT_WP_ANGLE, Reg.CHT_CFG]; omega
  have n_CHT_LATEWIN : Reg.CHT_WP_ANGLE n ≠ Reg.CHT_LATEWIN := by simp only [Reg.CHT_WP_ANGLE, Reg.CHT_LATEWIN]; omega
  have e : s.blockWrite who false (Reg.CHT_WP_ANGLE n) v = (s.chtAngleWrite n v, .ok) := by
    unfold State.blockWrite; rw [ep]
    simp only [State.chtWrite, e1, e2, n_CHT_CFG, n_CHT_LATEWIN, if_false, and_self, if_true]
  rw [s.writeNow_block who v hs (hd n hn) e, ep]

theorem State.write_chtRep {n : Nat} (hn : n < 64) (hs : s.serves (Reg.CHT_WP_REP n) = true) :
    s.writeNow who (Reg.CHT_WP_REP n) v = (s.chtRepWrite n v).accepted Pg.CHT := by
  have hd : ∀ n < 64, directReg (Reg.CHT_WP_REP n) = true := by decide
  have ep : Reg.CHT_WP_REP n / 0x1000 = Pg.CHT := by show _ = (_ : Nat); simp only [Reg.CHT_WP_REP, Pg.CHT]; omega
  have e1 : Reg.CHT_WP_REP 0 ≤ Reg.CHT_WP_REP n ∧ Reg.CHT_WP_REP n ≤ Reg.CHT_WP_REP 63 := by simp only [Reg.CHT_WP_REP]; omega
  have e2 : (Reg.CHT_WP_REP n - Reg.CHT_WP_REP 0) / 4 = n := by simp only [Reg.CHT_WP_REP]; omega
  have n_CHT_CFG : Reg.CHT_WP_REP n ≠ Reg.CHT_CFG := by simp only [Reg.CHT_WP_REP, Reg.CHT_CFG]; omega
  have n_CHT_LATEWIN : Reg.CHT_WP_REP n ≠ Reg.CHT_LATEWIN := by simp only [Reg.CHT_WP_REP, Reg.CHT_LATEWIN]; omega
  have e0 : ¬ (Reg.CHT_WP_ANGLE 0 ≤ Reg.CHT_WP_REP n ∧ Reg.CHT_WP_REP n ≤ Reg.CHT_WP_ANGLE 63) := by simp only [Reg.CHT_WP_REP, Reg.CHT_WP_ANGLE]; omega
  have e : s.blockWrite who false (Reg.CHT_WP_REP n) v = (s.chtRepWrite n v, .ok) := by
    unfold State.blockWrite; rw [ep]
    simp only [State.chtWrite, e1, e2, n_CHT_CFG, n_CHT_LATEWIN, e0, if_false, and_self, if_true]
  rw [s.writeNow_block who v hs (hd n hn) e, ep]

theorem State.write_chtCfg (hs : s.serves Reg.CHT_CFG = true) (hv : wbit v 0 = true) :
    s.writeNow who Reg.CHT_CFG v = ((s.plainStore Reg.CHT_CFG v).chtCntClr).accepted Pg.CHT :=
  s.writeNow_block who v hs (by decide) (by show (State.chtWrite s _ _, _) = _; simp only [State.chtWrite, hv, if_true])

theorem State.write_adcxTrig {n : Nat} (hn : n < 4) (hs : s.serves (Reg.ADCX_TRIG n) = true) (hv : wbit v 31 = true) :
    s.writeNow who (Reg.ADCX_TRIG n) v = ((s.plainStore (Reg.ADCX_TRIG n) v).adcTrigger n).accepted Pg.ADCX := by
  have hd : ∀ n < 4, directReg (Reg.ADCX_TRIG n) = true := by decide
  have ep : Reg.ADCX_TRIG n / 0x1000 = Pg.ADCX := by show _ = (_ : Nat); simp only [Reg.ADCX_TRIG, Pg.ADCX]; omega
  have n_ADCX_CLK_CFG : Reg.ADCX_TRIG n ≠ Reg.ADCX_CLK_CFG := by simp only [Reg.ADCX_TRIG, Reg.ADCX_CLK_CFG]; omega
  have n_ADCI_CFG : Reg.ADCX_TRIG n ≠ Reg.ADCI_CFG := by simp only [Reg.ADCX_TRIG, Reg.ADCI_CFG]; omega
  have e0 : ¬ (0x80 ≤ Reg.ADCX_TRIG n % 0x1000 ∧ Reg.ADCX_TRIG n % 0x1000 < 0xC0) := by simp only [Reg.ADCX_TRIG]; omega
  have e1 : 0x200 ≤ Reg.ADCX_TRIG n % 0x1000 := by simp only [Reg.ADCX_TRIG]; omega
  have e2 : (Reg.ADCX_TRIG n % 0x1000 - 0x200) / 4 = n := by simp only [Reg.ADCX_TRIG]; omega
  have e : s.blockWrite who false (Reg.ADCX_TRIG n) v = ((s.plainStore (Reg.ADCX_TRIG n) v).adcTrigger n, .ok) := by
    unfold State.blockWrite; rw [ep]
    simp only [State.adcWrite, n_ADCX_CLK_CFG, n_ADCI_CFG, e0, e1, e2, if_true, if_false, hv]
  rw [s.writeNow_block who v hs (hd n hn) e, ep]

theorem State.write_adciTrig {n : Nat} (hn : n < 4) (hs : s.serves (Reg.ADCI_TRIG n) = true) (hv : wbit v 31 = true) :
    s.writeNow who (Reg.ADCI_TRIG n) v = ((s.plainStore (Reg.ADCI_TRIG n) v).adcTrigger n).accepted Pg.ADCI := by
  have hd : ∀ n < 4, directReg (Reg.ADCI_TRIG n) = true := by decide
  have ep : Reg.ADCI_TRIG n / 0x1000 = Pg.ADCI := by show _ = (_ : Nat); simp only [Reg.ADCI_TRIG, Pg.ADCI]; omega
  have n_ADCX_CLK_CFG : Reg.ADCI_TRIG n ≠ Reg.ADCX_CLK_CFG := by simp only [Reg.ADCI_TRIG, Reg.ADCX_CLK_CFG]; omega
  have n_ADCI_CFG : Reg.ADCI_TRIG n ≠ Reg.ADCI_CFG := by simp only [Reg.ADCI_TRIG, Reg.ADCI_CFG]; omega
  have e0 : ¬ (0x80 ≤ Reg.ADCI_TRIG n % 0x1000 ∧ Reg.ADCI_TRIG n % 0x1000 < 0xC0) := by simp only [Reg.ADCI_TRIG]; omega
  have e1 : 0x200 ≤ Reg.ADCI_TRIG n % 0x1000 := by simp only [Reg.ADCI_TRIG]; omega
  have e2 : (Reg.ADCI_TRIG n % 0x1000 - 0x200) / 4 = n := by simp only [Reg.ADCI_TRIG]; omega
  have e : s.blockWrite who false (Reg.ADCI_TRIG n) v = ((s.plainStore (Reg.ADCI_TRIG n) v).adcTrigger n, .ok) := by
    unfold State.blockWrite; rw [ep]
    simp only [State.adcWrite, n_ADCX_CLK_CFG, n_ADCI_CFG, e0, e1, e2, if_true, if_false, hv]
  rw [s.writeNow_block who v hs (hd n hn) e, ep]

theorem State.write_adcxCtrl {n : Nat} (hn : n < 8) (hs : s.serves (Reg.ADCX_CH_CTRL n) = true) :
    s.writeNow who (Reg.ADCX_CH_CTRL n) v = (if (s.adcCtrlWrite n v).2 then (s.adcCtrlWrite n v).1.clearRecord Pg.ADCX (BitVec.ofNat 32 n) who else (s.adcCtrlWrite n v).1).accepted Pg.ADCX := by
  have hd : ∀ n < 8, directReg (Reg.ADCX_CH_CTRL n) = true := by decide
  have ep : Reg.ADCX_CH_CTRL n / 0x1000 = Pg.ADCX := by show _ = (_ : Nat); simp only [Reg.ADCX_CH_CTRL, Pg.ADCX]; omega
  have n_ADCX_CLK_CFG : Reg.ADCX_CH_CTRL n ≠ Reg.ADCX_CLK_CFG := by simp only [Reg.ADCX_CH_CTRL, Reg.ADCX_CLK_CFG]; omega
  have n_ADCI_CFG : Reg.ADCX_CH_CTRL n ≠ Reg.ADCI_CFG := by simp only [Reg.ADCX_CH_CTRL, Reg.ADCI_CFG]; omega
  have e0 : 0x80 ≤ Reg.ADCX_CH_CTRL n % 0x1000 ∧ Reg.ADCX_CH_CTRL n % 0x1000 < 0xC0 := by simp only [Reg.ADCX_CH_CTRL]; omega
  have e2 : (Reg.ADCX_CH_CTRL n % 0x1000 - 0x80) / 4 = n := by simp only [Reg.ADCX_CH_CTRL]; omega
  have e : s.blockWrite who false (Reg.ADCX_CH_CTRL n) v = (if (s.adcCtrlWrite n v).2 then (s.adcCtrlWrite n v).1.clearRecord Pg.ADCX (BitVec.ofNat 32 n) who else (s.adcCtrlWrite n v).1, .ok) := by
    unfold State.blockWrite; rw [ep]
    simp [State.adcWrite, n_ADCX_CLK_CFG, n_ADCI_CFG, e0, e2, Pg.ADCX]
  rw [s.writeNow_block who v hs (hd n hn) e, ep]

theorem State.write_adciCtrl {n : Nat} (hn : n < 10) (hs : s.serves (Reg.ADCI_CH_CTRL n) = true) :
    s.writeNow who (Reg.ADCI_CH_CTRL n) v = (if (s.adcCtrlWrite (8 + n) v).2 then (s.adcCtrlWrite (8 + n) v).1.clearRecord Pg.ADCI (BitVec.ofNat 32 n) who else (s.adcCtrlWrite (8 + n) v).1).accepted Pg.ADCI := by
  have hd : ∀ n < 10, directReg (Reg.ADCI_CH_CTRL n) = true := by decide
  have ep : Reg.ADCI_CH_CTRL n / 0x1000 = Pg.ADCI := by show _ = (_ : Nat); simp only [Reg.ADCI_CH_CTRL, Pg.ADCI]; omega
  have n_ADCX_CLK_CFG : Reg.ADCI_CH_CTRL n ≠ Reg.ADCX_CLK_CFG := by simp only [Reg.ADCI_CH_CTRL, Reg.ADCX_CLK_CFG]; omega
  have n_ADCI_CFG : Reg.ADCI_CH_CTRL n ≠ Reg.ADCI_CFG := by simp only [Reg.ADCI_CH_CTRL, Reg.ADCI_CFG]; omega
  have e0 : 0x80 ≤ Reg.ADCI_CH_CTRL n % 0x1000 ∧ Reg.ADCI_CH_CTRL n % 0x1000 < 0xC0 := by simp only [Reg.ADCI_CH_CTRL]; omega
  have e2 : (Reg.ADCI_CH_CTRL n % 0x1000 - 0x80) / 4 = n := by simp only [Reg.ADCI_CH_CTRL]; omega
  have e : s.blockWrite who false (Reg.ADCI_CH_CTRL n) v = (if (s.adcCtrlWrite (8 + n) v).2 then (s.adcCtrlWrite (8 + n) v).1.clearRecord Pg.ADCI (BitVec.ofNat 32 n) who else (s.adcCtrlWrite (8 + n) v).1, .ok) := by
    unfold State.blockWrite; rw [ep]
    simp [State.adcWrite, n_ADCX_CLK_CFG, n_ADCI_CFG, e0, e2, Pg.ADCI]
  rw [s.writeNow_block who v hs (hd n hn) e, ep]

theorem State.write_clkCfg (hs : s.serves Reg.ADCX_CLK_CFG = true) :
    s.writeNow who Reg.ADCX_CLK_CFG v = (s.clkCfgWrite v).accepted Pg.ADCX :=
  s.writeNow_block who v hs (by decide) (by rfl)

theorem State.write_subst (hs : s.serves Reg.SPEC_SUBST = true) :
    s.writeNow who Reg.SPEC_SUBST v = (s.substWrite v).accepted Pg.SPEC :=
  s.writeNow_block who v hs (by decide) (by rfl)

theorem State.write_band {n : Nat} (hn : n < 8) (hs : s.serves (Reg.SPEC_BAND n) = true) :
    s.writeNow who (Reg.SPEC_BAND n) v = (s.bandWrite n v).accepted Pg.SPEC := by
  have hd : ∀ n < 8, directReg (Reg.SPEC_BAND n) = true := by decide
  have ep : Reg.SPEC_BAND n / 0x1000 = Pg.SPEC := by show _ = (_ : Nat); simp only [Reg.SPEC_BAND, Pg.SPEC]; omega
  have e1 : Reg.SPEC_BAND 0 ≤ Reg.SPEC_BAND n ∧ Reg.SPEC_BAND n ≤ Reg.SPEC_BAND 7 := by simp only [Reg.SPEC_BAND]; omega
  have e2 : (Reg.SPEC_BAND n - Reg.SPEC_BAND 0) / 4 = n := by simp only [Reg.SPEC_BAND]; omega
  have n_SPEC_CFG : Reg.SPEC_BAND n ≠ Reg.SPEC_CFG := by simp only [Reg.SPEC_BAND, Reg.SPEC_CFG]; omega
  have n_SPEC_QUALN : Reg.SPEC_BAND n ≠ Reg.SPEC_QUALN := by simp only [Reg.SPEC_BAND, Reg.SPEC_QUALN]; omega
  have n_SPEC_RETRACTMAX : Reg.SPEC_BAND n ≠ Reg.SPEC_RETRACTMAX := by simp only [Reg.SPEC_BAND, Reg.SPEC_RETRACTMAX]; omega
  have n_SPEC_DERATE : Reg.SPEC_BAND n ≠ Reg.SPEC_DERATE := by simp only [Reg.SPEC_BAND, Reg.SPEC_DERATE]; omega
  have n_SPEC_SUBST : Reg.SPEC_BAND n ≠ Reg.SPEC_SUBST := by simp only [Reg.SPEC_BAND, Reg.SPEC_SUBST]; omega
  have e : s.blockWrite who false (Reg.SPEC_BAND n) v = (s.bandWrite n v, .ok) := by
    unfold State.blockWrite; rw [ep]
    simp only [State.specWrite, n_SPEC_CFG, n_SPEC_QUALN, n_SPEC_RETRACTMAX, n_SPEC_DERATE, n_SPEC_SUBST, or_self, e1, e2, if_false, and_self, if_true]
  rw [s.writeNow_block who v hs (hd n hn) e, ep]

theorem State.write_modeReq (hs : s.serves Reg.MODE_REQ = true) :
    s.writeNow who Reg.MODE_REQ v = ((s.modeRequest (wbits v 0 2)).1).accepted Pg.MODE :=
  s.writeNow_block who v hs (by decide) (by rfl)

theorem State.write_pwmLoad (hs : s.serves Reg.PWM_LOAD = true) (hv : wbit v 0 = true) :
    s.writeNow who Reg.PWM_LOAD v = (s.loadAll).accepted Pg.PWM :=
  s.writeNow_block who v hs (by decide) (by show (State.pwmWrite s _ _, _) = _; rw [State.pwmWrite, if_neg (by decide), if_pos rfl, if_pos hv])

theorem State.write_pwmCfg (hs : s.serves Reg.PWM_CFG = true) :
    s.writeNow who Reg.PWM_CFG v = (s.pwmCfgWrite v).accepted Pg.PWM :=
  s.writeNow_block who v hs (by decide) (by rfl)

theorem State.write_gdCfg (hs : s.serves Reg.GD_CFG = true) :
    s.writeNow who Reg.GD_CFG v = ((let t := if wbit v 24 then (s.plainStore Reg.GD_CFG v).estopClr else s.plainStore Reg.GD_CFG v
      if wbit v 25 && t.live Pg.GD then t.shutdown 3 else t)).accepted Pg.GD :=
  s.writeNow_block who v hs (by decide) (by rfl)

theorem State.write_legCtrl {n : Nat} (hn : n < 7) (hs : s.serves (Reg.GD_LEG_CTRL n) = true) :
    s.writeNow who (Reg.GD_LEG_CTRL n) v = (if (s.legCtrlWrite n v).2 then (s.legCtrlWrite n v).1.clearRecord Pg.GD (BitVec.ofNat 32 n) who else (s.legCtrlWrite n v).1).accepted Pg.GD := by
  have hd : ∀ n < 7, directReg (Reg.GD_LEG_CTRL n) = true := by decide
  have ep : Reg.GD_LEG_CTRL n / 0x1000 = Pg.GD := by show _ = (_ : Nat); simp only [Reg.GD_LEG_CTRL, Pg.GD]; omega
  have e1 : Reg.GD_LEG_CTRL 0 ≤ Reg.GD_LEG_CTRL n ∧ Reg.GD_LEG_CTRL n ≤ Reg.GD_LEG_CTRL 6 := by simp only [Reg.GD_LEG_CTRL]; omega
  have e2 : (Reg.GD_LEG_CTRL n - Reg.GD_LEG_CTRL 0) / 4 = n := by simp only [Reg.GD_LEG_CTRL]; omega
  have n_GD_CFG : Reg.GD_LEG_CTRL n ≠ Reg.GD_CFG := by simp only [Reg.GD_LEG_CTRL, Reg.GD_CFG]; omega
  have n_GD_FLT_FILT : Reg.GD_LEG_CTRL n ≠ Reg.GD_FLT_FILT := by simp only [Reg.GD_LEG_CTRL, Reg.GD_FLT_FILT]; omega
  have e0 : ¬ (Reg.GD_DT_RISE 0 ≤ Reg.GD_LEG_CTRL n ∧ Reg.GD_LEG_CTRL n ≤ Reg.GD_DT_FALL 6) := by simp only [Reg.GD_DT_RISE, Reg.GD_DT_FALL, Reg.GD_LEG_CTRL]; omega
  have e : s.blockWrite who false (Reg.GD_LEG_CTRL n) v = (if (s.legCtrlWrite n v).2 then (s.legCtrlWrite n v).1.clearRecord Pg.GD (BitVec.ofNat 32 n) who else (s.legCtrlWrite n v).1, .ok) := by
    unfold State.blockWrite; rw [ep]
    simp only [State.gdWrite, n_GD_CFG, n_GD_FLT_FILT, e0, e1, e2, if_false, and_self, if_true]
  rw [s.writeNow_block who v hs (hd n hn) e, ep]

theorem State.write_cmpCtrl {n : Nat} (hn : n < 16) (hs : s.serves (Reg.CMP_CTRL n) = true) :
    s.writeNow who (Reg.CMP_CTRL n) v = (if (s.cmpCtrlWrite n v).2 then (s.cmpCtrlWrite n v).1.clearRecord Pg.CMP (BitVec.ofNat 32 n) who else (s.cmpCtrlWrite n v).1).accepted Pg.CMP := by
  have hd : ∀ n < 16, directReg (Reg.CMP_CTRL n) = true := by decide
  have ep : Reg.CMP_CTRL n / 0x1000 = Pg.CMP := by show _ = (_ : Nat); simp only [Reg.CMP_CTRL, Pg.CMP]; omega
  have e1 : Reg.CMP_CTRL 0 ≤ Reg.CMP_CTRL n ∧ Reg.CMP_CTRL n ≤ Reg.CMP_CTRL 15 := by simp only [Reg.CMP_CTRL]; omega
  have e2 : (Reg.CMP_CTRL n - Reg.CMP_CTRL 0) / 4 = n := by simp only [Reg.CMP_CTRL]; omega
  have e : s.blockWrite who false (Reg.CMP_CTRL n) v = (if (s.cmpCtrlWrite n v).2 then (s.cmpCtrlWrite n v).1.clearRecord Pg.CMP (BitVec.ofNat 32 n) who else (s.cmpCtrlWrite n v).1, .ok) := by
    unfold State.blockWrite; rw [ep]
    simp only [State.cmpWrite, e1.2, e2, if_true]
  rw [s.writeNow_block who v hs (hd n hn) e, ep]

theorem State.write_swevt (hs : s.serves Reg.EVR_SWEVT = true) :
    s.writeNow who Reg.EVR_SWEVT v = ((List.range 4).foldl (fun s i => if wbit v i then s.pulseIn 1 (60 + i) else s) s).accepted Pg.EVR :=
  s.writeNow_block who v hs (by decide) (by rfl)

theorem State.write_rlyCtrl (hs : s.serves Reg.RLY_CTRL = true) :
    s.writeNow who Reg.RLY_CTRL v = (s.rlyCtrlWrite v).accepted Pg.RLY :=
  s.writeNow_block who v hs (by decide) (by rfl)

theorem State.write_hswCtrl {n : Nat} (hn : n < 2) (hs : s.serves (Reg.HSW_CTRL n) = true) :
    s.writeNow who (Reg.HSW_CTRL n) v = (if (s.hswCtrlWrite n v).2 then (s.hswCtrlWrite n v).1.clearRecord Pg.HSW (BitVec.ofNat 32 n) who else (s.hswCtrlWrite n v).1).accepted Pg.HSW := by
  have hd : ∀ n < 2, directReg (Reg.HSW_CTRL n) = true := by decide
  have ep : Reg.HSW_CTRL n / 0x1000 = Pg.HSW := by show _ = (_ : Nat); simp only [Reg.HSW_CTRL, Pg.HSW]; omega
  have e1 : Reg.HSW_CTRL 0 ≤ Reg.HSW_CTRL n ∧ Reg.HSW_CTRL n ≤ Reg.HSW_CTRL 1 := by simp only [Reg.HSW_CTRL]; omega
  have e2 : (Reg.HSW_CTRL n - Reg.HSW_CTRL 0) / 4 = n := by simp only [Reg.HSW_CTRL]; omega
  have e : s.blockWrite who false (Reg.HSW_CTRL n) v = (if (s.hswCtrlWrite n v).2 then (s.hswCtrlWrite n v).1.clearRecord Pg.HSW (BitVec.ofNat 32 n) who else (s.hswCtrlWrite n v).1, .ok) := by
    unfold State.blockWrite; rw [ep]
    simp only [State.hswWrite, e1.2, e2, if_true]
  rw [s.writeNow_block who v hs (hd n hn) e, ep]

theorem State.write_metCfg (hs : s.serves Reg.MET_CFG = true) (hv : wbit v 28 = true) :
    s.writeNow who Reg.MET_CFG v = ((if (s.plainStore Reg.MET_CFG v).flag F.MET_CFG_NEUTEN then s.plainStore Reg.MET_CFG v
      else (s.plainStore Reg.MET_CFG v).setNeutral false).eclr who.master who.ctx).accepted Pg.MET :=
  s.writeNow_block who v hs (by decide) (by show (State.metWrite s _ _ _, _) = _; simp [State.metWrite, hv])

theorem State.write_dmaCtrl {n : Nat} (hn : n < 16) (hs : s.serves (Reg.DMA_CH_CTRL n) = true) :
    s.writeNow who (Reg.DMA_CH_CTRL n) v = (if (s.dmaCtrlWrite n v).2 then (s.dmaCtrlWrite n v).1.clearRecord Pg.DMA (BitVec.ofNat 32 n) who else (s.dmaCtrlWrite n v).1).accepted Pg.DMA := by
  have hd : ∀ n < 16, directReg (Reg.DMA_CH_CTRL n) = true := by decide
  have ep : Reg.DMA_CH_CTRL n / 0x1000 = Pg.DMA := by show _ = (_ : Nat); simp only [Reg.DMA_CH_CTRL, Pg.DMA]; omega
  have e0 : ¬ Reg.DMA_CH_CTRL n < 0x08100 := by simp only [Reg.DMA_CH_CTRL]; omega
  have e1 : (Reg.DMA_CH_CTRL n - 0x08100) % 0x80 = 0x00 := by simp only [Reg.DMA_CH_CTRL]; omega
  have e2 : (Reg.DMA_CH_CTRL n - 0x08100) / 0x80 = n := by simp only [Reg.DMA_CH_CTRL]; omega
  have e : s.blockWrite who false (Reg.DMA_CH_CTRL n) v = (if (s.dmaCtrlWrite n v).2 then (s.dmaCtrlWrite n v).1.clearRecord Pg.DMA (BitVec.ofNat 32 n) who else (s.dmaCtrlWrite n v).1, .ok) := by
    unfold State.blockWrite; rw [ep]
    simp only [State.dmaPageWrite, e0, e1, e2, if_false, if_true]
  rw [s.writeNow_block who v hs (hd n hn) e, ep]

theorem State.write_doorbell (hs : s.serves Reg.IRQC_DOORBELL = true) :
    s.writeNow who Reg.IRQC_DOORBELL v = (s.irqTake.irqDoorbell (wbits v 0 7)).accepted Pg.IRQC :=
  s.writeNow_block who v hs (by decide) (by rfl)

theorem State.write_pendSet {n : Nat} (hn : n < 4) (hs : s.serves (Reg.IRQC_PEND_SET n) = true) :
    s.writeNow who (Reg.IRQC_PEND_SET n) v = (s.irqTake.irqPendSet n v).accepted Pg.IRQC := by
  have hd : ∀ n < 4, directReg (Reg.IRQC_PEND_SET n) = true := by decide
  have ep : Reg.IRQC_PEND_SET n / 0x1000 = Pg.IRQC := by show _ = (_ : Nat); simp only [Reg.IRQC_PEND_SET, Pg.IRQC]; omega
  have e1 : Reg.IRQC_PEND_SET 0 ≤ Reg.IRQC_PEND_SET n ∧ Reg.IRQC_PEND_SET n ≤ Reg.IRQC_PEND_SET 3 := by simp only [Reg.IRQC_PEND_SET]; omega
  have e2 : (Reg.IRQC_PEND_SET n - Reg.IRQC_PEND_SET 0) / 4 = n := by simp only [Reg.IRQC_PEND_SET]; omega
  have n_IRQC_DOORBELL : Reg.IRQC_PEND_SET n ≠ Reg.IRQC_DOORBELL := by simp only [Reg.IRQC_PEND_SET, Reg.IRQC_DOORBELL]; omega
  have e : s.blockWrite who false (Reg.IRQC_PEND_SET n) v = (s.irqTake.irqPendSet n v, .ok) := by
    unfold State.blockWrite; rw [ep]
    simp only [State.irqcWrite, n_IRQC_DOORBELL, e1, e2, if_false, and_self, if_true]
  rw [s.writeNow_block who v hs (hd n hn) e, ep]

theorem State.write_pend {n : Nat} (hn : n < 4) (hs : s.serves (Reg.IRQC_PEND n) = true) :
    s.writeNow who (Reg.IRQC_PEND n) v = (s.irqTake.plainStore (Reg.IRQC_PEND n) v).accepted Pg.IRQC := by
  have hd : ∀ n < 4, directReg (Reg.IRQC_PEND n) = true := by decide
  have ep : Reg.IRQC_PEND n / 0x1000 = Pg.IRQC := by show _ = (_ : Nat); simp only [Reg.IRQC_PEND, Pg.IRQC]; omega
  have e1 : Reg.IRQC_PEND 0 ≤ Reg.IRQC_PEND n ∧ Reg.IRQC_PEND n ≤ Reg.IRQC_PEND 3 := by simp only [Reg.IRQC_PEND]; omega
  have e2 : (Reg.IRQC_PEND n - Reg.IRQC_PEND 0) / 4 = n := by simp only [Reg.IRQC_PEND]; omega
  have n_IRQC_DOORBELL : Reg.IRQC_PEND n ≠ Reg.IRQC_DOORBELL := by simp only [Reg.IRQC_PEND, Reg.IRQC_DOORBELL]; omega
  have e0 : ¬ (Reg.IRQC_PEND_SET 0 ≤ Reg.IRQC_PEND n ∧ Reg.IRQC_PEND n ≤ Reg.IRQC_PEND_SET 3) := by simp only [Reg.IRQC_PEND_SET, Reg.IRQC_PEND]; omega
  have e : s.blockWrite who false (Reg.IRQC_PEND n) v = (s.irqTake.plainStore (Reg.IRQC_PEND n) v, .ok) := by
    unfold State.blockWrite; rw [ep]
    simp only [State.irqcWrite, n_IRQC_DOORBELL, e0, e1.2, if_false, if_true]
  rw [s.writeNow_block who v hs (hd n hn) e, ep]

theorem State.write_swreset (hs : s.serves Reg.SYS_SWRESET = true) (hv : wbits v 0 16 = 0xA5C3) :
    s.writeNow who Reg.SYS_SWRESET v = (s.resetSchedule 5).accepted Pg.SYS :=
  s.writeNow_block who v hs (by decide) (by show State.sysWrite s _ _ = _; simp only [State.sysWrite, hv, if_true])

theorem State.write_musterEnd (hs : s.serves Reg.SYS_MUSTER_END = true) :
    s.writeNow who Reg.SYS_MUSTER_END v = ((let n := clampNat 50 1000 (wbits v 0 11)
      let t := s.setReg Reg.SYS_MUSTER_END (BitVec.ofNat 32 n)
      if n * ticksPerMs ≤ t.now - t.pwr.released then t.musterEnd else t)).accepted Pg.SYS :=
  s.writeNow_block who v hs (by decide) (by rfl)

theorem State.write_lpoCal (hs : s.serves Reg.SYS_LPO_CAL = true) (hv : wbit v 20 = true) :
    s.writeNow who Reg.SYS_LPO_CAL v = ((s.plainStore Reg.SYS_LPO_CAL v).lpoCalStart).accepted Pg.SYS :=
  s.writeNow_block who v hs (by decide) (by show State.sysWrite s _ _ = _; rw [State.sysWrite, if_neg (by decide), if_pos rfl]; simp only [hv, if_true])

theorem State.write_wdtKick (hs : s.serves Reg.SYS_WDT_KICK = true) :
    s.writeNow who Reg.SYS_WDT_KICK v = (s.wdtKick v).accepted Pg.SYS :=
  s.writeNow_block who v hs (by decide) (by rfl)

theorem State.write_logCfg (hs : s.serves Reg.LOG_CFG = true) (hv : wbit v 0 = true) :
    s.writeNow who Reg.LOG_CFG v = ((s.plainStore Reg.LOG_CFG v).logAsk).accepted Pg.LOG :=
  s.writeNow_block who v hs (by decide) (by show (State.logWrite s _ _, _) = _; simp [State.logWrite, hv])

theorem State.write_pinsFunc {n : Nat} (hn : n < 23) (hs : s.serves (Reg.PINS_FUNC n) = true) (hr : s.funcRefused n v = false) :
    s.writeNow who (Reg.PINS_FUNC n) v = (s.plainStore (Reg.PINS_FUNC n) v).accepted Pg.PINS := by
  have hd : ∀ n < 23, directReg (Reg.PINS_FUNC n) = true := by decide
  have ep : Reg.PINS_FUNC n / 0x1000 = Pg.PINS := by show _ = (_ : Nat); simp only [Reg.PINS_FUNC, Pg.PINS]; omega
  have e2 : (Reg.PINS_FUNC n - Reg.PINS_FUNC 0) / 4 = n := by simp only [Reg.PINS_FUNC]; omega
  have e : s.blockWrite who false (Reg.PINS_FUNC n) v = (s.plainStore (Reg.PINS_FUNC n) v, .ok) := by
    unfold State.blockWrite; rw [ep]
    simp only [State.pinsWrite, e2, hr, Bool.and_false, Bool.false_eq_true, if_false]
  rw [s.writeNow_block who v hs (hd n hn) e, ep]

/-! ### CTL (R141) -/

theorem State.writeNow_ctl {a : Nat} (hs : s.serves a = true) (hp : a / 0x1000 = Pg.CTL) (ho : 0x40 ≤ a % 0x1000)
    (hr : (match regRow? a with | some r => r.writable && decide (r.group = 6) | none => false) = true)
    (hok : (s.ctlStore who.master.toNat a v).2 = .ok) :
    s.writeNow who a v = (s.ctlStore who.master.toNat a v).1.accepted Pg.CTL := by
  simp only [State.serves, Bool.and_eq_true, decide_eq_true_eq, Bool.not_eq_true', Bool.and_eq_false_iff] at hs
  obtain ⟨⟨⟨⟨⟨k1, k2⟩, k3⟩, k4⟩, k5⟩, k6⟩ := hs
  rw [s.writeNow_served k1 k2 k4]
  · cases h : regRow? a with
    | none => rw [h] at hr; cases hr
    | some r =>
      rw [h] at hr
      simp only [Bool.and_eq_true, decide_eq_true_eq] at hr
      have h1 : ¬ a % 0x1000 < 0x40 := by omega
      rw [hp] at k5
      simp only [State.regWrite, h1, h, k5, hr, Nat.lt_irrefl, hp, hok, if_false, if_true, Bool.false_and, Bool.not_true, Bool.false_eq_true,
        Bool.not_false, decide_false, true_or, State.accepted, State.told]
  · rcases k6 with k6 | k6 <;> simp [k6]

/-- A write of CTL_CFG (R124). -/
theorem State.write_ctlCfg (hs : s.serves Reg.CTL_CFG = true) :
    s.writeNow who Reg.CTL_CFG v =
      ((List.range 4).foldl (fun s i => if wbit v (8 + i) then s.ctlTrigger i else s)
        (s.setReg Reg.CTL_CFG (wput (wput (s.reg Reg.CTL_CFG) 0 5 (wbits v 0 5)) 16 16 (wbits v 16 16)))).accepted Pg.CTL :=
  s.writeNow_ctl who v hs (by decide) (by decide) (by decide) (by rfl)

/-- A write of CTL_LATMAX (R144). -/
theorem State.write_ctlLatmax (hs : s.serves Reg.CTL_LATMAX = true) (hv : wbit v 31 = true) :
    s.writeNow who Reg.CTL_LATMAX v =
      ((s.setReg Reg.CTL_LATMAX (wput (s.reg Reg.CTL_LATMAX) 16 15 (wbits v 16 15))).put F.CTL_LATMAX_MAX 0).accepted Pg.CTL := by
  have e : s.ctlStore who.master.toNat Reg.CTL_LATMAX v =
      ((s.setReg Reg.CTL_LATMAX (wput (s.reg Reg.CTL_LATMAX) 16 15 (wbits v 16 15))).put F.CTL_LATMAX_MAX 0, .ok) := by
    unfold State.ctlStore
    rw [if_neg (by decide), if_neg (by decide), if_pos (by decide)]
    simp only [hv, if_true]
  rw [s.writeNow_ctl who v hs (by decide) (by decide) (by decide) (by rw [e]), e]

/-- A write of CTL_SLOT_CFG of a slot (R131, R133). -/
theorem State.write_ctlSlotCfg {n : Nat} (hn : n < 32) (hs : s.serves (Reg.CTL_SLOT_CFG n) = true) :
    s.writeNow who (Reg.CTL_SLOT_CFG n) v = (s.ctlStore who.master.toNat (Reg.CTL_SLOT_CFG n) v).1.accepted Pg.CTL := by
  have hp : ∀ n < 32, Reg.CTL_SLOT_CFG n / 0x1000 = Pg.CTL ∧ 0x200 ≤ Reg.CTL_SLOT_CFG n % 0x1000 ∧
      Reg.CTL_SLOT_CFG n % 0x1000 < 0x280 := by decide
  have hr : ∀ n < 32, (match regRow? (Reg.CTL_SLOT_CFG n) with | some r => r.writable && decide (r.group = 6) | none => false) = true := by
    decide
  obtain ⟨h1, h2, h3⟩ := hp n hn
  refine s.writeNow_ctl who v hs h1 (by omega) (hr n hn) ?_
  unfold State.ctlStore
  dsimp only
  rw [if_neg (by omega), if_neg (by omega), if_neg (by omega), if_pos ⟨h2, h3⟩]

end Sys2Proof.Machine
end

