-- ==== Sys2Proof/Laws/Engine.lean ====
section
/-! SUPPORT. The control engine (spec/06): what an entry, the advance to the next one, a variable written and time spent can do. -/

namespace Sys2Proof.Machine

variable (s : State) (w : Word)

theorem State.entryIf_legal {s : State} {run : CtlRun} {r : StepRec} {w : Word} {op : Nat} (h : s.entryNow = some (run, r, w))
    (hl : entryLegal w = true) (ho : entryOp w = op) : s.entryIf op = s.entryStep := by
  simp [State.entryIf, h, hl, ho]
theorem State.entryStep_plain {s : State} {run : CtlRun} {r : StepRec} {w : Word} (h : s.entryNow = some (run, r, w))
    (hl : entryLegal w = true) (ho : 2 ≤ entryOp w) :
    s.entryStep = ((s.ctlSpend (entryTicks run (entryOp w))).opPlain run r w).runNext := by
  have h0 : entryOp w ≠ 0 := by omega
  have h1 : entryOp w ≠ 1 := by omega
  simp [State.entryStep, h, hl, h0, h1]
theorem State.run_of_entryNow {s : State} {run : CtlRun} {r : StepRec} {w : Word} (h : s.entryNow = some (run, r, w)) :
    s.ctl.run = some run := by
  unfold State.entryNow at h
  split at h
  · cases h
  · split at h
    · cases h
    · simp only [Option.map_eq_some_iff] at h
      obtain ⟨_, _, h⟩ := h
      cases h; assumption
theorem State.ctlShow_ctl : s.ctlShow.ctl = s.ctl := rfl
theorem State.reg_ctlShow_ne {a : Nat} (h : a ≠ Reg.CTL_STAT) : s.ctlShow.reg a = s.reg a := by
  unfold State.ctlShow
  rw [State.reg_putFlag_ne _ _ h, State.reg_putFlag_ne _ _ h, State.reg_putFlag_ne _ _ h]
theorem State.get_ctlShow {f : Field} (h : ∀ g ∈ [F.CTL_STAT_RUN, F.CTL_STAT_PEND, F.CTL_STAT_FIXWAIT],
    f.addr ≠ g.addr ∨ f.lo + f.len ≤ g.lo ∨ g.lo + g.len ≤ f.lo) : s.ctlShow.get f = s.get f := by
  unfold State.ctlShow State.putFlag
  rw [State.get_put_ne _ _ (h _ (by simp)), State.get_put_ne _ _ (h _ (by simp)), State.get_put_ne _ _ (h _ (by simp))]
theorem State.runNext_on {s : State} {run : CtlRun} (h : s.ctl.run = some run) (h1 : run.pc < 63) (h2 : ¬(run.low = true ∧ run.pc = 31)) :
    s.runNext.ctl = { s.ctl with run := some { run with pc := run.pc + 1 } } ∧ s.runNext.get F.CTL_STAT_PC = run.pc + 1 ∧
    (∀ a, a ≠ Reg.CTL_STAT → s.runNext.reg a = s.reg a) ∧ s.runNext.sram = s.sram ∧ s.runNext.nvm = s.nvm := by
  have e : s.runNext = (({ s with ctl := { s.ctl with run := some { run with pc := run.pc + 1 } } }).put F.CTL_STAT_PC (run.pc + 1)).ctlShow := by
    unfold State.runNext
    simp only [h]
    rw [if_neg]
    rintro (x | ⟨x, y⟩)
    · omega
    · exact h2 ⟨x, by omega⟩
  rw [e]
  refine ⟨rfl, ?_, ?_, rfl, rfl⟩
  · rw [State.get_ctlShow _ (by decide), State.get_put_self _ _ _ (by decide)]
    show (run.pc + 1) % 64 = _
    omega
  · intro a ha
    rw [State.reg_ctlShow_ne _ ha, State.reg_put_ne _ _ ha]
    rfl
theorem entryD_lt (w : Word) : entryD w < 64 := wbits_lt w 21 6
theorem nth_set_self {α : Type} (d : α) (l : List α) (i : Nat) (x : α) (h : i < l.length) : nth d (l.set i x) i = x := by
  simp [nth, h]
theorem nth_set_ne {α : Type} (d : α) (l : List α) (i j : Nat) (x : α) (h : j ≠ i) : nth d (l.set i x) j = nth d l j := by
  simp [nth, List.getElem?_set, Ne.symm h]
theorem State.putVar_facts (s : State) (id d : Nat) (x : Fp) (h : d < s.ctl.v.length) :
    (s.putVar id d x).ctlVar d = x.1 ∧ (∀ i, i ≠ d → (s.putVar id d x).ctlVar i = s.ctlVar i) ∧
    (s.putVar id d x).regs = s.regs ∧ (s.putVar id d x).sram = s.sram ∧ (s.putVar id d x).nvm = s.nvm ∧
    (s.putVar id d x).ctl = { s.ctl with v := s.ctl.v.set d x.1, steps := (s.putVar id d x).ctl.steps } := by
  unfold State.putVar
  dsimp only
  split <;> refine ⟨?_, ?_, rfl, rfl, rfl, rfl⟩ <;> simp only [State.ctlVar, State.modStep, State.setCtlVar]
  · exact nth_set_self _ _ _ _ h
  · intro i hi; exact nth_set_ne _ _ _ _ _ hi
  · exact nth_set_self _ _ _ _ h
  · intro i hi; exact nth_set_ne _ _ _ _ _ hi
theorem State.ctlSpend_facts (s : State) (n : Nat) : (s.ctlSpend n).ctl = { s.ctl with clock := s.ctl.clock + n } ∧
    (s.ctlSpend n).regs = s.regs ∧ (s.ctlSpend n).sram = s.sram ∧ (s.ctlSpend n).nvm = s.nvm := by
  simp [State.ctlSpend, CtlSt.spend]

end Sys2Proof.Machine
end

