-- ==== Sys2Proof/Certificates/Slice0/Obligations.lean ====
section
/-! DEFINITION. What the provers are asked: statements of the rules of the spec, over all states and operands. A state `u` before
`settle` is the effect of the row itself; `settle` is what that leaves to happen by itself. -/

open Sys2Proof Sys2Proof.Machine

/-- The command at the front of the queue runs on the state with the queue's rest. -/
def Obligations.FrontCommandRuns : Prop :=
  ∀ (c : Instr) (rest : List Instr) (s : State), s.pending = c :: rest → step s = exec c { s with pending := rest }

/-- With no command waiting, one SYSCLK tick passes (the model's choice, log entry 1): the clock advances, no register,
no byte of memory changes. Choices of the model that it rests on: log entry 1. -/
def Obligations.EmptyQueueIdles : Prop :=
  ∀ s : State, s.pending = [] →
    ∃ t, step s = .next t ∧ t = s.elapse 1 ∧ t.now = s.now + 1 ∧ t.pending = [] ∧ s.Keeps t (fun _ => False)

/-- What every row leaves to happen by itself changes nothing in a state at rest; with no event to deliver and no command in
flight it is one review. Where nothing but levels is to be reviewed (no kick is on its way, no set is being tuned, SPEC shows
ELC rightly, the relays do not wait for their permit, no fast lane is enabled), it may touch registers of CPS, QDL and IRQC,
the blend, the Quadrille's state, the wake latch, the known GPIO levels, the IRQC's own state and the marks of held WAITs, and
nothing else. Choices of the model that it rests on: log entry 18. -/
def Obligations.SettleAtRest : Prop :=
  (∀ u : State, u.AtRest → u.settle = u) ∧
  ∀ u : State, u.review.evq = [] → u.review.ctx.flight = [] → u.review.ctx.results = [] →
    u.settle = u.review ∧
    (u.pwr.kick = none → u.ctl.tuneAt = none → u.flag F.SPEC_STAT_ELC = u.elcOn → (∀ left, u.rly.pos ≠ .permit left) →
      u.reg Reg.EVR_FAST_EN = 0#32 →
      (∀ a, a / 0x1000 ∉ [Pg.CPS, Pg.QDL, Pg.IRQC] → u.settle.reg a = u.reg a) ∧
      u.settle = { u with regs := u.settle.regs, tick0 := u.settle.tick0, cps := u.settle.cps, qdl := u.settle.qdl,
                          pwr := u.settle.pwr, pins := u.settle.pins, irqc := u.settle.irqc, dma := u.settle.dma, evq := [] } ∧
      u.settle.pwr = { u.pwr with wakeSeen := u.settle.pwr.wakeSeen } ∧ u.settle.pins = { u.pins with seen := u.settle.pins.seen } ∧
      u.settle.cps = { u.cps with rem := u.settle.cps.rem })

/-- Reset (R31, R36, R42, R52): every listed page's header as the page map and the header table give it, EN set on pages
0x00 to 0x07, 0x28 and 0x30 alone; the muster window runs, and of the domains only D0 AON is on (the moment is the
model's choice, log entry 5). The invariants of the next two statements hold there; reset is a state at rest, its
memories in their canonical form. Choices of the model that it rests on: log entry 5. -/
def Obligations.ResetState : Prop :=
  (∀ p < 64, pageListed p = true →
    State.reset.reg (p * 0x1000) = BitVec.ofNat 32 (p * 0x1000000 + pageType p * 0x10000 + 1) ∧
    State.reset.reg (p * 0x1000 + 4) = 0x01000000#32 ∧ State.reset.reg (p * 0x1000 + 8) = pageCap p ∧
    State.reset.pageEn p = decide (p ≤ 7 ∨ p = 0x28 ∨ p = 0x30) ∧
    State.reset.reg (pgEvt p) = 0#32 ∧ State.reset.reg (pgEvtEn p) = (if p = Pg.SYS ∨ p = Pg.PWR then 1#32 else 0#32) ∧
    State.reset.reg (pgErr p) = 0#32 ∧ State.reset.reg (pgSeq p) = 0#32) ∧
  State.reset.pwr.muster = true ∧ (∀ d < 12, State.reset.domOn d = decide (d = 0)) ∧ State.reset.pending = [] ∧
  State.reset.SeenLevels ∧ State.reset.SourceFollows ∧ State.reset.AtRest ∧ Memory.wf State.reset = true

/-- Every step keeps the levels of GPIO0 to GPIO2 known while D1 CORE is ready, so no edge of R495 is missed later.
Choices of the model that it rests on: log entry 93. -/
def Obligations.KnownLevelsKept : Prop :=
  ∀ s t : State, s.SeenLevels → step s = .next t → t.SeenLevels

/-- Every step keeps the active bearing source the one that R69 and R70 choose while D3 NAV is on. -/
def Obligations.BearingSourceKept : Prop :=
  ∀ s t : State, s.SourceFollows → step s = .next t → t.SourceFollows

/-- R18, R29: a word write is granted a beat of the fabric: in this tick where none has been granted in it, else in the
next, and is judged there. An access to an unmapped address, to a page that is not listed, of a width or alignment that the
window does not take, and a write to the NVM read window are refused. A refused read returns 0, a refused write stores
nothing, the state is as it was, and the master is told UNMAPPED, or ALIGN where only the alignment is wrong. Choices of the
model that it rests on: log entry 14. -/
def Obligations.RefusedAccessHasNoEffect : Prop :=
  ∀ (s : State) (who : Who) (a n : Nat) (v : Word), n ∈ [1, 2, 4] →
    let nowhere := inSram a = false ∧ inRegs a = false ∧ inWindows a = false
    let page := inRegs a = true ∧ pageListed (a / 0x1000) = false
    let width := (inRegs a = true ∨ inWindows a = true) ∧ n ≠ 4
    let align := a % n ≠ 0 ∧ (inSram a = true ∨ (n = 4 ∧ (inWindows a = true ∨ (inRegs a = true ∧ pageListed (a / 0x1000) = true))))
    (nowhere ∨ page ∨ width → s.busWriteN who a n v = (s, .unmapped)) ∧
    ((nowhere ∧ inNvm a = false) ∨ page ∨ width → s.busReadN who a n = (0#32, .unmapped, s)) ∧
    (align → s.busWriteN who a n v = (s, .align)) ∧
    (align ∨ (inNvm a = true ∧ a % n ≠ 0) → s.busReadN who a n = (0#32, .align, s)) ∧
    ((∀ w, s.beat ≠ some (s.now, w)) → s.granted (some a) = { s with beat := some (s.now, some a) }) ∧
    ((∃ w, s.beat = some (s.now, w)) → s.granted (some a) = { s.elapse 1 with beat := some (s.now + 1, some a) }) ∧
    (let x := (s.granted (some a)).busWriteN who a 4 v
     exec (.registerWrite who a v) s = .next (x.1.told x.2).settle)

/-- R33, R39, R41: a write that is served at a register with no rule of its own beyond its fields stores its RW fields and
clears its W1C bits (but for those that the block has set since the tick of the grant began), counts once in PG_SEQ of its
page, tells the master OK, and changes nothing else. Row that completes here: registerWrite. Choices of the model that it
rests on: log entries 14, 25. -/
def Obligations.PlainWriteStores : Prop :=
  ∀ (s : State) (who : Who) (a : Nat) (v : Word) (r : RegRow), plainReg a = true → directReg a = true → regRow? a = some r →
    s.serves a = true →
    let g := s.granted (some a)
    ∃ u : State, exec (.registerWrite who a v) s = .next u.settle ∧ u.reg a = r.written (s.reg a) (g.regWas a) v ∧
      u.reg (pgSeq (a / 0x1000)) = s.reg (pgSeq (a / 0x1000)) + 1#32 ∧ u.lastStatus = .ok ∧
      s.Keeps u (fun b => b = a ∨ b = pgSeq (a / 0x1000)) ∧ { u with regs := g.regs, lastStatus := g.lastStatus } = g

/-- R33, R35 to R37, R41: a write to a page whose domain is off, or that is not ready, stores nothing and counts
nothing; the master is told so, and the page's latch remembers it. A write to a page's reserved offset sets
PG_ERR.RO_WRITE alone, also during a soft reset of the page; one to a block register during it sets PG_ERR.NOTREADY alone.
Choices of the model that it rests on: log entries 20, 23. -/
def Obligations.RefusedWriteIsRecorded : Prop :=
  ∀ (s : State) (who : Who) (a : Nat) (v : Word), inRegs a = true → a % 4 = 0 → pageListed (a / 0x1000) = true →
    let g := s.granted (some a)
    (s.pageStatus (a / 0x1000) = .domainOff → ∃ u : State, exec (.registerWrite who a v) s = .next u.settle ∧
      u.pwr.refOff.getLsbD (a / 0x1000) = true ∧ u = { g with lastStatus := .domainOff, pwr := { g.pwr with refOff := u.pwr.refOff } }) ∧
    (s.pageStatus (a / 0x1000) = .notReady → ∃ u : State, exec (.registerWrite who a v) s = .next u.settle ∧
      u.pwr.refNR.getLsbD (a / 0x1000) = true ∧ u = { g with lastStatus := .notReady, pwr := { g.pwr with refNR := u.pwr.refNR } }) ∧
    (s.pageStatus (a / 0x1000) = .ok → 0x40 ≤ a % 0x1000 → regRow? a = none →
      ∃ u : State, exec (.registerWrite who a v) s = .next u.settle ∧ u.lastStatus = .roWrite ∧
        u.bitOf (pgErr (a / 0x1000)) 3 = true ∧ s.Keeps u (fun b => b = pgErr (a / 0x1000)) ∧
        { u with regs := g.regs, tick0 := g.tick0, lastStatus := g.lastStatus } = g) ∧
    (s.pageStatus (a / 0x1000) = .ok → 0x40 ≤ a % 0x1000 → (regRow? a).isSome = true → s.inSrst (a / 0x1000) = true →
      (ctlHolds a && s.ctl.run.isSome) = false →
      ∃ u : State, exec (.registerWrite who a v) s = .next u.settle ∧ u.lastStatus = .notReady ∧
        u.bitOf (pgErr (a / 0x1000)) 4 = true ∧ s.Keeps u (fun b => b = pgErr (a / 0x1000)) ∧
        { u with regs := g.regs, tick0 := g.tick0, lastStatus := g.lastStatus } = g)

/-- R30: a word written to a bank of SRAM that is on reads back byte for byte, and no other byte of SRAM changes (B2's
tenant slots have rules of their own); a bank that is off or retained takes nothing, and reads as 0. Choices of the
model that it rests on: log entry 13. -/
def Obligations.SramReadsBack : Prop :=
  ∀ (s : State) (who : Who) (a : Nat) (v : Word), inSram a = true → a % 4 = 0 →
    (s.bankOn (bankOf a) = true → bankOf a ≠ 2 → ∃ u : State, exec (.registerWrite who a v) s = .next u.settle ∧
      u.lastStatus = .ok ∧ (∀ i < 4, u.sramByte (a + i) = v.extractLsb' (8 * i) 8) ∧
      (∀ b, (b < a ∨ a + 4 ≤ b) → u.sramByte b = s.sramByte b) ∧ u.regs = s.regs ∧ u.nvm = s.nvm) ∧
    (s.bankOn (bankOf a) = false → exec (.registerWrite who a v) s = .next ((s.granted (some a)).told .domainOff).settle ∧
      s.busReadN who a 4 = (0#32, .domainOff, s))

/-- R45: an occurrence of a block event sets its bit in PG_EVT whether or not PG_EVT_EN enables it. Where it is enabled,
the line of the source it maps to pulses, whether or not the bit was already set; where it is not, none does. A pulse
pends its source, in the next tick, where the interrupt controller is at work, the source exists and its sense is EDGE. -/
def Obligations.EventOccurrence : Prop :=
  ∀ (s : State) (p b : Nat), s.domOn (pageDomain p) = true → b < 32 → p < 64 →
    let set := s.setW1c (pgEvt p) b
    (s.note p b).bitOf (pgEvt p) b = true ∧
    (∀ n, s.bitOf (pgEvtEn p) b = true → evtSource p b = some n →
      s.note p b = set.raiseSrc n ∧
      (s.live Pg.IRQC = true → s.irqMsg n = false → srcReserved n = false → ((s.note p b).elapse 1).irqPend n = true)) ∧
    (s.bitOf (pgEvtEn p) b = false ∨ evtSource p b = none →
      s.note p b = set ∧ ∀ k < 128, ((s.note p b).elapse 1).irqPend k = (s.elapse 1).irqPend k) ∧
    s.Keeps (s.note p b) (fun a => a = pgEvt p)

/-- R46: a write to PG_EVT_SET is an occurrence of every event named that the page has, and changes nothing in the
block: only event bits, interrupt sources, the counter and the router's events. Row that completes here: eventSet. Choices
of the model that it rests on: log entry 15. -/
def Obligations.EventSetWrite : Prop :=
  ∀ (s : State) (who : Who) (page : Fin 64) (val : Word), s.pageStatus page = .ok →
    let g := s.granted (some (pgEvtSet page))
    ∃ u : State, exec (.eventSet who page val) s = .next u.settle ∧ u = ((g.eventSet page val).countWrite page).told .ok ∧
      (∀ b < 32, wbit val b = true → (evtSource page b).isSome = true → u.bitOf (pgEvt page) b = true) ∧
      u.reg (pgSeq page) = s.reg (pgSeq page) + 1#32 ∧ u.lastStatus = .ok ∧
      s.Keeps u (fun a => a = pgEvt page ∨ a = pgSeq page) ∧
      { u with regs := g.regs, tick0 := g.tick0, irqc := g.irqc, evq := g.evq, lastStatus := g.lastStatus } = g

/-- R42, R47, R50: PG_CTRL written on a page that is served. EN is switched where the write is not refused; a write that
also sets QUAR places the page's enabled units in quarantine first; one that leaves bit 2 clear while QUAR reads 1 is a
page-wide host clear with its record. A refused change of EN sets PG_ERR.LOCKED alone. What is seen of it: on a page whose
block has nothing to start or stop, EN reads what was written and only PG_CTRL and PG_SEQ change; on the comparators' page,
every enabled comparator shows quarantine after the one write, and none does after the host clear. Rows that complete here:
pageEnable, pageQuarantine, hostClear. Choices of the model that it rests on: log entries 21, 22. -/
def Obligations.PageControl : Prop :=
  ∀ (s : State) (who : Who) (page : Fin 64) (val : Word), s.pageStatus page = .ok →
    let g := s.granted (some (pgCtrl page))
    let c := g.countWrite page
    let switched (t : State) : State := if enFixed page then t else t.pageSwitch page (wbit val 0)
    ((enFixed page || !s.enRefused page (wbit val 0)) = true →
      (wbit val 2 = false → c.pageQuar page = false →
        exec (.pageEnable who page val) s = .next ((switched c).told .ok).settle) ∧
      exec (.pageQuarantine who page val) s = .next ((switched (c.pageEnter page)).told .ok).settle ∧
      (c.pageQuar page = true →
        exec (.hostClear who page none val) s = .next ((switched (c.pageClear page who)).told .ok).settle)) ∧
    (page.val ∈ [Pg.PINS, Pg.IRQC, Pg.EVR, Pg.SPEC, Pg.SAFE, Pg.NVM] → s.enRefused page (wbit val 0) = false → wbit val 2 = false →
      ∃ u : State, exec (.pageEnable who page val) s = .next u.settle ∧ u.pageEn page = wbit val 0 ∧ u.lastStatus = .ok ∧
        u.reg (pgSeq page) = s.reg (pgSeq page) + 1#32 ∧ s.Keeps u (fun a => a = pgCtrl page ∨ a = pgSeq page)) ∧
    (page.val = Pg.CMP → s.pageEn page = true → wbit val 0 = true →
      (∃ u : State, exec (.pageQuarantine who page val) s = .next u.settle ∧ u.pageEn page = true ∧ u.lastStatus = .ok ∧
        ∀ n < 16, s.cmpOn n = true → u.flag (F.CMP_CTRL_QUAR n) = true) ∧
      (s.pageQuar page = true →
        ∃ u : State, exec (.hostClear who page none val) s = .next u.settle ∧ u.pageEn page = true ∧ u.lastStatus = .ok ∧
          ∀ n < 16, s.cmpOn n = true → u.flag (F.CMP_CTRL_QUAR n) = false)) ∧
    (enFixed page = false → s.enRefused page (wbit val 0) = true →
      exec (.pageEnable who page val) s = .next ((g.setW1c (pgErr page) 1).told .locked).settle)

/-- R43, R44: a soft reset is refused with PG_ERR.LOCKED where the page forbids it. Elsewhere the block's registers and
logic are reset, and the page is busy: its header is served, its block registers read 0 (the bearing's two registers go on
showing it), until the reset completes 64 ticks after its start. Rows that complete here: softReset, softResetDone. Choices of
the model that it rests on: log entries 21, 22. -/
def Obligations.SoftReset : Prop :=
  ∀ (s : State) (who : Who) (page : Fin 64) (val : Word),
    let g := s.granted (some (pgCtrl page))
    (s.pageStatus page = .ok → s.srstRefused page = true →
      exec (.softReset who page val) s = .next ((g.setW1c (pgErr page) 1).told .locked).settle) ∧
    (s.pageStatus page = .ok → s.srstRefused page = false → (enFixed page || !s.enRefused page (wbit val 0)) = true →
      ∃ u : State, exec (.softReset who page val) s = .next u.settle ∧ u = ((g.countWrite page).softReset page).told .ok ∧
        u.lastStatus = .ok ∧ u.inSrst page = true ∧
        ∀ a, a / 0x1000 = page → 0x40 ≤ a % 0x1000 → srstShows a = false → u.showReg a = 0#32) ∧
    (s.inSrst page = true → ∃ u : State, exec (.softResetDone page) s = .next u.settle ∧ u.inSrst page = false ∧
      u.now = max s.now (nth 0 s.pwr.srstAt page + 64) ∧ s.Keeps u (fun _ => False))

/-- R47, R50: a write to the register that holds a unit's QUAR field, with that field 1 or 0, is the block's own write;
and what entering quarantine by such a write does. A converter channel, a comparator, a DMA channel or a hot-swap
channel shows it in its QUAR field, its test starting now; a leg follows its own stages: such a write to an enabled leg, its
EN bit 1, leaves it in quarantine, and a host clear ends that. Rows that complete here: unitQuarantine, hostClear. Choices of
the model that it rests on: log entries 21, 101, 112. -/
def Obligations.UnitQuarantine : Prop :=
  ∀ s : State,
    (∀ (who : Who) (page : Fin 64) (n a b : Nat) (val : Word), unitField page n = some (a, b) → s.serves a = true →
      let g := s.granted (some a)
      exec (.unitQuarantine who page n val) s = .next ((g.blockWrite who false a (wputBit val b true)).1.accepted page).settle ∧
      exec (.hostClear who page (some n) val) s = .next ((g.blockWrite who false a (wputBit val b false)).1.accepted page).settle) ∧
    (∀ (who : Who) (n : Nat) (val : Word), n < 7 → n < s.gd.legs.length → s.serves (Reg.GD_LEG_CTRL n) = true → s.live Pg.GD = true →
      s.legEn n = true → wbit val 0 = true → wbit val 2 = false →
      (∃ u : State, exec (.unitQuarantine who 0x1A n val) s = .next u.settle ∧ (u.gdLeg n).quar = true ∧ u.lastStatus = .ok ∧
        s.Keeps u (fun a => a = Reg.GD_LEG_CTRL n ∨ a = pgSeq Pg.GD)) ∧
      ((s.gdLeg n).quar = true →
        ∃ u : State, exec (.hostClear who 0x1A (some n) val) s = .next u.settle ∧ (u.gdLeg n).quar = false ∧ u.lastStatus = .ok)) ∧
    (∀ ch < 18, (s.unitEnter (if ch < 8 then Pg.ADCX else Pg.ADCI) (if ch < 8 then ch else ch - 8)) = s.adcQuar ch true ∧
      (s.adcQuar ch true).adcQuarBit ch = true ∧ s.Keeps (s.adcQuar ch true) (fun a => a = adcCtrl ch)) ∧
    (∀ n < 16, s.unitEnter Pg.CMP n = s.cmpQuar n ∧ (s.cmpQuar n).flag (F.CMP_CTRL_QUAR n) = true ∧
      s.Keeps (s.cmpQuar n) (fun a => a = Reg.CMP_CTRL n)) ∧
    (∀ n < 16, s.unitEnter Pg.DMA n = s.dmaQuarEnter n ∧ (s.dmaQuarEnter n).dmaQuar n = true ∧
      s.Keeps (s.dmaQuarEnter n) (fun a => a = Reg.DMA_CH_CTRL n)) ∧
    (∀ n < 7, s.unitEnter Pg.GD n = s.legQuar n ∧ (n < s.gd.legs.length → ((s.legQuar n).gdLeg n).quar = true) ∧
      s.Keeps (s.legQuar n) (fun _ => False))

/-- R49: a window that ends without a pass counts in QFAIL, which stops at its largest value, and the test starts again,
for each kind of unit; a pass in the window's last tick is in time (R21). Row that completes here: qualificationWindowEnd.
Choices of the model that it rests on: log entry 104. -/
def Obligations.WindowEndsWithoutPass : Prop :=
  ∀ (s : State) (n : Nat),
    (n < 16 → s.clkStopped = false → s.cmpOn n = true → s.flag (F.CMP_CTRL_QUAR n) = true → s.cmpWindowEnd n < s.cmpPassAt n →
      ∃ u : State, exec (.qualificationWindowEnd 0x12 n) s = .next u.settle ∧
        u.get (F.CMP_CTRL_QFAIL n) = min 15 (s.get (F.CMP_CTRL_QFAIL n) + 1) ∧ s.Keeps u (fun a => a = Reg.CMP_CTRL n)) ∧
    (n < 16 → s.dmaQuar n = true → s.dmaOn n = true → s.now ≤ (s.dmaCh n).qAt + s.dmaWindow + 1 →
      ∃ u : State, exec (.qualificationWindowEnd 0x08 n) s = .next u.settle ∧
        u.get (F.DMA_CH_ERR_QFAIL n) = min 15 (s.get (F.DMA_CH_ERR_QFAIL n) + 1) ∧ u.dmaQuar n = true ∧
        u.now = (s.dmaCh n).qAt + s.dmaWindow + 1 ∧ s.Keeps u (fun a => a = Reg.DMA_CH_ERR n)) ∧
    (∀ e, n < 256 → s.ctx.quar.find? (fun e => e.1 = n) = some e → s.ctxQuar n = true → s.ctxOn n = true → s.ctxPass n = false →
      ∃ u : State, exec (.qualificationWindowEnd 0x05 n) s = .next u.settle ∧
        wbits (u.ctxReg n 0x24) 24 4 = min 15 (wbits (s.ctxReg n 0x24) 24 4 + 1) ∧
        u.now = max s.now (e.2 + ticksPerMs * max 1 (s.get F.CTX_CFG_QWIN) + 1)) ∧
    (n < 8 → s.adcOn n = true → s.adcQuarBit n = true → (s.adcCh n).held = false → (s.adcCh n).qPass = false → 64 ≤ (s.adcCh n).qOut →
      ∃ u : State, exec (.qualificationWindowEnd 0x10 n) s = .next u.settle ∧
        wbits (u.reg (adcStat n)) 12 4 = min 15 (wbits (s.reg (adcStat n)) 12 4 + 1) ∧ s.Keeps u (fun a => a = adcStat n)) ∧
    (n < 7 → s.live Pg.GD = true → s.gd.armed = true → s.legEn n = true → (s.gdLeg n).quar = true → (s.gdLeg n).failed = false →
      4 ≤ (s.gdLeg n).cycles →
      ∃ u : State, exec (.qualificationWindowEnd 0x1A n) s = .next u.settle ∧
        wbits (u.reg (Reg.GD_LEG_CTRL n)) 24 4 = min 15 (wbits (s.reg (Reg.GD_LEG_CTRL n)) 24 4 + 1) ∧
        s.Keeps u (fun a => a = Reg.GD_LEG_CTRL n)) ∧
    (n < 2 → s.hswOn n = true → s.flag (F.HSW_CTRL_QUAR n) = true → s.hswPassAt n = none →
      ∃ u : State, exec (.qualificationWindowEnd 0x24 n) s = .next u.settle ∧
        u.get (F.HSW_STAT_QFAIL n) = min 15 (s.get (F.HSW_STAT_QFAIL n) + 1) ∧ s.Keeps u (fun a => a = Reg.HSW_STAT n)) ∧
    (s.qdlOn = true → s.qdl.state = qdlHold →
      exec (.qualificationWindowEnd 0x0E 0) s = .next ((s.runTurns s.qdl.winFrom (s.get F.QDL_CFG_QUALWIN)).qdlWindowFail).settle) ∧
    (s.qdlOn = true → s.qdl.state = qdlHold → s.cps.wrapPend = false → s.turnsGone s.qdl.winFrom (s.get F.QDL_CFG_QUALWIN) = true →
      ∃ u : State, exec (.qualificationWindowEnd 0x0E 0) s = .next u.settle ∧
        u.get F.QDL_STAT_QFAIL = min 7 (s.get F.QDL_STAT_QFAIL + 1) ∧ u.get F.QDL_STAT_HOLDCNT = 0 ∧
        u.qdl.winFrom = s.qdl.winFrom + ((s.get F.QDL_CFG_QUALWIN * turn52 : Nat) : Int))

/-- R55, R56, R57, R71: what time brings to the bearing while D3 NAV is on. A crossing of 0 that waits to be counted is
counted now, BEAR_CYCLE going up by 1, else the increment comes at the bearing's next crossing of 0; a bearing tick comes at
the next boundary of the cycle; a blend ends once its offset is closed and the target is reached, BLEND reading 0, and goes on
with what is left where the target has moved off; the Compass updates at the next multiple of 4,000 ticks. Rows that complete
here: bearCycleIncrement, bearingTick, blendEnd, cpsUpdate. Choices of the model that it rests on: log entries 2, 28, 29. -/
def Obligations.BearingEvents : Prop :=
  ∀ s : State, s.domOn 3 = true →
    (s.cps.wrapPend = true → ∃ u : State, exec .bearCycleIncrement s = .next u.settle ∧ u = s.cycleIncrement ∧
      u.reg Reg.CPS_BEAR_CYCLE = s.reg Reg.CPS_BEAR_CYCLE + 1#32 ∧ u.now = s.now) ∧
    (s.cps.wrapPend = false → s.cps.incAt ≠ some s.now →
      exec .bearCycleIncrement s = .next ((s.elapseToAbs ((s.cycleNow + 1) * (turn52 : Int))).catchUp).settle) ∧
    (s.cps.nextTick < s.carN → s.tb0On = false ∨ s.recross = none →
      ∃ u : State, exec .bearingTick s = .next u.settle ∧ u = (s.elapseToAbs (s.cycleNow * (turn52 : Int) +
        ((s.boundary s.cps.nextTick * 1048576 : Nat) : Int))).bearingTick s.cps.nextTick false ∧
        u.cps.nextTick = s.cps.nextTick + 1) ∧
    (∀ (t : Int) (k : Nat), s.tb0On = true → s.recross = some (t, k) → exec .bearingTick s =
      .next (if (s.elapseToAbs t).tb0Uses k then (s.elapseToAbs t).tb0Zero else s.elapseToAbs t).settle) ∧
    (s.flag F.CPS_SRC_BLEND = true → (s.elapse s.blendTicks).cps.rem = 0 →
      ∃ u : State, exec .blendEnd s = .next u.settle ∧ u.cps.rem = (s.elapse s.blendTicks).sourceOffset ∧
        u.flag F.CPS_SRC_BLEND = decide (u.cps.rem ≠ 0) ∧ u.now = s.now + s.blendTicks) ∧
    (s.now ≤ (s.cps.lastUpd / 4000 + 1) * 4000 →
      ∃ t : State, t.now = (s.cps.lastUpd / 4000 + 1) * 4000 ∧ t.cps.lastUpd = t.now ∧ s.Keeps t (fun _ => False) ∧
        ∃ u : State, exec .cpsUpdate s = .next u.settle ∧ u = (t.blendClosed.cpsUpdateNow).chtFlush ∧ u.cps.lastUpd = t.now)

/-- R77, R79, R80, R97: an armed waypoint is judged as the bearing comes to its angle, a crossing in the tick just past being
taken at once, and has its bit in the record of that cycle; a write of its angle, or of its pattern, is judged at once; CNTCLR
clears the late and skip counters and leaves the rest of the Chart alone. Rows that complete here: waypointFire,
chtWpAngleWrite, chtWpRepWrite, cntclr. Choices of the model that it rests on: log entry 30. -/
def Obligations.ChartWrites : Prop :=
  ∀ (s : State) (who : Who) (n : Fin 64) (val : Word),
    (s.domOn 3 = true → s.live Pg.CHT = true → s.wpArmed n = true → s.cps.wrapPend = false → s.wpUsed n (s.wpCycle n) = true →
      let t := (s.elapseToAbs (s.nextCrossing (s.wpAngle n * 1048576))).catchUp
      ∃ u : State, exec (.waypointFire n) s = .next u.settle ∧ u = (t.wpCross n (t.wpCycle n)).chtFlush ∧
        u.wpUsed n (t.wpCycle n) = true) ∧
    (s.domOn 3 = true → s.live Pg.CHT = true → s.wpArmed n = true → s.cps.wrapPend = false → s.wpUsed n (s.wpCycle n) = false →
      (s.cps.bear + turn52 - s.wpAngle n * 1048576) % turn52 < s.cps.step →
      ∃ u : State, exec (.waypointFire n) s = .next u.settle ∧ u = (s.wpCross n (s.wpCycle n)).chtFlush ∧
        u.wpUsed n (s.wpCycle n) = true) ∧
    (s.serves (Reg.CHT_WP_ANGLE n) = true →
      ∃ u : State, exec (.chtWpAngleWrite who n val) s = .next u.settle ∧
        u = (((((s.granted (some (Reg.CHT_WP_ANGLE n))).setReg (Reg.CHT_WP_ANGLE n) val).chtJudge n).chtFlush)).accepted Pg.CHT ∧
        u.reg (Reg.CHT_WP_ANGLE n) = val ∧ u.lastStatus = .ok) ∧
    (s.serves (Reg.CHT_WP_REP n) = true →
      ∃ u : State, exec (.chtWpRepWrite who n val) s = .next u.settle ∧
        u = ((s.granted (some (Reg.CHT_WP_REP n))).chtRepWrite n val).accepted Pg.CHT ∧ u.lastStatus = .ok ∧
        u.get (F.CHT_WP_REP_N n) = wbits val 16 16 ∧ (wbits val 0 2 ≠ repOnce → u.wpMode n = wbits val 0 2)) ∧
    (s.serves Reg.CHT_CFG = true →
      ∃ u : State, exec (.cntclr who val) s = .next u.settle ∧ u.reg Reg.CHT_LATECNT = 0#32 ∧ u.reg Reg.CHT_SKIPCNT = 0#32 ∧
        u.lastStatus = .ok ∧
        s.Keeps u (fun a => a = Reg.CHT_CFG ∨ a = Reg.CHT_LATECNT ∨ a = Reg.CHT_SKIPCNT ∨ a = pgSeq Pg.CHT))

/-- R77, R78, R79: the crossing of a waypoint's angle in the present cycle. One that has its bit in the record does
nothing; one that is due is recorded, its actions wait for the next tick, and a ONCE waypoint goes OFF; one that is not
due is recorded alone. Choices of the model that it rests on: log entries 2, 30. -/
def Obligations.WaypointCrossing : Prop :=
  ∀ (s : State) (n : Nat), n < 64 →
    (s.wpUsed n s.cycleNow = true → s.wpCross n s.cycleNow = s) ∧
    (s.wpUsed n s.cycleNow = false →
      (s.wpCross n s.cycleNow).wpUsed n (s.wpCross n s.cycleNow).cycleNow = true ∧
      (s.wpDue n s.cycleNow = true → (∀ c ∈ s.wpActions n, c ∈ (s.wpCross n s.cycleNow).cht.due) ∧
        (s.wpMode n = repOnce → s.mastered (Reg.CHT_WP_REP n) = false → (s.wpCross n s.cycleNow).wpMode n = repOff)) ∧
      (s.wpDue n s.cycleNow = false → (s.wpCross n s.cycleNow).cht = s.cht) ∧
      s.Keeps (s.wpCross n s.cycleNow) (fun a => a = Reg.CHT_FIRED (n / 32) ∨ a = Reg.CHT_WP_REP n))

/-- R87, R88: frames that go out. The lead's frame is made of the bearing and the shares as they stand at its slot, and
its own share is shown; it goes out once a cycle, and the echo is awaited from its last bit. A follower sends its own in the
slot of its rank; the pinged one echoes 2,000 ticks after the frame. Rows that complete here: leadFrameSend,
followerFrameSend, echoSend. Choices of the model that it rests on: log entries 2, 31. -/
def Obligations.QuadrilleSends : Prop :=
  ∀ (s : State), s.qdlOn = true →
    (s.qdl.state = qdlLead → s.qdl.leadSent = false → s.bearing.toNat ≥ 0x02000000 →
      let t := s.elapse 660
      ∃ u : State, exec (.leadFrameSend none) s = .next u.settle ∧ u.qdl.sent = withCrc (t.leadData t.pingRank) ∧
        u.qdl.sentAt = some s.now ∧ u.qdl.leadSent = true ∧ u.qdl.echoOf = some t.pingRank ∧ u.qdl.dlyOut = none ∧
        u.qdl.frameAt = u.now ∧ u.now = s.now + qdlHeadTicks + 52 * qdlByteTicks ∧
        u.reg Reg.QDL_SHARE = shareWord (t.shareP t.qdl.rank) (t.shareQ t.qdl.rank) ∧ s.Keeps u (fun a => a = Reg.QDL_SHARE)) ∧
    (∀ (t : Nat) (l : LeadInfo), qdlListen ≤ s.qdl.state → s.qdl.state ≤ qdlFormed → s.qdl.slotDone = false → s.qdl.edgeAt = some t →
      s.qdl.lead = some l →
      let t1 := s.elapseTo (t + ceilDiv ((s.qdl.rank + 1) * 2 ^ 48) l.rate.toNat)
      ∃ u : State, exec .followerFrameSend s = .next u.settle ∧ u.qdl.slotDone = true ∧ u.qdl.sent = withCrc t1.followerData ∧
        u.qdl.sentAt = some t1.now ∧ u.now = t1.now + qdlHeadTicks + 10 * qdlByteTicks ∧ s.Keeps u (fun _ => False)) ∧
    (s.qdl.state ≠ qdlOff → s.qdl.state ≠ qdlLead → s.qdl.pinged = true → s.qdl.echoed = false → s.now ≤ s.qdl.frameAt + 2000 →
      ∃ u : State, exec .echoSend s = .next u.settle ∧ u.now = s.qdl.frameAt + 2000 ∧
        u.qdl = { s.qdl with echoed := true, echoAt := some (s.qdl.frameAt + 2000) } ∧ s.Keeps u (fun _ => False))

/-- R87, R88, R89: frames, echoes and edges that come in. A good lead frame is taken; one whose CRC fails is counted and
nothing in it is used; a follower's frame renews the lead's view of its rank; the echo's time less 5.000 µs is the delay
that the next lead frame carries, in units of 1.25 ns; an edge of BSYNC renews QDL_ALIGN. Rows that complete here:
leadFrameReceive, followerFrameReceive, echoReceive, echoTimeout, bsyncEdge. Choices of the model that it rests on: log
entry 31. -/
def Obligations.QuadrilleReceives : Prop :=
  ∀ (s : State) (bs d : List Byte), s.qdlRuns = true →
    (frameData 48 bs = some d → frameByte d 0 / 16 = 1 → s.qdl.state ≠ qdlLead → frameByte d 0 % 8 ≠ s.qdl.rank →
      ∃ u : State, exec (.leadFrameReceive bs) s = .next u.settle ∧ u = s.leadTake d ∧ u.flag F.QDL_STAT_LINKOK = true ∧
        u.get F.QDL_ROLE_LEADRANK = frameByte d 0 % 8 ∧ u.qdl.frameAt = s.now ∧ u.qdl.silentAt = s.absBear) ∧
    (frameData 48 bs = none → s.qdl.state ≠ qdlFormed →
      ∃ u : State, exec (.leadFrameReceive bs) s = .next u.settle ∧
        u.get F.QDL_ERRCNT_CRC = (s.get F.QDL_ERRCNT_CRC + 1) % 65536 ∧ u.qdl = { s.qdl with crcRun := s.qdl.crcRun + 1 } ∧
        s.Keeps u (fun a => a = Reg.QDL_ERRCNT)) ∧
    (frameData 6 bs = some d → frameByte d 0 / 16 = 2 → frameByte d 0 % 8 ≠ s.qdl.rank → s.qdl.state ≠ qdlLead →
      let r := frameByte d 0 % 8
      let t := s.modQdl (fun q => { q with heard := modAt r (fun _ => some (s.reg Reg.CPS_BEAR_CYCLE)) q.heard })
      ∃ u : State, exec (.followerFrameReceive bs) s = .next u.settle ∧
        u = ((t.putFlag (F.QDL_UNIT_RQUAR r) (natBit (frameByte d 1) 0)).putFlag (F.QDL_UNIT_INFORM r)
          (natBit (frameByte d 1) 1)).qdlShow ∧
        u.flag (F.QDL_UNIT_RQUAR r) = natBit (frameByte d 1) 0 ∧ u.flag (F.QDL_UNIT_INFORM r) = natBit (frameByte d 1) 1) ∧
    (frameData 6 bs = none →
      ∃ u : State, exec (.followerFrameReceive bs) s = .next u.settle ∧
        u.get F.QDL_ERRCNT_CRC = (s.get F.QDL_ERRCNT_CRC + 1) % 65536 ∧ u.qdl = s.qdl ∧ s.Keeps u (fun a => a = Reg.QDL_ERRCNT)) ∧
    (∀ (r m : Nat), s.qdl.state = qdlLead → s.qdl.echoOf = some r → m ≤ 3600 →
      ∃ u : State, exec (.echoReceive m) s = .next u.settle ∧ u.qdl = { s.qdl with echoOf := none, dlyOut := some (r, m - 2000) } ∧
        u.now = max s.now (s.qdl.frameAt + m) ∧ s.Keeps u (fun _ => False)) ∧
    (s.qdl.state = qdlLead → s.qdl.echoOf.isSome = true → s.now ≤ s.qdl.frameAt + 3600 →
      ∃ u : State, exec .echoTimeout s = .next u.settle ∧ u.qdl = { s.qdl with echoOf := none } ∧ u.now = s.qdl.frameAt + 3600 ∧
        s.Keeps u (fun _ => False)) ∧
    (∀ l : LeadInfo, s.qdl.state ≠ qdlLead → s.qdl.lead = some l →
      ∃ u : State, exec .bsyncEdge s = .next u.settle ∧ u.reg Reg.QDL_ALIGN = BitVec.ofNat 32 (wrapBits 32
        (signed 32 (wrapBits 32 (roundHalfUp ((((wbits (s.reg Reg.QDL_DELAY) 0 16) * l.rate.toNat : Nat) : Rat) / 2097152) -
          (s.bearing.toNat : Int))))))

/-- R90, R93, R94: the unit's states that the passing of cycles brings about: LISTEN becomes CLAIM after 8 cycles
without a lead where LEADOK is set, CLAIM becomes LEAD, its own rank the lead's, at a crossing of 0; a follower whose lead
bearing has been invalid for 2 cycles leaves FORMED for LISTEN with cause LEADLOST, and a lead unheard by 22.5° is missing.
Where the cycles are not over yet, time passes to their end. Rows that complete here: qdlListenTimeout, claimLead,
qdlLeadlost, leadMissing. Choices of the model that it rests on: log entries 2, 31. -/
def Obligations.QuadrilleTimeouts : Prop :=
  ∀ (s : State), s.qdlOn = true →
    (s.qdl.state = qdlListen → s.cps.wrapPend = false → s.turnsGone s.qdl.silentAt 8 = true → s.flag F.QDL_CFG_LEADOK = true →
      ∃ u : State, exec .qdlListenTimeout s = .next u.settle ∧ u.qdl = { s.qdl with state := qdlClaim, claimAt := s.absBear } ∧
        u.now = s.now) ∧
    (s.qdl.state = qdlListen →
      exec .qdlListenTimeout s = .next (s.runTurns s.qdl.silentAt 8).listenTimeout.settle) ∧
    (s.domOn 3 = true → s.claimDue ((s.cycleNow + 1) * (turn52 : Int)) = true →
      ∃ t u : State, t.qdl = s.qdl ∧ (s.cps.wrapPend = true → t = s) ∧
        (s.cps.wrapPend = false → t = s.elapseToAbs ((s.cycleNow + 1) * (turn52 : Int))) ∧ t.toLead.qdl.state = qdlLead ∧
        t.toLead.get F.QDL_ROLE_LEADRANK = s.qdl.rank % 8 ∧ exec .claimLead s = .next u.settle ∧ u = t.toLead.catchUp) ∧
    (∀ a, s.qdl.state = qdlFormed → s.qdl.lostAt = some a → s.cps.wrapPend = false → s.turnsGone a 2 = true → s.qdl.takeover = false →
      ∃ u : State, exec .qdlLeadlost s = .next u.settle ∧ u.qdl.state = qdlListen ∧ u.get F.QDL_STAT_CAUSE = causeLeadLost ∧
        u.reg Reg.QDL_SHARE = 0#32 ∧ u.flag F.QDL_STAT_IN_FORMATION = false ∧ u.now = s.now) ∧
    (s.domOn 3 = true → s.qdlFollows = true → s.qdl.leadGone = false → 0x10000000 ≤ s.bearing.toNat → s.bearing.toNat < 0x20000000 →
      s.leadSilent = true →
      ∃ u : State, exec .leadMissing s = .next u.settle ∧ u.qdl.leadGone = true ∧ u.now = s.now)

/-- R103, R106, R112: an output of a running channel's C path comes at its time, and its result word holds the code of
the ones-density that its filter reads in the stream, scaled by GAIN and OFFS and held to 24 bits, with the overload and
unqualified marks and the sequence number; nothing but this channel's registers and the events of its page are written. The
density of a stream of captured bits is their sinc3 average; that of an AIN pin runs from 0.10 at 0 V to 0.90 at VREFP. Row
that completes here: adcCOutput. Choices of the model that it rests on: log entries 32, 33, 34. -/
def Obligations.ConverterOutput : Prop :=
  ∀ (s : State) (ch : Fin 18),
    (∀ (x : Stream) (p : Rat), s.adc.ch.length = 18 → s.adcOn ch = true → (s.adcCh ch).mark = none → s.bitOf (adcCtrl ch) 7 = false →
      s.ctx.flight = [] → (s.cWindow ch x).dens = some p →
      let w := s.cWindow ch x
      let t := (s.elapseTo w.vis).streamJudge ch w
      ∃ u : State, exec (.adcCOutput ch x) s = .next u.settle ∧ u.now = max s.now w.vis ∧
        u.reg (adcCRes ch) = resultWord (t.resultData ch (rawCode ch p)) w.ovr (t.unsC ch) ((s.adcCh ch).seqC + 1) ∧
        s.Keeps u (fun a => a = adcCRes ch ∨ a = adcStat ch ∨ a = adcCtrl ch ∨ a = pgEvt (adcPage ch))) ∧
    (∀ b : Nat, s.adcMan ch = true ∨ 8 ≤ ch.val ∨ s.sdckDriven (ch / 4) = true → b < 2 ^ (3 * s.cosr ch + 61) →
      (s.cWindow ch (.bits b)).dens = some (sinc3Density (s.cosr ch) (b >>> 63)) ∧
      (s.cWindow ch (.bits b)).ovr = windowOvr (s.ovrm ch) b (3 * s.cosr ch - 2) ∧
      (s.cWindow ch (.bits b)).vis = (s.adcCh ch).nextOut) ∧
    (∀ uV : Nat, 8 ≤ ch.val → s.domOn 7 = true → s.flag F.ADCI_CFG_REFEN = true → uV ≤ 2500000 →
      (s.cWindow ch (.pin uV)).dens = some (1 / 10 + 8 / 10 * (uV : Rat) / 2500000))

/-- R110, R111, R112: a sample of a running M path is taken at the instant of its index, and written 19.5 M-path clocks
after it with that index and its marks; the next row gives the next index. Row that completes here: adcMSample. Choices of the
model that it rests on: log entry 34. -/
def Obligations.ResamplerSample : Prop :=
  ∀ (s : State) (ch : Fin 18) (whole : Int) (part : Fin 1099511627776), s.adc.ch.length = 18 → s.adcOn ch = true → s.adcMen ch = true →
    s.ctx.flight = [] →
    let i := (s.adcCh ch).nextI
    let t0 := s.runIndex i
    let t := t0.elapseTo ((t0.indexAt i).1 + s.mDelay ch)
    ∃ u : State, exec (.adcMSample ch whole part) s = .next u.settle ∧ u = s.mArrive ch (whole * 1099511627776 + part.val) ∧
      u.now = t.now ∧ (u.adcCh ch).nextI = i + 1 ∧ wbits (u.reg (adcStat ch)) 16 8 = (i % 256).toNat ∧
      u.reg (adcMRes ch) = resultWord
        (s.resultData ch (rawCode ch (((whole * 1099511627776 + part.val : Int) : Rat) / 1099511627776))) (t.mOvr ch)
        (t.unsM ch || (t0.indexAt i).2) ((s.adcCh ch).seqM + 1) ∧
      s.Keeps u (fun a => a = adcMRes ch ∨ a = adcStat ch ∨ a = adcCtrl ch ∨ a = pgEvt (adcPage ch))

/-- R38, R113: a served read of a result register answers the word that stood there as its tick began; where the reader is
the consumer that the channel designates and no new result came in that tick it clears NEW, and otherwise it has no side
effect. Row that completes here: adcResultRead. Choices of the model that it rests on: log entry 25. -/
def Obligations.ResultRead : Prop :=
  ∀ (s : State) (who : Who) (ch : Fin 18) (m : Fin 2),
    let a := if m = 0 then adcCRes ch else adcMRes ch
    let c := wbits (s.reg (adcCtrl ch)) (10 + 2 * m) 2
    let g := s.granted none
    s.serves a = true →
    ∃ u : State, exec (.adcResultRead who a) s = .next u.settle ∧ u.lastRead = g.regWas a ∧ u.lastStatus = .ok ∧
      ((if c = 3 then 2 else c) = consumerOf who.master.toNat → s.reg a = g.regWas a → u.bitOf (adcStat ch) m = false ∧
        s.Keeps u (fun b => b = adcStat ch)) ∧
      ((if c = 3 then 2 else c) ≠ consumerOf who.master.toNat ∨ s.reg a ≠ g.regWas a → s.Keeps u (fun _ => False))

/-- R102, R104, R105: the flags of a running channel. A stream without transitions sets STUCK, a lost clock CLKLOSS on a
Manchester channel. Each returns to 0 by itself; in the tick in which neither is left the channel enters quarantine. OVR
follows the overload margin; the isolated reference, once settled, sets REFRDY. Rows that complete here: adcStuck,
adcClkloss, adcStuckClear, channelOverload, adcRefReady. Choices of the model that it rests on: log entries 2, 35. -/
def Obligations.ConverterFlags : Prop :=
  ∀ (s : State) (ch : Fin 18),
    (s.adcOn ch = true → s.bitOf (adcStat ch) 5 = false →
      ∃ u : State, exec (.adcStuck ch) s = .next u.settle ∧ u.bitOf (adcStat ch) 5 = true ∧
        s.Keeps u (fun a => a = adcStat ch ∨ a = pgEvt (adcPage ch))) ∧
    (s.adcOn ch = true → s.bitOf (adcStat ch) 6 = false → s.bitOf (adcCtrl ch) 2 = true → ch.val < 8 →
      ∃ u : State, exec (.adcClkloss ch) s = .next u.settle ∧ u.bitOf (adcStat ch) 6 = true ∧
        s.Keeps u (fun a => a = adcStat ch ∨ a = pgEvt (adcPage ch))) ∧
    (s.adcStuck ch = true → s.adcOn ch = true →
      ∃ u : State, exec (.adcStuckClear { ch := ch, stuck := true, clk := true }) s = .next u.settle ∧ u.adcStuck ch = false ∧
        u.adcQuarBit ch = true ∧ s.Keeps u (fun a => a = adcStat ch ∨ a = adcCtrl ch)) ∧
    (s.bitOf (adcStat ch) 5 = true → s.bitOf (adcStat ch) 6 = true →
      ∃ u : State, exec (.adcStuckClear { ch := ch, stuck := true, clk := false }) s = .next u.settle ∧ u.bitOf (adcStat ch) 5 = false ∧
        u.bitOf (adcStat ch) 6 = true ∧ u.adc = s.adc ∧ s.Keeps u (fun a => a = adcStat ch)) ∧
    (∀ ones : Nat, s.adcOn ch = true →
      ∃ u : State, exec (.channelOverload ch ones) s = .next u.settle ∧
        u.bitOf (adcStat ch) 4 = decide (64 ≤ ones + s.ovrm ch ∨ ones ≤ s.ovrm ch) ∧
        s.Keeps u (fun a => a = adcStat ch ∨ a = pgEvt (adcPage ch))) ∧
    (∀ t, s.adc.refAt = some t → s.flag F.ADCI_CFG_REFRDY = false →
      ∃ u : State, exec .adcRefReady s = .next u.settle ∧ u.flag F.ADCI_CFG_REFRDY = true ∧
        u.now = max s.now (t + Config.refTicks.val) ∧
        s.Keeps u (fun a => a = Reg.ADCI_CFG ∨ ∃ n ∈ adciChans, a = adcCtrl n))

/-- R107, R116: writes that trigger a group, enable or change a channel, or change the modulator clocks. A trigger marks the
step sample of each running member that has no mark pending. Rows that complete here: adcSwtrig, adcChCtrlWrite,
adcxClkCfgWrite. Choices of the model that it rests on: log entries 32, 33, 38. -/
def Obligations.ConverterWrites : Prop :=
  ∀ (s : State) (who : Who) (val : Word),
    (∀ gr : Fin 4, s.serves (Reg.ADCX_TRIG gr) = true →
      let g := s.granted (some (Reg.ADCX_TRIG gr))
      ∃ u : State, exec (.adcSwtrig who false gr val) s = .next u.settle ∧
        u = ((g.plainStore (Reg.ADCX_TRIG gr) (wputBit val 31 true)).adcTrigger gr).accepted Pg.ADCX ∧ u.lastStatus = .ok ∧
        ∀ ch < 8, s.adc.ch.length = 18 → wbit val ch = true → s.adcOn ch = true → (s.adcCh ch).mark = none →
          (u.adcCh ch).mark = some { tick := g.now, groups := 1#4 <<< gr.val }) ∧
    (∀ gr : Fin 4, s.serves (Reg.ADCI_TRIG gr) = true →
      let g := s.granted (some (Reg.ADCI_TRIG gr))
      ∃ u : State, exec (.adcSwtrig who true gr val) s = .next u.settle ∧
        u = ((g.plainStore (Reg.ADCI_TRIG gr) (wputBit val 31 true)).adcTrigger gr).accepted Pg.ADCI ∧ u.lastStatus = .ok) ∧
    (∀ ch : Fin 18, s.serves (adcCtrl ch) = true →
      let g := s.granted (some (adcCtrl ch))
      (g.adcCtrlWrite ch val).2 = false →
      ∃ u : State, exec (.adcChCtrlWrite who ch val) s = .next u.settle ∧ u = (g.adcCtrlWrite ch val).1.accepted (adcPage ch) ∧
        u.bitOf (adcCtrl ch) 0 = wbit val 0 ∧ u.lastStatus = .ok) ∧
    (s.serves Reg.ADCX_CLK_CFG = true →
      let g := s.granted (some Reg.ADCX_CLK_CFG)
      ∃ u : State, exec (.adcxClkCfgWrite who val) s = .next u.settle ∧ u = (g.clkCfgWrite val).accepted Pg.ADCX ∧
        u.get F.ADCX_CLK_CFG_CK0RATE = wbits val 0 2 ∧ u.get F.ADCX_CLK_CFG_CK1RATE = wbits val 4 2 ∧ u.lastStatus = .ok)

/-- R234, R237, R246: an input of a comparator moves. The fast lanes see the raw outputs first; the synchronised outputs
of the pair then follow, and each edge that EDGE selects on an enabled, qualified comparator is an occurrence of its
event. With no fast lane enabled the input alone moves, and its raw outputs. Rows that complete here: fastLaneAssert,
cmpOccurrence. Choices of the model that it rests on: log entries 16, 36, 37. -/
def Obligations.ComparatorInput : Prop :=
  ∀ (s : State) (n : Fin 16) (uV : Nat),
    let i := (s.cmpSetInput n uV).cmpRawPair n
    let f := i.fastPair n
    (∃ u : State, exec (.fastLaneAssert n uV) s = .next u.settle ∧ u = f ∧
      (s.reg Reg.EVR_FAST_EN = 0#32 → u = i ∧ (n < s.cmp.ch.length → (u.cmpCh n).uV = uV) ∧ s.Keeps u (fun _ => False))) ∧
    (∃ u : State, exec (.cmpOccurrence n uV) s = .next u.settle ∧
      (f.clkStopped = true → u = f.cmpRawPair n) ∧
      (f.clkStopped = false → u = ((f.cmpRawPair n).cmpTake (2 * (n / 2))).cmpTake (2 * (n / 2) + 1))) ∧
    (s.cmpOut n = s.cmpSync n → s.cmpTake n = s) ∧
    (s.cmpOut n ≠ s.cmpSync n → s.cmpOn n = true → s.cmpMarked n = false → s.domOn 8 = true →
      edgeTaken (s.get (F.CMP_CTRL_EDGE n)) (s.cmpOut n) = true →
      (s.cmpTake n).cmpSync n = s.cmpOut n ∧ (s.cmpTake n).bitOf (pgEvt Pg.CMP) n = true ∧ (s.now, n.val) ∈ (s.cmpTake n).evq) ∧
    (s.cmpOut n ≠ s.cmpSync n → (s.cmpOn n = false ∨ s.cmpMarked n = true) →
      (s.cmpTake n).cmpSync n = s.cmpOut n ∧ (s.cmpTake n).evq = s.evq ∧ s.Keeps (s.cmpTake n) (fun a => a = Reg.CMP_STAT))

/-- R234: the raw output of an enabled comparator is 1 above the threshold, 0 below it by more than the hysteresis, and
holds between. Choices of the model that it rests on: log entry 36. -/
def Obligations.ComparatorHysteresis : Prop :=
  ∀ (s : State) (n : Nat), s.cmpOn n = true →
    let vin := 1024 * s.cmpInput n
    let vt := 2500000 * s.get (F.CMP_THR_THR n)
    let hyst := 1024 * cmpHyst (s.get (F.CMP_CTRL_HYST n))
    (vt < vin → s.cmpRaw n = true) ∧ (vin + hyst < vt → s.cmpRaw n = false) ∧
    (vin ≤ vt → vt ≤ vin + hyst → s.cmpRaw n = (s.cmpCh n).raw)

/-- R241, R248, R249: a comparator whose output has been quiet for T_Q leaves quarantine with QFAIL 0; a write of
CMP_CTRL is the block's own; EVR_SWEVT pulses EV60 to EV63 in the next tick; a router output's pulse ends. Rows that
complete here: cmpQualify, cmpCtrlWrite, evrSwevt, routerOutputPulseEnd. Choices of the model that it rests on: log
entries 2, 17, 104. -/
def Obligations.RouterAndQualification : Prop :=
  ∀ (s : State) (who : Who) (val : Word),
    (∀ n : Fin 16, s.clkStopped = false → s.cmpOn n = true → s.cmpMarked n = true → s.cmpPassAt n ≤ s.cmpWindowEnd n →
      ∃ u : State, exec (.cmpQualify n) s = .next u.settle ∧ u = (s.elapseTo (s.cmpPassAt n + s.pwr.halted)).cmpClear n ∧
        u.flag (F.CMP_CTRL_QUAR n) = false ∧ u.get (F.CMP_CTRL_QFAIL n) = 0 ∧ s.Keeps u (fun a => a = Reg.CMP_CTRL n)) ∧
    (∀ n : Fin 16, s.serves (Reg.CMP_CTRL n) = true →
      let g := s.granted (some (Reg.CMP_CTRL n))
      (g.cmpCtrlWrite n val).2 = false →
      ∃ u : State, exec (.cmpCtrlWrite who n val) s = .next u.settle ∧ u = (g.cmpCtrlWrite n val).1.accepted Pg.CMP ∧
        u.flag (F.CMP_CTRL_EN n) = wbit val 0 ∧ u.lastStatus = .ok) ∧
    (s.serves Reg.EVR_SWEVT = true →
      let g := s.granted (some Reg.EVR_SWEVT)
      ∃ u : State, exec (.evrSwevt who val) s = .next u.settle ∧ u.lastStatus = .ok ∧
        (∀ i < 4, wbit val i = true → (g.now + 1, 60 + i) ∈ u.evq) ∧ s.Keeps u (fun a => a = pgSeq Pg.EVR)) ∧
    (∀ (k : Fin 4) (t : Nat), k.val < s.cmp.out.length →
      (nth { level := false, until? := none } s.cmp.out k).until? = some t →
      ∃ u : State, exec (.routerOutputPulseEnd k) s = .next u.settle ∧ u.now = max s.now t ∧
        nth { level := true, until? := none } u.cmp.out k = { level := false, until? := none } ∧ s.Keeps u (fun _ => False))

/-- R122, R125 to R127: the entries that make one value. Each takes two ticks, writes V(DST) and no other variable,
never a value that is not finite (a variable that is not is taken as 0 or the largest number, R122), and the run goes on with
the next entry. Rows that complete here: ctlMov, ctlAdd, ctlSub, ctlMul, ctlFma, ctlClamp, ctlKonst. Choices of the model
that it rests on: log entries 43, 44. -/
def Obligations.EngineValues : Prop :=
  ∀ (s : State) (run : CtlRun) (r : StepRec) (w : Word), s.entryNow = some (run, r, w) → entryLegal w = true →
    s.ctl.v.length = 64 → run.pc < 63 → ¬(run.low = true ∧ run.pc = 31) →
    let a := (s.ctlVar (entryA w)).tame
    let b := (s.ctlVar (entryB w)).tame
    let gives (c : Instr) (y : F32) : Prop := ∃ u : State, exec c s = .next u.settle ∧ u.ctlVar (entryD w) = y ∧
      (∀ i, i ≠ entryD w → u.ctlVar i = s.ctlVar i) ∧ u.ctl.run = some { run with pc := run.pc + 1 } ∧
      u.get F.CTL_STAT_PC = run.pc + 1 ∧ u.ctl.clock = s.ctl.clock + 2 ∧ u.now = max s.now (s.ctl.clock + 2) ∧
      s.Keeps u (fun x => x = Reg.CTL_STAT)
    (entryOp w = 0x09 → gives .ctlMov a) ∧
    (entryOp w = 0x0A → gives .ctlAdd (F32.add a b).tame) ∧
    (entryOp w = 0x0B → gives .ctlSub (F32.sub a b).tame) ∧
    (entryOp w = 0x0C → gives .ctlMul (F32.mul a b).tame) ∧
    (entryOp w = 0x0D → gives .ctlFma (F32.fma a b (s.ctlVar (entryD w))).tame) ∧
    (entryOp w = 0x0E → gives .ctlClamp
      (F32.min (F32.max (s.ctlVar (entryA w)) (F32.neg (F32.abs (s.ctlVar (entryB w))))) (F32.abs (s.ctlVar (entryB w)))).tame) ∧
    (entryOp w = 0x0F → gives .ctlKonst (F32.ofHalf (wbits w 0 16)).tame)

/-- R126, R130, R134 to R136: the entries that run a unit. RATE and RAMP move the unit's output toward V(A) by at most
its limit, the first execution after reset landing on it, and keep it in the unit; SLOT forms y from its states by R130
and, unless HRHOLD stops it, updates them; MODU writes three duties from 0 to 1, all one half without a DC link; XFORM
and MODU leave every variable outside their outputs. Rows that complete here: ctlRate, ctlRamp, ctlSlot, ctlXform, ctlModu.
Choices of the model that it rests on: log entries 44, 47. -/
def Obligations.EngineUnits : Prop :=
  ∀ (s : State) (run : CtlRun) (r : StepRec) (w : Word), s.entryNow = some (run, r, w) → entryLegal w = true →
    s.ctl.v.length = 64 → s.ctl.lims.length = 8 → s.ctl.ramps.length = 8 → s.ctl.slots.length = 96 →
    run.pc < 63 → ¬(run.low = true ∧ run.pc = 31) →
    let d := entryD w
    let x := s.ctlVar (entryA w)
    let n := wbits w 0 3
    let k := wbits w 0 5
    let goes (c : Instr) (t outs : Nat) (more : State → Prop) : Prop := ∃ u : State, exec c s = .next u.settle ∧
      (∀ i, (i < d ∨ d + outs ≤ i) → u.ctlVar i = s.ctlVar i) ∧ u.ctl.run = some { run with pc := run.pc + 1 } ∧
      u.ctl.clock = s.ctl.clock + t ∧ s.Keeps u (fun a => a = Reg.CTL_STAT) ∧ more u
    (entryOp w = 0x07 → goes .ctlRate 4 1 (fun u =>
      let y := match nth none s.ctl.lims n with | none => x | some y => moveToward y x (s.reg (Reg.CTL_RATELIM n))
      u.ctlVar d = y.tame ∧ u.ctl.lims = s.ctl.lims.set n (some y.tame))) ∧
    (entryOp w = 0x08 → goes .ctlRamp 4 1 (fun u =>
      (nth none s.ctl.ramps n = none → u.ctlVar d = x.tame) ∧
      nth none u.ctl.ramps n = some (u.ctlVar d, s.ctl.clock + 4) ∧
      (∀ i, i ≠ n → nth none u.ctl.ramps i = nth none s.ctl.ramps i))) ∧
    (entryOp w = 0x02 → goes .ctlSlot 10 1 (fun u =>
      let c (j : Nat) := s.reg (Reg.CTL_SLOT_COEF k j)
      let z (t : State) (j : Nat) : F32 := nth 0#32 t.ctl.slots (3 * k + j)
      let e := (F32.sub x.tame (s.ctlVar (entryB w)).tame).tame
      let yu := (F32.fma (c 0) e (z s 0)).tame
      let y := F32.clamp yu (s.reg (Reg.CTL_SLOT_CLAMP k 0)) (s.reg (Reg.CTL_SLOT_CLAMP k 1))
      (wbit w 8 = false → u.ctlVar d = y.tame) ∧ (wbit w 8 = true → u.ctlVar d = (F32.add (s.ctlVar d).tame y.tame).tame) ∧
      (∀ i, i / 3 ≠ k → nth 0#32 u.ctl.slots i = nth 0#32 s.ctl.slots i) ∧
      (wbit (s.reg (Reg.CTL_SLOT_CFG k)) 3 = true → s.headroom = true → u.ctl.slots = s.ctl.slots) ∧
      (wbit (s.reg (Reg.CTL_SLOT_CFG k)) 3 = false → wbit (s.reg (Reg.CTL_SLOT_CFG k)) 0 = false →
        F32.lt y yu = false → F32.lt yu y = false →
        let s1 := F32.fma (F32.neg (c 4)) yu (F32.fma (c 1) e (z s 1))
        let s2 := F32.fma (F32.neg (c 5)) yu (F32.fma (c 2) e 0#32)
        (s1.finite = true → s2.finite = true → (z s 2).finite = true → z u 0 = s1 ∧ z u 1 = s2 ∧ z u 2 = z s 2) ∧
        ((s1.finite && s2.finite && (z s 2).finite) = false → z u 0 = 0#32 ∧ z u 1 = 0#32 ∧ z u 2 = 0#32)))) ∧
    (entryOp w = 0x03 → goes .ctlXform 8 (entryOuts w) (fun u =>
      u.ctl.slots = s.ctl.slots ∧ u.ctl.lims = s.ctl.lims ∧ u.ctl.ramps = s.ctl.ramps)) ∧
    (entryOp w = 0x04 → goes .ctlModu 12 3 (fun u =>
      (F32.lt 0#32 (s.ctlVar (entryB w)).tame = false → ∀ j < 3, u.ctlVar (d + j) = F32.half) ∧
      (∀ j < 3, F32.lt (u.ctlVar (d + j)) 0#32 = false ∧ F32.lt F32.one (u.ctlVar (d + j)) = false)))

/-- R125, R128, R129, R137 to R139: PWMW, LOAD, FETCH, and the ways a run ends. PWMW writes the compare of the duty to
the shadow of its leg; a write that PWM refuses sets NOTOWN and stops LOAD for the rest of the run; the first LOAD of a
step shows its latency, in a replay neither writes; a FETCH reads its source, or waits for the fix; END and an illegal
entry end the run; an awaited fix that does not come in time aborts the step, its slot, limiter and ramp states back in
place, the variables as they are. Rows that complete here: ctlPwmw, ctlLoad, ctlFetch, ctlEnd, ctlIllegalEntry,
ctlFetchResume, ctlFixTimeout. Choices of the model that it rests on: log entries 43, 46, 47. -/
def Obligations.EngineOutputs : Prop :=
  ∀ (s : State) (run : CtlRun) (r : StepRec) (w : Word), s.ctl.v.length = 64 → s.ctl.held = [] → run.pc < 63 →
    ¬(run.low = true ∧ run.pc = 31) →
    let next (u : State) : Prop := u.ctl.run = some { run with pc := run.pc + 1 }
    let d := entryD w
    let n := wbits w 0 3
    let src := wbits w 16 5
    (s.entryNow = some (run, r, w) → entryLegal w = true →
      (entryOp w = 0x05 → run.kind ≠ .replay →
        let x := (s.ctlVar (entryA w)).tame
        let duty := if wbit w 8 then (F32.div (F32.add F32.one x).tame F32.two.tame).tame else x
        (s.serves Reg.PWM_LOAD = true → s.ownsShadow 0x30 n = true →
          ∃ u : State, exec .ctlPwmw s = .next u.settle ∧ next u ∧ u.ctl.v = s.ctl.v ∧
            u.reg (Reg.PWM_SH_CMP n) = BitVec.ofNat 32 ((s.ctlSpend 2).dutyToCmp n (F32.toRat duty) % 2 ^ 21) ∧
            s.Keeps u (fun a => a = Reg.PWM_SH_CMP n ∨ a = pgSeq Pg.PWM ∨ a = Reg.CTL_STAT)) ∧
        (s.serves Reg.PWM_LOAD = true → s.ownsShadow 0x30 n = false →
          ∃ u : State, exec .ctlPwmw s = .next u.settle ∧ u.ctl.run = some { run with pc := run.pc + 1, refused := true } ∧
            u.flag F.CTL_STAT_NOTOWN = true ∧ u.bitOf (pgErr Pg.PWM) 0 = true ∧ u.reg (Reg.PWM_SH_CMP n) = s.reg (Reg.PWM_SH_CMP n))) ∧
      (entryOp w = 0x06 → run.kind ≠ .replay →
        (run.refused = false → s.serves Reg.PWM_LOAD = true → r.loaded = none →
          ∃ u : State, exec .ctlLoad s = .next u.settle ∧ next u ∧ u.get F.CTL_LAT_LAT = min 0xFFFF (s.ctl.clock + 2 - r.trig) ∧
            u.flag F.CTL_LAT_FIXONLY = r.fixOnly ∧ u.flag F.CTL_LAT_RECOMP = decide (run.kind = .recompute) ∧
            u.get F.CTL_LATMAX_MAX = max (s.get F.CTL_LATMAX_MAX) (min 0xFFFF (s.ctl.clock + 2 - r.trig))) ∧
        (run.refused = true → ∃ u : State, exec .ctlLoad s = .next u.settle ∧ next u ∧ u.pwm = s.pwm ∧
          s.Keeps u (fun a => a = Reg.CTL_STAT))) ∧
      (run.kind = .replay →
        (entryOp w = 0x05 → ∃ u : State, exec .ctlPwmw s = .next u.settle ∧ next u ∧ u.pwm = s.pwm ∧
          u.ctl.clock = s.ctl.clock + 1 ∧ s.Keeps u (fun a => a = Reg.CTL_STAT)) ∧
        (entryOp w = 0x06 → ∃ u : State, exec .ctlLoad s = .next u.settle ∧ next u ∧ u.pwm = s.pwm ∧
          u.ctl.clock = s.ctl.clock + 1 ∧ s.Keeps u (fun a => a = Reg.CTL_STAT))) ∧
      (entryOp w = 0x01 → wbits w 13 3 = 0 →
        (∀ v, 8 ≤ src → s.latestC (src - 8) = v →
          ∃ u : State, exec .ctlFetch s = .next u.settle ∧ next u ∧ u.ctl.clock = s.ctl.clock + 2 ∧
            (∀ c, v = some c → u.ctlVar d = F32.ofRat ((c : Rat) / 8388608)) ∧
            (v = none → u.ctlVar d = s.ctlVar d ∧ u.flag F.CTL_STAT_ABSENT = true) ∧ (∀ i, i ≠ d → u.ctlVar i = s.ctlVar i) ∧
            s.Keeps u (fun a => a = Reg.CTL_STAT ∨ a = adcStat (src - 8))) ∧
        (∀ p, src < 8 → predicted run r src = true → nth none r.pred src = some p → r.judged.getLsbD src = false →
          ∃ u : State, exec .ctlFetch s = .next u.settle ∧ next u ∧ u.ctlVar d = F32.ofRat ((p : Rat) / 8388608) ∧
            (s.lastReckoned r = true → u.flag (F.SPEC_PRED_USED src) = true) ∧
            (∀ r', u.stepRec run.step = some r' → r'.used.getLsbD src = true) ∧ (∀ i, i ≠ d → u.ctlVar i = s.ctlVar i)) ∧
        (src < 8 → predicted run r src = false → r.subst.getLsbD src = false → r.judged.getLsbD src = false →
          ∃ u : State, exec .ctlFetch s = .next u.settle ∧ u.ctl.run = some { run with waiting := [src] } ∧ u.ctl.v = s.ctl.v ∧
            u.now = s.now ∧ u.flag F.CTL_STAT_FIXWAIT = true ∧ s.Keeps u (fun a => a = Reg.CTL_STAT))) ∧
      (entryOp w = 0x00 →
        ∃ u : State, exec .ctlEnd s = .next u.settle ∧ u.ctl.run = none ∧ u.flag F.CTL_STAT_RUN = false ∧ u.ctl.v = s.ctl.v ∧
          (r.used = 0#8 → r.resolved = false → s.redoes run.step = false → (∀ k < 16, u.reg (Reg.CTL_OUT k) = s.ctlVar (48 + k)) ∧ (s.now + 2, 37) ∈ u.evq))) ∧
    (s.entryNow = some (run, r, w) → entryLegal w = false →
      ∃ u : State, exec .ctlIllegalEntry s = .next u.settle ∧ u.ctl.run = none ∧ u.flag F.CTL_STAT_LISTERR = true) ∧
    (s.ctl.run = some { run with waiting := [src] } → s.stepRec run.step = some r → w = s.reg (Reg.CTL_STEPLIST run.pc) →
      wbits w 13 3 = 0 → src < 8 →
      (∀ c, r.judged.getLsbD src = true → predicted run r src = false → r.subst.getLsbD src = false → nth none r.fix src = some c →
        ∃ u : State, exec .ctlFetchResume s = .next u.settle ∧ u.ctl.run = some { run with pc := run.pc + 1, waiting := [] } ∧
          u.ctlVar d = F32.ofRat ((c : Rat) / 8388608) ∧ (∀ i, i ≠ d → u.ctlVar i = s.ctlVar i) ∧ u.ctl.clock = s.ctl.clock + 2) ∧
      (r.judged.getLsbD src = false → run.kind = .step →
        ∃ u : State, exec .ctlFixTimeout s = .next u.settle ∧ u.ctl.run = none ∧ u.flag F.CTL_STAT_ABORT = true ∧
          u.ctl.slots = r.ck.slots ∧ u.ctl.lims = r.ck.lims ∧ u.ctl.ramps = r.ck.ramps ∧ u.ctl.v = s.ctl.v ∧
          u.now = max s.now (r.trig + nth 0 r.dead src + 1) ∧ (∀ k < 16, u.reg (Reg.CTL_OUT k) = s.reg (Reg.CTL_OUT k))))

/-- R124, R126, R131, R133, R140, R144, R151: what asks the engine for work and starts it. A trigger pends with its tick
and the bearing; the free engine starts the lowest pending input after 8 ticks of entry, with V16 to V18 those of the
sample angle; a recompute, a replay and a withdrawal start from the step's record; a finished retune is placed; SCLR
zeroes a slot, CLR the largest latency. Rows that complete here: ctlSwtrig, ctlStepStart, ctlRecompute, ctlReplay,
stepWithdraw, beartunePlace, ctlBeartuneSet, ctlSclr, ctlLatmaxClr. Choices of the model that it rests on: log entries 43,
45, 46. -/
def Obligations.EngineRuns : Prop :=
  ∀ (s : State) (who : Who) (val : Word),
    (∀ i : Fin 4, s.serves Reg.CTL_CFG = true → s.pageEn Pg.CTL = true → wbits val 8 4 = 0 → wbit val i = true → s.ctl.pend.length = 4 →
      let g := s.granted (some Reg.CTL_CFG)
      ∃ u : State, exec (.ctlSwtrig who i val) s = .next u.settle ∧ u.lastStatus = .ok ∧
        (nth none s.ctl.pend i = none → nth none u.ctl.pend i = some (g.now, g.bearing) ∧ (g.now + 1, 36) ∈ u.evq) ∧
        (nth none s.ctl.pend i ≠ none → u.ctl.pend = s.ctl.pend ∧
          u.get F.CTL_STAT_DROPCNT = (s.get F.CTL_STAT_DROPCNT + 1) % 128)) ∧
    (∀ (i trig : Nat) (theta : Word), s.ctl.run = none → s.ctl.withdraw = [] → s.ctl.redo = [] → s.ctl.tuneAt = none → s.ctl.tuneDone = [] →
      s.ctl.v.length = 64 → i < 4 → nth none s.ctl.pend i = some (trig, theta) → (∀ j < i, nth none s.ctl.pend j = none) →
      s.ctl.steps = [] →
      ∃ u : State, exec .ctlStepStart s = .next u.settle ∧ nth none u.ctl.pend i = none ∧
        u.ctl.run = some { kind := .step, step := s.ctl.nextId, pc := if i < 2 then 0 else 32, low := decide (i < 2),
                           refused := false, fixes := false, waiting := [] } ∧
        u.ctl.clock = max s.ctl.clock trig + 8 ∧ u.ctlVar 16 = sineOf theta ∧ u.ctlVar 17 = cosineOf theta ∧
        u.ctlVar 18 = F32.ofRat ((theta.toNat : Rat) / 4294967296) ∧ (∀ j, 20 ≤ j → u.ctlVar j = s.ctlVar j)) ∧
    (∀ (id : Nat) (k : RunKind) (fixes : Bool) (rest : List (Nat × RunKind × Bool)) (r : StepRec), s.ctl.run = none →
      s.ctl.withdraw = [] → s.ctl.redo = (id, k, fixes) :: rest → s.ctl.tuneAt = none → s.ctl.tuneDone = [] → s.ctl.held = [] → s.stepRec id = some r →
      s.reg (Reg.CTL_STEPLIST (if r.input < 2 then 0 else 32)) = 0#32 →
      (redoKind r k = .recompute → ∃ u : State, exec .ctlRecompute s = .next u.settle ∧ u.ctl.run = none ∧ u.ctl.redo = rest ∧
        u.flag F.CTL_LAT_RECOMP = true ∧ u.ctl.clock = s.ctl.clock + 8 ∧ (fixes = true → u.ctl.slots = r.ck.slots)) ∧
      (redoKind r k = .replay → ∃ u : State, exec .ctlReplay s = .next u.settle ∧ u.ctl.run = none ∧ u.ctl.redo = rest ∧
        u.reg Reg.CTL_LAT = s.reg Reg.CTL_LAT ∧ u.ctl.clock = s.ctl.clock + 8 ∧ (fixes = true → u.ctl.slots = r.ck.slots))) ∧
    (∀ (id : Nat) (rest : List (Nat × Bool)) (r : StepRec), s.ctl.run = none → s.ctl.withdraw = (id, true) :: rest →
      s.stepRec id = some r →
      ∃ u : State, exec .stepWithdraw s = .next u.settle ∧ u.ctl.withdraw = rest ∧ u.ctl.slots = r.ck.slots ∧
        u.ctl.lims = r.ck.lims ∧ u.ctl.ramps = r.ck.ramps) ∧
    (∀ (n t : Nat) (ws : List Word), n < 32 → s.ctl.run = none → s.ctl.tuneAt = some t → s.ctl.tuneStart = false → s.ctl.tuneDone = [] →
      s.ctl.tune = [{ slot := n, ok := true, words := ws, fperr := false }] → s.flag (F.CTL_SLOT_CFG_BEARTUNE n) = true →
      ∃ u : State, exec .beartunePlace s = .next u.settle ∧ u.now = max s.now t ∧ u.ctl.tuneAt = none ∧
        (∀ i < 5, u.reg (Reg.CTL_SLOT_COEF n (if i < 3 then i else i + 1)) = nth 0#32 ws i) ∧
        u.flag (F.CTL_SLOT_CFG_TUNEERR n) = false ∧
        s.Keeps u (fun a => a = Reg.CTL_SLOT_CFG n ∨ ∃ i < 6, a = Reg.CTL_SLOT_COEF n i)) ∧
    (∀ n : Fin 32, s.serves (Reg.CTL_SLOT_CFG n) = true →
      (s.pageEn Pg.CTL = true → s.flag (F.CTL_SLOT_CFG_BEARTUNE n) = false → s.ctl.tuneAt = none →
        ∃ u : State, exec (.ctlBeartuneSet who n val) s = .next u.settle ∧ u.flag (F.CTL_SLOT_CFG_BEARTUNE n) = true ∧
          u.ctl.tuneAt = some ((s.granted (some (Reg.CTL_SLOT_CFG n))).now + 1 + 40 * u.tuneSlots.length) ∧ u.lastStatus = .ok) ∧
      (∃ u : State, exec (.ctlSclr who n val) s = .next u.settle ∧ u.lastStatus = .ok ∧
        ∀ j < 3, u.reg (Reg.CTL_SLOT_STATE n j) = 0#32 ∧ nth 0#32 u.ctl.slots (3 * n + j) = 0#32)) ∧
    (s.serves Reg.CTL_LATMAX = true →
      ∃ u : State, exec (.ctlLatmaxClr who val) s = .next u.settle ∧ u.get F.CTL_LATMAX_MAX = 0 ∧
        u.get F.CTL_LATMAX_LIMIT = wbits val 16 15 ∧ u.lastStatus = .ok ∧
        s.Keeps u (fun a => a = Reg.CTL_LATMAX ∨ a = pgSeq Pg.CTL))

/-- R39, R148, R151, R152, R163, R164: what a host's writes of 1 clear in SPEC (a bit set in the tick of the write stays), a
change of a channel's role or source, the deadline of a fix, the shutdown of a controlled trip. Rows that complete here:
substEnd, fixlostRelease, specTripClear, specBandWrite, specFixDeadline, controlledTripShutdown. Choices of the model that it
rests on: log entries 39, 40, 42. -/
def Obligations.ReckoningLatches : Prop :=
  ∀ (s : State) (who : Who),
    (s.serves Reg.SPEC_SUBST = true →
      let was := (s.granted (some Reg.SPEC_SUBST)).regWas Reg.SPEC_SUBST
      (∀ m : BitVec 8,
        (∃ u : State, exec (.substEnd who m) s = .next u.settle ∧ u.lastStatus = .ok ∧
          ∀ n < 8, u.substituted n = (s.substituted n && !(m.getLsbD n && wbit was n)) ∧ u.fixLost n = s.fixLost n ∧
            (m.getLsbD n = true → wbit was n = true → s.substituted n = true → u.suspect n = false)) ∧
        (∃ u : State, exec (.fixlostRelease who m) s = .next u.settle ∧ u.lastStatus = .ok ∧
          ∀ n < 8, u.fixLost n = (s.fixLost n && !(m.getLsbD n && wbit was (8 + n))) ∧ u.substituted n = s.substituted n)) ∧
      (wbit was 27 = true →
        ∃ u : State, exec (.specTripClear who) s = .next u.settle ∧ u.lastStatus = .ok ∧ u.flag F.SPEC_SUBST_TRIP = false ∧
          u.get F.SPEC_SUBST_TRIPCAUSE = 0 ∧ (∀ n < 8, u.substituted n = s.substituted n ∧ u.fixLost n = s.fixLost n) ∧
          s.Keeps u (fun a => a = Reg.SPEC_SUBST ∨ a = pgSeq Pg.SPEC))) ∧
    (∀ (n : Fin 8) (val : Word), s.serves (Reg.SPEC_BAND n) = true → s.spec.ch.length = 8 →
      ∃ u : State, exec (.specBandWrite who n val) s = .next u.settle ∧ u.lastStatus = .ok ∧ u.reg (Reg.SPEC_BAND n) = val ∧
        (wbits (s.reg (Reg.SPEC_BAND n)) 24 8 = wbits val 24 8 → u.spec = s.spec) ∧
        (wbits (s.reg (Reg.SPEC_BAND n)) 24 8 ≠ wbits val 24 8 → (u.specCh n).q = .learn ∧ (u.specCh n).c = 0#32 ∧
          ∀ m, m ≠ n.val → u.specCh m = s.specCh m)) ∧
    (∀ (r : StepRec) (n : Nat), n < 8 → s.ctl.steps = [r] → r.reck = true → r.marked = 1#8 <<< n → r.judged = 0#8 →
      let t := r.trig + nth 0 r.dead n
      ∃ u : State, exec .specFixDeadline s = .next u.settle ∧ u.now = max s.now (t + 1) ∧ u.bitOf (Reg.SPEC_RESID n) 25 = true ∧
        (r.used.getLsbD n = true → r.resolved = false → u.flag F.SPEC_STAT_UNFIXED = true ∧
          u.ctl.withdraw = s.ctl.withdraw ++ [(r.id, false)]) ∧
        (r.used = 0#8 → u.ctl.withdraw = s.ctl.withdraw)) ∧
    (s.spec.tripPend = true → s.pwm.tb0.run = true → s.pwm.tb0.zero = (32 * s.now : Nat) →
      ∃ u : State, exec .controlledTripShutdown s = .next u.settle ∧
        u = ({ s with spec := { s.spec with tripPend := false } }).shutdown 5 ∧ u.spec.tripPend = false ∧ u.now = s.now ∧
        (s.bridgeOn = true → u.get F.GD_FLT_STAT_SDCAUSE = 5 ∧ u.flag F.GD_FLT_STAT_SHUTDOWN = true ∧ u.gd.armed = false))

/-- R170 to R172, R182, R187 to R189: a request is stored with AUTO, and while the bridge is ARMED it is asked for at the next
update, unless R172 refuses it, when HOREF is set and the register stays; one made in a blend is held for the update that
ends it; an update's set becomes visible at its end; what a tracker's period gave is judged, its voltage reference not
below the floor, and, curtailed, not below what it was; the sweep timer enters a sweep of all strings, or drops it during
another. Rows that complete here: modeReqWrite, modeUpdateEnd, mpptPeriodEnd, mpptSweepTimer. Choices of the model that it
rests on: log entries 49, 50. -/
def Obligations.ModeAndTrackers : Prop :=
  ∀ s : State,
    (∀ (who : Who) (val : Word), s.serves Reg.MODE_REQ = true →
      let g := s.granted (some Reg.MODE_REQ)
      ∃ u : State, exec (.modeReqWrite who val) s = .next u.settle ∧ u.lastStatus = .ok ∧
        (s.mode.blend.isSome = true → u.mode = { s.mode with ask := some (.request (wbits val 0 2)), askRefused := false } ∧
          u.reg Reg.MODE_REQ = s.reg Reg.MODE_REQ) ∧
        (s.mode.blend = none → g.reqRefused (wbits val 0 2) = true → u.flag F.MODE_STAT_HOREF = true ∧
          u.reg Reg.MODE_REQ = s.reg Reg.MODE_REQ ∧ u.mode = s.mode) ∧
        (s.mode.blend = none → g.reqRefused (wbits val 0 2) = false → u.get F.MODE_REQ_REQ = wbits val 0 2 ∧
          u.flag F.MODE_STAT_AUTO = decide (wbits val 0 2 = 3) ∧ u.get F.MODE_STAT_ACTIVE = s.get F.MODE_STAT_ACTIVE ∧
          (s.gd.armed = false → u.mode = { s.mode with askRefused := false }) ∧
          (s.gd.armed = true → s.live Pg.MODE = true → s.mode.start = false → s.modeActive ≠ s.reqMode (wbits val 0 2) →
            u.mode.ask = some (.request (wbits val 0 2)))) ∧
        s.Keeps u (fun a => a = Reg.MODE_REQ ∨ a = Reg.MODE_STAT ∨ a = pgSeq Pg.MODE)) ∧
    (∀ r : List F32, s.mode.next = some r →
      ∃ u : State, exec .modeUpdateEnd s = .next u.settle ∧ u.mode = { s.mode with refs := r, next := none } ∧
        u.now = max s.now s.mode.nextAt ∧ s.Keeps u (fun _ => False)) ∧
    (∀ (k : Nat) (v i : Rat), k < 2 → s.mode.trackers.length = 2 → (nth Tracker.reset s.mode.trackers k).due = some (v, i) →
      (nth Tracker.reset s.mode.trackers (1 - k)).due = none →
      let t := nth Tracker.reset s.mode.trackers k
      ∃ u : State, exec .mpptPeriodEnd s = .next u.settle ∧
        let t' := nth Tracker.reset u.mode.trackers k
        t'.due = none ∧ t'.prev = some (v, i) ∧ t'.curtail = t.curtail ∧
        (t.curtail = true → t.vref ≤ t'.vref) ∧ (t.curtail = false → s.floorV ≤ t'.vref) ∧
        nth Tracker.reset u.mode.trackers (1 - k) = nth Tracker.reset s.mode.trackers (1 - k) ∧
        s.Keeps u (fun a => a = Reg.MODE_STAT ∨ a = Reg.MODE_MPPT_STAT k)) ∧
    (∀ t : Nat, s.live Pg.MODE = true → s.sweepDue = some t →
      ((s.ctx.flight.any (fun c => c.op = 0x22)) = true → exec .mpptSweepTimer s = .next (s.elapseTo t).settle) ∧
      ((s.ctx.flight.any (fun c => c.op = 0x22)) = false → s.devFlight < 8 →
        ∃ u : State, exec .mpptSweepTimer s = .next u.settle ∧ s.Keeps u (fun _ => False) ∧ u.now = max s.now t ∧
          ∃ c, u.ctx.flight = s.ctx.flight ++ [c] ∧ c.op = 0x22 ∧ c.cls = 2 ∧ c.args = [3#32] ∧ c.ctx = devCtx ∧ c.st = .queued))

/-- R196, R197, R202 to R209, R212: the points of the timebases, the compare edges, late edges and refreshes of the legs
at their exact instants, the copies of LOAD_ALL, and a write of PWM_CFG, which cannot change the ELC ownership while the
bridge is ARMED. Rows that complete here: tb0Period, tb1Period, tb1Zero, pwmCompareEdge, lateEdgeFire, refreshEnd,
pwmLoadAll, pwmCfgWrite. Choices of the model that it rests on: log entries 2, 51. -/
def Obligations.CarrierAndEdges : Prop :=
  ∀ s : State, s.pwm.legs.length = 7 → s.domOn 5 = true →
    (s.tb0On = true → s.pwm.tb0.run = true → s.pwm.tb0.down = false →
      let t := s.elapseFine (s.pwm.tb0.zero + (s.pwm.tb0.hp * s.pwm.tb0.ck : Nat)).toNat
      ∃ u : State, exec .tb0Period s = .next u.settle ∧ u.now = t.now ∧ u.pwm.tb0.down = true ∧ u.pwm.halfAt = t.fine ∧
        (s.get F.PWM_EVT_PRESC_P_TB0 ≤ s.pwm.tb0.nPeriod → u.bitOf (pgEvt Pg.PWM) 1 = true)) ∧
    (s.tb1On = true → s.pwm.tb1.run = true →
      (s.pwm.tb1.down = false →
        let t := s.elapseFine (s.pwm.tb1.zero + (s.pwm.tb1.hp * s.pwm.tb1.ck : Nat)).toNat
        ∃ u : State, exec .tb1Period s = .next u.settle ∧ u.now = t.now ∧ u.pwm.tb1.down = true ∧
          (s.get F.PWM_EVT_PRESC_P_TB1 ≤ s.pwm.tb1.nPeriod → u.bitOf (pgEvt Pg.PWM) 5 = true)) ∧
      (let z : Int := s.pwm.tb1.zero + (2 * s.pwm.tb1.hp * s.pwm.tb1.ck : Nat)
       ∃ u : State, exec .tb1Zero s = .next u.settle ∧ u.now = (s.elapseFine z.toNat).now ∧ u.pwm.tb1.zero = z ∧
         u.pwm.tb1.hp = wbits (s.reg Reg.PWM_TB1_PER) 0 21 ∧ u.pwm.tb1.ck = 1 ∧ u.pwm.tb1.down = false)) ∧
    (∀ (n : Fin 7) (x : Nat),
      let l := s.pwmLeg n
      let t := s.tb (tbOf n)
      (l.live = true → l.refresh = none → l.late = none → l.point = none → l.cmd = !t.down → s.cmpInstant n (s.effCmp n) l.edgeDone = some x →
        l.bar ≤ x → (4 ≤ n.val ∨ l.matchDone = true) →
        ∃ u : State, exec (.pwmCompareEdge n) s = .next u.settle ∧ u.now = max s.now (ceilDiv x 32) ∧
          (u.pwmLeg n).cmd = t.down ∧ (u.pwmLeg n).edgeDone = true ∧ (u.pwmLeg n).edgeAt = x ∧
          ∀ m, m ≠ n.val → u.pwmLeg m = s.pwmLeg m) ∧
      (l.late = some x →
        ∃ u : State, exec (.lateEdgeFire n) s = .next u.settle ∧ u.now = max s.now (ceilDiv x 32) ∧
          (u.pwmLeg n).cmd = !l.cmd ∧ (l.lateNext = false → (u.pwmLeg n).late = none) ∧
          (l.lateNext = true → (u.pwmLeg n).late = some (x + s.minPulse)) ∧ (u.pwmLeg n).bar = x + s.minPulse ∧ (u.pwmLeg n).edgeAt = x ∧
          u.bitOf (pgEvt Pg.PWM) 7 = true) ∧
      (l.refresh = some x → l.waitLoad = false → l.cmd = false →
        ∃ u : State, exec (.refreshEnd n) s = .next u.settle ∧ u.now = max s.now (ceilDiv x 32) ∧
          (u.pwmLeg n).cmd = true ∧ (u.pwmLeg n).refresh = none ∧ (u.pwmLeg n).edgeAt = x)) ∧
    (∀ who : Who, s.serves Reg.PWM_LOAD = true →
      (s.ldMode 0 = 0 → s.ldMode 1 = 0 →
        ∃ u : State, exec (.pwmLoadAll who) s = .next u.settle ∧ u.lastStatus = .ok ∧
          ∀ n < 7, (s.pwmLeg n).refresh = none → u.reg (Reg.PWM_ACT_CMP n) = s.reg (Reg.PWM_SH_CMP n)) ∧
      (s.ldMode 0 ≠ 0 → s.ldMode 1 ≠ 0 →
        ∃ u : State, exec (.pwmLoadAll who) s = .next u.settle ∧ u.lastStatus = .ok ∧ u.flag F.PWM_LOAD_PEND0 = true ∧
          u.flag F.PWM_LOAD_PEND1 = true ∧ s.Keeps u (fun a => a = Reg.PWM_LOAD ∨ a = pgSeq Pg.PWM))) ∧
    (∀ (who : Who) (val : Word), s.serves Reg.PWM_CFG = true →
      ∃ u : State, exec (.pwmCfgWrite who val) s = .next u.settle ∧ u.lastStatus = .ok ∧
        (s.gd.armed = false → u.reg Reg.PWM_CFG = val &&& 0xFFFFF#32) ∧
        (s.gd.armed = true → decide (s.get F.PWM_CFG_OWNER = 3) ≠ decide (wbits val 0 2 = 3) →
          u.get F.PWM_CFG_OWNER = s.get F.PWM_CFG_OWNER ∧ u.bitOf (pgErr Pg.PWM) 1 = true))

/-- R219 to R227: a fault input that goes low turns the blamed switch off, latches it and starts its hold timer; what
the policy does at the timer's end; shutdowns turn every high side off and end ARMED; the low sides follow; ESTOP turns
everything off and stays latched until it is cleared with the pin high; RELEASE clears a leg's latches unless its fault
stands or its hold timer runs. No such row puts a high and a low side on together. Rows that complete here: faultInput,
faultHoldExpiry, shutdownLowOff, swsd, estopclr, estop, release. Choices of the model that it rests on: log entries 16, 52,
53. -/
def Obligations.GateFaults : Prop :=
  ∀ s : State, s.gd.legs.length = 7 → s.gd.hold.length = 6 → s.domOn 5 = true →
    (∀ (i : Fin 6) (pin : PinLevel), s.live Pg.GD = true → s.pageReady Pg.GD = true →
      let low := !pin.level
      let filter := wbits (s.reg Reg.GD_FLT_FILT) 0 7 + 2
      (pin.held < filter → exec (.faultInput i pin) s = .next s.settle) ∧
      (filter ≤ pin.held → (low && !s.bitOf Reg.GD_FLT_STAT i && s.bridgeOn && (faultLegs i).any s.legEn) = false →
        ∃ u : State, exec (.faultInput i pin) s = .next u.settle ∧ u = s.putBit Reg.GD_FLT_STAT i low ∧
          u.bitOf Reg.GD_FLT_STAT i = low) ∧
      (∀ (side dt : Bool), filter ≤ pin.held → i.val < 5 → low = true → s.bitOf Reg.GD_FLT_STAT i = false → s.bridgeOn = true → s.legEn i = true →
        s.blameLeg i = (some side, dt) →
        ∃ u : State, exec (.faultInput i pin) s = .next u.settle ∧ (s.GatesApart → u.GatesApart) ∧
          u.bitOf (pgEvt Pg.GD) i = true ∧ u.bitOf Reg.GD_FLT_STAT i = true ∧
          (side = true → u.latH i = true ∧ (u.gdLeg i).hi.on = false) ∧ (side = false → u.latL i = true ∧ (u.gdLeg i).lo.on = false) ∧
          (nth none s.gd.hold i = none → nth none u.gd.hold i =
            some (s.now + max 1 (wbits (s.reg Reg.GD_FLT_HOLD) 0 16), wbits (s.reg Reg.GD_FPOL) (2 * i) 2)))) ∧
    (∀ (i : Fin 6) (t pol : Nat), nth none s.gd.hold i = some (t, pol) →
      ∃ u : State, exec (.faultHoldExpiry i) s = .next u.settle ∧ u.now = max s.now t ∧ nth none u.gd.hold i = none ∧
        (s.GatesApart → u.GatesApart) ∧ (pol = 0 → u.gd.legs = s.gd.legs) ∧
        (pol = 1 → ∀ n ∈ faultLegs i, u.legOff n = true ∧ (u.gdLeg n).hi.on = false ∧ (u.gdLeg n).lo.on = false) ∧
        (2 ≤ pol → s.bridgeOn = true → u.bridgeOn = false ∧ u.get F.GD_FLT_STAT_SDCAUSE = 1 ∧ ∀ l ∈ u.gd.legs, l.hi.on = false)) ∧
    (∀ t : Nat, s.gd.sdLow = some t →
      ∃ u : State, exec .shutdownLowOff s = .next u.settle ∧ u.now = max s.now t ∧ u.gd.sdLow = none ∧
        (∀ l ∈ u.gd.legs, l.lo.on = false) ∧ s.Keeps u (fun _ => False)) ∧
    (∀ (who : Who) (val : Word), s.serves Reg.GD_CFG = true →
      (s.live Pg.GD = true → s.bridgeOn = true →
        ∃ u : State, exec (.swsd who val) s = .next u.settle ∧ u.lastStatus = .ok ∧ u.bridgeOn = false ∧
          u.get F.GD_FLT_STAT_SDCAUSE = 3 ∧ u.flag F.GD_FLT_STAT_SHUTDOWN = true ∧ (∀ l ∈ u.gd.legs, l.hi.on = false)) ∧
      (wbit val 25 = false →
        ∃ u : State, exec (.estopclr who val) s = .next u.settle ∧ u.lastStatus = .ok ∧
          u.gd = { s.gd with estop := s.gd.estop && s.gd.estopPin })) ∧
    (∃ u : State, exec (.estop false) s = .next u.settle ∧ u = { s with gd := { s.gd with estopPin := false } } ∧
      u.gd.estopPin = false ∧ u.gd.estop = s.gd.estop) ∧
    (∃ u : State, exec (.estop true) s = .next u.settle ∧ u.gd.estop = true ∧ u.gd.estopPin = true ∧
      (s.gd.estop = false → s.domReady 5 = true → u.bridgeOn = false ∧ u.flag F.GD_FLT_STAT_SHUTDOWN = true ∧
        ∀ l ∈ u.gd.legs, l.hi.on = false ∧ l.lo.on = false)) ∧
    (∀ (who : Who) (n : Fin 7) (val : Word), s.serves (Reg.GD_LEG_CTRL n) = true → wbit val 0 = s.legEn n → wbit val 1 = false →
      (s.gdLeg n).quar = false →
      ∃ u : State, exec (.release who n val) s = .next u.settle ∧ u.lastStatus = .ok ∧
        ((s.bitOf Reg.GD_FLT_STAT (legInput n) || (nth none s.gd.hold (legInput n)).isSome) = true →
          u.gd = s.gd ∧ u.latH n = s.latH n ∧ u.latL n = s.latL n ∧ u.legOff n = s.legOff n) ∧
        ((s.bitOf Reg.GD_FLT_STAT (legInput n) || (nth none s.gd.hold (legInput n)).isSome) = false →
          u.latH n = false ∧ u.latL n = false ∧ u.legOff n = false ∧
          (s.bridgeOn = true → s.legEn n = true → (u.gdLeg n).quar = true)))

/-- R210, R214 to R217: the timers of the gates at their exact instants. The end of a dead time turns on the side that
the command still calls for, with the other side off; the end of a delayed turn-off or of a pulse turns its switch off;
an ELC level that has stood past its filter is taken. None of them puts a high and a low side on together. Rows that complete
here: deadTimeEnd, gminEnd, prechargePulseEnd, elcInput. Choices of the model that it rests on: log entries 2, 53. -/
def Obligations.GateTimers : Prop :=
  ∀ (s : State) (n : Fin 7), s.gd.legs.length = 7 →
    let l := s.gdLeg n
    (∀ (side : Bool) (t : Nat), l.dt = some (side, t) →
      ∃ u : State, exec (.deadTimeEnd n) s = .next u.settle ∧ u.now = max s.now (ceilDiv t 32) ∧ (u.gdLeg n).dt = none ∧
        (s.GatesApart → u.GatesApart) ∧ s.Keeps u (fun _ => False) ∧
        (s.gdCmd n = side → s.mayTurnOn n side = true → side = true → l.lo.on = false → (u.gdLeg n).hi.on = true) ∧
        (s.gdCmd n = side → s.mayTurnOn n side = true → side = false → l.hi.on = false → (u.gdLeg n).lo.on = true) ∧
        (s.gdCmd n ≠ side → ((u.gdLeg n).hi.on = true → l.hi.on = true) ∧ ((u.gdLeg n).lo.on = true → l.lo.on = true)) ∧
        (∀ m, m ≠ n.val → u.gdLeg m = s.gdLeg m)) ∧
    (∀ t : Nat, (l.gminHi = some t ∧ l.gminLo = none) ∨ (l.gminHi = none ∧ l.gminLo = some t) →
      ∃ u : State, exec (.gminEnd n) s = .next u.settle ∧ u.now = max s.now (ceilDiv t 32) ∧ (s.GatesApart → u.GatesApart) ∧
        (l.gminHi = some t → (u.gdLeg n).hi.on = false ∧ (u.gdLeg n).lo = l.lo) ∧
        (l.gminLo = some t → (u.gdLeg n).lo.on = false ∧ (u.gdLeg n).hi = l.hi) ∧ s.Keeps u (fun _ => False)) ∧
    (∀ t : Nat, l.pulse = some t →
      ∃ u : State, exec (.prechargePulseEnd n) s = .next u.settle ∧ u.now = max s.now (ceilDiv t 32) ∧
        (u.gdLeg n).pulse = none ∧ (u.gdLeg n).lo.on = false ∧ (u.gdLeg n).hi = l.hi ∧ (s.GatesApart → u.GatesApart) ∧
        s.Keeps u (fun _ => False)) ∧
    (∀ (m : Fin 3) (pin : PinLevel), s.domReady 5 = true →
      (pin.held < wbits (s.reg Reg.GD_ELC_CFG) 8 8 + 3 → exec (.elcInput m pin) s = .next s.settle) ∧
      (wbits (s.reg Reg.GD_ELC_CFG) 8 8 + 3 ≤ pin.held →
       ∃ u : State, exec (.elcInput m pin) s = .next u.settle ∧ u.gd.elc.getLsbD m = pin.level ∧
        u.elcCmd m = (pin.level != s.bitOf Reg.GD_ELC_CFG m) ∧
        (∀ k < 3, k ≠ m.val → u.gd.elc.getLsbD k = s.gd.elc.getLsbD k) ∧ (s.GatesApart → u.GatesApart) ∧ u.now = s.now ∧
        s.Keeps u (fun _ => False)))

/-- R255, R259, R260, R264, R271, R275, R276, R283: a stage that is due trips, its cause joining the mask, and an
earlier cause stays; the fallback clock advances every running stage but those whose measure is held; ride-through ends
after POST cycles; the reconnect wait and the ramp end; LOAD copies the stored profile or is refused whole, judged in
the tick it is granted in. Rows that complete here: protStageExpiry, protFallbackTick, frtExit, reconReady, reconRampEnd,
profileLoad. Choices of the model that it rests on: log entries 2, 14, 55, 57. -/
def Obligations.GridProtection : Prop :=
  ∀ s : State, s.prot.stages.length = 12 → s.domOn 5 = true →
    let stage (t : State) (i : Nat) : StageTimer := nth { on := false, count := 0, tripped := false, due := false } t.prot.stages i
    ((∀ i < 12, ((stage s i).on && (stage s i).due && !(stage s i).tripped) = false) →
      exec .protStageExpiry s = .next s.settle) ∧
    (∀ i < 12, (stage s i).on = true → (stage s i).due = true → (stage s i).tripped = false → s.prot.tripAt ≠ some s.now →
      ∃ u : State, exec .protStageExpiry s = .next u.settle ∧ u.flag F.PROT_STAT_TRIPPED = true ∧
        u.flag F.PROT_STAT_RECONOK = false ∧ (stage u i).tripped = true ∧ u.prot.tripAt = some s.now ∧ u.prot.tripMask.testBit i = true ∧
        u.bitOf (pgEvt Pg.PROT) 0 = true ∧
        (s.flag F.PROT_STAT_TRIPPED = true → u.reg Reg.PROT_TRIP_CAUSE = s.reg Reg.PROT_TRIP_CAUSE)) ∧
    (s.protOn = true → s.flag F.CPS_STAT_LOCKED = false →
      ∃ u : State, exec .protFallbackTick s = .next u.settle ∧ u.now = max s.now s.prot.fbAt ∧ u.prot.fbAt = u.now + u.pNom ∧
        (∀ i < 12, (i < 8 ∨ s.freqMeasure.isSome = true) → (stage s i).on = true → (stage s i).tripped = false →
          (stage u i).count = (stage s i).count + 1 ∧ (stage u i).due = decide (s.stageL i ≤ (stage s i).count + 1)) ∧
        (∀ i < 12, ((8 ≤ i ∧ s.freqMeasure = none) ∨ (stage s i).on = false ∨ (stage s i).tripped = true) → stage u i = stage s i) ∧
        (s.flag F.PROT_STAT_FRT = true → u.prot.frtT = s.prot.frtT + 1) ∧ s.Keeps u (fun _ => False)) ∧
    (s.flag F.PROT_STAT_FRT = true → max 1 (s.get F.PROT_FRT_K_POST) * s.carN + 1 ≤ s.prot.post →
      ∃ u : State, exec .frtExit s = .next u.settle ∧ u.flag F.PROT_STAT_FRT = false ∧ u.flag F.PROT_STAT_MC = false ∧
        u.bitOf (pgEvt Pg.PROT) 3 = true ∧ u.prot.frtT = 0 ∧ u.prot.iqDem = 0 ∧ u.prot.pFrt = 1 ∧
        s.Keeps u (fun a => a = Reg.PROT_STAT ∨ a = pgEvt Pg.PROT)) ∧
    (s.protOn = true → 0 < s.prot.recon → wbits (s.reg Reg.PROT_RECON_WAIT) 0 24 * s.carN ≤ s.prot.recon →
      s.flag F.PROT_STAT_RECONOK = false →
      ∃ u : State, exec .reconReady s = .next u.settle ∧ u.flag F.PROT_STAT_RECONOK = true ∧ u.bitOf (pgEvt Pg.PROT) 4 = true ∧
        s.Keeps u (fun a => a = Reg.PROT_STAT ∨ a = pgEvt Pg.PROT)) ∧
    (∀ t : Nat, s.prot.rampAt = some t →
      ∃ u : State, exec .reconRampEnd s = .next u.settle ∧ u.prot.rampOn = true ∧ u.prot.rampAt = none ∧
        u.now = max s.now (t + s.get F.PROT_RECON_RAMP_RAMP * (ticksPerSec / 10))) ∧
    (∀ (who : Who) (val : Word), s.serves Reg.PROT_PROFILE = true →
      let g := s.granted (some Reg.PROT_PROFILE)
      ((g.groupAccepts 0 1 && g.loadAccepts) = false →
        exec (.profileLoad who val) s = .next ((g.setW1c (pgErr Pg.PROT) 1).told .locked).settle) ∧
      (∀ ws : List Word, (g.groupAccepts 0 1 && g.loadAccepts) = true → g.profileWords g.sealProfile = some ws →
        ∃ u : State, exec (.profileLoad who val) s = .next u.settle ∧ u.lastStatus = .ok ∧ u.flag F.PROT_PROFILE_PROFERR = false ∧
          (∀ (k : Nat) (w : Word), k < 36 → ws[k]? = some w → u.reg (profileAddr k) = w) ∧
          u.safe.seq = s.safe.seq + g.profileDiff.length + 1))

/-- R283, R285, R287 to R290: a write to a safety group needs the window, no seal fault, S3 off for groups 1 to 5 and a
place in the change log, which takes one entry; UNLOCK opens the window for 600 s with the right key, five mismatches
lock out; LOCK, the window's end, lockout's end and NEWKEY; a seal sample that is not the latched code latches
SEAL_FAULT, opens the relays and disarms. Rows that complete here: safetyWrite, unlock, lock, newkey, unlockWindowEnd,
lockoutEnd, sealSample. Choices of the model that it rests on: log entries 2, 14, 57, 58. -/
def Obligations.SafetyLock : Prop :=
  ∀ (s : State) (who : Who), s.domOn 5 = true →
    (∀ (addr : Nat) (val : Word),
      (safetyGroup addr = none → exec (.safetyWrite who addr val) s = .next s.settle) ∧
      (∀ k : Nat, safetyGroup addr = some k → s.serves addr = true →
        let g := s.granted (some addr)
        (g.groupAccepts k 1 = false →
          exec (.safetyWrite who addr val) s = .next ((g.setW1c (pgErr (addr / 0x1000)) 1).told .locked).settle) ∧
        (g.groupAccepts k 1 = true → addr ≠ Reg.PROT_PROFILE →
          ∃ u : State, exec (.safetyWrite who addr val) s = .next u.settle ∧ u.lastStatus = .ok ∧
            u.reg addr = (g.blockWrite who true addr val).1.reg addr ∧ u.safe.seq = s.safe.seq + 1 ∧ u.safe.used = s.safe.used + 1 ∧
            u.bitOf (pgEvt Pg.SAFE) 2 = true ∧
            s.Keeps u (fun a => a = addr ∨ a = pgSeq (addr / 0x1000) ∨ a = pgEvt Pg.SAFE)))) ∧
    (s.serves Reg.SAFE_UNLOCK = true →
      let g := s.granted (some Reg.SAFE_UNLOCK)
      (g.lockedOut = true → exec (.unlock who) s = .next ((g.setW1c (pgErr Pg.SAFE) 1).told .locked).settle) ∧
      (g.lockedOut = false → (s.safeEn && !s.safe.fault) = false → exec (.unlock who) s = .next (g.accepted Pg.SAFE).settle) ∧
      (g.lockedOut = false → s.safeEn = true → s.safe.fault = false →
        ∃ u : State, exec (.unlock who) s = .next u.settle ∧ u.lastStatus = .ok ∧ u.keyRegs = 0#64 ∧
          (s.keyRegs = s.safe.key →
            u.safe.window = some (u.now + 600 * ticksPerSec) ∧ u.safe.fail = 0 ∧ u.bitOf (pgEvt Pg.SAFE) 0 = true) ∧
          (s.keyRegs ≠ s.safe.key →
            u.safe.window = s.safe.window ∧ u.safe.fail = min 7 (s.safe.fail + 1) ∧ u.safe.mismatches = s.safe.mismatches + 1 ∧
            u.bitOf (pgEvt Pg.SAFE) 1 = true ∧
            (s.safe.fail = 4 → u.safe.lockout = some (u.pwr.lpo + s.lockoutTicks)))) ∧
      (∃ u : State, exec (.lock who) s = .next u.settle ∧ u = g.closeWindow.accepted Pg.SAFE ∧ u.safe.window = none ∧ u.lastStatus = .ok) ∧
      (s.safeEn = true →
        (g.groupAccepts 0 1 && !decide (s.keyRegs = 0#64) && !decide (s.keyRegs = BitVec.allOnes 64)) = false →
        exec (.newkey who) s = .next ((g.setW1c (pgErr Pg.SAFE) 1).told .locked).settle) ∧
      (s.safeEn = true → g.groupAccepts 0 1 = true → s.keyRegs ≠ 0#64 → s.keyRegs ≠ BitVec.allOnes 64 →
        ∃ u : State, exec (.newkey who) s = .next u.settle ∧ u.lastStatus = .ok ∧ u.safe.key = s.keyRegs ∧ u.keyRegs = 0#64 ∧
          u.safe.seq = s.safe.seq + 1)) ∧
    (∀ t : Nat, s.safe.window = some t →
      ∃ u : State, exec .unlockWindowEnd s = .next u.settle ∧ u.now = max s.now (t + 1) ∧ u.safe = { s.safe with window := none }) ∧
    (∀ k : Nat, s.safe.lockout = some k →
      ∃ u : State, exec .lockoutEnd s = .next u.settle ∧ u.safe = { s.safe with lockout := none, fail := 0 } ∧ k < u.pwr.lpo) ∧
    (∀ ra rb : Nat, s.safe.fault = false →
      ∃ u : State, exec (.sealSample ra rb) s = .next u.settle ∧ u.safe.sealA = sealCode ra ∧ u.safe.sealB = sealCode rb ∧
        u.safe.code = s.safe.code ∧
        (sealPair (sealCode ra) (sealCode rb) = some s.safe.code → u.safe.fault = false ∧ u.safe.window = s.safe.window) ∧
        (sealPair (sealCode ra) (sealCode rb) ≠ some s.safe.code → s.domReady 5 = true →
          u.safe.fault = true ∧ u.windowOpen = false ∧ u.bridgeOn = false ∧
          (s.live Pg.RLY = true → ∀ d ∈ u.rly.drive, d = (false, false))))

/-- R293 to R300: CLOSE starts step 0 on both relays, is ignored in a sequence and refused with its record; OPEN turns
every drive off and starts the dropout checks; feedback is established by four equal samples, a pickup in time is
recorded, and lost contact opens the relays and disarms; proof steps are judged at their ends; pickup, dropout and
permit time out in the tick after their limit; the weld test starts under its conditions. Rows that complete here:
closeRelays, openRelays, weldtest, weldTestStart, rlyFbSample, proofStepEnd, pickupTimeout, dropoutTimeout, permitTimeout.
Choices of the model that it rests on: log entries 2, 14, 62. -/
def Obligations.InterfaceRelays : Prop :=
  ∀ s : State, s.rly.samp.length = 2 → s.rly.est.length = 2 → s.domReady 5 = true →
    let off : List (Bool × Bool) := [(false, false), (false, false)]
    (∀ who : Who, s.serves Reg.RLY_CTRL = true → s.live Pg.RLY = true →
      let g := s.granted (some Reg.RLY_CTRL)
      ((s.rly.closed || decide (s.rly.job ≠ .idle)) = true → exec (.closeRelays who) s = .next (g.accepted Pg.RLY).settle) ∧
      (s.rly.closed = false → s.rly.job = .idle →
        let bar := s.rlyLocked || decide (wbits (s.reg Reg.RLY_WELD) 0 3 ≠ 0) ||
          (!s.flag F.PROT_STAT_RECONOK && !(s.sealS4 && s.flag F.PROT_STAT_DEADBUS))
        ∃ u : State, exec (.closeRelays who) s = .next u.settle ∧ u.lastStatus = .ok ∧
          (bar = true → u.get F.RLY_STAT_CAUSE = 9 ∧ u.bitOf (pgEvt Pg.RLY) 0 = true ∧ u.rly = s.rly) ∧
          (bar = false → u.rly.job = .close ∧ u.rly.stage = 1 ∧ u.rly.pos = .step 0 [0, 1] (u.now + s.tStep) ∧
            u.reg Reg.RLY_PROOF = 0#32)) ∧
      ((s.rly.drive.any (fun d => d.1 || d.2) || decide (s.rly.job ≠ .idle)) = false →
        exec (.openRelays who) s = .next (g.accepted Pg.RLY).settle) ∧
      ((s.rly.drive.any (fun d => d.1 || d.2) || decide (s.rly.job ≠ .idle)) = true →
        ∃ u : State, exec (.openRelays who) s = .next u.settle ∧ u.lastStatus = .ok ∧ u.rly.drive = off ∧ u.rly.job = .idle ∧
          u.rly.closed = false ∧ u.rly.drop = [some (u.now + s.tDropout), some (u.now + s.tDropout)] ∧
          (s.rly.drive.any (fun d => d.1 && d.2) = true → u.flag F.RLY_STAT_WELDPEND = true)) ∧
      (s.rlyLocked = false → s.rly.job = .idle → s.rly.closed = false → s.rly.pos = .rest → s.weldConds = true →
        (∃ u : State, exec (.weldtest who) s = .next u.settle ∧ u.lastStatus = .ok ∧ u.rly.job = .weld ∧ u.rly.weldStage = some 0 ∧
          u.rly.drive = off ∧ u.rly.pos = .measure 0 0 0 0 false) ∧
        (s.flag F.RLY_POLICY_WELDEN = true →
          ∃ u : State, exec .weldTestStart s = .next u.settle ∧ u.rly.job = .weld ∧ u.rly.weldStage = some 0 ∧ u.rly.drive = off ∧
            s.Keeps u (fun _ => False)))) ∧
    (∀ l1 l2 : Fin 3, s.live Pg.RLY = true →
      (∀ (relays : List Nat) (ends : Nat), s.rly.pos = .step 3 relays ends → max s.now s.rly.nextFb ≤ ends) →
      (∀ t : Nat, (s.rly.drop.filterMap id).min? = some t → max s.now s.rly.nextFb ≤ t) →
      ∃ u : State, exec (.rlyFbSample l1 l2) s = .next u.settle ∧ u.now = max s.now s.rly.nextFb ∧
        u.rly.nextFb = u.now + 100 * ticksPerUs ∧
        (s.rly.est = [some 1, some 1] → s.rly.closed = true → s.rly.pos = .rest → l1 = 1 → l2 = 1 → u.rly.closed = true) ∧
        (s.rly.closed = true → s.rly.pos = .rest → s.rly.drive = [(true, true), (true, true)] → nth (0, 0) s.rly.samp 0 = (l1.val, 3) →
          l1 ≠ 1 → u.rly.closed = false ∧ u.rly.drive = off ∧ u.get F.RLY_STAT_CAUSE = 6 ∧ u.bridgeOn = false) ∧
        (∀ ends : Nat, s.rly.closed = false → s.rly.pos = .step 3 [0] ends → nth (0, 0) s.rly.samp 0 = (1, 3) → l1 = 1 →
          wbit (u.reg Reg.RLY_PROOF) 3 = true ∧
          wbits (u.reg Reg.RLY_PROOF) 16 8 = min 255 ((u.now - s.rly.pickFrom) / ticksPerMs))) ∧
    (∀ (k ends : Nat) (relays : List Nat), s.rly.pos = .step k relays ends → k < 3 →
      (∀ n ∈ relays, nth none s.rly.est n ≠ some (if k = 1 then 2 else 0) →
        ∃ u : State, exec .proofStepEnd s = .next u.settle ∧ u.now = max s.now ends ∧ u.get F.RLY_STAT_CAUSE = k + 1 ∧
          (s.live Pg.RLY = true → s.rly.job ≠ .idle → u.rly.drive = off ∧ u.rly.job = .idle)) ∧
      ((∀ n ∈ relays, nth none s.rly.est n = some (if k = 1 then 2 else 0)) →
        ∃ u : State, exec .proofStepEnd s = .next u.settle ∧ u.now = max s.now ends ∧
          (s.rly.job ≠ .close ∨ s.rly.stage = 3 →
            u.rly.pos = .step (k + 1) relays (u.now + (if k + 1 < 3 then s.tStep else s.tPickup))) ∧
          (s.rly.job = .close → s.rly.weldStage = none → s.rly.stage = 1 → s.flag F.RLY_STAT_WELDPEND = false →
            u.rly.stage = 3 ∧ u.rly.pos = .step 1 [s.kf] (u.now + s.tStep)) ∧
          (s.rly.job = .close → s.rly.weldStage = none → s.rly.stage = 4 → k = 2 →
            (u.closePermit = true → u.rly.pos = .step 3 [s.rly.kl] (u.now + s.tPickup)) ∧
            (u.closePermit = false → u.rly.pos = .permit s.permTmo)))) ∧
    (∀ (ends : Nat) (relays : List Nat), s.rly.pos = .step 3 relays ends →
      ∃ u : State, exec .pickupTimeout s = .next u.settle ∧ u.now = max s.now (ends + 1) ∧ u.get F.RLY_STAT_CAUSE = 4) ∧
    (∀ t : Nat, (s.rly.drop.filterMap id).min? = some t →
      ∃ u : State, exec .dropoutTimeout s = .next u.settle ∧ u.now = max s.now (t + 1) ∧ u.get F.RLY_STAT_CAUSE = 5 ∧
        u.rly.job = .idle ∧ u.flag F.RLY_STAT_WELDPEND = true) ∧
    (s.rly.pos = .permit 0 ∨ s.rly.pos = .weldWait 0 ∨
        (∃ (k counted dead live : Nat) (fresh : Bool), s.rly.pos = .measure k counted dead live fresh ∧ s.rly.job = .close ∧
          s.rly.waitLeft = 0 ∧ s.weldConds = false) →
      ∃ u : State, exec .permitTimeout s = .next u.settle ∧ u.get F.RLY_STAT_CAUSE = 7)

/-- R304 to R312: a start goes to PRECHECK, in quarantine after muster; a LATCHED channel refuses one; a high sample
there latches PASS_SHORT, the tenth low one starts the ramp, and 8 V on the gate outside the limit makes the channel ON;
the gate timer, the limit and the fault timer, a short, the retry, the count of attempts and the pass of the
qualification test. A sample, a limit and a short are taken where no timer of the channel has run out before them. Rows
that complete here: hswEnable, hswSample, hswGateTimeout, hswLimitChange, hswShort, hswFaultTimer, hswRetry,
hswAttemptsClear, hswQualify. Choices of the model that it rests on: log entries 2, 14, 63, 64. -/
def Obligations.HotSwapChannels : Prop :=
  ∀ (s : State) (n : Fin 2), s.hsw.ch.length = 2 → s.domReady 10 = true → s.domOn 10 = true → s.live Pg.HSW = true →
    let c := s.hswCh n
    let sampled := (max s.now (c.sampleAt + 1) + (hswPeriod - 1)) / hswPeriod * hswPeriod
    let inTime (t : Nat) : Prop := (∀ d ∈ s.hsw64Due n, t < d.1) ∧ (∀ d, s.hswGateDue n = some d → t ≤ d) ∧
      (∀ d, s.hswLimitDue n = some d → t ≤ d)
    let trips (u : State) (bit : Nat) : Prop := u.bitOf (Reg.HSW_STAT n) bit = true ∧
      u.get (F.HSW_STAT_ATTEMPTS n) = min 15 (s.get (F.HSW_STAT_ATTEMPTS n) + 1) ∧
      (u.get (F.HSW_STAT_ATTEMPTS n) ≤ s.get (F.HSW_CTRL_RETRYN n) → u.hswState n = hswRetryWait ∧
        (u.hswCh n).retryAt = some (u.now + s.hswTretry n)) ∧
      (s.get (F.HSW_CTRL_RETRYN n) < u.get (F.HSW_STAT_ATTEMPTS n) → u.hswState n = hswLatched ∧ u.flag (F.HSW_CTRL_EN n) = false)
    (∀ (who : Who) (val : Word), s.serves (Reg.HSW_CTRL n) = true →
      (s.hswState n = hswLatched →
        ∃ u : State, exec (.hswEnable who n val) s = .next u.settle ∧ u.lastStatus = .ok ∧ u.flag (F.HSW_STAT_REFUSED n) = true ∧
          u.reg (Reg.HSW_CTRL n) = s.reg (Reg.HSW_CTRL n)) ∧
      (s.hswState n = hswOff → s.flag (F.HSW_CTRL_EN n) = false →
        ∃ u : State, exec (.hswEnable who n val) s = .next u.settle ∧ u.lastStatus = .ok ∧ u.hswState n = hswPrecheck ∧
          u.flag (F.HSW_CTRL_EN n) = true ∧ u.get (F.HSW_STAT_ATTEMPTS n) = 0 ∧
          (s.pwr.muster = false → u.flag (F.HSW_CTRL_QUAR n) = true ∧ (u.hswCh n).winFrom = u.now))) ∧
    (∀ v g : Nat, v < 4096 → g < 4096 → inTime sampled →
      let vlim := if wbit (s.reg (Reg.HSW_ILIM n)) 0 then 2000 else 1000
      (s.hswState n = hswPrecheck →
        ∃ u : State, exec (.hswSample n v g) s = .next u.settle ∧ u.now = sampled ∧ u.get (F.HSW_MEAS_VSENSE n) = v ∧
          u.get (F.HSW_MEAS_VGATE n) = g ∧
          (vlim ≤ 4 * v → u.hswState n = hswLatched ∧ u.flag (F.HSW_STAT_PASS_SHORT n) = true ∧ u.flag (F.HSW_CTRL_EN n) = false) ∧
          (4 * v < vlim → c.pre < 9 → u.hswState n = hswPrecheck ∧ (u.hswCh n).pre = c.pre + 1) ∧
          (4 * v < vlim → c.pre = 9 → u.hswState n = hswRamp)) ∧
      (s.hswState n = hswRamp → s.flag (F.HSW_STAT_LIMIT n) = false → wbits (s.reg (Reg.HSW_I2T n)) 0 16 = 0 →
        ∃ u : State, exec (.hswSample n v g) s = .next u.settle ∧ u.now = sampled ∧ u.get (F.HSW_MEAS_VGATE n) = g ∧
          (code8V ≤ g → u.hswState n = hswIsOn) ∧ (g < code8V → u.hswState n = hswRamp))) ∧
    (∀ t : Nat, s.hswGateDue n = some t →
      ∃ u : State, exec (.hswGateTimeout n) s = .next u.settle ∧ u.now = max s.now (t + 1) ∧ u.hswState n = hswLatched ∧
        u.flag (F.HSW_STAT_GATE_FAIL n) = true ∧ u.flag (F.HSW_CTRL_EN n) = false) ∧
    (s.hswState n = hswRamp ∨ s.hswState n = hswIsOn → inTime s.now →
      (∀ on : Bool, (s.flag (F.HSW_STAT_LIMIT n) ≠ on →
          ∃ u : State, exec (.hswLimitChange n on) s = .next u.settle ∧ u.flag (F.HSW_STAT_LIMIT n) = on ∧
            (u.hswCh n).limFrom = (if on then some s.now else none) ∧ (on = true → u.flag (F.HSW_STAT_PG n) = false)) ∧
        (s.flag (F.HSW_STAT_LIMIT n) = on → exec (.hswLimitChange n on) s = .next s.settle)) ∧
      ∃ u : State, exec (.hswShort n) s = .next u.settle ∧ trips u 11) ∧
    (∀ t : Nat, c.limFrom = some t →
      ∃ u : State, exec (.hswFaultTimer n) s = .next u.settle ∧ u.now = max s.now (t + s.hswTflt n + 1) ∧ trips u 10) ∧
    (∀ t : Nat, c.retryAt = some t →
      ∃ u : State, exec (.hswRetry n) s = .next u.settle ∧ u.now = max s.now t ∧ u.hswState n = hswPrecheck) ∧
    (∀ t : Nat, c.pgFrom = some t →
      ∃ u : State, exec (.hswAttemptsClear n) s = .next u.settle ∧ u.now = max s.now (t + 10 * ticksPerSec) ∧
        u.get (F.HSW_STAT_ATTEMPTS n) = 0) ∧
    (∀ t : Nat, s.hswPassAt n = some t → t ≤ s.hswWindowEnd n → s.flag (F.HSW_CTRL_EN n) = true → s.flag (F.HSW_CTRL_QUAR n) = true →
      ∃ u : State, exec (.hswQualify n) s = .next u.settle ∧ u.now = max s.now t ∧ u.flag (F.HSW_CTRL_QUAR n) = false ∧
        u.get (F.HSW_STAT_QFAIL n) = 0)

/-- R317 to R321, R325, R330: the Sextant closes the oldest ended cycle in its close tick: the energy of each phase and
of the total goes to its accumulators, which MET_ENERGY shows; the interval ends after its last cycle. A harmonic window
is placed whole, 25,600 ticks after its close at the latest; ECLR zeroes every accumulator, and a close of the same tick
adds nothing; the meter angle's turn ends a cycle and keeps its rate in range. Rows that complete here: metCycleClose,
hrmWindowPlace, eclr, meterAngleTurn. Choices of the model that it rests on: log entries 2, 14, 65, 66. -/
def Obligations.Metering : Prop :=
  (∀ (m : MetSt) (p t : Nat) (v : MetVals), p < 4 → m.acc.length = 16 → m.res.length = 16 →
    let e : Rat := v.p * t / 400000 / 3600
    let booked (k : Nat) (x : Rat) : Prop := nth 0 (m.energy p v t).acc k = (nth 0 m.acc k + (nth 0 m.res k + x).floor.toNat) % 2 ^ 64 ∧
      nth 0 (m.energy p v t).res k = (nth 0 m.res k + x) - ((nth 0 m.res k + x).floor : Rat)
    (0 < e → booked (4 * p) e ∧ nth 0 (m.energy p v t).acc (4 * p + 1) = nth 0 m.acc (4 * p + 1)) ∧
    (e < 0 → booked (4 * p + 1) (-e) ∧ nth 0 (m.energy p v t).acc (4 * p) = nth 0 m.acc (4 * p)) ∧
    (∀ k, k / 4 ≠ p → nth 0 (m.energy p v t).acc k = nth 0 m.acc k)) ∧
  ∀ s : State, s.domOn 9 = true →
    ((s.metWorks && s.metReady) = false → exec .metCycleClose s = .next s.settle) ∧
    (∀ (e t : Nat) (free : Bool) (rest : List (Nat × Nat × Bool)), s.metWorks = true → s.metReady = true →
      s.met.ended = (e, t, free) :: rest →
      ∃ u : State, exec .metCycleClose s = .next u.settle ∧ u.now = max s.now s.metCloseAt ∧ u.met.ended = rest ∧
        (s.live Pg.MET = true →
          let c := s.elapseTo s.metCloseAt
          let vals := (List.range 3).map (fun x => (c.metPhase x).1)
          let len := if s.met.n = 0 then s.metLen (s.get F.MET_INTERVAL_LEN) else s.met.len
          (s.met.clearAt ≠ some c.now → u.met.acc = ((List.range 4).foldl (fun (m : MetSt) p =>
            m.energy p (nth MetVals.zero (vals ++ [c.metTotal vals]) p) t) c.met).acc) ∧
          (s.met.clearAt = some c.now → u.met.acc = s.met.acc) ∧
          (∀ p < 4, ∀ j < 4, u.reg (Reg.MET_ENERGY p (2 * j)) = BitVec.ofNat 32 (nth 0 u.met.acc (4 * p + j))) ∧
          (s.met.n + 1 < len → u.met.n = s.met.n + 1 ∧ ∀ p < 4, u.reg (Reg.MET_VRMS p) = s.reg (Reg.MET_VRMS p)) ∧
          (len ≤ s.met.n + 1 → u.met.n = 0 ∧ u.bitOf (pgEvt Pg.MET) 0 = true))) ∧
    (∀ (at' w grp : Nat) (cyc : Word) (chs : List HrmCh) (noLock : Bool), s.live Pg.HRM = true → s.hrm.shown < 8 →
      s.hrm.ready = some (at', chs, noLock, w, grp, cyc) →
      ∃ u : State, exec .hrmWindowPlace s = .next u.settle ∧ u.now = max s.now (at' + 25600) ∧ u.hrm.ready = none ∧ u.hrm.ch = chs ∧
        u.get F.HRM_SEL_SHOWN = s.hrm.shown ∧ u.bitOf (pgEvt Pg.HRM) 0 = true ∧
        ∀ k < 62, u.reg (Reg.HRM_MAG k) = nth 0#32 (nth HrmCh.reset chs s.hrm.shown).mag (k + 1)) ∧
    (∀ (who : Who) (val : Word), s.serves Reg.MET_CFG = true →
      ∃ u : State, exec (.eclr who val) s = .next u.settle ∧ u.lastStatus = .ok ∧ u.met.acc = List.replicate 16 0 ∧
        u.met.res = List.replicate 16 0 ∧ ∀ p < 4, ∀ w < 8, u.reg (Reg.MET_ENERGY p w) = 0#32) ∧
    ((s.domOn 3 = true → exec .meterAngleTurn s = .next s.settle) ∧
      (s.domOn 3 = false →
        ∃ u : State, exec .meterAngleTurn s = .next u.settle ∧ u.met.turned = false ∧ u.met.openAt = u.now ∧
          (s.met.turned = true → u.now = s.now) ∧
          (s.met.turned = false → u.now = s.now + ceilDiv (turn52 - s.met.ang) s.met.rate) ∧
          (s.met.arg = none → u.met.rate = s.met.rate) ∧
          (∀ a b : Rat, s.met.arg = some a → s.met.argPrev = some b → 450359963 ≤ u.met.rate ∧ u.met.rate ≤ 810647933)))

/-- R335 to R344, R347, R340: a request on UART1 after its idle gap, its good response, its repetition and its failure
for good; the automatic sweep; a close, which takes every slot's energy and base at once; the automatic shed step; a
write of a slot's W0, which clears what the ledger holds of it where ADDR or PROTO changes. Rows that complete here:
uartTransactionStart, uartResponse, uartResponseTimeout, autosweepTimer, ledgerIntervalClose, shedHoldExpiry,
tenantSlotWrite. Choices of the model that it rests on: log entries 2, 14, 67, 68, 101. -/
def Obligations.TenantLedger : Prop :=
  ∀ s : State,
    (∀ (r : UartRun), s.u1On = true → s.u1Next = some r →
      let gen1 := decide (s.slotProto r.job.slot = 1)
      let baud := if gen1 then 2400 else baudOf (s.get F.BUS_U1_CFG_BAUD)
      let bits := if gen1 then 10 else 11
      let bytes := if gen1 then gen1Request (s.slotAddr r.job.slot) r.job.kind else s.gen2Request r.job.slot r.job.kind
      ∃ u : State, exec (.uartTransactionStart 0) s = .next u.settle ∧ u.now = s.now + gapTicks baud bits ∧ u.ldg.sent1 = bytes ∧
        u.ldg.u1 = some { r with sent := some (u.now + bitTicks baud (1 + bits * bytes.length)) } ∧ u.flag F.BUS_U1_STAT_BUSY = true) ∧
    (∀ (r : UartRun) (t : Nat), s.ldg.u1 = some r → r.sent = some t →
      let n := r.job.slot
      (∀ (bytes : List Byte) (delay : Nat), s.u1On = true → delay ≤ s.respTmo 0 → s.slotProto n = 1 → gen1Err (s.slotAddr n) bytes = 0 →
        r.job.kind = 1 →
        ∃ u : State, exec (.uartResponse 0 bytes delay false) s = .next u.settle ∧ u.now = max s.now (t + delay) ∧ u.ldg.u1 = none ∧
          u.slotW n 2 = BitVec.ofNat 32 (bytesNat ((bytes.drop 3).take 4)) ∧ u.slotW n 5 = s.reg Reg.SYS_RTC_SEC ∧
          u.slotF n 24 4 = 0 ∧ u.slotF n 21 1 = 0 ∧ u.flag F.BUS_U1_STAT_BUSY = false) ∧
      (0 < r.left →
        let again : Option UartRun := some { r with left := r.left - 1, sent := none }
        (∃ u : State, exec (.uartResponseTimeout 0) s = .next u.settle ∧ u.now = max s.now (t + s.respTmo 0 + 1) ∧ u.ldg.u1 = again ∧
          u.get F.BUS_U1_STAT_ERR = 1) ∧
        (∀ (bytes : List Byte) (delay : Nat), s.u1On = true → delay ≤ s.respTmo 0 →
          ∃ u : State, exec (.uartResponse 0 bytes delay true) s = .next u.settle ∧ u.now = max s.now (t + delay) ∧ u.ldg.u1 = again ∧
            u.get F.BUS_U1_STAT_ERR = 4)) ∧
      (r.left = 0 →
        ∃ u : State, exec (.uartResponseTimeout 0) s = .next u.settle ∧ u.now = max s.now (t + s.respTmo 0 + 1) ∧ u.ldg.u1 = none ∧
          u.get F.BUS_U1_STAT_ERR = 1 ∧ u.get F.BUS_U1_STAT_ADDR = s.slotAddr n)) ∧
    (s.live Pg.LDG = true → s.flag F.LDG_CFG_AUTOSWEEP = true → s.get F.LDG_CFG_SWEEP = 0 → s.ldg.sweep = none →
      s.ctx.flight = [] →
      ∃ u : State, exec .autosweepTimer s = .next u.settle ∧ u.ctx.flight.map (fun c => (c.op, c.cls, c.ctx)) = [(0x31, 2, devCtx)] ∧
        s.Keeps u (fun _ => False)) ∧
    ((s.intervalDue = false → exec .ledgerIntervalClose s = .next s.settle) ∧
      (s.intervalDue = true →
        ∃ u : State, exec .ledgerIntervalClose s = .next u.settle ∧ u.ldg.closeSec = some (s.reg Reg.SYS_RTC_SEC) ∧
          u.ldg.started = true ∧ ∀ n < 256, u.slotW n 3 = s.slotW n 2 ∧ u.slotW n 2 = s.slotW n 2 ∧ u.slotF n 21 1 = 1 ∧
            u.slotW n 4 = if s.ldg.started then s.slotW n 2 - s.slotW n 3 else 0#32)) ∧
    ((s.live Pg.LDG && s.flag F.LDG_CFG_AUTOSHED && s.bus.fresh) = false →
      exec .shedHoldExpiry s = .next ({ s with ldg := { s.ldg with margin := none } } : State).settle) ∧
    (∀ (low : Bool) (t : Nat), (s.live Pg.LDG && s.flag F.LDG_CFG_AUTOSHED && s.bus.fresh) = true → s.ldg.margin = some (low, t) →
      let lv := s.get F.LDG_SHED_STAT_LEVEL
      ∃ u : State, exec .shedHoldExpiry s = .next u.settle ∧
        u.now = max s.now (t + ticksPerSec * max 1 (s.get F.LDG_SHED_STAT_HOLD)) ∧ u.ldg.margin = some (low, u.now) ∧
        (low = true → lv < 7 → s.ctx.flight = [] → u.flag F.LDG_SHED_STAT_AUTO = true ∧
          u.ctx.flight.map (fun c => (c.op, c.cls, c.args)) = [(0x32, 1, [BitVec.ofNat 32 (7 - lv)])]) ∧
        (low = false → 0 < lv → s.ctx.flight = [] → u.flag F.LDG_SHED_STAT_AUTO = true ∧
          u.ctx.flight.map (fun c => (c.op, c.cls, c.args)) = [(0x33, 1, [BitVec.ofNat 32 (8 - lv)])]) ∧
        ((low = true ∧ 7 ≤ lv) ∨ (low = false ∧ lv = 0) → u.ctx = s.ctx)) ∧
    (∀ (who : Who) (n : Fin 256) (val : Word),
      (s.bankOn 2 = false → exec (.tenantSlotWrite who n val) s = .next ((s.granted (some (slotA n 0))).told .domainOff).settle) ∧
      (s.bankOn 2 = true →
        ∃ u : State, exec (.tenantSlotWrite who n val) s = .next u.settle ∧ u.lastStatus = .ok ∧
          (wbits val 0 10 = wbits (s.slotW n 0) 0 10 → u.slotW n 0 = val ∧ ∀ w, 0 < w → w < 8 → u.slotW n w = s.slotW n w) ∧
          (wbits val 0 10 ≠ wbits (s.slotW n 0) 0 10 → u.slotW n 0 = wput val 20 8 0 ∧ u.slotW n 1 = s.slotW n 1 ∧
            ∀ w, 2 ≤ w → w < 8 → u.slotW n w = 0#32) ∧
          (∀ m : Nat, m < 256 → m ≠ n.val → ∀ w < 8, u.slotW m w = s.slotW m w)))

/-- R337, R349, R350: a plant-bus update starts at the next multiple of its period, or is skipped as OVERRUN; UART2 asks
for each map entry in turn; a good response gives the entry its value, a failed one is repeated and then counted; at the
end the loads and the BMS words change together. Rows that complete here: plantBusUpdateStart, plantBusUpdate,
uartTransactionStart, uartResponse, uartResponseTimeout. Choices of the model that it rests on: log entries 2, 69. -/
def Obligations.PlantBus : Prop :=
  ∀ s : State, s.u2On = true →
    (let p := 10 * ticksPerMs * max 1 (s.get F.BUS_U2_CFG_PERIOD)
     ∃ u : State, exec .plantBusUpdateStart s = .next u.settle ∧ u.now % p = 0 ∧ s.now ≤ u.now ∧ s.bus.lastDue < u.now ∧
       u.bus.lastDue = u.now ∧
       (s.bus.upd = none → u.bus.upd = some s.mapUsed ∧ u.flag F.BUS_U2_STAT_OVERRUN = s.flag F.BUS_U2_STAT_OVERRUN) ∧
       (s.bus.upd.isSome = true → u.bus.upd = s.bus.upd ∧ u.flag F.BUS_U2_STAT_OVERRUN = true)) ∧
    (∀ (e : Nat) (es : List Nat), s.bus.u2 = none → s.bus.upd = some (e :: es) →
      let baud := baudOf (s.get F.BUS_U2_CFG_BAUD)
      let bytes := readRequest (s.mapAddr e) (s.flag (F.BUS_PLANT_MAP_FC04 e)) (s.get (F.BUS_PLANT_MAP_REG e)) (s.mapWords e)
      ∃ u : State, exec (.uartTransactionStart 1) s = .next u.settle ∧ u.now = s.now + gapTicks baud 11 ∧ u.bus.sent2 = bytes ∧
        u.bus.upd = some es ∧ u.flag F.BUS_U2_STAT_BUSY = true ∧
        (u.bus.u2.bind UartRun.sent) = some (u.now + bitTicks baud (1 + 11 * bytes.length))) ∧
    (∀ (r : UartRun) (t : Nat), s.bus.u2 = some r → r.sent = some t →
      let e := r.job.slot
      (∀ (bytes : List Byte) (delay : Nat), delay ≤ s.respTmo 1 →
        modbusErr (s.mapAddr e) (if s.flag (F.BUS_PLANT_MAP_FC04 e) then 4 else 3) (s.mapWords e) bytes = 0 →
        ∃ u : State, exec (.uartResponse 1 bytes delay false) s = .next u.settle ∧ u.now = max s.now (t + delay) ∧ u.bus.u2 = none ∧
          u.flag F.BUS_U2_STAT_BUSY = false ∧ (4 ≤ s.mapDest e → s.mapDest e ≤ 11 → s.bus.bms.length = 8 →
            nth none u.bus.bms (s.mapDest e - 4) = some (modbusValue (s.mapWords e) bytes))) ∧
      (0 < r.left →
        ∃ u : State, exec (.uartResponseTimeout 1) s = .next u.settle ∧ u.now = max s.now (t + s.respTmo 1 + 1) ∧
          u.bus.u2 = some { r with left := r.left - 1, sent := none } ∧ u.get F.BUS_U2_STAT_ERR = 1) ∧
      (r.left = 0 →
        ∃ u : State, exec (.uartResponseTimeout 1) s = .next u.settle ∧ u.now = max s.now (t + s.respTmo 1 + 1) ∧ u.bus.u2 = none ∧
          u.bus.failed = e :: s.bus.failed ∧ u.get F.BUS_U2_STAT_ERR = 1)) ∧
    (s.bus.upd = some [] → s.bus.u2 = none → s.flag F.BUS_U2_CFG_GENSRC = false →
      ∃ u : State, exec .plantBusUpdate s = .next u.settle ∧ u.bus.upd = none ∧ u.bus.ended = true ∧
        (∀ g < 2, u.reg (Reg.BUS_GEN_LOAD g) = s.genWord g) ∧
        (∀ (i v : Nat), i < 8 → nth none s.bus.bms i = some v → u.reg (Reg.BUS_BMS i) = BitVec.ofNat 32 v) ∧
        (∀ i < 8, nth none s.bus.bms i = none → u.reg (Reg.BUS_BMS i) = s.reg (Reg.BUS_BMS i)))

/-- R358, R359, R366 to R368, R374: GO and CONT start a channel that is idle or halted, and are dropped and counted in a
running one, and a start in the tick of another counts as one with it; STOP ends a WAIT or a PAUSE and waits for the beats of
a running channel; RING counts a doorbell; a held WAIT passes once its condition has come, or times out in the tick after its
limit; a withheld beat's channel resumes, or halts where the bank lost its contents. Rows that complete here: go, cont, stop,
dmaStopDone, ring, waitPass, waitTimeout, dmaResume. Choices of the model that it rests on: log entries 14, 71. -/
def Obligations.ReelControl : Prop :=
  ∀ (s : State) (n : Fin 16), s.dma.ch.length = 16 →
    let st := s.dmaState n
    (∀ (who : Who) (val : Word), s.serves (Reg.DMA_CH_CTRL n) = true → wbits val 0 2 = 1 → wbits val 3 4 % 8 = 0 → wbit val 6 = false →
      wbits val 16 12 = s.get (F.DMA_CH_CTRL_START n) → s.dmaOn n = true → s.dmaQuar n = false → s.pwr.muster = false →
      let g := s.granted (some (Reg.DMA_CH_CTRL n))
      (st = dmaIdle ∨ st = dmaHalt → (s.dmaCh n).goAt ≠ some g.now →
        (∃ u : State, exec (.go who n val) s = .next u.settle ∧ u.lastStatus = .ok ∧ u.dmaState n = dmaRun ∧
          u.dmaPc n = s.get (F.DMA_CH_CTRL_START n) ∧ u.get (F.DMA_CH_ERR_CODE n) = 0 ∧ u.dmaQuar n = decide (st = dmaHalt)) ∧
        (wbit val 2 = false →
          ∃ u : State, exec (.cont who n val) s = .next u.settle ∧ u.lastStatus = .ok ∧ u.dmaState n = dmaRun ∧ u.dmaPc n = s.dmaPc n ∧
            u.get (F.DMA_CH_ERR_CODE n) = 0)) ∧
      ((s.dmaCh n).goAt = some g.now →
        ∃ u : State, exec (.go who n val) s = .next u.settle ∧ u.dmaState n = st ∧ u.dmaPc n = s.dmaPc n ∧
          u.get (F.DMA_CH_ERR_DROPCNT n) = s.get (F.DMA_CH_ERR_DROPCNT n)) ∧
      (st = dmaRun ∨ st = dmaWait ∨ st = dmaPause → (s.dmaCh n).goAt ≠ some g.now →
        ∃ u : State, exec (.go who n val) s = .next u.settle ∧ u.dmaState n = st ∧ u.dmaPc n = s.dmaPc n ∧
          u.get (F.DMA_CH_ERR_DROPCNT n) = (s.get (F.DMA_CH_ERR_DROPCNT n) + 1) % 256) ∧
      (wbit val 2 = false →
        ∃ u : State, exec (.stop who n val) s = .next u.settle ∧ u.lastStatus = .ok ∧ u.dmaPc n = s.dmaPc n ∧
          (st = dmaWait ∨ st = dmaPause → u.dmaState n = dmaIdle) ∧ (st = dmaRun → (u.dmaCh n).stopping = true ∧ u.dmaState n = dmaRun)) ∧
      (wbit val 2 = false →
        ∃ u : State, exec (.ring who n val) s = .next u.settle ∧ u.lastStatus = .ok ∧ u.dmaState n = st ∧
          u.get (F.DMA_CH_PRIO_DBCNT n) = min 255 (s.get (F.DMA_CH_PRIO_DBCNT n) + 1))) ∧
    ((s.dmaCh n).stopping = true →
      ∃ u : State, exec (.dmaStopDone n) s = .next u.settle ∧ u.dmaState n = dmaIdle ∧ (u.dmaCh n).stopping = false ∧
        u.dmaPc n = s.dmaPc n) ∧
    (∀ (i : BitVec 64) (t0 : Nat), st = dmaWait → (s.dmaCh n).cur = some i → (s.dmaCh n).waitFrom = some t0 →
      ((s.dmaCh n).seenAt.isSome = true →
        ∃ u : State, exec (.waitPass n) s = .next u.settle ∧ u.dmaState n = dmaRun ∧ u.dmaPc n = (s.dmaPc n + 1) % 4096) ∧
      (ibits i 57 3 = 4 → ibits i 56 1 = 0 → (s.dmaCh n).seenAt = none →
        ∃ u : State, exec (.waitPass n) s = .next u.settle ∧ u.now = max s.now (t0 + ibits i 0 32) ∧ u.dmaState n = dmaRun ∧
          u.dmaPc n = (s.dmaPc n + 1) % 4096) ∧
      (ibits i 57 3 = 5 → ibits i 56 1 = 0 → 0 < s.get (F.DMA_CH_PRIO_DBCNT n) →
        ∃ u : State, exec (.waitPass n) s = .next u.settle ∧ u.now = s.now ∧ u.dmaState n = dmaRun ∧
          u.get (F.DMA_CH_PRIO_DBCNT n) = s.get (F.DMA_CH_PRIO_DBCNT n) - 1 ∧ u.dmaPc n = (s.dmaPc n + 1) % 4096) ∧
      (ibits i 57 3 = 5 → s.get (F.DMA_CH_PRIO_DBCNT n) = 0 → (s.dmaCh n).seenAt = none →
        exec (.waitPass n) s = .next s.settle ∧
        (∀ l : Nat, s.waitLimit n i = some l →
          ∃ u : State, exec (.waitTimeout n) s = .next u.settle ∧
            (ibits i 55 1 = 1 → u.dmaState n = dmaRun ∧ u.flag (F.DMA_CH_STAT_TMO n) = true ∧ u.dmaPc n = ibits i 32 12 ∧
              u.now = max s.now (l + 1) + 2) ∧
            (ibits i 55 1 = 0 → u.dmaState n = dmaHalt ∧ u.get (F.DMA_CH_ERR_CODE n) = 8 ∧
              u.now = max s.now (l + 1))))) ∧
    (∀ a : Nat, st = dmaPause → (s.dmaCh n).withheld = some a → s.beatReady a = true →
      ∃ u : State, exec (.dmaResume n) s = .next u.settle ∧ u.now = s.now + 1 ∧ u.dmaPc n = s.dmaPc n ∧
        ((s.dmaCh n).lost = false → u.dmaState n = dmaRun ∧ (u.dmaCh n).withheld = none) ∧
        ((s.dmaCh n).lost = true → u.dmaState n = dmaHalt ∧ u.get (F.DMA_CH_ERR_CODE n) = 7))

/-- R360 to R366, R370, R377, R378: what each instruction of a reel does. A MOVE of one aligned word between banks
copies it, steps the pointers and goes on; LOOP counts down and jumps; WAIT holds or passes; SIGNAL, SETPTR, WRITE and
END; an illegal word halts the channel with code 1; in quarantine nothing is stored and nothing is signalled. Choices of
the model that it rests on: log entries 71, 72. Rows that complete here: nop, moveWord, moveRound, moveFunnel, loop, wait,
signalEvent, signalIrq, signalContext, signalChannel, setptrSet, setptrAdd, setptrLoad, setptrCopy, write, dmaEnd, dmaIllegal. -/
def Obligations.ReelInstructions : Prop :=
  ∀ (s : State) (n : Fin 16) (i : BitVec 64), s.dma.ch.length = 16 → s.domOn 2 = true → s.reelNext n = some i →
    (s.dmaCh n).stale = false →
    let next := (s.dmaPc n + 1) % 4096
    let on (c : Instr) (x : State → Prop) : Prop := ∃ u : State, exec c s = .next u.settle ∧ u.dmaPc n = next ∧ x u
    let halts (c : Instr) (code : Nat) : Prop := ∃ u : State, exec c s = .next u.settle ∧ u.dmaState n = dmaHalt ∧
      u.get (F.DMA_CH_ERR_CODE n) = code ∧ u.get (F.DMA_CH_ERR_EPC n) = s.dmaPc n ∧ u.bitOf (pgEvt Pg.DMA) 5 = true
    (reelOp i = .nop → on (.nop n) (fun u => u.now = s.now + 1 ∧ s.Keeps u (fun a => a = Reg.DMA_CH_PC n))) ∧
    (∀ c ∈ [(ReelOp.moveWord, Instr.moveWord n), (ReelOp.moveRound, Instr.moveRound n), (ReelOp.moveFunnel, Instr.moveFunnel n)],
      reelOp i = c.1 →
      let src := s.dmaPtr n (ibits i 56 2)
      let dst := s.dmaPtr n (ibits i 54 2)
      (ibits i 0 24 = 0 → on c.2 (fun u => s.Keeps u (fun a => a = Reg.DMA_CH_PC n))) ∧
      (ibits i 0 24 ≠ 0 → c.1 = .moveWord → (src % 4 ≠ 0 ∨ dst % 4 ≠ 0 ∨ ibits i 0 24 % 4 ≠ 0) → halts c.2 2) ∧
      (ibits i 0 24 = 4 → (s.dmaCh n).midMove = false → s.dmaQuar n = false → inSram src = true → inSram dst = true → src % 4 = 0 →
        dst % 4 = 0 → s.bankOn (bankOf src) = true → s.bankOn (bankOf dst) = true → bankOf src ≠ 3 → bankOf dst ≠ 2 →
        on c.2 (fun u => u.sramBytes dst 4 = s.sramBytes src 4 ∧ u.get (F.DMA_CH_STAT_REMAIN n) = 0 ∧
          (∀ b, (b < dst ∨ dst + 4 ≤ b) → u.sramByte b = s.sramByte b) ∧
          (ibits i 53 1 = 1 → u.dmaPtr n (ibits i 56 2) = addPtr src 4) ∧
          (ibits i 52 1 = 1 → u.dmaPtr n (ibits i 54 2) = addPtr dst 4)))) ∧
    (reelOp i = .loop →
      let f : Field := ⟨Reg.DMA_CH_LOOP n, 16 * ibits i 56 1, 16⟩
      let l := (if s.get f = 0 then ibits i 32 16 else s.get f) - 1
      ∃ u : State, exec (.loop n) s = .next u.settle ∧
        (ibits i 32 16 = 0 → u.dmaPc n = ibits i 0 12) ∧
        (ibits i 32 16 ≠ 0 → u.get f = l ∧ u.dmaPc n = if l = 0 then next else ibits i 0 12)) ∧
    (reelOp i = .wait → s.needsNav n i = true → s.domOn 3 = false → halts (.wait n) 9) ∧
    (reelOp i = .wait → ibits i 57 3 = 5 → (s.needsNav n i && !s.domOn 3) = false → ibits i 56 1 = 0 →
      (0 < s.get (F.DMA_CH_PRIO_DBCNT n) → on (.wait n) (fun u => u.dmaState n = dmaRun ∧
        u.get (F.DMA_CH_PRIO_DBCNT n) = s.get (F.DMA_CH_PRIO_DBCNT n) - 1)) ∧
      (s.get (F.DMA_CH_PRIO_DBCNT n) = 0 → ∃ u : State, exec (.wait n) s = .next u.settle ∧ u.dmaState n = dmaWait ∧
        (u.dmaCh n).cur = some i ∧ (u.dmaCh n).waitFrom = some (s.now + 1) ∧ u.dmaPc n = s.dmaPc n)) ∧
    (reelOp i = .sigEvent → on (.signalEvent n) (fun u =>
      (s.dmaQuar n = false → u.bitOf (pgEvt Pg.DMA) (ibits i 0 2) = true) ∧ (s.dmaQuar n = true → u.evq = s.evq))) ∧
    (∀ c ∈ [(ReelOp.sigIrq, Instr.signalIrq n, Reg.IRQC_DOORBELL, ibits i 0 7),
        (ReelOp.sigContext, Instr.signalContext n, ctxA (ibits i 16 8) 0x08, ibits i 0 16)],
      reelOp i = c.1 →
      let w := ((s.modDma n (fun (x : DmaCh) => { x with cur := some i })).elapse 1).busWrite (dmaWho n) c.2.2.1 (BitVec.ofNat 32 c.2.2.2)
      (s.dmaQuar n = true → on c.2.1 (fun u => s.Keeps u (fun a => a = Reg.DMA_CH_PC n))) ∧
      (s.dmaQuar n = false → w.2 = .ok → on c.2.1 (fun u => u.now = w.1.now + 1 ∧ u.irqc = w.1.irqc ∧ u.ctx = w.1.ctx ∧
        w.1.Keeps u (fun a => a = Reg.DMA_CH_PC n)))) ∧
    (reelOp i = .sigIrq → s.dmaQuar n = false → s.serves Reg.IRQC_DOORBELL = true → s.live Pg.IRQC = true →
      srcReserved (ibits i 0 7) = false → s.irqMsg (ibits i 0 7) = true →
      on (.signalIrq n) (fun u => u.irqPend (ibits i 0 7) = true)) ∧
    (reelOp i = .sigContext → s.dmaQuar n = false → s.ctxEn (ibits i 16 8) = true → s.ctxQuar (ibits i 16 8) = false →
      s.cfgOk (ibits i 16 8) = true → ibits i 0 8 < 2 ^ s.sqLog (ibits i 16 8) →
      on (.signalContext n) (fun u => u.sqTail (ibits i 16 8) = ibits i 0 8)) ∧
    (reelOp i = .sigChannel → on (.signalChannel n) (fun u =>
      let k := ibits i 0 4
      (s.dmaQuar n = false → s.flag (F.DMA_CH_CTRL_SIGRING k) = true →
        u.get (F.DMA_CH_PRIO_DBCNT k) = min 255 (s.get (F.DMA_CH_PRIO_DBCNT k) + 1)) ∧
      (s.dmaQuar n = false → s.flag (F.DMA_CH_CTRL_SIGRING k) = false → s.dmaOn k = true → s.pwr.muster = false → s.dmaState k = dmaIdle →
        (s.dmaCh k).goAt ≠ some (s.now + 1) → u.dmaState k = dmaRun ∧ u.dmaPc k = s.get (F.DMA_CH_CTRL_START k)) ∧
      (s.dmaQuar n = true → s.Keeps u (fun a => a = Reg.DMA_CH_PC n)))) ∧
    (reelOp i = .ptrSet → on (.setptrSet n) (fun u => u.dmaPtr n (ibits i 56 2) = ibits i 0 24)) ∧
    (reelOp i = .ptrAdd → on (.setptrAdd n) (fun u =>
      u.dmaPtr n (ibits i 56 2) = addPtr (s.dmaPtr n (ibits i 56 2)) (ibits i 0 24))) ∧
    (reelOp i = .ptrCopy → on (.setptrCopy n) (fun u =>
      u.dmaPtr n (ibits i 56 2) = addPtr (s.dmaPtr n (ibits i 54 2)) (ibits i 0 24))) ∧
    (reelOp i = .ptrLoad → (ibits i 0 24 % 4 ≠ 0 → halts (.setptrLoad n) 2) ∧
      (ibits i 0 24 % 4 = 0 → inSram (ibits i 0 24) = true → s.bankOn (bankOf (ibits i 0 24)) = true → bankOf (ibits i 0 24) ≠ 3 →
        on (.setptrLoad n) (fun u => u.dmaPtr n (ibits i 56 2) = bytesNat (s.sramBytes (ibits i 0 24) 4) % 16777216))) ∧
    (reelOp i = .write →
      let a := s.dmaPtr n (ibits i 56 2)
      (a % 4 ≠ 0 → halts (.write n) 2) ∧
      (a % 4 = 0 → s.dmaQuar n = true → on (.write n) (fun u => u.sram = s.sram)) ∧
      (a % 4 = 0 → s.dmaQuar n = false → inSram a = true → s.bankOn (bankOf a) = true → bankOf a ≠ 2 →
        on (.write n) (fun u => u.sramBytes a 4 = wbytes (BitVec.ofNat 32 (ibits i 0 32)) ∧
          (ibits i 55 1 = 1 → u.dmaPtr n (ibits i 56 2) = addPtr a 4)))) ∧
    (reelOp i = .endOp → ∃ u : State, exec (.dmaEnd n) s = .next u.settle ∧
      (ibits i 59 1 = 1 → u.bitOf (pgEvt Pg.DMA) 4 = true) ∧ (ibits i 58 1 = 0 → u.dmaState n = dmaIdle) ∧
      (ibits i 58 1 = 1 → u.dmaState n = dmaRun ∧ u.dmaPc n = s.get (F.DMA_CH_CTRL_START n))) ∧
    (reelOp i = .illegal → halts (.dmaIllegal n) 1)

/-- R384, R385: a write to IRQC_DOORBELL, from any master, names one source. It is pended, in the next tick, where it is not
reserved and its sense is MSG; elsewhere nothing is pended, DROPCNT increments and LASTDROP records the number. The write
is accepted and counts in PG_SEQ in both cases. Row that completes here: irqcDoorbell. -/
def Obligations.Doorbell : Prop :=
  ∀ (s : State) (who : Who) (val : Word), s.serves Reg.IRQC_DOORBELL = true → s.live Pg.IRQC = true →
    let n := wbits val 0 7
    let g := s.granted (some Reg.IRQC_DOORBELL)
    let pend (a : Nat) : Prop := a = Reg.IRQC_PEND 0 ∨ a = Reg.IRQC_PEND 1 ∨ a = Reg.IRQC_PEND 2 ∨ a = Reg.IRQC_PEND 3
    ∃ u : State, exec (.irqcDoorbell who val) s = .next u.settle ∧ u.lastStatus = .ok ∧
      u.reg (pgSeq Pg.IRQC) = s.reg (pgSeq Pg.IRQC) + 1#32 ∧
      (∀ m < 128, m ≠ n → srcReserved m = false → (u.elapse 1).irqPend m = (g.elapse 1).irqPend m) ∧
      (srcReserved n = false → s.irqMsg n = true → (u.elapse 1).irqPend n = true ∧
        s.Keeps u (fun a => pend a ∨ a = pgSeq Pg.IRQC)) ∧
      (srcReserved n = true ∨ s.irqMsg n = false →
        (srcReserved n = false → (u.elapse 1).irqPend n = (g.elapse 1).irqPend n) ∧ u.get F.IRQC_DOORBELL_LASTDROP = n ∧
        u.get F.IRQC_DOORBELL_DROPCNT = (s.get F.IRQC_DOORBELL_DROPCNT + 1) % 2 ^ F.IRQC_DOORBELL_DROPCNT.len ∧
        s.Keeps u (fun a => pend a ∨ a = Reg.IRQC_DOORBELL ∨ a = pgSeq Pg.IRQC))

/-- R384, R386, R387, R393: IRQC_PEND_SET pends each source named whatever its sense, in the next tick; IRQC_PEND clears each
one named that was pending as the tick of the grant began, and no other; one IRQ packet answers all announcements, and
takes a credit where an active source has target LNK. Rows that complete here: irqcPendSet, irqcPendClear, irqPacketSend.
Choices of the model that it rests on: log entries 2, 14, 25. -/
def Obligations.InterruptController : Prop :=
  ∀ (s : State) (who : Who) (val : Word),
    let pend (a : Nat) : Prop := a = Reg.IRQC_PEND 0 ∨ a = Reg.IRQC_PEND 1 ∨ a = Reg.IRQC_PEND 2 ∨ a = Reg.IRQC_PEND 3
    (∀ k : Fin 4,
      (s.serves (Reg.IRQC_PEND_SET k) = true → s.live Pg.IRQC = true →
        let g := s.granted (some (Reg.IRQC_PEND_SET k))
        ∃ u : State, exec (.irqcPendSet who k val) s = .next u.settle ∧ u.lastStatus = .ok ∧
          (∀ b < 32, wbit val b = true → srcReserved (32 * k + b) = false → (u.elapse 1).irqPend (32 * k + b) = true) ∧
          (∀ m < 128, srcReserved m = false → (m / 32 ≠ k ∨ wbit val (m % 32) = false) →
            (u.elapse 1).irqPend m = (g.elapse 1).irqPend m) ∧
          s.Keeps u (fun a => pend a ∨ a = pgSeq Pg.IRQC)) ∧
      (s.serves (Reg.IRQC_PEND k) = true →
        let g := (s.granted (some (Reg.IRQC_PEND k))).irqTake
        let was := g.regWas (Reg.IRQC_PEND k)
        ∃ u : State, exec (.irqcPendClear who k val) s = .next u.settle ∧ u.lastStatus = .ok ∧
          (∀ b < 32, wbit val b = true → wbit was b = true → srcReserved (32 * k + b) = false → u.irqPend (32 * k + b) = false) ∧
          (∀ m < 128, srcReserved m = false → (m / 32 ≠ k ∨ wbit val (m % 32) = false ∨ wbit was (m % 32) = false) →
            u.irqPend m = g.irqPend m) ∧
          s.Keeps u (fun a => pend a ∨ a = pgSeq Pg.IRQC))) ∧
    (s.lnkState = 4 → 0 < s.lnkCredit → s.irqc.announce = true →
      (s.irqBest 2 128 none = none →
        exec .irqPacketSend s = .next ({ s with irqc := { s.irqc with announce := false } } : State).settle) ∧
      ((s.irqBest 2 128 none).isSome = true →
        ∃ u : State, exec .irqPacketSend s = .next u.settle ∧ u.irqc.announce = false ∧ u.lnkCredit = s.lnkCredit - 1)) ∧
    (s.irqAhead.irqc.announce = false → exec .irqPacketSend s = .next s.irqAhead.settle)

/-- R399, R401, R402, R404, R419: the context windows. A doorbell is accepted, or dropped with its cause, a bad tail or
a bad configuration placing the context in quarantine; the ring fields are refused while it runs and reset the rings
elsewhere; EN, after the muster window, starts it in quarantine; CQ_HEAD; one entry fetched from the next context in
turn; the test that ends quarantine. Rows that complete here: sqTailDoorbell, contextConfigWrite, cqHeadWrite, cmdFetch,
ctxQualify. Choices of the model that it rests on: log entries 14, 74. -/
def Obligations.ContextWindows : Prop :=
  ∀ (s : State) (who : Who) (n : Fin 256) (val : Word),
    (let t := wbits val 0 8
     let drops (cause : Nat) (x : State → Prop) : Prop := ∃ u : State, exec (.sqTailDoorbell who n val) s = .next u.settle ∧
       u.lastStatus = .ok ∧ wbits (u.reg Reg.CTX_ERRCTX) 0 16 = n + 256 * cause ∧ u.flag F.CTX_STAT_DBERR = true ∧
       (s.domOn 1 = true → u.bitOf (pgEvt Pg.CTX) 3 = true) ∧ x u
     (s.ctxEn n = false → drops 1 (fun u => u.sqTail n = s.sqTail n)) ∧
     (s.ctxEn n = true → s.ctxQuar n = true → drops 2 (fun u => u.sqTail n = s.sqTail n)) ∧
     (s.ctxEn n = true → s.ctxQuar n = false → s.cfgOk n = false → drops 4 (fun u => u.ctxQuar n = true)) ∧
     (s.ctxEn n = true → s.ctxQuar n = false → s.cfgOk n = true → 2 ^ s.sqLog n ≤ t → drops 3 (fun u => u.ctxQuar n = true)) ∧
     (s.ctxEn n = true → s.ctxQuar n = false → s.cfgOk n = true → t < 2 ^ s.sqLog n →
       ∃ u : State, exec (.sqTailDoorbell who n val) s = .next u.settle ∧ u.lastStatus = .ok ∧ u.sqTail n = t ∧
         s.Keeps u (fun a => a = ctxA n 0x08))) ∧
    (∀ o : Fin 64, o.val ∈ [0x00, 0x04, 0x10, 0x14] →
      (s.ctxEn n = true → s.ctxQuar n = false →
        exec (.contextConfigWrite who n o val) s = .next ((s.granted (some (ctxA n o))).told .refused).settle) ∧
      ((s.ctxEn n && !s.ctxQuar n) = false →
        ∃ u : State, exec (.contextConfigWrite who n o val) s = .next u.settle ∧ u.lastStatus = .ok ∧
          u.ctxReg n o = val &&& ctxMask o ∧ u.sqTail n = 0 ∧ u.sqHead n = 0 ∧ u.cqHead n = 0 ∧ u.cqTail n = 0 ∧ u.cqPhase n = true ∧
          s.Keeps u (fun a => ctxA n 0 ≤ a ∧ a < ctxA n 0x20))) ∧
    (∀ o : Fin 64, o.val ∈ [0x0C, 0x1C, 0x24, 0x28, 0x2C, 0x30, 0x34, 0x38, 0x3C] →
      exec (.contextConfigWrite who n o val) s = .next ((s.granted (some (ctxA n o))).told .roWrite).settle) ∧
    (∀ o : Fin 64, o.val % 4 ≠ 0 → exec (.contextConfigWrite who n o val) s = .next ((s.granted (some (ctxA n o))).told .align).settle) ∧
    (s.live Pg.CTX = true → s.ctxEn n = false → wbit val 0 = true → s.pwr.muster = false →
      ∃ u : State, exec (.contextConfigWrite who n 0x20 val) s = .next u.settle ∧ u.lastStatus = .ok ∧ u.ctxOn n = true ∧
        u.ctxQuar n = true ∧ u.ctxReg n 0x20 = val &&& 0x0000FF37#32) ∧
    (2 ^ s.cqLog n ≤ wbits val 0 8 → exec (.cqHeadWrite who n val) s = .next ((s.granted (some (ctxA n 0x18))).told .refused).settle) ∧
    (wbits val 0 8 < 2 ^ s.cqLog n →
      ∃ u : State, exec (.cqHeadWrite who n val) s = .next u.settle ∧ u.lastStatus = .ok ∧ u.cqHead n = wbits val 0 8) ∧
    (nextInTurn 256 s.ctx.lastFetch s.mayFetch = none → exec .cmdFetch s = .next s.settle) ∧
    (∀ m : Nat, nextInTurn 256 s.ctx.lastFetch s.mayFetch = some m →
      ∃ u : State, exec .cmdFetch s = .next u.settle ∧ u.now = s.now + 8 ∧ u.sqHead m = (s.sqHead m + 1) % 2 ^ s.sqLog m ∧
        u.ctx.lastFetch = some m ∧
        u.ctx.flight = s.ctx.flight ++ [(s.elapse 8).cmdOf m (s.sramWords (s.sqBase m + 32 * s.sqHead m) 8)] ∧
        u.sram = s.sram) ∧
    (s.ctxPass n = true →
      ∃ u : State, exec (.ctxQualify n) s = .next u.settle ∧ u.ctxQuar n = false ∧ wbits (u.ctxReg n 0x24) 24 4 = 0 ∧
        s.Keeps u (fun a => a = Reg.CTX_QUAR (n / 32) ∨ a = ctxA n 0x24)) ∧
    (s.ctxPass n = false → exec (.ctxQualify n) s = .next s.settle)

/-- R20, R291, R292, R410, R484, R486, R544: the slices of each command that moves words or works the NVM. The outcome
of each access decides: the words moved, or the status of the refusal with its address; what bars the command; the
operation it puts to the NVM controller; its results where it ends in this slice, an item boundary where it goes on. What
is seen of it: a word read, written or changed in SRAM; the bytes put to the controller; the next entry of the change log.
Rows that complete here: readBlock, writeBlock, atomicRmw, nvmWrite, nvmErase, nvmVerify, configCommit, configLoad,
identReport, logRead, logArchive, safeChange. Choices of the model that it rests on: log entries 14, 60, 61, 75, 76, 77, 78. -/
def Obligations.MemoryCommands : Prop :=
  ∀ (s : State) (k : Nat) (c : Cmd), s.starts k c →
    let t := s.started k c
    let d := c.going
    let run (row : Instr) (x : State) : Prop := exec row s = .next x.settle
    let plain (a : Nat) : Prop := inSram a = true ∧ a % 4 = 0 ∧ t.bankOn (bankOf a) = true ∧ bankOf a ∈ [0, 1, 4, 5]
    (c.op = 0x01 → run .readBlock (State.blockEnd d (c.argN 2 / 4)
      (t.moveWords d (c.argN 0) (c.argN 1) (c.argN 2 / 4) c.items (t.sliceItems 2)))) ∧
    (c.op = 0x01 → c.argN 2 = 4 → c.items = 0 →
      (∀ m : State, t.moveWord d.who (c.argN 0) (c.argN 1) 0 = (m, none) → run .readBlock (m.cmdEnd d stOk 4#32 0#32)) ∧
      (∀ (m : State) (st a : Nat), t.moveWord d.who (c.argN 0) (c.argN 1) 0 = (m, some (st, a)) →
        run .readBlock (m.cmdEnd d st 0#32 (BitVec.ofNat 32 a))) ∧
      (plain (c.argN 0) → plain (c.argN 1) →
        ∃ u : State, exec .readBlock s = .next u.settle ∧ u.sramBytes (c.argN 1) 4 = s.sramBytes (c.argN 0) 4)) ∧
    (c.op = 0x02 → d.ctlRange = false → run .writeBlock (State.blockEnd d (c.argN 2 / 4)
      (t.moveWords d (c.argN 0) (c.argN 1) (c.argN 2 / 4) c.items (t.sliceItems 2)))) ∧
    (c.op = 0x02 → c.argN 2 = 4 → c.items = 0 → d.ctlRange = false →
      (∀ m : State, t.moveWord d.who (c.argN 0) (c.argN 1) 0 = (m, none) → run .writeBlock (m.cmdEnd d stOk 4#32 0#32)) ∧
      (∀ (m : State) (st a : Nat), t.moveWord d.who (c.argN 0) (c.argN 1) 0 = (m, some (st, a)) →
        run .writeBlock (m.cmdEnd d st 0#32 (BitVec.ofNat 32 a))) ∧
      (plain (c.argN 0) → plain (c.argN 1) →
        ∃ u : State, exec .writeBlock s = .next u.settle ∧ u.sramBytes (c.argN 1) 4 = s.sramBytes (c.argN 0) 4)) ∧
    (c.op = 0x02 → d.ctlRange = true → t.ctl.run.isSome = true → run .writeBlock (t.cmdBoundary d)) ∧
    (c.op = 0x03 → (ctlHolds (c.argN 0) && t.ctl.run.isSome) = true → run .atomicRmw (t.cmdBoundary d)) ∧
    (∀ (old : Word) (st : Status) (r : State), c.op = 0x03 → (ctlHolds (c.argN 0) && t.ctl.run.isSome) = false →
      t.busRead d.who (c.argN 0) = (old, st, r) →
      let w := (r.elapse 1).busWrite d.who (c.argN 0) ((old &&& ~~~(c.arg 1)) ||| (c.arg 2 &&& c.arg 1))
      (st ≠ .ok → run .atomicRmw ((r.elapse 1).cmdEnd d st.cmd 0#32 0#32)) ∧
      (st = .ok → wbit (c.arg 4) 0 = true → old ≠ c.arg 3 → run .atomicRmw ((r.elapse 1).cmdEnd d stOk old 0#32)) ∧
      (st = .ok → (wbit (c.arg 4) 0 = false ∨ old = c.arg 3) →
        run .atomicRmw ((w.1.elapse 1).cmdEnd d (if w.2 = .ok then stOk else w.2.cmd) old (if w.2 = .ok then 1#32 else 0#32)))) ∧
    (c.op = 0x03 → plain (c.argN 0) → let old := s.sramWord (c.argN 0)
      (wbit (c.arg 4) 0 = false ∨ old = c.arg 3) →
        ∃ u : State, exec .atomicRmw s = .next u.settle ∧
          u.sramWord (c.argN 0) = (old &&& ~~~(c.arg 1)) ||| (c.arg 2 &&& c.arg 1)) ∧
    (∀ (m : State) (ws : List Word), c.op = 0x10 → c.items = 0 → t.cmdWords d (c.argN 1) 64 = (m, ws, none) →
      ∃ u : State, exec .nvmWrite s = .next u.settle ∧
        u.nvmc.queue = m.nvmc.queue ++ [{ erase := false, off := c.argN 0, data := ws.flatMap wbytes, owner := .cmd c.uid }]) ∧
    (c.op = 0x11 → c.items = 0 →
      ∃ u : State, exec .nvmErase s = .next u.settle ∧
        u.nvmc.queue = t.nvmc.queue ++ [{ erase := true, off := c.argN 0, data := [], owner := .cmd c.uid }]) ∧
    (∀ (v : Word) (st : Status) (r : State), c.op = 0x14 → c.items = 0 → c.argN 1 = 4 →
      t.busRead d.who (0x100000 + c.argN 0) = (v, st, r) →
      let crc := ~~~crc32cReg 0xFFFFFFFF#32 (wbytes v)
      (st = .ok → run .nvmVerify ((r.elapse 1).cmdEnd d (if crc = c.arg 2 then stOk else stNvmFail) crc 0#32)) ∧
      (st ≠ .ok → run .nvmVerify ((r.elapse 1).cmdEnd d st.cmd 0#32 0#32))) ∧
    (c.op = 0x12 → c.items ≤ captureList.length →
      (c.items = 0 → t.commitBar d ≠ stOk → run .configCommit (t.cmdEnd d (t.commitBar d) 0#32 0#32)) ∧
      (c.items ≠ 0 ∨ t.commitBar d = stOk →
        let x := t.captureRun d (captureList.drop c.items) (t.sliceItems 1)
        (x.2.items < captureList.length → run .configCommit (x.1.cmdBoundary x.2)) ∧
        (captureList.length ≤ x.2.items →
          let bs := imageBytes (BitVec.ofNat 32 x.1.nextGen) (x.1.reg Reg.SYS_RTC_SEC) x.2.capture
          ∀ o rest, imageOps c.uid (c.argN 0) bs = o :: rest →
            ∃ u : State, exec .configCommit s = .next u.settle ∧
              u.nvmc.queue = x.1.nvmc.queue ++ [{ o with owner := .cmd c.uid }]))) ∧
    (c.op = 0x13 → c.items = 0 →
      ((t.gd.armed || t.opInFlight d 0x12) = true → run .configLoad (t.cmdEnd d stBusy 0#32 0#32)) ∧
      ((t.gd.armed || t.opInFlight d 0x12) = false → t.imageCheck (c.argN 0) ≠ 0 → run .configLoad (t.cmdEnd d stNvmFail 0#32 0#32)) ∧
      ((t.gd.armed || t.opInFlight d 0x12) = false → t.imageCheck (c.argN 0) = 0 →
        let m := (t.setReg Reg.NVM_IMAGE (wput (t.reg Reg.NVM_IMAGE) 8 8 0)).imageValid
        let x := m.loadEntries { d with r0 := m.imageCrc (c.argN 0) } (m.imageEntries (c.argN 0)) (m.sliceItems 1)
        ((m.imageEntries (c.argN 0)).length ≤ x.2.items → run .configLoad (x.1.cmdEnd x.2 stOk x.2.r0 x.2.r1)) ∧
        (x.2.items < (m.imageEntries (c.argN 0)).length → run .configLoad (x.1.cmdBoundary x.2)) ∧
        (c.r1 = 0#32 → m.imageEntries (c.argN 0) = [] → run .configLoad (m.cmdEnd d stOk (m.imageCrc (c.argN 0)) 0#32)))) ∧
    (∀ (lo hi : Word) (st st' : Status) (m r : State), c.op = 0x60 → t.busRead d.who Reg.IDENT_SERIAL_LO = (lo, st, m) →
      m.busRead d.who Reg.IDENT_SERIAL_HI = (hi, st', r) →
      (st ≠ .ok → run .identReport ((r.elapse 2).cmdEnd d st.cmd 0#32 0#32)) ∧
      (st = .ok → c.argN 0 = 0 → run .identReport ((r.elapse 2).cmdEnd d stOk lo hi))) ∧
    (c.op = 0x60 → c.argN 0 = 0 → t.serves Reg.IDENT_SERIAL_LO = true →
      ∃ m : State, run .identReport (m.cmdEnd d stOk (t.reg Reg.IDENT_SERIAL_LO) (t.reg Reg.IDENT_SERIAL_HI))) ∧
    (c.op = 0x40 →
      (t.flag F.LOG_STAT_SCANNED = false → run .logRead (t.cmdWait d .scan)) ∧
      (t.flag F.LOG_STAT_SCANNED = true → c.notes = [] → t.logInRing (c.argN 0) = false →
        run .logRead (t.cmdEnd d stBadArg 0#32 0#32)) ∧
      (t.flag F.LOG_STAT_SCANNED = true → (c.notes ≠ [] ∨ t.logInRing (c.argN 0) = true) →
        let e := if c.notes = [] then
          { d with notes := [((t.logCopy (c.argN 0) (c.argN 2)).length : Rat)], r1 := BitVec.ofNat 32 (c.argN 0) } else d
        let x := t.copyRecords e (t.sliceItems 8)
        (∀ st, x.2.2 = some st → run .logRead (x.1.cmdEnd x.2.1 st.cmd x.2.1.r0 x.2.1.r1)) ∧
        (x.2.2 = none →
          ((x.2.1.notes.headD 0 ≤ (x.2.1.items : Rat) ∨ x.1.logInRing ((c.argN 0 + x.2.1.items) % 8192) = false) →
            run .logRead (x.1.cmdEnd x.2.1 stOk x.2.1.r0 x.2.1.r1)) ∧
          (¬(x.2.1.notes.headD 0 ≤ (x.2.1.items : Rat)) → x.1.logInRing ((c.argN 0 + x.2.1.items) % 8192) = true →
            run .logRead (x.1.cmdBoundary x.2.1))))) ∧
    (c.op = 0x41 → c.notes = [] →
      (t.archiveProven (c.argN 0) (c.arg 1) = false → run .logArchive (t.cmdEnd d stBadArg 0#32 0#32)) ∧
      (t.archiveProven (c.argN 0) (c.arg 1) = true → t.archiveSectors (c.argN 0) = [] →
        run .logArchive (({ t with safe := { t.safe with nvmErr := false } } : State).cmdEnd d stOk 0#32 (BitVec.ofNat 32 t.safe.used))) ∧
      (∀ n ns, t.archiveProven (c.argN 0) (c.arg 1) = true → t.archiveSectors (c.argN 0) = n :: ns →
        ∃ u : State, exec .logArchive s = .next u.settle ∧ u.safe.erasing = t.safe.erasing ++ n :: ns ∧
          u.nvmc.queue = t.nvmc.queue ++ [{ erase := true, off := 0x14000 + 0x1000 * n, data := [], owner := .cmd c.uid }])) ∧
    (∀ (m : State) (ws : List Word), c.op = 0x42 → t.cmdWords d (c.argN 1) (2 * (c.argN 0 % 32)) = (m, ws, none) →
      (m.pageStatus Pg.SAFE).cmd = stOk →
      let es := pairsOf ws
      (m.batchOpen es (wbit (c.arg 0) 8) = false → run .safeChange (m.cmdEnd d stLocked 0#32 0#32)) ∧
      (m.batchOpen es (wbit (c.arg 0) 8) = true → es.all pairOk = false → run .safeChange (m.cmdEnd d stBadArg 0#32 0#32)) ∧
      (m.batchOpen es (wbit (c.arg 0) 8) = true → es.all pairOk = true → wbit (c.arg 0) 8 = false → c.argN 0 % 32 ≠ 0 →
        run .safeChange (((m.batchApply d.who m.safe.seq es).note Pg.SAFE 2).cmdEnd d stOk (BitVec.ofNat 32 m.safe.seq) 0#32)) ∧
      (∀ e : Nat × Word, m.batchOpen es (wbit (c.arg 0) 8) = true → pairOk e = true → wbit (c.arg 0) 8 = false → es = [e] →
        e.1 ≠ Reg.PROT_PROFILE →
        ∃ u : State, exec .safeChange s = .next u.settle ∧ u.safe.seq = m.safe.seq + 1 ∧
          u.reg e.1 = (m.blockWrite d.who true e.1 e.2).1.reg e.1))

/-- R165, R172, R189, R295, R342 to R346, R409 to R414: the first slice of each command that works a block: what bars it
with its status, and elsewhere what it does and waits for. HARM_SURVEY and WAVE_CAPTURE wait for their window or cycles,
MPPT_SWEEP starts the sweep, ISO_TEST turns its resistor off, RELAY_PROOF starts on its relays, SELF_TEST reports what
fails, DR_CALIBRATE starts its sums, LEDGER_CLOSE closes, LEDGER_POLL starts a sweep, SHED and RESTORE set LEVEL, ARM
starts the precharge where no condition bars it, DISARM shuts the bridge down, MODE_SET writes MODE_REQ, ABORT stops the
commands it names. Rows that complete here: harmSurvey, waveCapture, mpptSweep, isoTest, relayProof, selfTest, drCalibrate,
ledgerClose, ledgerPoll, shed, restore, arm, disarm, modeSet, abort. Choices of the model that it rests on: log entries
14, 50, 62, 70, 75, 79, 80, 81, 105. -/
def Obligations.BlockCommands : Prop :=
  ∀ (s : State) (k : Nat) (c : Cmd), s.starts k c →
    let t := s.started k c
    let d := c.going
    let run (row : Instr) (x : State) : Prop := exec row s = .next x.settle
    let ends (row : Instr) (st : Nat) : Prop := run row (t.cmdEnd d st 0#32 0#32)
    let waits (u : State) (w : CmdWait) : Prop := (u.cmdFind c.uid).map Cmd.st = some (.waiting w)
    (c.op = 0x20 → (t.blockStatus Pg.HRM ≠ stOk → ends .harmSurvey (t.blockStatus Pg.HRM)) ∧
      (t.blockStatus Pg.HRM = stOk →
        ∃ u : State, exec .harmSurvey s = .next u.settle ∧ waits u .window ∧ s.Keeps u (fun a => a = Reg.CTX_STAT) ∧
          u = t.cmdWait { d with notes := [(t.get F.HRM_STAT_WINCNT : Rat)] } .window)) ∧
    (c.op = 0x21 → let off := !t.domReady 9 || (waveChans (c.argN 1)).any (fun ch => !t.domReady (waveDomain ch))
      let w : CmdWait := if wbit (c.arg 3) 6 then .event else .cycles c.cycles
      (off = true → ends .waveCapture stDomainOff) ∧
      (off = false →
        ∃ u : State, exec .waveCapture s = .next u.settle ∧ waits u w ∧ s.Keeps u (fun a => a = Reg.CTX_STAT) ∧ u = t.cmdWait d w)) ∧
    (c.op = 0x22 → (t.pageStatus Pg.MODE).cmd = stOk → (t.mode.sweep.isSome = true → ends .mpptSweep stBusy) ∧
      (t.mode.sweep = none → t.sweepBar ≠ 0 → ends .mpptSweep t.sweepBar) ∧
      (t.mode.sweep = none → t.sweepBar = 0 →
        ∃ u : State, exec .mpptSweep s = .next u.settle ∧ waits u .sweep ∧ u = (t.sweepStart (c.argN 0)).cmdWait d .sweep ∧
          (wbit (c.arg 0) 0 = true ∨ wbit (c.arg 0) 1 = true → u.mode.sweep.isSome = true))) ∧
    (c.op = 0x23 → (t.pageStatus Pg.ADCI).cmd = stOk → let pin := wbits (c.arg 0) 0 5
      let busy := t.gd.armed || decide (t.rlyState ≠ 0)
      (busy = true → ends .isoTest stBusy) ∧ (busy = false → t.gpioOutput pin = false → ends .isoTest stBadArg) ∧
      (busy = false → t.gpioOutput pin = true → t.vpvPart < 1 / 10 → ends .isoTest stNotReady) ∧
      (busy = false → t.gpioOutput pin = true → 1 / 10 ≤ t.vpvPart →
        ∃ u : State, exec .isoTest s = .next u.settle ∧ u.bitOf Reg.PINS_GPIO_OUT pin = false ∧ waits u (.settle (t.now + d.settle)) ∧
          u = (t.putBit Reg.PINS_GPIO_OUT pin false).cmdWait { d with notes := [0, 0, 0, 0, 0, 0] } (.settle (t.now + d.settle)))) ∧
    (c.op = 0x24 → t.blockStatus Pg.RLY = stOk → let busy := t.gd.armed || decide (t.rlyState ≠ 0)
      (busy = true → ends .relayProof stBusy) ∧
      (busy = false →
        ∃ u : State, exec .relayProof s = .next u.settle ∧ waits u .relay ∧ u = (t.proofStart (c.argN 0)).cmdWait d .relay ∧
          (wbit (c.arg 0) 0 = true → u.rly.job = .proof ∧ u.rly.pos = .step 0 [0] (t.now + t.tStep) ∧
            wbits (u.reg Reg.RLY_PROOF) 0 8 = 0))) ∧
    (c.op = 0x25 → let m := c.argN 0
      let st := if natBit m 2 then (t.pageStatus Pg.CMP).cmd else stOk
      (t.gd.armed = true → ends .selfTest stBusy) ∧ (t.gd.armed = false → st ≠ stOk → ends .selfTest st) ∧
      (t.gd.armed = false → m = 0 → ends .selfTest stOk) ∧
      (t.gd.armed = false → st = stOk →
        let a := if natBit m 0 then t.marchLoss 0xB8000 8192 else t
        let crc := if natBit m 1 then a.crcFailures else []
        let b := if natBit m 2 then a.compTest else (a, [])
        run .selfTest (b.1.cmdEnd d stOk (BitVec.ofNat 32 ((if crc ≠ [] then 2 else 0) + (if b.2 ≠ [] then 4 else 0)))
          (BitVec.ofNat 32 ((crc ++ b.2).headD 0))))) ∧
    (c.op = 0x26 → t.blockStatus Pg.SPEC = stOk → (t.gd.armed = false → ends .drCalibrate stNotReady) ∧
      (t.gd.armed = true →
        ∃ u : State, exec .drCalibrate s = .next u.settle ∧ waits u (.cycles c.cycles) ∧ u = t.calStart.cmdWait d (.cycles c.cycles) ∧
          u.spec.cal = true ∧ (∀ x ∈ u.spec.ch, x.calN = 0 ∧ x.calPrev = none))) ∧
    (c.op = 0x30 → (t.blockStatus Pg.LDG ≠ stOk → ends .ledgerClose (t.blockStatus Pg.LDG)) ∧
      (t.blockStatus Pg.LDG = stOk →
        (let m := t.ledgerClose
         run .ledgerClose (m.cmdEnd d stOk (BitVec.ofNat 32 (m.get F.LDG_INTERVAL_COUNT)) (BitVec.ofNat 32 (wbits (m.reg Reg.LDG_STAT) 3 9)))) ∧
        ∃ u : State, exec .ledgerClose s = .next u.settle ∧ u.ldg.started = true ∧
          u.get F.LDG_INTERVAL_COUNT = (s.get F.LDG_INTERVAL_COUNT + 1) % 2 ^ F.LDG_INTERVAL_COUNT.len)) ∧
    (c.op = 0x31 → t.blockStatus Pg.LDG = stOk → (t.ldg.sweep.isSome = true → ends .ledgerPoll stBusy) ∧
      (t.ldg.sweep = none → (t.slotFrom 0 256).isSome = true →
        ∃ u : State, exec .ledgerPoll s = .next u.settle ∧ u.ldg.sweep = some 0 ∧ u.ldg.sweepCmd = some c.uid ∧
          u.flag F.LDG_STAT_SWEEP = true)) ∧
    (c.op = 0x32 → c.argN 0 < 8 → t.blockStatus Pg.LDG = stOk →
      (t.get F.LDG_SHED_STAT_LEVEL = 8 - c.argN 0 → run .shed (t.cmdEnd d stOk 0#32 (BitVec.ofNat 32 (8 - c.argN 0)))) ∧
      (t.get F.LDG_SHED_STAT_LEVEL ≠ 8 - c.argN 0 →
        ∃ u : State, exec .shed s = .next u.settle ∧ u.get F.LDG_SHED_STAT_LEVEL = 8 - c.argN 0)) ∧
    (c.op = 0x33 → c.argN 0 < 8 → t.blockStatus Pg.LDG = stOk →
      (t.get F.LDG_SHED_STAT_LEVEL = 7 - c.argN 0 → run .restore (t.cmdEnd d stOk 0#32 (BitVec.ofNat 32 (7 - c.argN 0)))) ∧
      (t.get F.LDG_SHED_STAT_LEVEL ≠ 7 - c.argN 0 →
        ∃ u : State, exec .restore s = .next u.settle ∧ u.get F.LDG_SHED_STAT_LEVEL = 7 - c.argN 0)) ∧
    (c.op = 0x50 → (t.gd.armed = true → run .arm (t.cmdEnd d stOk 0#32 1#32)) ∧
      (t.gd.armed = false → t.armBars ≠ 0 → run .arm (t.cmdEnd d stNotReady (BitVec.ofNat 32 t.armBars) 0#32)) ∧
      (t.gd.armed = false → t.armBars = 0 →
        ∃ u : State, exec .arm s = .next u.settle ∧ u = t.prechargeStart.cmdWait d .bridge ∧ u.gd.arming = true)) ∧
    (c.op = 0x51 → (t.bridgeOn = false → ends .disarm stOk) ∧
      (t.bridgeOn = true → ∃ u : State, exec .disarm s = .next u.settle ∧ u = t.disarm.cmdWait d .bridge ∧ u.bridgeOn = false)) ∧
    (c.op = 0x52 → let w := t.busWrite d.who Reg.MODE_REQ (c.arg 0)
      let refused := t.mode.blend.isNone && t.reqRefused (c.argN 0)
      (w.2 ≠ .ok → run .modeSet (w.1.cmdEnd d w.2.cmd 0#32 0#32)) ∧
      (w.2 = .ok → refused = true →
        run .modeSet (w.1.cmdEnd d stNotReady (BitVec.ofNat 32 (w.1.get F.MODE_STAT_ACTIVE)) 0#32)) ∧
      (w.2 = .ok → refused = false → run .modeSet (w.1.cmdWait d .mode)) ∧
      (t.serves Reg.MODE_REQ = true → refused = false → c.argN 0 < 4 →
        ∃ u : State, exec .modeSet s = .next u.settle ∧ waits u .mode ∧ u.mode.askRefused = false ∧
          (t.mode.blend.isSome = true → u.mode.ask = some (.request (c.argN 0))) ∧
          (t.mode.blend = none → u.get F.MODE_REQ_REQ = c.argN 0 ∧ u.flag F.MODE_STAT_AUTO = decide (c.argN 0 = 3)))) ∧
    (c.op = 0x7F → let ts := (t.abortTargets d).filter (fun x => !t.timingOut x)
      (ts = [] → ends .abort stOk) ∧
      (ts ≠ [] →
        run .abort ((ts.foldl State.abortOne t).cmdWait { d with r0 := BitVec.ofNat 32 ts.length } (.abort (ts.map (fun x => x.uid))))) ∧
      (∀ x : Cmd, ts = [x] → x.st = .queued → x.ctx ≠ devCtx →
        ∃ u : State, exec .abort s = .next u.settle ∧ u.cmdFind x.uid = none))

/-- R403, R405, R408, R410, R412, R414: a slice whose command's deadline has been reached stops it with TIMEOUT, one
that is barred completes with what bars it, and one with nothing to choose changes nothing; a deadline reached between
slices; a command that is stopped before its first slice, or barred, is in flight no longer; the end of an ISO_TEST's
settling; the precharge that ends with no condition failing makes the bridge ARMED. Rows that complete here: cmdSlice,
cmdDeadline, isoTestSettle, armComplete. Choices of the model that it rests on: log entries 2, 75, 76, 80, 81. -/
def Obligations.CommandEngine : Prop :=
  ∀ s : State,
    (s.cmdNext = none → exec .cmdSlice s = .next s.settle) ∧
    (∀ (k : Nat) (c : Cmd), s.cmdNext = some (k, c) →
      let t := s.sliceTaken k c
      (t.dlReached c = true → exec .cmdSlice s = .next (t.cmdStop c stTimeout).settle) ∧
      (t.dlReached c = false → c.st = .queued → t.startBar c ≠ stOk →
        exec .cmdSlice s = .next (t.cmdFinish c (t.startBar c) 0#32 0#32).settle) ∧
      (c.st = .queued → c.ctx ≠ devCtx → (t.dlReached c = true ∨ t.startBar c ≠ stOk) →
        ∃ u : State, exec .cmdSlice s = .next u.settle ∧ u.now = s.now + 4 ∧ u.cmdFind c.uid = none) ∧
      (s.starts k c → exec .cmdSlice s = .next ((s.started k c).runOp c.going).settle) ∧
      (t.dlReached c = false → c.st = .ready → exec .cmdSlice s = .next (t.runOp c).settle)) ∧
    (∀ c : Cmd, s.live Pg.CTX = true → s.ctx.flight = [c] → c.stop = none →
      (s.dlReached c = true → exec .cmdDeadline s = .next (s.cmdStop c stTimeout).settle) ∧
      (∀ dl : Nat, s.dlReached c = false → s.mayRun c = true → c.deadline = some dl →
        exec .cmdDeadline s = .next ((s.elapseTo dl).cmdStop c stTimeout).settle) ∧
      (∀ dl : Nat, s.mayRun c = true → c.deadline = some dl → c.st = .queued → c.ctx ≠ devCtx →
        ∃ u : State, exec .cmdDeadline s = .next u.settle ∧ u.now = max s.now dl ∧ u.ctx.flight = [])) ∧
    (∀ (c : Cmd) (dl : Nat), s.isoCmd = some c → c.st = .waiting (.settle dl) →
      ∃ u : State, exec .isoTestSettle s = .next u.settle ∧ u.now = max s.now dl ∧
        u = (s.elapseTo dl).cmdWait { c with notes := [nth 0 c.notes 0, 0, 0, 0, 0, nth 0 c.notes 5] } (.cycles c.cycles)) ∧
    (∀ c : Cmd, s.armCmd = some c →
      ((s.prechargeDone && decide (s.prechargeBars = 0)) = false → exec .armComplete s = .next s.settle) ∧
      (s.prechargeDone = true → s.prechargeBars = 0 →
        ∃ u : State, exec .armComplete s = .next u.settle ∧ u.gd.armed = true ∧ u.gd.arming = false ∧
          u.flag F.GD_FLT_STAT_SHUTDOWN = false))

/-- R425 to R432, R441 to R444: what an SPI frame of each kind does. A Gen-A read or write is one word access with its
HOST_ERR bit where it is refused and zeros where byte 2 came early; a Gen-B frame is refused whole on its CRC, a
reserved bit or its address, repeats nothing it has a record of, and otherwise runs its beats in order; a frame cut
short is counted. The sideband's match, its pointer and data bytes, reads, the end of its hold and its STOP. Rows that
complete here: genAFrame, genBFrame, spiIgnoredFrame, spiReservedFrame, sbAddressMatch, sbWrite, sbRead, sbHoldRelease,
sbStop. Choices of the model that it rests on: log entries 14, 25, 26, 82, 83, 84, 91, 108. -/
def Obligations.SerialPorts : Prop :=
  ∀ s : State,
    (∀ (bytes : List Byte) (early : Bool),
      (s.spiKind bytes ≠ .genA → exec (.genAFrame bytes early) s = .next s.settle) ∧
      (s.spiKind bytes = .genA →
        let b0 := bytes.headD 0#8
        let page := b0.toNat % 64
        let index := (nth 0#8 bytes 1).toNat
        let a := page * 0x1000 + (if page = 4 then 0 else s.get F.HOST_GENA_BANK_QUARTER) * 0x400 + index * 4
        let v : Word := BitVec.ofNat 32 (bytesNat ((bytes.drop 2).take 4))
        (bytes.length < (if b0.getLsbD 7 then 2 else 6) → exec (.genAFrame bytes early) s = .next s.settle) ∧
        (∀ (r : Word) (st : Status) (m : State), b0.getLsbD 7 = true → 2 ≤ bytes.length → s.busRead genAWho a = (r, st, m) →
          ∃ u : State, exec (.genAFrame bytes early) s = .next u.settle ∧ u.lastStatus = st ∧ u.lastRead = r ∧
            u.host.spiOut = clocked (bytes.length - 2) (if early = true ∧ 2 < bytes.length then [] else wbytes r) ∧
            (u.flag F.HOST_ERR_EARLY = true ↔ (early = true ∧ 2 < bytes.length) ∨ m.flag F.HOST_ERR_EARLY = true) ∧
            (∀ b < 5, u.bitOf Reg.HOST_ERR b = (m.bitOf Reg.HOST_ERR b || natBit (causeBits st) b)) ∧
            (st ≠ .ok → wbits (u.reg Reg.HOST_ERR) 8 6 = page ∧ wbits (u.reg Reg.HOST_ERR) 16 8 = index) ∧
            m.Keeps u (fun x => x = Reg.HOST_ERR)) ∧
        (∀ (st : Status) (m : State), b0.getLsbD 7 = false → 6 ≤ bytes.length → s.busWrite genAWho a v = (m, st) →
          ∃ u : State, exec (.genAFrame bytes early) s = .next u.settle ∧ u.lastStatus = st ∧
            u.host.spiOut = List.replicate (bytes.length - 2) 0#8 ∧
            (st = .ok → u.regs = m.regs) ∧
            (st ≠ .ok → u.reg Reg.HOST_ERR = wput (wput (m.reg Reg.HOST_ERR ||| BitVec.ofNat 32 (causeBits st)) 8 6 page) 16 8 index) ∧
            m.Keeps u (fun x => x = Reg.HOST_ERR)))) ∧
    (∀ (bytes : List Byte) (tail : Nat),
      let l := (nth 0#8 bytes 4).toNat
      let f := nth 0#8 bytes 7
      let n := genBLength (l % 64) (f.getLsbD 0)
      let seq := nth 0#8 bytes 6
      let a := bytesNat ((bytes.drop 1).take 3)
      let crc : Word := BitVec.ofNat 32 (bytesNat ((bytes.drop (n - 4)).take 4))
      let crcOk := crc32c ((bytes.drop 1).take (n - 5)) = crc
      let rsvd := 64 ≤ l ∨ 8 ≤ f.toNat ∨ nth 0#8 bytes 8 ≠ 0#8
      let zeros := if f.getLsbD 0 then [] else List.replicate (l % 64 + 1) 0#32
      let who : Who := { master := 0x02#8, ctx := if f.getLsbD 1 then nth 0#8 bytes 5 else 0xFF#8 }
      let step := if f.getLsbD 2 then 4 else 0
      let start : Burst := { words := [], causes := 0, firstBad := 0xFF }
      let dup := s.flag F.HOST_GENB_CFG_DUPEN
      let data : List Word := (List.range (l % 64 + 1)).map (fun i => BitVec.ofNat 32 (bytesNat ((bytes.drop (9 + 4 * i)).take 4)))
      let sent (t : State) (reply : List Byte) : State :=
        let u := { t with host := { t.host with spiOut := reply.take tail } }
        if tail < reply.length then u.inc F.HOST_GENB_STAT_ABORTED else u
      (s.spiKind bytes ≠ .genB → exec (.genBFrame bytes tail) s = .next s.settle) ∧
      (s.spiKind bytes = .genB → (bytes.length < 9 ∨ bytes.length < n) →
        exec (.genBFrame bytes tail) s = .next (s.inc F.HOST_GENB_STAT_ABORTED).settle) ∧
      (s.spiKind bytes = .genB → 9 ≤ bytes.length → n ≤ bytes.length →
        (¬crcOk → ∃ u : State, exec (.genBFrame bytes tail) s = .next u.settle ∧
          u = sent (s.inc F.HOST_GENB_STAT_CRCERR) (genBReply 0x20 seq 0xFF 0 zeros) ∧
          u.get F.HOST_GENB_STAT_CRCERR = (s.get F.HOST_GENB_STAT_CRCERR + 1) % 2 ^ F.HOST_GENB_STAT_CRCERR.len ∧
          u.host.spiOut = (genBReply 0x20 seq 0xFF 0 zeros).take tail ∧ s.Keeps u (fun x => x = Reg.HOST_GENB_STAT)) ∧
        (crcOk → rsvd → a % 4 = 0 → exec (.genBFrame bytes tail) s = .next (sent s (genBReply 0x40 seq 0xFF 0 zeros)).settle) ∧
        (crcOk → ¬rsvd → a % 4 ≠ 0 → exec (.genBFrame bytes tail) s = .next (sent s (genBReply 0x08 seq 0 0 zeros)).settle) ∧
        (crcOk → rsvd → a % 4 ≠ 0 → exec (.genBFrame bytes tail) s = .next (sent s (genBReply 0x48 seq 0 0 zeros)).settle) ∧
        (crcOk → ¬rsvd → a % 4 = 0 →
          (∀ (t : State) (b : Burst), f.getLsbD 0 = false → s.burstRead who a step 0 start (l % 64 + 1) = (t, b) →
            exec (.genBFrame bytes tail) s = .next (sent t (genBReply b.causes seq b.firstBad 0 b.words)).settle) ∧
          (f.getLsbD 0 = true → dup = true → s.host.genbDup = some (seq, crc) →
            exec (.genBFrame bytes tail) s = .next (sent s (genBReply 0 seq 0xFF 1 [])).settle) ∧
          (∀ (t : State) (b : Burst), f.getLsbD 0 = true → dup = false → s.burstWrite who a step 0 start data = (t, b) →
            exec (.genBFrame bytes tail) s = .next (sent t (genBReply b.causes seq b.firstBad 0 [])).settle) ∧
          (∀ (t : State) (b : Burst), f.getLsbD 0 = true → dup = true → s.host.genbDup ≠ some (seq, crc) →
            State.burstWrite { s with host := { s.host with genbDup := some (seq, crc) } } who a step 0 start data = (t, b) →
            exec (.genBFrame bytes tail) s = .next (sent t (genBReply b.causes seq b.firstBad 0 [])).settle)))) ∧
    (∀ bytes : List Byte,
      (s.spiKind bytes ≠ .ignored → exec (.spiIgnoredFrame bytes) s = .next s.settle) ∧
      (s.spiKind bytes ≠ .reserved → exec (.spiReservedFrame bytes) s = .next s.settle) ∧
      (s.spiKind bytes = .ignored → ∃ u : State, exec (.spiIgnoredFrame bytes) s = .next u.settle ∧ u.host.spiOut = [] ∧
        u.get F.HOST_GENB_STAT_SYNCERR = (s.get F.HOST_GENB_STAT_SYNCERR + 1) % 2 ^ F.HOST_GENB_STAT_SYNCERR.len ∧
        s.Keeps u (fun x => x = Reg.HOST_GENB_STAT)) ∧
      (s.spiKind bytes = .reserved → ∃ u : State, exec (.spiReservedFrame bytes) s = .next u.settle ∧
        u.host.spiOut = List.replicate (bytes.length - 1) 0x15#8 ∧
        u.get F.HOST_GENB_STAT_NAKCNT = (s.get F.HOST_GENB_STAT_NAKCNT + 1) % 2 ^ F.HOST_GENB_STAT_NAKCNT.len ∧
        s.Keeps u (fun x => x = Reg.HOST_GENB_STAT))) ∧
    (∀ (addr : BitVec 7) (read : Bool),
      (addr.toNat ≠ s.get F.HOST_SB_ADDR_ADDR → exec (.sbAddressMatch addr read) s = .next s.settle) ∧
      (addr.toNat = s.get F.HOST_SB_ADDR_ADDR → ∃ u : State, exec (.sbAddressMatch addr read) s = .next u.settle ∧
        u.sb.matched = true ∧ u.sb.read = read ∧ u.sb.first = !read ∧ u.sb.ptr = s.sb.ptr ∧ u.sb.buf = [] ∧
        wbits (u.reg Reg.HOST_SB_STAT) 24 8 = (wbits (s.reg Reg.HOST_SB_STAT) 24 8 + 1) % 256 ∧
        wbit (u.reg Reg.HOST_SB_STAT) 16 = read ∧
        (s.sbReady = true → s.powerState ≠ 5 → u.sb.held = none) ∧
        (s.flag F.HOST_SB_ADDR_NOSTRETCH = true → u.sb.held = none) ∧
        (s.sbReady = false → s.flag F.HOST_SB_ADDR_NOSTRETCH = false → u.sb.held = some s.now) ∧
        (s.wakeWatch = true → wbit (s.reg Reg.PWR_WAKE_EN) 0 = true → u.pwr.wakeSeen = s.pwr.wakeSeen ||| 1#9 ∧
          (s.powerState = 5 → s.flag F.HOST_SB_ADDR_NOSTRETCH = false → u.sb.held = some s.now)) ∧
        s.Keeps u (fun x => x = Reg.HOST_SB_STAT))) ∧
    (∀ bytes : List Byte,
      ((s.sb.matched && !s.sb.read) = false → exec (.sbWrite bytes) s = .next s.settle) ∧
      (s.sb.matched = true → s.sb.read = false → exec (.sbWrite bytes) s = exec (.sbWrite bytes) s.sbRelease) ∧
      (∀ p : Byte, s.sb.matched = true → s.sb.read = false → s.sb.held = none → s.sbReady = true → s.sb.first = true → bytes = [p] →
        (sbReg p.toNat = none → exec (.sbWrite bytes) s = .next (s.put F.HOST_SB_STAT_CAUSE 2).settle) ∧
        (sbReg p.toNat ≠ none → ∃ u : State, exec (.sbWrite bytes) s = .next u.settle ∧ u.sb.ptr = p.toNat ∧ u.sb.first = false ∧
          wbits (u.reg Reg.HOST_SB_STAT) 8 8 = p.toNat ∧ s.Keeps u (fun x => x = Reg.HOST_SB_STAT))) ∧
      (s.sb.matched = true → s.sb.read = false → s.sb.held = none → s.sbReady = false → ∀ b : Byte, bytes = [b] →
        exec (.sbWrite bytes) s = .next (s.put F.HOST_SB_STAT_CAUSE 1).settle) ∧
      (∀ a : Nat, s.sb.matched = true → s.sb.read = false → s.sb.held = none → s.sbReady = true → s.sb.first = false →
        sbReg s.sb.ptr = some a →
        (∀ b : Byte, bytes = [b] → sbWritable a = false → exec (.sbWrite bytes) s = .next (s.put F.HOST_SB_STAT_CAUSE 3).settle) ∧
        (∀ b : Byte, bytes = [b] → sbMailbox a = true → s.mastered a = true →
          exec (.sbWrite bytes) s = .next (s.putFlag F.HOST_MBOX_STAT_SBW true).sbNext.settle) ∧
        (∀ b : Byte, bytes = [b] → sbMailbox a = true → s.mastered a = false → s.serves a = true →
          ∃ u : State, exec (.sbWrite bytes) s = .next u.settle ∧ u.sb.ptr = s.sb.ptr + 1 ∧
            u.reg a = wput (s.showReg a) (8 * (s.sb.ptr % 4)) 8 b.toNat ∧ u.flag F.HOST_MBOX_STAT_SBW = true ∧
            s.Keeps u (fun x => x = a ∨ x = Reg.HOST_MBOX_STAT ∨ x = pgSeq Pg.PWR)) ∧
        (∀ v : Word, bytes = wbytes v → sbWritable a = true → sbMailbox a = false → a ≠ Reg.HOST_MBOX_STAT → s.sb.ptr % 4 = 0 →
          s.sb.buf = [] →
          let m : State := { s with sb := { s.sb with ptr := s.sb.ptr + 3, word := s.sb.ptr } }
          exec (.sbWrite bytes) s = .next (m.busWriteN sbWho a 4 v).1.sbNext.settle) ∧
        (∀ v : Word, bytes = wbytes v → a = Reg.HOST_MBOX_STAT → s.sb.ptr % 4 = 0 → s.sb.buf = [] →
          ∃ u : State, exec (.sbWrite bytes) s = .next u.settle ∧ u.sb.ptr = s.sb.ptr + 4 ∧
            u.reg Reg.HOST_MBOX_STAT = s.reg Reg.HOST_MBOX_STAT &&& ~~~(v &&& 2#32) ∧
            s.Keeps u (fun x => x = Reg.HOST_MBOX_STAT ∨ (s.domOn 1 = true ∧ x = pgSeq Pg.HOST))))) ∧
    (∀ n : Nat,
      ((s.sb.matched && s.sb.read) = false → exec (.sbRead n) s = .next s.settle) ∧
      (s.sb.matched = true → s.sb.read = true → exec (.sbRead n) s = exec (.sbRead n) s.sbRelease) ∧
      (s.sb.matched = true → s.sb.read = true → s.sb.held = none →
        (s.sbReady = true → (∃ u : State, exec (.sbRead n) s = .next u.settle ∧ u.sb.out.length = n ∧
            u.sb.ptr = (if n = 0 then s.sb.ptr else satTo 0xFF (s.sb.ptr + n)) ∧ s.Keeps u (fun x => x = Reg.HOST_SB_STAT)) ∧
          (∀ a : Nat, 0 < n → sbReg s.sb.ptr = some a → ∃ u : State, exec (.sbRead n) s = .next u.settle ∧
            u.sb.out.head? = some ((s.sbWord a).extractLsb' (8 * (s.sb.ptr % 4)) 8)) ∧
          (n = 1 → sbReg s.sb.ptr = none → ∃ u : State, exec (.sbRead n) s = .next u.settle ∧ u.sb.out = [0xFF#8] ∧
            u.get F.HOST_SB_STAT_CAUSE = 2)) ∧
        (s.sbReady = false → 0 < n → ∃ u : State, exec (.sbRead n) s = .next u.settle ∧ u.sb.out = List.replicate n 0xFF#8 ∧
          u.get F.HOST_SB_STAT_CAUSE = 1 ∧ u.sb.ptr = s.sb.ptr ∧ s.Keeps u (fun x => x = Reg.HOST_SB_STAT)))) ∧
    (s.sb.held = none → exec .sbHoldRelease s = .next s.settle) ∧
    (∀ t : Nat, s.sb.held = some t →
      let limit := s.lpoLast (max s.now (t + 2 * ticksPerMs))
      let ready := s.pwr.released + ticksPerMs
      ∃ u : State, exec .sbHoldRelease s = .next u.settle ∧ u.sb.held = none ∧ s.now ≤ limit ∧
        (s.pwr.inReset = true ∨ s.powerState = 5 ∨ limit < ready → u.now = limit + 1) ∧
        (s.pwr.inReset = false → s.powerState ≠ 5 → ready ≤ limit → u.now = max s.now ready) ∧ s.Keeps u (fun _ => False)) ∧
    (s.sb.matched = false → exec .sbStop s = .next s.settle) ∧
    (s.sb.matched = true → ∃ u : State, exec .sbStop s = .next u.settle ∧ u.sb.matched = false ∧ u.sb.held = none ∧
      (s.domOn 1 = true → u.bitOf (pgEvt Pg.HOST) 3 = true) ∧ (s.domOn 1 = false → u.regs = s.regs) ∧
      s.Keeps u (fun x => x = pgEvt Pg.HOST))

/-- R433 to R440: the link. A packet with a wrong CRC or a form R437 does not give, or a request with no buffer free, is
dropped, recorded and counted; one that is taken returns its credits; READ, WRITE and CMD are run in UP and leave a
reply, and outside it give their buffer back; a PING is answered, completes training and carries a rate change; what comes
after a limit has passed finds the link down. Then each row by which the link leaves a state, sends what waits, is lost or
comes back. Rows that complete here: lnkRead, lnkWrite, lnkCmd, lnkPing, lnkCredit, lnkReplySend, creditPacketSend,
lnkTrainingStart, lnkAligned, lnkTrainPing, lnkDown, lnkDownEnd, lnkKeepalive, lnkAckTimeout, lnkRatePropose, lnkRateSwitch,
lnkRateFail. Choices of the model that it rests on: log entries 2, 14, 85, 86, 87, 88, 89, 90. -/
def Obligations.LersyLink : Prop :=
  ∀ s : State,
    (∀ bytes : List Byte,
      let n := bytes.length
      let b0 := bytes.headD 0#8
      let seq := nth 0#8 bytes 1
      let ctx := nth 0#8 bytes 2
      let b3 := nth 0#8 bytes 3
      let len := b3.toNat % 64
      let a := bytesNat ((bytes.drop 4).take 3)
      let w0 := bytesNat ((bytes.drop 8).take 4)
      let crc : Word := BitVec.ofNat 32 (bytesNat (bytes.drop (n - 4)))
      let crcOk := 12 ≤ n ∧ crc32c (bytes.take (n - 4)) = crc
      let inTime := ∀ l : Nat, s.lnkLimit = some l → s.now ≤ l
      let t : State := (s.lnkTake bytes).1
      let taken (k : Nat) : Prop := lnkType bytes = k ∧ inTime ∧ 3 ≤ s.lnkState ∧ crcOk ∧ s.lnkFormOk bytes = true ∧
        (lnkCredited b0 = false ∨ s.host.replies.length < 8)
      let answered (m : State) (l st fb rf : Nat) (ws : List Word) : State :=
        { m with host := { m.host with replies := m.host.replies ++
          [{ head := [b0 ||| 0x80#8, seq, ctx, BitVec.ofNat 8 (l + b3.toNat / 64 % 2 * 64), BitVec.ofNat 8 st, BitVec.ofNat 8 fb,
                      BitVec.ofNat 8 rf], payload := ws.flatMap wbytes }] } }
      let who : Who := { master := 0x03#8, ctx := if b3.getLsbD 6 then ctx else 0xFF#8 }
      let start : Burst := { words := [], causes := 0, firstBad := 0xFF }
      let words (k : Nat) : List Word := (List.range k).map (fun i => BitVec.ofNat 32 (bytesNat ((bytes.drop (8 + 4 * i)).take 4)))
      (∀ e ∈ [(1, Instr.lnkRead bytes), (2, .lnkWrite bytes), (3, .lnkCmd bytes), (6, .lnkCredit bytes), (7, .lnkPing bytes)],
        let row := e.2
        let mine := lnkType bytes = e.1 ∨ (e.1 = 2 ∧ lnkType bytes ∉ [1, 3, 6, 7])
        let dropped (c : Nat) (freed : Bool) : Prop :=
          ∃ u : State, exec row s = .next u.settle ∧ u.get F.HOST_LNK_STAT_ERR = c ∧
            wbits (u.reg Reg.HOST_LNK_ERRCNT) (if c = 1 then 0 else 16) 16 =
              (wbits (s.reg Reg.HOST_LNK_ERRCNT) (if c = 1 then 0 else 16) 16 + 1) % 65536 ∧
            u.host = { s.host with owed := s.host.owed + freed.toNat } ∧ (s.domOn 1 = true → u.bitOf (pgEvt Pg.HOST) 2 = true) ∧
            s.Keeps u (fun x => x = Reg.HOST_LNK_STAT ∨ x = Reg.HOST_LNK_ERRCNT ∨ x = pgEvt Pg.HOST)
        (¬mine → exec row s = .next s.settle) ∧
        (mine → inTime → s.lnkState < 3 → exec row s = .next s.settle) ∧
        (∀ l : Nat, mine → s.lnkLimit = some l → l < s.now → ∃ u : State, exec row s = .next u.settle ∧ u = s.lnkLate ∧
          u.lnkState < 3 ∧ u.host.rate = .none ∧ u.host.ackAt = none ∧ u.host.since = l + 1 ∧ u.now = s.now) ∧
        (mine → inTime → 3 ≤ s.lnkState →
          (¬crcOk → dropped 1 (lnkCredited b0)) ∧
          (crcOk → s.lnkFormOk bytes = false → dropped 4 (lnkCredited b0)) ∧
          (crcOk → s.lnkFormOk bytes = true → lnkCredited b0 = true → 8 ≤ s.host.replies.length → dropped 3 false))) ∧
      (∀ k : Nat, taken k → t.host = { s.host with lastRx := s.now } ∧ t.now = s.now ∧
        t.get F.HOST_LNK_STAT_PKTS = (s.get F.HOST_LNK_STAT_PKTS + 1) % 2 ^ F.HOST_LNK_STAT_PKTS.len ∧
        t.lnkCredit = satTo 15 (s.lnkCredit + (nth 0#8 bytes 7).toNat % 16) ∧
        s.Keeps t (fun x => x = Reg.HOST_LNK_STAT ∨ x = Reg.HOST_LNK_CREDIT)) ∧
      (taken 6 → ∃ u : State, exec (.lnkCredit bytes) s = .next u.settle ∧
        u.lnkCredit = satTo 15 (s.lnkCredit + (nth 0#8 bytes 7).toNat % 16) ∧ u.host = { s.host with lastRx := s.now } ∧
        s.Keeps u (fun x => x = Reg.HOST_LNK_STAT ∨ x = Reg.HOST_LNK_CREDIT)) ∧
      (s.lnkState ≠ 4 →
        (taken 1 → ∃ u : State, exec (.lnkRead bytes) s = .next u.settle ∧ u = t.lnkDiscard ∧ u.host.owed = s.host.owed + 1) ∧
        (taken 2 → ∃ u : State, exec (.lnkWrite bytes) s = .next u.settle ∧ u = t.lnkDiscard ∧ u.host.owed = s.host.owed + 1) ∧
        (taken 3 → ∃ u : State, exec (.lnkCmd bytes) s = .next u.settle ∧ u = t.lnkDiscard ∧ u.host.owed = s.host.owed + 1)) ∧
      (s.lnkState = 4 → taken 1 →
        (a % 4 ≠ 0 → exec (.lnkRead bytes) s = .next (answered t len 8 0 0 (List.replicate (len + 1) 0#32)).settle) ∧
        (∀ (m : State) (b : Burst), a % 4 = 0 → t.burstRead who a 4 0 start (len + 1) = (m, b) →
          exec (.lnkRead bytes) s = .next (answered m len b.causes b.firstBad 0 b.words).settle)) ∧
      (s.lnkState = 4 → taken 2 →
        (a % 4 ≠ 0 → exec (.lnkWrite bytes) s = .next (answered t 0 8 0 0 []).settle) ∧
        (a % 4 = 0 → t.flag F.HOST_GENB_CFG_DUPEN = true → s.host.lnkDup = some (seq, crc) →
          exec (.lnkWrite bytes) s = .next (answered t 0 0 0xFF 1 []).settle) ∧
        (∀ (m : State) (b : Burst), a % 4 = 0 → t.flag F.HOST_GENB_CFG_DUPEN = false →
          t.burstWrite who a 4 0 start (words (len + 1)) = (m, b) →
          exec (.lnkWrite bytes) s = .next (answered m 0 b.causes b.firstBad 0 []).settle) ∧
        (∀ (m : State) (b : Burst), a % 4 = 0 → t.flag F.HOST_GENB_CFG_DUPEN = true → s.host.lnkDup ≠ some (seq, crc) →
          State.burstWrite { t with host := { t.host with lnkDup := some (seq, crc) } } who a 4 0 start (words (len + 1)) = (m, b) →
          exec (.lnkWrite bytes) s = .next (answered m 0 b.causes b.firstBad 0 []).settle)) ∧
      (s.lnkState = 4 → taken 3 →
        let c := ctx.toNat
        let good := t.ctxEn c && !t.ctxQuar c && t.cfgOk c
        let nxt := (t.sqTail c + 1) % 2 ^ t.sqLog c
        (good = false → exec (.lnkCmd bytes) s = .next (answered (t.doorbell c nxt) 0 16 0xFF 0 []).settle) ∧
        (good = true → nxt = t.sqHead c → exec (.lnkCmd bytes) s = .next (answered t 0 16 0xFF 0 []).settle) ∧
        (good = true → nxt ≠ t.sqHead c → exec (.lnkCmd bytes) s =
          .next (answered ((t.setSramWords (t.sqBase c + 32 * t.sqTail c) (words 8)).doorbell c nxt) 0 0 0xFF 0 []).settle)) ∧
      (taken 7 → ∃ u : State, exec (.lnkPing bytes) s = .next u.settle ∧
        u.host.offer = max 1 (w0 / 65536 % 16) ∧ u.host.gotPing = true ∧
        (s.lnkState = 4 → s.host.rate = .none → u.host.ackAt = none ∧ u.lnkState = 4) ∧
        (w0 % 4 ≠ 0 → b0.getLsbD 7 = false → (s.lnkState = 3 ∨ s.host.rate = .none) → u.host.lnkSent.length = 28 ∧
          u.host.lnkSent.take 7 = [0x87#8, seq, ctx, BitVec.ofNat 8 (3 + b3.toNat / 64 % 2 * 64), 0#8, 0#8, 0#8]) ∧
        (w0 / 4 % 4 = 0 → u.get F.HOST_LNK_RATE_HOSTMAX = satTo 2 (w0 / 256 % 256)) ∧
        (s.lnkState = 3 → (s.host.answered || b0.getLsbD 7) = true →
          u.lnkState = 4 ∧ u.lnkCredit = max 1 (w0 / 65536 % 16) ∧ u.host.wake = true ∧
          (s.domOn 1 = true → u.bitOf (pgEvt Pg.HOST) 0 = true)) ∧
        (∀ r : Nat, s.lnkState = 4 → s.host.rate = .proposed r → w0 / 8 % 2 = 1 → satTo 2 (w0 / 256 % 256) = r →
          u.lnkState = 5 ∧ u.host.rate = .going r s.now false) ∧
        (∀ r : Nat, s.lnkState = 4 → s.host.rate = .proposed r → w0 / 4 % 4 = 1 → satTo 2 (w0 / 256 % 256) < r →
          (s.get F.HOST_LNK_STAT_RATE < satTo 2 (w0 / 256 % 256) →
            u.host.rate = .proposed (satTo 2 (w0 / 256 % 256)) ∧ u.host.lnkSent.headD 0#8 = 7#8) ∧
          (satTo 2 (w0 / 256 % 256) ≤ s.get F.HOST_LNK_STAT_RATE → u.host.rate = .none)) ∧
        (∀ r g : Nat, s.lnkState = 5 → s.host.rate = .going r g true → r < 3 →
          u.lnkState = 4 ∧ u.get F.HOST_LNK_STAT_RATE = r ∧ u.host.rate = .none ∧ u.host.ackAt = none))) ∧
    ((s.lnkState ≠ 4 ∨ s.lnkCredit = 0 ∨ (s.host.wake = false ∧ s.host.replies = [])) → exec .lnkReplySend s = .next s.settle) ∧
    (s.lnkState = 4 → 0 < s.lnkCredit → s.host.wake = true →
      ∃ u : State, exec .lnkReplySend s = .next u.settle ∧ u.host.wake = false ∧ u.lnkCredit = s.lnkCredit - 1 ∧
        u.host.replies = s.host.replies ∧ u.host.lnkSent.length = 28 ∧ u.host.lnkSent.headD 0#8 = 5#8 ∧
        (u.host.lnkSent.drop 8).take 4 = wbytes (s.showReg Reg.SYS_RESET_CAUSE)) ∧
    (∀ (r : LnkReply) (rest : List LnkReply), s.lnkState = 4 → 0 < s.lnkCredit → s.host.wake = false → s.host.replies = r :: rest →
      ∃ u : State, exec .lnkReplySend s = .next u.settle ∧ u.host.replies = rest ∧ u.lnkCredit = s.lnkCredit - 1 ∧
        u.host.owed = s.host.owed + 1 - satTo 15 (s.host.owed + 1) ∧
        (let body := r.head ++ [BitVec.ofNat 8 (satTo 15 (s.host.owed + 1))] ++ r.payload
         u.host.lnkSent = body ++ wbytes (crc32c body))) ∧
    (let due := s.lnkState = 4 ∧ 0 < s.host.owed ∧ s.host.replies = [] ∧ s.host.wake = false ∧ s.irqc.announce = false
     (¬due → exec .creditPacketSend s = .next s.settle) ∧
     (due → ∃ u : State, exec .creditPacketSend s = .next u.settle ∧ u.host.owed = s.host.owed - satTo 15 s.host.owed ∧
       u.host.lnkSent.length = 12 ∧ u.host.lnkSent.headD 0#8 = 6#8 ∧ nth 0#8 u.host.lnkSent 7 = BitVec.ofNat 8 (satTo 15 s.host.owed))) ∧
    (let ready := decide (s.lnkState = 0) && s.flag F.HOST_CFG_LNKEN && s.domReady 1 && s.domReady 11
     (ready = false → exec .lnkTrainingStart s = .next s.settle) ∧
     (ready = true → ∃ u : State, exec .lnkTrainingStart s = .next u.settle ∧ u.lnkState = 2 ∧ u.get F.HOST_LNK_STAT_RATE = 0 ∧
       u.now = max s.now (s.pwr.released + 25 * ticksPerMs) ∧ s.Keeps u (fun x => x = Reg.HOST_LNK_STAT))) ∧
    (s.lnkState ≠ 2 → exec .lnkAligned s = .next s.settle) ∧
    (s.lnkState = 2 → ∃ u : State, exec .lnkAligned s = .next u.settle ∧ u.lnkState = 3 ∧ u.now = s.now ∧
      s.Keeps u (fun x => x = Reg.HOST_LNK_STAT)) ∧
    (s.lnkState ≠ 3 → exec .lnkTrainPing s = .next s.settle) ∧
    (s.lnkState = 3 → ∃ u : State, exec .lnkTrainPing s = .next u.settle ∧
      u.now = max s.now (s.host.ackAt.getD s.host.since + 10 * ticksPerUs) ∧ u.host.ackAt = some u.now ∧
      u.host.lnkSent.length = 28 ∧ u.host.lnkSent.headD 0#8 = 7#8 ∧ s.Keeps u (fun _ => False)) ∧
    (∀ (invalid : Nat) (aligned : Bool),
      (s.lnkState < 3 → exec (.lnkDown invalid aligned) s = .next s.settle) ∧
      (3 ≤ s.lnkState → (4 < invalid ∨ aligned = false) → ∃ u : State, exec (.lnkDown invalid aligned) s = .next u.settle ∧
        u.lnkState = 1 ∧ u.lnkCredit = 0 ∧ u.host.replies = [] ∧ u.host.wake = false ∧
        (s.domOn 1 = true → u.bitOf (pgEvt Pg.HOST) 1 = true)) ∧
      (3 ≤ s.lnkState → invalid ≤ 4 → aligned = true → ∃ u : State, exec (.lnkDown invalid aligned) s = .next u.settle ∧
        u.lnkState = s.lnkState ∧ u.host = s.host ∧
        wbits (u.reg Reg.HOST_LNK_ERRCNT) 16 16 = (wbits (s.reg Reg.HOST_LNK_ERRCNT) 16 16 + invalid) % 65536)) ∧
    (s.lnkState ≠ 1 → exec .lnkDownEnd s = .next s.settle) ∧
    (s.lnkState = 1 → ∃ u : State, exec .lnkDownEnd s = .next u.settle ∧ u.lnkState = 2 ∧ u.now = max s.now (s.host.since + ticksPerMs) ∧
      s.Keeps u (fun x => x = Reg.HOST_LNK_STAT)) ∧
    ((s.lnkState ≠ 4 ∨ s.host.ackAt ≠ none) → exec .lnkKeepalive s = .next s.settle) ∧
    (s.lnkState = 4 → s.host.ackAt = none → ∃ u : State, exec .lnkKeepalive s = .next u.settle ∧
      u.now = max s.now (s.host.lastRx + ticksPerMs * max 1 (s.get F.HOST_LNK_CFG_KA)) ∧ u.host.ackAt = some u.now ∧
      u.host.lnkSent.headD 0#8 = 7#8 ∧ s.Keeps u (fun _ => False)) ∧
    (((∃ (r g : Nat) (x : Bool), s.host.rate = .going r g x) ∨ s.lnkState ≠ 4 ∨ s.host.ackAt = none) →
      exec .lnkAckTimeout s = .next s.settle) ∧
    (∀ t : Nat, (∀ (r g : Nat) (x : Bool), s.host.rate ≠ .going r g x) → s.lnkState = 4 → s.host.ackAt = some t →
      let limit := t + 10 * ticksPerUs * max 1 (s.get F.HOST_LNK_CFG_ACKTMO)
      ∃ u : State, exec .lnkAckTimeout s = .next u.settle ∧ u.lnkState = 1 ∧ u.now = max s.now (limit + 1) ∧
        u.host.since = limit + 1 ∧ u.get F.HOST_LNK_STAT_ERR = 6 ∧ u.host.replies = [] ∧ u.lnkCredit = 0 ∧ u.host.rate = .none ∧
        (s.domOn 1 = true → u.bitOf (pgEvt Pg.HOST) 1 = true)) ∧
    ((s.lnkTarget = none ∨ s.lnkState ≠ 4 ∨ s.host.replies ≠ [] ∨ s.host.rate ≠ .none) → exec .lnkRatePropose s = .next s.settle) ∧
    (∀ r : Nat, s.lnkTarget = some r → s.lnkState = 4 → s.host.replies = [] → s.host.rate = .none →
      ∃ u : State, exec .lnkRatePropose s = .next u.settle ∧ u.host.rate = .proposed r ∧ u.host.lnkSent.headD 0#8 = 7#8 ∧
        (u.host.lnkSent.drop 8).take 2 = [4#8, BitVec.ofNat 8 r] ∧ s.get F.HOST_LNK_STAT_RATE < r ∧ r ≤ 2 ∧
        s.Keeps u (fun _ => False)) ∧
    ((∀ r t : Nat, s.host.rate ≠ .going r t false) → exec .lnkRateSwitch s = .next s.settle) ∧
    (∀ r t : Nat, s.host.rate = .going r t false → ∃ u : State, exec .lnkRateSwitch s = .next u.settle ∧
      u.now = max s.now (t + idleTicks (s.get F.HOST_LNK_STAT_RATE)) ∧ u.host.rate = .going r t true ∧
      u.host.lnkSent.headD 0#8 = 7#8 ∧ s.Keeps u (fun _ => False)) ∧
    ((∀ (r t : Nat) (x : Bool), s.host.rate ≠ .going r t x) → exec .lnkRateFail s = .next s.settle) ∧
    (∀ (r t : Nat) (x : Bool), s.host.rate = .going r t x → ∃ u : State, exec .lnkRateFail s = .next u.settle ∧ u.lnkState = 2 ∧
      u.get F.HOST_LNK_STAT_RATE = 0 ∧ u.flag F.HOST_LNK_STAT_RATEFAIL = true ∧ u.get F.HOST_LNK_STAT_ERR = 5 ∧ u.host.rate = .none ∧
      u.now = max s.now (t + ticksPerMs + 1) ∧ u.host.since = t + ticksPerMs + 1 ∧ (r < 4 → u.host.failed.getLsbD r = true) ∧
      (s.domOn 1 = true → u.bitOf (pgEvt Pg.HOST) 2 = true))

/-- R451 to R458: a request for a power state or a domain mask is held, refused with its cause, stored, or begins a
transition; a domain is cut with its registers or becomes ready; a transition's end shows the new state and judges a
held request; a counted wake condition starts the wake sequence, from OFF a reset. Rows that complete here: pwrStateReq,
pwrDomainEn, domainPowerDown, domainReady, transitionEnd, wake. Choices of the model that it rests on: log entries 14, 20, 94,
95, 98. -/
def Obligations.PowerTransitions : Prop :=
  ∀ s : State,
    (∀ (who : Who) (val : Word), s.serves Reg.PWR_STATE_REQ = true → s.pwr.trans = none → wbits val 0 3 ≤ 5 →
      (wbits val 0 3 = s.get F.PWR_STATE_STATE ∧ 2 ≤ wbits val 0 3) ∨ (s.get F.PWR_STATE_STATE ≤ 1 ∧ wbits val 0 3 = 0) →
      ∃ u : State, exec (.pwrStateReq who val) s = .next u.settle ∧ u.lastStatus = .ok ∧
        u.reg Reg.PWR_STATE_REQ = BitVec.ofNat 32 (wbits val 0 3) ∧ u.pwr.trans = none ∧
        s.Keeps u (fun a => a = Reg.PWR_STATE_REQ ∨ a = pgSeq Pg.PWR)) ∧
    (∀ (who : Who) (val : Word), s.serves Reg.PWR_DOMAIN_EN = true → s.pwr.trans = none →
      (2 ≤ s.get F.PWR_STATE_STATE ∨ BitVec.ofNat 12 (wbits val 0 12 ||| 3) = s.pwr.on) →
      ∃ u : State, exec (.pwrDomainEn who val) s = .next u.settle ∧ u.lastStatus = .ok ∧
        u.reg Reg.PWR_DOMAIN_EN = BitVec.ofNat 32 (wbits val 0 12 ||| 3) ∧ u.pwr.trans = none ∧
        s.Keeps u (fun a => a = Reg.PWR_DOMAIN_EN ∨ a = pgSeq Pg.PWR)) ∧
    (∀ (who : Who) (val : Word), ∀ e ∈ [(Reg.PWR_STATE_REQ, false, Instr.pwrStateReq who val), (Reg.PWR_DOMAIN_EN, true, .pwrDomainEn who val)],
      s.serves e.1 = true →
      let g := s.granted (some e.1)
      let asked : BitVec 12 := BitVec.ofNat 12 (wbits val 0 12 ||| 3)
      let code := if e.2.1 then 1 else reqCode val
      let mask := if e.2.1 then asked else s.stateMask code
      let awake := decide (s.get F.PWR_STATE_STATE ≤ 1)
      let stored : Word := if e.2.1 then BitVec.ofNat 32 (wbits val 0 12 ||| 3) else BitVec.ofNat 32 (wbits val 0 3)
      let judged := s.pwr.trans = none ∧
        (if e.2.1 then awake = true ∧ asked ≠ s.pwr.on else 2 ≤ code ∧ code ≠ s.get F.PWR_STATE_STATE)
      (∀ t, s.pwr.trans = some t → exec e.2.2 s =
        .next (State.told { g with pwr := { g.pwr with held := some { domainEn := e.2.1, value := val } } } .ok).settle) ∧
      (∀ c d : Nat, judged → g.powerRefusal mask code = some (c, d) →
        ∃ u : State, exec e.2.2 s = .next u.settle ∧ u.lastStatus = .locked ∧ u.get F.PWR_STATE_REFCAUSE = c ∧
          u.get F.PWR_STATE_REFDOM = d % 16 ∧ u.bitOf (pgErr Pg.PWR) 1 = true ∧ u.bitOf (pgEvt Pg.PWR) 3 = true ∧ u.pwr = g.pwr ∧
          s.Keeps u (fun a => a = Reg.PWR_STATE ∨ a = pgErr Pg.PWR ∨ a = pgEvt Pg.PWR)) ∧
      (judged → g.powerRefusal mask code = none →
        ∃ u : State, exec e.2.2 s = .next u.settle ∧ u.lastStatus = .ok ∧ u.reg e.1 = stored ∧ u.flag F.PWR_STATE_BUSY = true ∧
          u.pwr.trans = some { target := code, mask := mask, wake := false } ∧
          s.Keeps u (fun a => a = e.1 ∨ a = Reg.PWR_STATE ∨ a = pgSeq Pg.PWR ∨ (s.clkStopped = true ∧ a = Reg.CMP_STAT))) ∧
      (s.pwr.trans = none → (if e.2.1 then awake = false ∨ asked = s.pwr.on else 2 ≤ code ∧ code = s.get F.PWR_STATE_STATE) →
        ∃ u : State, exec e.2.2 s = .next u.settle ∧ u.lastStatus = .ok ∧ u.reg e.1 = stored ∧ u.pwr = g.pwr ∧
          s.Keeps u (fun a => a = e.1 ∨ a = pgSeq Pg.PWR)) ∧
      (s.pwr.trans = none → e.2.1 = false → code ≤ 1 →
        (awake = true → (code = 0 ∨ s.gd.armed = false) →
          ∃ u : State, exec e.2.2 s = .next u.settle ∧ u.lastStatus = .ok ∧ u.reg e.1 = stored ∧ u.pwr = g.pwr ∧ u.gd = s.gd ∧
            s.Keeps u (fun a => a = e.1 ∨ a = pgSeq Pg.PWR)) ∧
        (awake = true → code = 1 → s.gd.armed = true →
          ∃ u : State, exec e.2.2 s = .next u.settle ∧ u.lastStatus = .ok ∧ u.gd.armed = false ∧ u.pwr.trans = none) ∧
        (awake = false →
          ∃ u : State, exec e.2.2 s = .next u.settle ∧ u.lastStatus = .ok ∧ u.reg e.1 = stored ∧
            u.pwr = { g.pwr with wakeSeen := s.pwr.wakeSeen ||| 0x100#9 } ∧ s.Keeps u (fun a => a = e.1 ∨ a = pgSeq Pg.PWR)))) ∧
    (∀ d : Fin 12,
      ((s.nextOff ≠ some d.val ∨ (d.val = 1 ∧ s.coreBusy = true)) → exec (.domainPowerDown d) s = .next s.settle) ∧
      (s.nextOff = some d.val → (d.val = 1 → s.coreBusy = false) →
        ∃ u : State, exec (.domainPowerDown d) s = .next u.settle ∧ u.domOn d.val = false ∧ u.domReady d.val = false ∧
          (∀ e < 12, e ≠ d.val → u.domOn e = s.domOn e) ∧ u.pwr.upFrom = s.now ∧ u.now = s.now ∧
          (d.val ≠ 1 → d.val ≠ 3 → d.val ≠ 11 →
            ∀ a < 0x40000, u.reg a = if pageDomain (a / 0x1000) = d.val then regDefault a else s.reg a)) ∧
      (s.nextOn ≠ some d.val → exec (.domainReady d) s = .next s.settle) ∧
      (s.nextOn = some d.val → d.val ≠ 1 → s.entriesOf d.val = [] →
        ∃ u : State, exec (.domainReady d) s = .next u.settle ∧ u.domOn d.val = true ∧ u.domReady d.val = true ∧
          max s.now (s.pwr.upFrom + upTicks d.val) ≤ u.now ∧ u.pwr.upFrom = u.now)) ∧
    ((s.pwr.trans = none ∨ ∃ t, s.pwr.trans = some t ∧
        ((s.offLeft t.mask).isEmpty = false ∨ (s.onLeft t.mask).isEmpty = false ∨ t.mask.getLsbD 1 ≠ s.domReady 1)) →
      exec .transitionEnd s = .next s.settle) ∧
    (∀ t, s.pwr.trans = some t → (s.offLeft t.mask).isEmpty = true → (s.onLeft t.mask).isEmpty = true →
      t.mask.getLsbD 1 = s.domReady 1 → s.pwr.held = none → s.domOn 0 = true →
      ∃ u : State, exec .transitionEnd s = .next u.settle ∧ u.pwr = { s.pwr with trans := none } ∧
        u.get F.PWR_STATE_STATE = t.target % 8 ∧ u.flag F.PWR_STATE_BUSY = false ∧ wbits (u.reg Reg.PWR_STATE) 4 3 = s.powerState % 8 ∧
        wbits (u.reg Reg.PWR_STATE) 16 16 = (wbits (s.reg Reg.PWR_STATE) 16 16 + 1) % 65536 ∧ u.bitOf (pgEvt Pg.PWR) 3 = true ∧
        s.Keeps u (fun a => a = Reg.PWR_STATE ∨ a = pgEvt Pg.PWR)) ∧
    (∀ (t : Transition) (h : HeldReq), s.pwr.trans = some t → (s.offLeft t.mask).isEmpty = true → (s.onLeft t.mask).isEmpty = true →
      t.mask.getLsbD 1 = s.domReady 1 → s.pwr.held = some h → ∃ w : State, exec .transitionEnd s =
        .next (w.powerJudge h.domainEn h.value).1.settle ∧ w.pwr = { s.pwr with trans := none, held := none } ∧
        w.get F.PWR_STATE_STATE = t.target % 8 ∧ w.now = s.now) ∧
    (∀ lnk : Bool,
      let heard := lnk && wbit (s.reg Reg.PWR_WAKE_EN) 1 && !s.domOn 11
      let m := (State.wakeLatch (if heard then { s with pwr := { s.pwr with wakeSeen := s.pwr.wakeSeen ||| 2#9 } } else s)).pwr.wakeSeen
      let st := s.get F.PWR_STATE_STATE
      ((s.pwr.inReset = true ∨ s.pwr.trans ≠ none ∨ st ≤ 1 ∨ m = 0#9) → exec (.wake lnk) s = .next s.settle) ∧
      (s.pwr.inReset = false → s.pwr.trans = none → 2 ≤ st → m ≠ 0#9 →
        (st ≠ 5 → ∃ u : State, exec (.wake lnk) s = .next u.settle ∧ u.flag F.PWR_STATE_BUSY = true ∧ u.pwr.wakeSeen = 0#9 ∧
          u.pwr.trans = some { target := 1, mask := runMask s, wake := true } ∧ u.pwr.wakeFrom = st ∧
          wbits (u.reg Reg.PWR_WAKE_CAUSE) 0 9 = wbits (s.reg Reg.PWR_WAKE_CAUSE) 0 9 ||| m.toNat ∧
          wbits (u.reg Reg.PWR_WAKE_CAUSE) 12 3 = st ∧ s.Keeps u (fun a => a = Reg.PWR_WAKE_CAUSE ∨ a = Reg.PWR_STATE ∨ (s.clkStopped = true ∧ a = Reg.CMP_STAT))) ∧
        (st = 5 → ∃ u : State, exec (.wake lnk) s = .next u.settle ∧ u.pwr.inReset = true ∧ u.pwr.lastCause = 6 ∧
          wbits (u.reg Reg.PWR_WAKE_CAUSE) 12 3 = 5 ∧ wbits (u.reg Reg.PWR_WAKE_CAUSE) 0 9 =
            wbits (s.reg Reg.PWR_WAKE_CAUSE) 0 9 ||| m.toNat)))

/-- R459 to R463, R470: each reset's beginning, what it keeps and loses by its cause, its release with the cause shown;
SWRESET and the watchdog open the relays, disarm and reset 33 LPO ticks later; the muster window's end, by time or by a
write. Rows that complete here: por, bor, nrst, swreset, wdtExpiry, resetBegin, resetRelease, musterEnd, musterEndWrite.
Choices of the model that it rests on: log entries 2, 9, 14, 94, 96, 100. -/
def Obligations.Resets : Prop :=
  ∀ s : State,
    let begun (u : State) (c : Nat) : Prop :=
      u.pwr.inReset = true ∧ u.pwr.lastCause = c ∧ u.pwr.on = 0#12 ∧ u.pwr.ready = 0#12 ∧ u.pwr.muster = true ∧ u.pwr.resetAt = none ∧
      u.pwr.trans = none ∧ u.pending = s.pending ∧
      (∀ a < 0x40000, a ∉ [Reg.SYS_RESET_CAUSE, Reg.SYS_WDT_STAT, Reg.SYS_LPO_CAL] →
        u.reg a = if resetKeeps c a then s.reg a else regDefault a) ∧
      (∀ f ∈ [F.SYS_WDT_STAT_WARN, F.SYS_LPO_CAL_BUSY],
        u.reg f.addr = wput (if resetKeeps c f.addr then s.reg f.addr else regDefault f.addr) f.lo f.len 0) ∧
      (c ≠ 1 → u.gd.estop = s.gd.estop ∧ u.safe.lockout = s.safe.lockout ∧ u.safe.fail = s.safe.fail) ∧
      u.reg Reg.SYS_RESET_CAUSE = (if c = 1 then 0#32 else s.reg Reg.SYS_RESET_CAUSE) ∧
      (∀ b a : Nat, b < 8 → bankBase b ≤ a → a < bankBase b + 0x8000 →
        u.sramByte a = if 3 ≤ c ∧ c ≤ 5 ∧ wbit (s.reg Reg.PWR_RETAIN) b then s.sramByte a else 0#8)
    let scheduled (u : State) (c : Nat) : Prop :=
      u.bridgeOn = false ∧ (s.pwr.resetAt = none → u.pwr.resetAt = some (c, u.pwr.lpo + 33)) ∧
      (∀ r, s.pwr.resetAt = some r → u.pwr.resetAt = some r)
    (∃ u : State, exec (.por true) s = .next u.settle ∧ begun u 1 ∧ u.now = s.now ∧ u.pwr.holding = s.pwr.holding ||| 1#6) ∧
    (∃ u : State, exec (.bor true) s = .next u.settle ∧ begun u 2 ∧ u.now = s.now ∧ u.pwr.holding = s.pwr.holding ||| 2#6) ∧
    (∃ u : State, exec (.nrst true) s = .next u.settle ∧ begun u 3 ∧ u.now = s.now ∧ u.pwr.holding = s.pwr.holding ||| 4#6) ∧
    (∃ u : State, exec (.por false) s = .next u.settle ∧ s.Keeps u (fun _ => False) ∧
      u = { s with pwr := { s.pwr with holding := s.pwr.holding &&& 0x3E#6, clearAt := s.pwr.lpo } }) ∧
    (∃ u : State, exec (.bor false) s = .next u.settle ∧ s.Keeps u (fun _ => False) ∧
      u = { s with pwr := { s.pwr with holding := s.pwr.holding &&& 0x3D#6, clearAt := s.pwr.lpo } }) ∧
    (∃ u : State, exec (.nrst false) s = .next u.settle ∧ s.Keeps u (fun _ => False) ∧
      u = { s with pwr := { s.pwr with holding := s.pwr.holding &&& 0x3B#6, clearAt := s.pwr.lpo } }) ∧
    (∀ (who : Who) (val : Word), s.serves Reg.SYS_SWRESET = true →
      let g := s.granted (some Reg.SYS_SWRESET)
      (wbits val 0 16 = 0xA5C3 → ∃ u : State, exec (.swreset who val) s = .next u.settle ∧ u.lastStatus = .ok ∧ scheduled u 5) ∧
      (wbits val 0 16 ≠ 0xA5C3 →
        exec (.swreset who val) s = .next ((g.setW1c (pgErr Pg.SYS) 3).told .roWrite).settle)) ∧
    (s.pwr.wdtStart = none → exec .wdtExpiry s = .next s.settle) ∧
    (∀ k, s.pwr.wdtStart = some k →
      let limit := k + s.wdtTicks 1 1
      let window := k + s.wdtTicks (s.get F.SYS_WDT_CFG_WIN) 16
      let expired (early : Bool) : Prop := ∃ u : State, exec .wdtExpiry s = .next u.settle ∧ u.pwr.wdtStart = none ∧ scheduled u 4 ∧
        wbit (u.reg Reg.SYS_WDT_STAT) 13 = early ∧ limit ≤ u.pwr.lpo ∧
        wbits (u.reg Reg.SYS_WDT_STAT) 16 8 = (wbits (s.reg Reg.SYS_WDT_STAT) 16 8 + 1) % 256
      (s.pwr.kick = none → expired false) ∧
      (∀ t, s.pwr.kick = some t → limit < t → expired false) ∧
      (∀ t, s.pwr.kick = some t → t ≤ limit → t < window → expired true) ∧
      (∀ t, s.pwr.kick = some t → t ≤ limit → window ≤ t → t ≠ k → ∃ u : State, exec .wdtExpiry s = .next u.settle ∧
        u.pwr.wdtStart = some t ∧ u.pwr.kick = none ∧ u.pwr.resetAt = s.pwr.resetAt ∧ limit ≤ u.pwr.lpo ∧
        s.Keeps u (fun a => a = Reg.SYS_WDT_STAT))) ∧
    (s.pwr.resetAt = none → exec .resetBegin s = .next s.settle) ∧
    (∀ c k : Nat, s.pwr.resetAt = some (c, k) → ∃ u : State, exec .resetBegin s = .next u.settle ∧ begun u c) ∧
    (∀ ra rb : Nat,
      ((s.pwr.inReset = false ∨ s.pwr.holding ≠ 0#6) → exec (.resetRelease ra rb) s = .next s.settle) ∧
      (s.pwr.inReset = true → s.pwr.holding = 0#6 → s.pwr.lastCause ≤ 6 →
        ∃ u : State, exec (.resetRelease ra rb) s = .next u.settle ∧ u.pwr.inReset = false ∧ u.pwr.on = 1#12 ∧ u.pwr.boot = true ∧
          u.pwr.released = u.now ∧ u.safe.fault = (sealPair (sealCode ra) (sealCode rb)).isNone ∧
          wbits (u.reg Reg.SYS_RESET_CAUSE) 0 6 = wbits (s.reg Reg.SYS_RESET_CAUSE) 0 6 ||| s.pwr.causes.toNat ∧
          wbits (u.reg Reg.SYS_RESET_CAUSE) 8 3 = s.pwr.lastCause ∧
          wbits (u.reg Reg.SYS_RESET_CAUSE) 16 16 =
            (if s.pwr.causes.getLsbD 0 then 0 else (wbits (s.reg Reg.SYS_RESET_CAUSE) 16 16 + 1) % 65536))) ∧
    ((s.pwr.inReset = true ∨ s.pwr.muster = false) → exec .musterEnd s = .next s.settle) ∧
    (s.pwr.inReset = false → s.pwr.muster = true → ∃ u : State, exec .musterEnd s = .next u.settle ∧ u.pwr.muster = false ∧
      u.now = max s.now (s.pwr.released + ticksPerMs * wbits (s.reg Reg.SYS_MUSTER_END) 0 11)) ∧
    (∀ (who : Who) (val : Word), s.serves Reg.SYS_MUSTER_END = true →
      let g := s.granted (some Reg.SYS_MUSTER_END)
      let n := clampNat 50 1000 (wbits val 0 11)
      (g.now - s.pwr.released < n * ticksPerMs ∨ s.pwr.muster = false →
        ∃ u : State, exec (.musterEndWrite who val) s = .next u.settle ∧ u.lastStatus = .ok ∧
          u.reg Reg.SYS_MUSTER_END = BitVec.ofNat 32 n ∧ u.pwr = g.pwr ∧
          s.Keeps u (fun a => a = Reg.SYS_MUSTER_END ∨ a = pgSeq Pg.SYS)) ∧
      (n * ticksPerMs ≤ g.now - s.pwr.released → s.pwr.muster = true →
        ∃ u : State, exec (.musterEndWrite who val) s = .next u.settle ∧ u.lastStatus = .ok ∧ u.pwr.muster = false))

/-- R464 to R471, R475, R476: the XIN choice, SYSPLL's lock and its loss, the RTC's second and alarm, an LPO
measurement, the watchdog's kick and warning, the die temperature, supply and VKEEP monitors, and the serial number with
its check. Rows that complete here: xinSelect, pllLock, pllLoss, rtcSecond, lpoCalStart, lpoCalDone, wdtKick, wdtWarn,
tempSample, supplyWarning, vkeepCheck, identLoaded. Choices of the model that it rests on: log entries 2, 12, 14, 25, 96, 97. -/
def Obligations.ClocksAndMonitors : Prop :=
  ∀ s : State,
    (∀ hz : Nat,
      ((s.pwr.inReset || s.pwr.xinDone || !s.pwr.boot) = true → exec (.xinSelect hz) s = .next s.settle) ∧
      (s.pwr.inReset = false → s.pwr.xinDone = false → s.pwr.boot = true →
        ∃ u : State, exec (.xinSelect hz) s = .next u.settle ∧ u.pwr.xinDone = true ∧
          (∀ k, xinSel hz = some k → u.reg Reg.SYS_CLK_CFG = BitVec.ofNat 32 (k + 256 * (400000000 / xinHz k))) ∧
          (xinSel hz = none → u.reg Reg.SYS_CLK_CFG = 7#32 ∧ u.flag F.SYS_PLL_STAT_XINFAIL = true) ∧
          s.Keeps u (fun a => a = Reg.SYS_CLK_CFG ∨ a = Reg.SYS_PLL_STAT))) ∧
    (let off := s.pwr.inReset || !s.pwr.xinDone || decide (s.get F.SYS_CLK_CFG_XINSEL = 7)
     (off = true → exec .pllLock s = .next s.settle) ∧
     (off = false → ∃ u : State, exec .pllLock s = .next u.settle ∧ u.flag F.SYS_PLL_STAT_LOCK = true ∧
       u.pwr = (if s.pwr.boot then { s.pwr with on := s.pwr.on ||| 2#12, upFrom := s.now } else s.pwr) ∧
       s.Keeps u (fun a => a = Reg.SYS_PLL_STAT))) ∧
    ((s.domOn 1 = false ∨ s.flag F.SYS_PLL_STAT_LOCK = false) → exec .pllLoss s = .next s.settle) ∧
    (s.domOn 1 = true → s.flag F.SYS_PLL_STAT_LOCK = true →
      ∃ u : State, exec .pllLoss s = .next u.settle ∧ u.flag F.SYS_PLL_STAT_LOCK = false ∧ u.flag F.SYS_PLL_STAT_LOSS = true ∧
        u.bridgeOn = false ∧ u.bitOf (pgEvt Pg.SYS) 1 = true) ∧
    (let m := s.elapseLpo (s.pwr.lpo + s.lpoTicks (2 ^ 32 - s.pwr.rtcSub))
     ∃ u : State, exec .rtcSecond s = .next u.settle ∧ u.now = m.now ∧ u.pwr.rtcSub = m.pwr.rtcSub - 2 ^ 32 ∧
      (m.mastered Reg.SYS_RTC_SEC = false → u.reg Reg.SYS_RTC_SEC = s.reg Reg.SYS_RTC_SEC + 1#32 ∧
        u.pwr.alarm = (s.pwr.alarm || decide (s.reg Reg.SYS_RTC_SEC + 1#32 = s.reg Reg.SYS_RTC_ALARM))) ∧
      (m.mastered Reg.SYS_RTC_SEC = true → u.reg Reg.SYS_RTC_SEC = s.reg Reg.SYS_RTC_SEC ∧ u.pwr.alarm = s.pwr.alarm) ∧
      s.Keeps u (fun a => a = Reg.SYS_RTC_SEC)) ∧
    (∀ (who : Who) (val : Word), s.serves Reg.SYS_LPO_CAL = true →
      let g := s.granted (some Reg.SYS_LPO_CAL)
      ∃ u : State, exec (.lpoCalStart (some who) val) s = .next u.settle ∧ u.lastStatus = .ok ∧ u.flag F.SYS_LPO_CAL_BUSY = true ∧
        u.get F.SYS_LPO_CAL_INC = wbits val 0 20 ∧ u.get F.SYS_LPO_CAL_AUTO = wbits val 24 8 ∧
        (s.flag F.SYS_LPO_CAL_BUSY = false → u.pwr = { g.pwr with calAt := g.now, calLpo := g.pwr.lpo }) ∧
        (s.flag F.SYS_LPO_CAL_BUSY = true → u.pwr = g.pwr) ∧
        s.Keeps u (fun a => a = Reg.SYS_LPO_CAL ∨ a = pgSeq Pg.SYS)) ∧
    (∀ val : Word,
      let stands := decide (s.get F.SYS_LPO_CAL_AUTO = 0) || s.flag F.SYS_LPO_CAL_BUSY || s.clkStopped
      (stands = true → exec (.lpoCalStart none val) s = .next s.settle) ∧
      (stands = false → ∃ u : State, exec (.lpoCalStart none val) s = .next u.settle ∧ u.flag F.SYS_LPO_CAL_BUSY = true ∧
        u.now = max s.now (s.pwr.calAt + s.get F.SYS_LPO_CAL_AUTO * ticksPerSec) ∧ u.pwr.calAt = u.now ∧
        s.Keeps u (fun a => a = Reg.SYS_LPO_CAL))) ∧
    (∀ meas : Nat,
      (s.flag F.SYS_LPO_CAL_BUSY = false → exec (.lpoCalDone meas) s = .next s.settle) ∧
      (s.flag F.SYS_LPO_CAL_BUSY = true →
        let m := s.elapseLpo (s.pwr.calLpo + 1024)
        ∃ u : State, exec (.lpoCalDone meas) s = .next u.settle ∧ u.flag F.SYS_LPO_CAL_BUSY = false ∧ u.now = m.now ∧
          u.get F.SYS_LPO_CAL_INC = (if m.mastered Reg.SYS_LPO_CAL then s.get F.SYS_LPO_CAL_INC
            else (meas * 2 ^ 32 + 512 * ticksPerSec) / (1024 * ticksPerSec) % 2 ^ 20) ∧
          u.get F.SYS_LPO_CAL_AUTO = s.get F.SYS_LPO_CAL_AUTO ∧ s.Keeps u (fun a => a = Reg.SYS_LPO_CAL))) ∧
    (∀ (who : Who) (val : Word), s.serves Reg.SYS_WDT_KICK = true →
      let g := s.granted (some Reg.SYS_WDT_KICK)
      let key := decide (wbits val 0 16 = 0x4B1C)
      ((s.pwr.wdtStart = none ∨ (key = false ∧ s.pwr.kick = none) ∨ (∃ t, s.pwr.kick = some t ∧ g.pwr.lpo < t)) →
        exec (.wdtKick who val) s = .next (g.accepted Pg.SYS).settle) ∧
      (∀ k, s.pwr.wdtStart = some k → key = true → s.pwr.kick = none →
        ∃ u : State, exec (.wdtKick who val) s = .next u.settle ∧ u.lastStatus = .ok ∧
          u.pwr = { g.pwr with kick := some (g.pwr.lpo + 2) } ∧ s.Keeps u (fun a => a = pgSeq Pg.SYS)) ∧
      (∀ k t, s.pwr.wdtStart = some k → s.pwr.kick = some t → t ≤ g.pwr.lpo →
        let limit := k + s.wdtTicks 1 1
        let window := k + s.wdtTicks (s.get F.SYS_WDT_CFG_WIN) 16
        ∃ u : State, exec (.wdtKick who val) s = .next u.settle ∧ u.lastStatus = .ok ∧
          (limit < t ∨ t < window → u.pwr.wdtStart = none ∧ wbit (u.reg Reg.SYS_WDT_STAT) 13 = decide (t ≤ limit) ∧
            u.bridgeOn = false ∧ u.pwr.kick = none ∧
            wbits (u.reg Reg.SYS_WDT_STAT) 16 8 = (wbits (s.reg Reg.SYS_WDT_STAT) 16 8 + 1) % 256 ∧
            (s.pwr.resetAt = none → u.pwr.resetAt = some (4, g.pwr.lpo + 33))) ∧
          (t ≤ limit → window ≤ t → u.pwr = { g.pwr with wdtStart := some t, wdtWarned := false
                                                         kick := if key then some (g.pwr.lpo + 2) else none } ∧
            u.flag F.SYS_WDT_STAT_WARN = false ∧ s.Keeps u (fun a => a = Reg.SYS_WDT_STAT ∨ a = pgSeq Pg.SYS)))) ∧
    ((s.pwr.wdtStart = none ∨ s.pwr.wdtWarned = true) → exec .wdtWarn s = .next s.settle) ∧
    (∀ k, s.pwr.wdtStart = some k → s.pwr.wdtWarned = false → s.pwr.kick = none →
      ∃ u : State, exec .wdtWarn s = .next u.settle ∧ u.pwr.wdtWarned = true ∧ u.pwr.wdtStart = some k ∧
        u.flag F.SYS_WDT_STAT_WARN = true ∧ (s.domOn 1 = true → u.bitOf (pgEvt Pg.SYS) 2 = true) ∧
        k + s.wdtTicks 3 4 ≤ u.pwr.lpo ∧ s.Keeps u (fun a => a = Reg.SYS_WDT_STAT ∨ a = pgEvt Pg.SYS)) ∧
    (∀ k t, s.pwr.wdtStart = some k → s.pwr.wdtWarned = false → s.pwr.kick = some t → t ≤ k + s.wdtTicks 3 4 → t ≠ k →
      t ≤ k + s.wdtTicks 1 1 → k + s.wdtTicks (s.get F.SYS_WDT_CFG_WIN) 16 ≤ t →
      ∃ u : State, exec .wdtWarn s = .next u.settle ∧ u.pwr.wdtStart = some t ∧ u.pwr.wdtWarned = false ∧
        u.flag F.SYS_WDT_STAT_WARN = false ∧ s.Keeps u (fun a => a = Reg.SYS_WDT_STAT)) ∧
    (∀ raw : Int,
      let warn : Int := 16 * ((s.get F.SYS_TEMP_WARN : Nat) : Int)
      (s.domReady 1 = false → exec (.tempSample raw) s = .next s.settle) ∧
      (s.domReady 1 = true → -32768 ≤ raw → raw < 32768 →
        ∃ u : State, exec (.tempSample raw) s = .next u.settle ∧ u.getI F.SYS_TEMP_TEMP = raw ∧ s.now < u.now ∧
          u.now % ticksPerMs = 0 ∧
          (warn < raw → u.flag F.SYS_TEMP_HOT = true ∧ (s.getI F.SYS_TEMP_TEMP ≤ warn → u.bitOf (pgEvt Pg.SYS) 3 = true)) ∧
          (raw ≤ warn - 80 → u.flag F.SYS_TEMP_HOT = false) ∧
          (warn - 80 < raw → raw ≤ warn → u.flag F.SYS_TEMP_HOT = s.flag F.SYS_TEMP_HOT) ∧
          s.Keeps u (fun a => a = Reg.SYS_TEMP ∨ a = pgEvt Pg.SYS))) ∧
    (∀ vio vdda : Nat,
      let t := 2800 + 25 * s.get F.PWR_BOR_CFG_WARN
      (s.pwr.inReset = true → exec (.supplyWarning vio vdda) s = .next s.settle) ∧
      (s.pwr.inReset = false → ∃ u : State, exec (.supplyWarning vio vdda) s = .next u.settle ∧
        u.flag F.PWR_BOR_CFG_VIOLOW = decide (vio < t) ∧ u.flag F.PWR_BOR_CFG_VDDALOW = decide (vdda < t) ∧
        ((vio < t ∧ s.flag F.PWR_BOR_CFG_VIOLOW = false) ∨ (vdda < t ∧ s.flag F.PWR_BOR_CFG_VDDALOW = false) →
          s.domOn 0 = true → u.bitOf (pgEvt Pg.PWR) 1 = true) ∧
        s.Keeps u (fun a => a = Reg.PWR_BOR_CFG ∨ a = pgEvt Pg.PWR))) ∧
    (∀ mv : Nat,
      let low := decide (mv < 2000 + 10 * s.get F.PWR_VKEEP_LOW)
      (s.pwr.inReset = true → exec (.vkeepCheck mv) s = .next s.settle) ∧
      (s.pwr.inReset = false → ∃ u : State, exec (.vkeepCheck mv) s = .next u.settle ∧
        u.get F.PWR_VKEEP_VKEEP = satTo 4095 mv ∧ u.flag F.PWR_VKEEP_LOWNOW = low ∧
        (low = true → s.flag F.PWR_VKEEP_LOWNOW = false → s.domOn 0 = true → u.bitOf (pgEvt Pg.PWR) 2 = true) ∧
        s.Keeps u (fun a => a = Reg.PWR_VKEEP ∨ a = pgEvt Pg.PWR))) ∧
    ((s.pwr.inReset = true ∨ s.domReady 0 = true) → exec .identLoaded s = .next s.settle) ∧
    (s.pwr.inReset = false → s.domOn 0 = true → s.domReady 0 = false →
      let c := serialCheck Config.serial
      let ok := decide (c = Config.serial.extractLsb' 0 8)
      ∃ u : State, exec .identLoaded s = .next u.settle ∧ u.domReady 0 = true ∧ u.now = max s.now (s.pwr.released + ticksPerMs) ∧
        u.reg Reg.IDENT_SERIAL_LO = Config.serial.extractLsb' 0 32 ∧ u.reg Reg.IDENT_SERIAL_HI = Config.serial.extractLsb' 32 32 ∧
        u.reg Reg.IDENT_CHECK = BitVec.ofNat 32 (c.toNat + 256 * ok.toNat + 512))

/-- R478 to R481, R495, R497, R512, R541 to R543: the NVM controller takes the next operation, ends it in the array or
fails it; a read of the window with what its code finds; the log's scan and flush; a pin's function, a GPIO level, and
what the test-access port's instructions select and capture. Rows that complete here: nvmOpStart, nvmOpDone, nvmOpTimeout,
nvmRead, logScanDone, logFlush, pinsFuncWrite, gpioEdge, extest, samplePreload, bypass. Choices of the model that it rests on:
log entries 2, 9, 14, 92, 93, 102. -/
def Obligations.StoresPinsAndScan : Prop :=
  ∀ s : State,
    (let t := s.logAsk
     (s.domReady 1 = false → exec .nvmOpStart s = .next t.settle) ∧
     (s.log.staged = [] → t = s) ∧
     (∀ (o : NvmOp) (rest : List NvmOp), s.domReady 1 = true → t.nvmc.cur = none → t.nvmc.susp = none →
       nvmPick t.nvmc.queue = some (o, rest) →
       ∃ u : State, exec .nvmOpStart s = .next u.settle ∧ u.nvmc.queue = rest ∧ u.flag F.NVM_STAT_BUSY = true ∧
         u.nvmc.cur = some { op := o, at' := s.now, left := o.maxTicks } ∧ t.Keeps u (fun a => a = Reg.NVM_STAT)) ∧
     (∀ (r : NvmRun) (o : NvmOp) (rest : List NvmOp), s.domReady 1 = true → t.nvmc.cur = some r → r.op.erase = true →
       t.nvmc.queue.any NvmOp.ahead = true → nvmPick t.nvmc.queue = some (o, rest) →
       ∃ u : State, exec .nvmOpStart s = .next u.settle ∧ u.nvmc.susp = some { r with left := r.left - (s.now - r.at') } ∧
         u.nvmc.cur = some { op := o, at' := s.now, left := o.maxTicks } ∧ u.flag F.NVM_STAT_SUSP = true) ∧
     (t.nvmc.cur = none → t.nvmc.susp = none → t.nvmc.queue = [] → exec .nvmOpStart s = .next t.settle) ∧
     (∀ r : NvmRun, s.domReady 1 = true → t.nvmc.cur = some r → (r.op.erase && t.nvmc.queue.any NvmOp.ahead) = false →
       exec .nvmOpStart s = .next t.settle) ∧
     (∀ r : NvmRun, s.domReady 1 = true → t.nvmc.cur = none → t.nvmc.susp = some r → t.nvmc.queue.any NvmOp.ahead = false →
       ∃ u : State, exec .nvmOpStart s = .next u.settle ∧ u.nvmc.cur = some { r with at' := s.now } ∧ u.nvmc.susp = none) ∧
     (∀ (r : NvmRun) (o : NvmOp) (rest : List NvmOp), s.domReady 1 = true → t.nvmc.cur = none → t.nvmc.susp = some r →
       t.nvmc.queue.any NvmOp.ahead = true → nvmPick t.nvmc.queue = some (o, rest) →
       ∃ u : State, exec .nvmOpStart s = .next u.settle ∧ u.nvmc.susp = some r ∧ u.nvmc.queue = rest ∧
         u.nvmc.cur = some { op := o, at' := s.now, left := o.maxTicks })) ∧
    (s.nvmc.cur = none → (∀ ticks : Nat, exec (.nvmOpDone ticks) s = .next s.settle) ∧ exec .nvmOpTimeout s = .next s.settle) ∧
    (∀ r : NvmRun, s.nvmc.cur = some r →
      (∀ ticks : Nat, ∃ u : State, exec (.nvmOpDone ticks) s = .next u.settle ∧ u.nvmc.cur = none ∧
        max s.now (r.at' + min ticks r.left) ≤ u.now ∧
        (r.op.erase = true → ∀ a : Nat, u.nvmByte a = if nvmSector a = nvmSector r.op.off then 0xFF#8 else s.nvmByte a) ∧
        (r.op.erase = false → ∀ a : Nat, u.nvmByte a =
          if r.op.off ≤ a ∧ a < r.op.off + r.op.data.length then s.nvmByte a &&& nth 0#8 r.op.data (a - r.op.off) else s.nvmByte a)) ∧
      (∃ u : State, exec .nvmOpTimeout s = .next u.settle ∧ u.nvmc.cur = none ∧ max s.now (r.at' + r.left + 1) ≤ u.now ∧
        (s.domOn 1 = true → u.flag F.NVM_STAT_PFAIL = true ∧ u.bitOf (pgEvt Pg.NVM) 2 = true) ∧
        (∀ a : Nat, (if r.op.erase then nvmSector a ≠ nvmSector r.op.off else a / 256 ≠ r.op.off / 256) →
          u.nvmByte a = s.nvmByte a))) ∧
    (∀ (who : Who) (addr width : Nat) (ecc : Fin 3),
      let t := s.accessRead who addr width
      ((inNvm addr = false ∨ t.lastStatus ≠ .ok ∨ ecc.val = 0) → exec (.nvmRead who addr width ecc) s = .next t.settle) ∧
      (inNvm addr = true → width ∈ [1, 2, 4] → addr % width = 0 →
        (s.nvmBusySector (nvmOff addr) = true → t.lastStatus = .notReady ∧ t.lastRead = 0#32 ∧ s.Keeps t (fun _ => False)) ∧
        (s.nvmBusySector (nvmOff addr) = false → t.lastStatus = .ok ∧ s.Keeps t (fun _ => False) ∧
          t.lastRead = wordOf ((List.range width).map (fun i => s.nvmShown (nvmOff addr + i))) ∧
          (ecc.val = 1 → ∃ u : State, exec (.nvmRead who addr width ecc) s = .next u.settle ∧ u.lastRead = t.lastRead ∧
            u.get F.NVM_ECCCNT_CORR = (s.get F.NVM_ECCCNT_CORR + 1) % 65536 ∧ s.Keeps u (fun a => a = Reg.NVM_ECCCNT)) ∧
          (ecc.val = 2 → ∃ u : State, exec (.nvmRead who addr width ecc) s = .next u.settle ∧ u.lastRead = 0#32 ∧ u.lastStatus = .ok ∧
            u.get F.NVM_ECCCNT_UNCORR = (s.get F.NVM_ECCCNT_UNCORR + 1) % 65536 ∧
            u.get F.NVM_ERRADDR_NVM = nvmOff addr % 2 ^ F.NVM_ERRADDR_NVM.len ∧
            (s.domOn 1 = true → u.bitOf (pgEvt Pg.NVM) 1 = true))))) ∧
    (let stands := s.flag F.LOG_STAT_SCANNED || !s.domReady 1 || decide (s.log.running ≠ 0)
     (stands = true → exec .logScanDone s = .next s.settle) ∧
     (stands = false → ∃ u : State, exec .logScanDone s = .next u.settle ∧ u.flag F.LOG_STAT_SCANNED = true ∧ u.log.scanned = true ∧
       u.logHead = s.scanHead.1 % 8192 ∧ u.logTail = s.scanHead.2 % 8192 ∧
       s.Keeps u (fun a => a = Reg.LOG_HEAD ∨ a = Reg.LOG_TAIL ∨ a = Reg.LOG_STAT))) ∧
    (∀ (who : Who) (val : Word), s.serves Reg.LOG_CFG = true →
      let m := (s.granted (some Reg.LOG_CFG)).plainStore Reg.LOG_CFG (wputBit val 0 true)
      exec (.logFlush who val) s = .next (m.logAsk.accepted Pg.LOG).settle ∧
      (∀ (r : LogRec) (rest : List LogRec), s.log.running = 0 → s.flag F.LOG_STAT_SCANNED = true → m.live Pg.LOG = true →
        s.log.staged = r :: rest → ∃ (u : State) (o : NvmOp), exec (.logFlush who val) s = .next u.settle ∧ u.lastStatus = .ok ∧
          u.nvmc.queue = s.nvmc.queue ++ [o] ∧ o.erase = false ∧ o.off = ringOff s.logHead ∧ o.owner = .elog ∧
          u.flag F.LOG_STAT_BUSY = true ∧ u.log.running ≠ 0) ∧
      ((s.log.running ≠ 0 ∨ s.flag F.LOG_STAT_SCANNED = false ∨ s.log.staged = []) →
        ∃ u : State, exec (.logFlush who val) s = .next u.settle ∧ u.lastStatus = .ok ∧ u.nvmc = s.nvmc ∧ u.log = s.log ∧
          s.Keeps u (fun a => a = Reg.LOG_CFG ∨ a = pgSeq Pg.LOG))) ∧
    (∀ (who : Who) (k : Fin 23) (val : Word), s.serves (Reg.PINS_FUNC k) = true →
      let g := s.granted (some (Reg.PINS_FUNC k))
      (s.funcRefused k val = true →
        exec (.pinsFuncWrite who k val) s = .next ((g.setW1c (pgErr Pg.PINS) 1).told .locked).settle) ∧
      (s.funcRefused k val = false → ∃ u : State, exec (.pinsFuncWrite who k val) s = .next u.settle ∧ u.lastStatus = .ok ∧
        wbits (u.reg (Reg.PINS_FUNC k)) 0 3 = wbits val 0 3 ∧
        s.Keeps u (fun a => a = Reg.PINS_FUNC k ∨ a = pgSeq Pg.PINS))) ∧
    (∀ (pin : Fin 3) (level : Bool), ∃ u : State, exec (.gpioEdge pin level) s = .next u.settle ∧
      u.pins.gpio.getLsbD pin.val = level ∧ (∀ j < 3, j ≠ pin.val → u.pins.gpio.getLsbD j = s.pins.gpio.getLsbD j) ∧
      s.Keeps u (fun _ => False)) ∧
    (s.domReady 1 = false → exec .bypass s = .next s.settle ∧
      (∀ cells : Option (List Bool), exec (.extest cells) s = .next s.settle ∧ exec (.samplePreload cells) s = .next s.settle)) ∧
    (s.domReady 1 = true →
      (∃ u : State, exec .bypass s = .next u.settle ∧ u.jtag = { s.jtag with ir := 0xF#4 } ∧ s.Keeps u (fun _ => False)) ∧
      (∀ cells : Option (List Bool), s.gd.armed = true →
        ∃ u : State, exec (.extest cells) s = .next u.settle ∧ u.jtag = { s.jtag with ir := 0xF#4 }) ∧
      (s.gd.armed = false →
        (∃ u : State, exec (.extest none) s = .next u.settle ∧ u.jtag = { s.jtag with ir := 0#4 } ∧ s.Keeps u (fun _ => False)) ∧
        (∀ cells : List Bool, ∃ u : State, exec (.extest (some cells)) s = .next u.settle ∧ u.jtag.ir = 0#4 ∧ u.jtag.latch = cells ∧
          u.jtag.captured.length = boundaryCells.length ∧ s.Keeps u (fun _ => False))) ∧
      (∃ u : State, exec (.samplePreload none) s = .next u.settle ∧ u.jtag = { s.jtag with ir := 2#4 } ∧ s.Keeps u (fun _ => False)) ∧
      (∀ cells : List Bool, ∃ u : State, exec (.samplePreload (some cells)) s = .next u.settle ∧ u.jtag.ir = 2#4 ∧
        u.jtag.latch = cells ∧ u.jtag.captured.length = boundaryCells.length ∧ s.Keeps u (fun _ => False)))
end

