-- ==== Sys2Proof/Laws/Granted.lean ====
section
/-! SUPPORT. The grant of an access (R18): it takes the beat of the present tick, or of the next one where that is taken, and
changes nothing but the beat and what a tick's passing changes. -/

namespace Sys2Proof.Machine

variable (s : State)

theorem State.nextGrant_cases : s.nextGrant = s ∨ s.nextGrant = s.elapse 1 := by
  unfold State.nextGrant
  split
  · split
    · exact .inr rfl
    · exact .inl rfl
  · exact .inl rfl

/-- All that a grant does. -/
theorem State.granted_cases (w : Option Nat) : s.granted w = { s with beat := some (s.now, w) } ∨
    s.granted w = { s.elapse 1 with beat := some ((s.elapse 1).now, w) } := by
  unfold State.granted
  rcases s.nextGrant_cases with h | h <;> rw [h]
  · exact .inl rfl
  · exact .inr rfl

/-- Where the tick's beat is free the access is granted in it. -/
theorem State.granted_free (w : Option Nat) (h : s.beat = none) : s.granted w = { s with beat := some (s.now, w) } := by
  unfold State.granted State.nextGrant
  rw [h]

theorem State.granted_now_le (w : Option Nat) : s.now ≤ (s.granted w).now ∧ (s.granted w).now ≤ s.now + 1 := by
  rcases s.granted_cases w with h | h <;> rw [h]
  · exact ⟨Nat.le_refl _, Nat.le_succ _⟩
  · exact ⟨Nat.le_succ _, Nat.le_refl _⟩

@[simp] theorem State.granted_pending (w : Option Nat) : (s.granted w).pending = s.pending := by
  rcases s.granted_cases w with h | h <;> rw [h] <;> rfl
@[simp] theorem State.granted_regs (w : Option Nat) : (s.granted w).regs = s.regs := by
  rcases s.granted_cases w with h | h <;> rw [h] <;> rfl
@[simp] theorem State.granted_sram (w : Option Nat) : (s.granted w).sram = s.sram := by
  rcases s.granted_cases w with h | h <;> rw [h] <;> rfl
@[simp] theorem State.granted_nvm (w : Option Nat) : (s.granted w).nvm = s.nvm := by
  rcases s.granted_cases w with h | h <;> rw [h] <;> rfl
@[simp] theorem State.granted_freeIdx (w : Option Nat) : (s.granted w).freeIdx = s.freeIdx := by
  rcases s.granted_cases w with h | h <;> rw [h] <;> rfl
@[simp] theorem State.granted_evq (w : Option Nat) : (s.granted w).evq = s.evq := by
  rcases s.granted_cases w with h | h <;> rw [h] <;> rfl
@[simp] theorem State.granted_lastStatus (w : Option Nat) : (s.granted w).lastStatus = s.lastStatus := by
  rcases s.granted_cases w with h | h <;> rw [h] <;> rfl
@[simp] theorem State.granted_lastRead (w : Option Nat) : (s.granted w).lastRead = s.lastRead := by
  rcases s.granted_cases w with h | h <;> rw [h] <;> rfl
@[simp] theorem State.granted_irqc (w : Option Nat) : (s.granted w).irqc = s.irqc := by
  rcases s.granted_cases w with h | h <;> rw [h] <;> rfl
@[simp] theorem State.granted_log (w : Option Nat) : (s.granted w).log = s.log := by
  rcases s.granted_cases w with h | h <;> rw [h] <;> rfl
@[simp] theorem State.granted_nvmc (w : Option Nat) : (s.granted w).nvmc = s.nvmc := by
  rcases s.granted_cases w with h | h <;> rw [h] <;> rfl
@[simp] theorem State.granted_cmp (w : Option Nat) : (s.granted w).cmp = s.cmp := by
  rcases s.granted_cases w with h | h <;> rw [h] <;> rfl
@[simp] theorem State.granted_adc (w : Option Nat) : (s.granted w).adc = s.adc := by
  rcases s.granted_cases w with h | h <;> rw [h] <;> rfl
@[simp] theorem State.granted_cht (w : Option Nat) : (s.granted w).cht = s.cht := by
  rcases s.granted_cases w with h | h <;> rw [h] <;> rfl
@[simp] theorem State.granted_qdl (w : Option Nat) : (s.granted w).qdl = s.qdl := by
  rcases s.granted_cases w with h | h <;> rw [h] <;> rfl
@[simp] theorem State.granted_ctl (w : Option Nat) : (s.granted w).ctl = s.ctl := by
  rcases s.granted_cases w with h | h <;> rw [h] <;> rfl
@[simp] theorem State.granted_spec (w : Option Nat) : (s.granted w).spec = s.spec := by
  rcases s.granted_cases w with h | h <;> rw [h] <;> rfl
@[simp] theorem State.granted_dma (w : Option Nat) : (s.granted w).dma = s.dma := by
  rcases s.granted_cases w with h | h <;> rw [h] <;> rfl
@[simp] theorem State.granted_mode (w : Option Nat) : (s.granted w).mode = s.mode := by
  rcases s.granted_cases w with h | h <;> rw [h] <;> rfl
@[simp] theorem State.granted_pwm (w : Option Nat) : (s.granted w).pwm = s.pwm := by
  rcases s.granted_cases w with h | h <;> rw [h] <;> rfl
@[simp] theorem State.granted_gd (w : Option Nat) : (s.granted w).gd = s.gd := by
  rcases s.granted_cases w with h | h <;> rw [h] <;> rfl
@[simp] theorem State.granted_prot (w : Option Nat) : (s.granted w).prot = s.prot := by
  rcases s.granted_cases w with h | h <;> rw [h] <;> rfl
@[simp] theorem State.granted_safe (w : Option Nat) : (s.granted w).safe = s.safe := by
  rcases s.granted_cases w with h | h <;> rw [h] <;> rfl
@[simp] theorem State.granted_rly (w : Option Nat) : (s.granted w).rly = s.rly := by
  rcases s.granted_cases w with h | h <;> rw [h] <;> rfl
@[simp] theorem State.granted_hrm (w : Option Nat) : (s.granted w).hrm = s.hrm := by
  rcases s.granted_cases w with h | h <;> rw [h] <;> rfl
@[simp] theorem State.granted_hsw (w : Option Nat) : (s.granted w).hsw = s.hsw := by
  rcases s.granted_cases w with h | h <;> rw [h] <;> rfl
@[simp] theorem State.granted_ctx (w : Option Nat) : (s.granted w).ctx = s.ctx := by
  rcases s.granted_cases w with h | h <;> rw [h] <;> rfl
@[simp] theorem State.granted_ldg (w : Option Nat) : (s.granted w).ldg = s.ldg := by
  rcases s.granted_cases w with h | h <;> rw [h] <;> rfl
@[simp] theorem State.granted_bus (w : Option Nat) : (s.granted w).bus = s.bus := by
  rcases s.granted_cases w with h | h <;> rw [h] <;> rfl
@[simp] theorem State.granted_host (w : Option Nat) : (s.granted w).host = s.host := by
  rcases s.granted_cases w with h | h <;> rw [h] <;> rfl
@[simp] theorem State.granted_sb (w : Option Nat) : (s.granted w).sb = s.sb := by
  rcases s.granted_cases w with h | h <;> rw [h] <;> rfl
@[simp] theorem State.granted_pins (w : Option Nat) : (s.granted w).pins = s.pins := by
  rcases s.granted_cases w with h | h <;> rw [h] <;> rfl
@[simp] theorem State.granted_jtag (w : Option Nat) : (s.granted w).jtag = s.jtag := by
  rcases s.granted_cases w with h | h <;> rw [h] <;> rfl
@[simp] theorem State.granted_reg (w : Option Nat) (a : Nat) : (s.granted w).reg a = s.reg a := by
  rcases s.granted_cases w with h | h <;> rw [h] <;> rfl
@[simp] theorem State.granted_bitOf (w : Option Nat) (a b : Nat) : (s.granted w).bitOf a b = s.bitOf a b := by
  rcases s.granted_cases w with h | h <;> rw [h] <;> rfl
@[simp] theorem State.granted_get (w : Option Nat) (f : Field) : (s.granted w).get f = s.get f := by
  rcases s.granted_cases w with h | h <;> rw [h] <;> rfl
@[simp] theorem State.granted_flag (w : Option Nat) (f : Field) : (s.granted w).flag f = s.flag f := by
  rcases s.granted_cases w with h | h <;> rw [h] <;> rfl
@[simp] theorem State.granted_nvmByte (w : Option Nat) (a : Nat) : (s.granted w).nvmByte a = s.nvmByte a := by
  rcases s.granted_cases w with h | h <;> rw [h] <;> rfl
@[simp] theorem State.granted_domReady (w : Option Nat) (k : Nat) : (s.granted w).domReady k = s.domReady k := by
  rcases s.granted_cases w with h | h <;> rw [h] <;> rfl
@[simp] theorem State.granted_domOn (w : Option Nat) (k : Nat) : (s.granted w).domOn k = s.domOn k := by
  rcases s.granted_cases w with h | h <;> rw [h] <;> rfl
@[simp] theorem State.granted_pageStatus (w : Option Nat) (p : Nat) : (s.granted w).pageStatus p = s.pageStatus p := by
  rcases s.granted_cases w with h | h <;> rw [h] <;> rfl
@[simp] theorem State.granted_serves (w : Option Nat) (a : Nat) : (s.granted w).serves a = s.serves a := by
  rcases s.granted_cases w with h | h <;> rw [h] <;> rfl
@[simp] theorem State.granted_enRefused (w : Option Nat) (p : Nat) : (s.granted w).enRefused p = s.enRefused p := by
  rcases s.granted_cases w with h | h <;> rw [h] <;> rfl
@[simp] theorem State.granted_live (w : Option Nat) (p : Nat) : (s.granted w).live p = s.live p := by
  rcases s.granted_cases w with h | h <;> rw [h] <;> rfl
@[simp] theorem State.granted_pageEn (w : Option Nat) (p : Nat) : (s.granted w).pageEn p = s.pageEn p := by
  rcases s.granted_cases w with h | h <;> rw [h] <;> rfl

/-! What stands in the non-volatile memory is what a grant leaves there. -/

@[simp] theorem State.granted_nvmBytes (w : Option Nat) (o n : Nat) : (s.granted w).nvmBytes o n = s.nvmBytes o n := by
  induction n generalizing o with
  | zero => rfl
  | succ n ih => rw [State.nvmBytes, State.nvmBytes, State.granted_nvmByte, ih]

@[simp] theorem State.granted_nvmWord (w : Option Nat) (o : Nat) : (s.granted w).nvmWord o = s.nvmWord o := by
  rw [State.nvmWord, State.nvmWord, State.granted_nvmBytes]

@[simp] theorem State.granted_placeValid (w : Option Nat) (k : Nat) : (s.granted w).placeValid k = s.placeValid k := by
  rw [State.placeValid, State.placeValid, State.granted_nvmBytes, State.granted_nvmWord]

@[simp] theorem State.granted_newerPlace (w : Option Nat) (n : Nat) (b : Bool) (r : Option Nat) :
    (s.granted w).newerPlace n b r = s.newerPlace n b r := by
  cases b <;> cases r <;> simp only [State.newerPlace, State.granted_nvmWord]

@[simp] theorem State.granted_safetyPlace (w : Option Nat) (n : Nat) : (s.granted w).safetyPlace n = s.safetyPlace n := by
  induction n with
  | zero => rfl
  | succ n ih => rw [State.safetyPlace, State.safetyPlace, ih, State.granted_placeValid, State.granted_newerPlace]

@[simp] theorem State.granted_safetySet (w : Option Nat) : (s.granted w).safetySet = s.safetySet := s.granted_safetyPlace w 8

@[simp] theorem State.granted_profileWords (w : Option Nat) (p : Nat) : (s.granted w).profileWords p = s.profileWords p := by
  rw [State.profileWords, State.profileWords, State.granted_safetySet, funext (s.granted_nvmWord w)]
  cases s.safetySet with
  | none => rfl
  | some k => dsimp only; rw [State.granted_nvmBytes]

@[simp] theorem State.granted_sealProfile (w : Option Nat) : (s.granted w).sealProfile = s.sealProfile := by
  rcases s.granted_cases w with h | h <;> rw [h] <;> rfl

@[simp] theorem State.granted_profileDiff (w : Option Nat) : (s.granted w).profileDiff = s.profileDiff := by
  rw [State.profileDiff, State.profileDiff, State.granted_sealProfile, State.granted_profileWords, funext (s.granted_reg w)]

end Sys2Proof.Machine
end

