-- ==== Sys2Proof/Laws/Units.lean ====
section
/-! SUPPORT. What a served write of PG_CTRL, of a register with a QUAR field and of a word of SRAM is; what the first slice of a
command is; and small facts about bits, lists and saturating counters. -/

namespace Sys2Proof.Machine

/-- Every row ends in the review of what follows by itself. -/
theorem exec_settles (c : Instr) (s : State) : ∃ u : State, exec c s = .next u.settle := by
  cases c <;> exact ⟨_, rfl⟩

theorem foldl_inv {α β : Type} (P : β → Prop) (f : β → α → β) (h : ∀ b a, P b → P (f b a)) (l : List α) (b : β)
    (hb : P b) : P (l.foldl f b) := by
  induction l generalizing b with
  | nil => exact hb
  | cons x l ih => exact ih _ (h _ _ hb)

theorem satTo_eq_min (m n : Nat) : satTo m n = min m n := by unfold satTo; split <;> omega

@[simp] theorem wbit_wputBit_self (w : Word) (b : Nat) (v : Bool) (h : b < 32) : wbit (wputBit w b v) b = v := by
  rw [wbit, getLsbD_wputBit]; simp [h]

theorem wbit_wputBit_ne (w : Word) {b c : Nat} (v : Bool) (h : c ≠ b) : wbit (wputBit w b v) c = wbit w c := by
  simp [wbit, getLsbD_wputBit, h]

theorem modAt_nth {α : Type} (d : α) (f : α → α) (l : List α) (i : Nat) (h : i < l.length) :
    nth d (modAt i f l) i = f (nth d l i) := by
  induction l generalizing i with
  | nil => cases h
  | cons x l ih =>
    cases i with
    | zero => rfl
    | succ j => exact ih j (by simpa using h)

theorem State.get_incSat_self (s : State) (f : Field) (h : f.lo + f.len ≤ 32) (h1 : 0 < f.len) :
    (s.incSat f).get f = min (2 ^ f.len - 1) (s.get f + 1) := by
  have : 0 < 2 ^ f.len := Nat.two_pow_pos _
  rw [State.incSat, State.get_put_self _ _ _ h, satTo_eq_min, Nat.mod_eq_of_lt (by omega)]

/-- What being served says of a register's address and page. -/
theorem State.serves_ok {s : State} {a : Nat} (h : s.serves a = true) :
    inRegs a = true ∧ a % 4 = 0 ∧ s.pageStatus (a / 0x1000) = .ok ∧ (ctlHolds a && s.ctl.run.isSome) = false := by
  simp only [State.serves, Bool.and_eq_true, decide_eq_true_eq, Bool.not_eq_true'] at h
  obtain ⟨⟨⟨⟨⟨k1, k2⟩, k3⟩, k4⟩, k5⟩, k6⟩ := h
  exact ⟨k1, k2, k4, k6⟩

/-- A write of PG_CTRL on a page that is served is the header's own write. -/
theorem State.writeNow_pgCtrl (s : State) (who : Who) {p : Nat} (hp : p < 64) (v : Word) (h : s.pageStatus p = .ok) :
    s.writeNow who (pgCtrl p) v = (s.ctrlWrite who p v).1.told (s.ctrlWrite who p v).2 := by
  have e1 : pgCtrl p / 0x1000 = p := by simp only [pgCtrl]; omega
  have e2 : pgCtrl p % 0x1000 = 0x00C := by simp only [pgCtrl]; omega
  have e3 : pgCtrl p % 4 = 0 := by simp only [pgCtrl]; omega
  have e4 : inRegs (pgCtrl p) = true := by
    have : pgCtrl p < 0x40000 := by simp only [pgCtrl]; omega
    simp [inRegs, this]
  rw [State.writeNow_served s e4 e3 (by rw [e1]; exact h)
    (by rw [ctlHolds, e2]; simp)]
  simp [State.regWrite, e1, e2, State.headerWrite]

theorem directReg_of (f : Nat → Nat) (m : Nat) (h : ∀ n < m, directReg (f n) = true) {n : Nat} (hn : n < m) :
    directReg (f n) = true := h n hn

/-- The register that holds a unit's QUAR field is a register of its page with no rule of ownership or power. -/
theorem unitField_direct {p n a b : Nat} (hu : unitField p n = some (a, b)) :
    directReg a = true ∧ a / 0x1000 = p ∧ (p = 0x08 → 0x08100 ≤ a ∧ (a - 0x08100) % 0x80 = 0) := by
  unfold unitField at hu
  split at hu
  · cases hu
  · rename_i hn
    split at hu
    case h_9 => cases hu
    all_goals (simp only [pageUnits, Nat.not_le] at hn; cases hu)
    · exact ⟨directReg_of Reg.CTX_QUAR 8 (by decide) (by omega), by simp only [Reg.CTX_QUAR]; omega,
        fun h => absurd h (by decide)⟩
    · exact ⟨directReg_of Reg.DMA_CH_CTRL 16 (by decide) hn, by simp only [Reg.DMA_CH_CTRL]; omega,
        fun _ => by simp only [Reg.DMA_CH_CTRL]; omega⟩
    · exact ⟨by decide, by decide, by decide⟩
    · exact ⟨directReg_of Reg.ADCX_CH_CTRL 8 (by decide) hn, by simp only [Reg.ADCX_CH_CTRL]; omega,
        fun h => absurd h (by decide)⟩
    · exact ⟨directReg_of Reg.ADCI_CH_CTRL 10 (by decide) hn, by simp only [Reg.ADCI_CH_CTRL]; omega,
        fun h => absurd h (by decide)⟩
    · exact ⟨directReg_of Reg.CMP_CTRL 16 (by decide) hn, by simp only [Reg.CMP_CTRL]; omega,
        fun h => absurd h (by decide)⟩
    · exact ⟨directReg_of Reg.GD_LEG_CTRL 7 (by decide) hn, by simp only [Reg.GD_LEG_CTRL]; omega,
        fun h => absurd h (by decide)⟩
    · exact ⟨directReg_of Reg.HSW_CTRL 2 (by decide) hn, by simp only [Reg.HSW_CTRL]; omega,
        fun h => absurd h (by decide)⟩

theorem State.unitField_ok (s : State) (who : Who) {p n a b : Nat} (hu : unitField p n = some (a, b)) (v : Word) :
    (s.blockWrite who false a v).2 = .ok := by
  obtain ⟨-, hp, h8⟩ := unitField_direct hu
  unfold State.blockWrite
  rw [hp]
  unfold unitField at hu
  split at hu
  · cases hu
  · split at hu
    case h_9 => cases hu
    case h_2 =>
      obtain ⟨h1, h2⟩ := h8 rfl
      simp only [State.dmaPageWrite, h2, if_neg (Nat.not_lt.2 h1), if_true]
    all_goals rfl

/-! A leg that enters quarantine changes no register and no byte. -/

theorem State.legQuar_reg (s : State) (n a : Nat) : (s.legQuar n).reg a = s.reg a := by
  unfold State.legQuar; dsimp only; split <;> rfl

theorem State.legQuar_sram (s : State) (n : Nat) : (s.legQuar n).sram = s.sram := by
  unfold State.legQuar; dsimp only; split <;> rfl

theorem State.legQuar_nvm (s : State) (n : Nat) : (s.legQuar n).nvm = s.nvm := by
  unfold State.legQuar; dsimp only; split <;> rfl

/-! ### Words of SRAM -/

@[simp] theorem State.dmaSnoop_regs (s : State) (k : Nat) : (s.dmaSnoop k).regs = s.regs := rfl
@[simp] theorem State.dmaSnoop_sram (s : State) (k : Nat) : (s.dmaSnoop k).sram = s.sram := rfl
@[simp] theorem State.dmaSnoop_nvm (s : State) (k : Nat) : (s.dmaSnoop k).nvm = s.nvm := rfl

theorem State.sramNotice_frame (s : State) {b : Nat} (k : Nat) (n : Option Nat) (w : Word) (hb : b ≠ 2) :
    (s.sramNotice b k n w).regs = s.regs ∧ (s.sramNotice b k n w).nvm = s.nvm ∧ (s.sramNotice b k n w).sram = s.sram := by
  unfold State.sramNotice
  rw [if_neg hb]
  (repeat' split) <;> exact ⟨rfl, rfl, rfl⟩

theorem State.sramWrite_frame (s : State) (a : Nat) (bs : List Byte) (hb : bankOf a ≠ 2) :
    (s.sramWrite a bs).regs = s.regs ∧ (s.sramWrite a bs).nvm = s.nvm ∧
      (s.sramWrite a bs).sram = (s.setSramBytes a bs).sram := by
  have := (s.setSramBytes a bs).sramNotice_frame (b1Slot a) (tenantW0 (a - a % 4)) (s.sramWord (a - a % 4)) hb
  exact ⟨this.1.trans (State.setSramBytes_regs ..), this.2.1.trans (State.setSramBytes_nvm ..), this.2.2⟩

/-- The bytes of a write outside B2 and no others change. -/
theorem State.sramByte_sramWrite (s : State) (a : Nat) (bs : List Byte) (hb : bankOf a ≠ 2) (b : Nat) :
    (s.sramWrite a bs).sramByte b = (s.setSramBytes a bs).sramByte b := by
  simp only [State.sramByte, (s.sramWrite_frame a bs hb).2.2]

theorem State.writeNow_sram (s : State) {who : Who} {a : Nat} {v : Word} (h1 : inSram a = true) (h2 : a % 4 = 0)
    (h : s.bankOn (bankOf a) = true) : s.writeNow who a v = (s.sramWrite a (wbytes v)).told .ok := by
  have hn : ¬ a % 4 ≠ 0 := fun x => x h2
  have hb : (!s.bankOn (bankOf a)) = false := by rw [h]; rfl
  unfold State.writeNow State.busWriteN
  rw [if_pos h1, if_neg hn, hb]
  rfl

theorem State.writeNow_sramOff (s : State) {who : Who} {a : Nat} {v : Word} (h1 : inSram a = true) (h2 : a % 4 = 0)
    (h : s.bankOn (bankOf a) = false) : s.writeNow who a v = s.told .domainOff := by
  have hn : ¬ a % 4 ≠ 0 := fun x => x h2
  have hb : (!s.bankOn (bankOf a)) = true := by rw [h]; rfl
  unfold State.writeNow State.busWriteN
  rw [if_pos h1, if_neg hn, hb]
  rfl

theorem State.busReadN_sramOff (s : State) {who : Who} {a : Nat} (h1 : inSram a = true) (h2 : a % 4 = 0)
    (h : s.bankOn (bankOf a) = false) : s.busReadN who a 4 = (0#32, .domainOff, s) := by
  have hn : ¬ a % 4 ≠ 0 := fun x => x h2
  have hb : (!s.bankOn (bankOf a)) = true := by rw [h]; rfl
  unfold State.busReadN
  rw [if_pos h1, if_neg hn, hb]
  rfl

/-! ### The first slice of a command -/

theorem State.sliceOf_starts {s : State} {k op : Nat} {c : Cmd} (h : s.starts k c) (ho : c.op = op) :
    s.sliceOf op = (s.started k c).runOp c.going := by
  obtain ⟨h1, h2, h3, h4⟩ := h
  simp only [State.sliceOf, h1, ho, if_true, State.runSlice, h4, h2, h3, State.started, Cmd.going, Bool.false_eq_true, if_false]

end Sys2Proof.Machine
end

