-- ==== Sys2Proof/WellFormed.lean ====
section
/-! DEFINITION. Which commands are well formed: the operand values that the world outside the block can send. A machine step is
total: it gives a command that is not well formed an effect too, and no such command comes from a sender of the spec. -/

namespace Sys2Proof

/-- The identities of the masters (R290). -/
def Who.wf (w : Who) : Bool :=
  let m := w.master.toNat
  (decide (1 ≤ m) && decide (m ≤ 4)) || (decide (0x10 ≤ m) && decide (m ≤ 0x20)) || decide (m = 0x30) || decide (m = 0x40)

/-- Bus addresses have 24 bits (spec/02); accesses have 1, 2 or 4 bytes. -/
def busAddr (a : Nat) : Bool := decide (a < 2 ^ 24)
def busWidth (n : Nat) : Bool := decide (n = 1) || decide (n = 2) || decide (n = 4)

/-- A frame on a wire has at most 4,096 bytes here; the longest the spec gives is a Gen-B burst (R429). -/
def frameOk (bs : List Byte) : Bool := decide (bs.length ≤ 4096)

/-- A ratio of VKEEP in 1/65,536 (R284). -/
def ratioOk (r : Nat) : Bool := decide (r ≤ 65536)

/-- The longest window has 829 bits with the 63 before it (R106); an AIN pin and no other is given as a voltage, up to 3.6 V. -/
def streamOk (ch : Fin 18) : Stream → Bool
  | .bits b => decide (b < 2 ^ 829)
  | .line edges => decide (ch.val < 8) && decide (edges.length ≤ 4096)
  | .pin uV => decide (8 ≤ ch.val) && decide (uV ≤ 3600000)

/-- The command's operands are in range. -/
def Instr.wellFormed : Instr → Bool
  | .registerWrite who addr _ => who.wf && busAddr addr
  | .pageEnable who _ _ => who.wf
  | .softReset who _ _ => who.wf
  | .softResetDone _ => true
  | .unitQuarantine who _ unit _ => who.wf && decide (unit < 256)
  | .pageQuarantine who _ _ => who.wf
  | .hostClear who _ unit _ => who.wf && unit.all (fun n => decide (n < 256))
  | .eventSet who _ _ => who.wf
  | .qualificationWindowEnd _ unit => decide (unit < 256)
  | .cpsUpdate => true
  | .bearCycleIncrement => true
  | .bearingTick => true
  | .blendEnd => true
  | .waypointFire _ => true
  | .chtWpAngleWrite who _ _ => who.wf
  | .chtWpRepWrite who _ _ => who.wf
  | .cntclr who _ => who.wf
  | .leadFrameSend _ => true
  | .leadFrameReceive bytes => frameOk bytes
  | .followerFrameSend => true
  | .followerFrameReceive bytes => frameOk bytes
  | .bsyncEdge => true
  | .echoSend => true
  | .echoReceive m => decide (m ≤ 3600)
  | .echoTimeout => true
  | .leadMissing => true
  | .qdlListenTimeout => true
  | .claimLead => true
  | .qdlLeadlost => true
  | .adcCOutput ch x => streamOk ch x
  | .adcMSample _ whole _ => decide (whole.natAbs ≤ 4)
  | .adcSwtrig who _ _ _ => who.wf
  | .adcResultRead who addr => who.wf && busAddr addr
  | .adcStuck _ => true
  | .adcClkloss _ => true
  | .adcStuckClear r => r.stuck || r.clk
  | .adcRefReady => true
  | .adcChCtrlWrite who _ _ => who.wf
  | .adcxClkCfgWrite who _ => who.wf
  | .ctlSwtrig who _ _ => who.wf
  | .ctlStepStart => true
  | .ctlFetch => true
  | .ctlSlot => true
  | .ctlXform => true
  | .ctlModu => true
  | .ctlPwmw => true
  | .ctlLoad => true
  | .ctlRate => true
  | .ctlRamp => true
  | .ctlMov => true
  | .ctlAdd => true
  | .ctlSub => true
  | .ctlMul => true
  | .ctlFma => true
  | .ctlClamp => true
  | .ctlKonst => true
  | .ctlEnd => true
  | .ctlIllegalEntry => true
  | .ctlFetchResume => true
  | .ctlFixTimeout => true
  | .ctlRecompute => true
  | .ctlReplay => true
  | .stepWithdraw => true
  | .beartunePlace => true
  | .ctlBeartuneSet who _ _ => who.wf
  | .ctlSclr who _ _ => who.wf
  | .ctlLatmaxClr who _ => who.wf
  | .specFixDeadline => true
  | .controlledTripShutdown => true
  | .substEnd who _ => who.wf
  | .fixlostRelease who _ => who.wf
  | .specTripClear who => who.wf
  | .specBandWrite who _ _ => who.wf
  | .drCalibrate => true
  | .modeUpdateEnd => true
  | .modeReqWrite who _ => who.wf
  | .modeSet => true
  | .mpptPeriodEnd => true
  | .mpptSweep => true
  | .mpptSweepTimer => true
  | .tb0Period => true
  | .tb1Zero => true
  | .tb1Period => true
  | .pwmCompareEdge _ => true
  | .pwmLoadAll who => who.wf
  | .lateEdgeFire _ => true
  | .refreshEnd _ => true
  | .pwmCfgWrite who _ => who.wf
  | .faultInput _ _ => true
  | .faultHoldExpiry _ => true
  | .shutdownLowOff => true
  | .swsd who _ => who.wf
  | .estop _ => true
  | .estopclr who _ => who.wf
  | .release who _ _ => who.wf
  | .deadTimeEnd _ => true
  | .gminEnd _ => true
  | .elcInput _ _ => true
  | .cmpOccurrence _ uV => decide (uV ≤ 3600000)
  | .fastLaneAssert _ uV => decide (uV ≤ 3600000)
  | .cmpQualify _ => true
  | .cmpCtrlWrite who _ _ => who.wf
  | .routerOutputPulseEnd _ => true
  | .evrSwevt who _ => who.wf
  | .protStageExpiry => true
  | .protFallbackTick => true
  | .frtExit => true
  | .reconReady => true
  | .reconRampEnd => true
  | .profileLoad who _ => who.wf
  | .safetyWrite who addr _ => who.wf && busAddr addr
  | .unlock who => who.wf
  | .lock who => who.wf
  | .unlockWindowEnd => true
  | .lockoutEnd => true
  | .newkey who => who.wf
  | .sealSample ra rb => ratioOk ra && ratioOk rb
  | .safeChange => true
  | .logArchive => true
  | .rlyFbSample _ _ => true
  | .closeRelays who => who.wf
  | .openRelays who => who.wf
  | .weldtest who => who.wf
  | .proofStepEnd => true
  | .pickupTimeout => true
  | .dropoutTimeout => true
  | .permitTimeout => true
  | .weldTestStart => true
  | .relayProof => true
  | .hswEnable who _ _ => who.wf
  | .hswSample _ _ _ => true
  | .hswGateTimeout _ => true
  | .hswLimitChange _ _ => true
  | .hswFaultTimer _ => true
  | .hswShort _ => true
  | .hswRetry _ => true
  | .hswAttemptsClear _ => true
  | .hswQualify _ => true
  | .metCycleClose => true
  | .hrmWindowPlace => true
  | .eclr who _ => who.wf
  | .meterAngleTurn => true
  | .harmSurvey => true
  | .waveCapture => true
  | .uartTransactionStart _ => true
  | .uartResponse _ bytes _ _ => frameOk bytes
  | .uartResponseTimeout _ => true
  | .ledgerPoll => true
  | .autosweepTimer => true
  | .ledgerClose => true
  | .ledgerIntervalClose => true
  | .shed => true
  | .restore => true
  | .shedHoldExpiry => true
  | .tenantSlotWrite who _ _ => who.wf
  | .plantBusUpdateStart => true
  | .plantBusUpdate => true
  | .go who _ _ => who.wf
  | .cont who _ _ => who.wf
  | .stop who _ _ => who.wf
  | .dmaStopDone _ => true
  | .ring who _ _ => who.wf
  | .nop _ => true
  | .moveWord _ => true
  | .moveRound _ => true
  | .moveFunnel _ => true
  | .loop _ => true
  | .wait _ => true
  | .waitPass _ => true
  | .waitTimeout _ => true
  | .signalEvent _ => true
  | .signalIrq _ => true
  | .signalContext _ => true
  | .signalChannel _ => true
  | .setptrSet _ => true
  | .setptrAdd _ => true
  | .setptrLoad _ => true
  | .setptrCopy _ => true
  | .write _ => true
  | .dmaEnd _ => true
  | .dmaIllegal _ => true
  | .dmaResume _ => true
  | .irqcDoorbell who _ => who.wf
  | .irqcPendSet who _ _ => who.wf
  | .irqcPendClear who _ _ => who.wf
  | .irqPacketSend => true
  | .sqTailDoorbell who _ _ => who.wf
  | .contextConfigWrite who _ _ _ => who.wf
  | .cqHeadWrite who _ _ => who.wf
  | .cmdFetch => true
  | .cmdSlice => true
  | .cmdDeadline => true
  | .ctxQualify _ => true
  | .abort => true
  | .readBlock => true
  | .writeBlock => true
  | .atomicRmw => true
  | .nvmWrite => true
  | .nvmErase => true
  | .nvmVerify => true
  | .configCommit => true
  | .configLoad => true
  | .isoTest => true
  | .isoTestSettle => true
  | .selfTest => true
  | .arm => true
  | .armComplete => true
  | .disarm => true
  | .identReport => true
  | .genAFrame bytes _ => frameOk bytes
  | .genBFrame bytes tail => frameOk bytes && decide (tail ≤ 4096)
  | .spiIgnoredFrame bytes => frameOk bytes
  | .spiReservedFrame bytes => frameOk bytes
  | .lnkRead bytes => frameOk bytes
  | .lnkWrite bytes => frameOk bytes
  | .lnkCmd bytes => frameOk bytes
  | .lnkPing bytes => frameOk bytes
  | .lnkCredit bytes => frameOk bytes
  | .lnkReplySend => true
  | .creditPacketSend => true
  | .lnkAligned => true
  | .lnkTrainPing => true
  | .lnkDown invalid _ => decide (invalid ≤ 32)
  | .lnkDownEnd => true
  | .lnkKeepalive => true
  | .lnkAckTimeout => true
  | .lnkRatePropose => true
  | .lnkRateFail => true
  | .sbAddressMatch _ _ => true
  | .sbWrite bytes => frameOk bytes
  | .sbRead n => decide (n ≤ 4096)
  | .sbHoldRelease => true
  | .sbStop => true
  | .pwrStateReq who _ => who.wf
  | .pwrDomainEn who _ => who.wf
  | .domainPowerDown _ => true
  | .domainReady _ => true
  | .transitionEnd => true
  | .wake _ => true
  | .por _ => true
  | .bor _ => true
  | .nrst _ => true
  | .swreset who _ => who.wf
  | .wdtExpiry => true
  | .resetBegin => true
  | .resetRelease ra rb => ratioOk ra && ratioOk rb
  | .xinSelect hz => decide (0 < hz)
  | .pllLock => true
  | .pllLoss => true
  | .musterEnd => true
  | .musterEndWrite who _ => who.wf
  | .rtcSecond => true
  | .lpoCalStart who _ => who.all Who.wf
  | .lpoCalDone meas => decide (0 < meas)
  | .wdtKick who _ => who.wf
  | .wdtWarn => true
  | .tempSample raw => decide (raw.natAbs < 2048)
  | .supplyWarning _ _ => true
  | .vkeepCheck _ => true
  | .identLoaded => true
  | .nvmOpStart => true
  | .nvmOpDone ticks => decide (ticks ≤ 24000000)
  | .nvmOpTimeout => true
  | .nvmRead who addr width _ => who.wf && busAddr addr && busWidth width
  | .logScanDone => true
  | .logFlush who _ => who.wf
  | .logRead => true
  | .pinsFuncWrite who _ _ => who.wf
  | .gpioEdge _ _ => true
  | .extest cells => cells.all (fun c => decide (c.length = 149))
  | .samplePreload cells => cells.all (fun c => decide (c.length = 149))
  | .bypass => true
  | .lnkTrainingStart => true
  | .lnkRateSwitch => true
  | .channelOverload _ ones => decide (ones ≤ 64)
  | .prechargePulseEnd _ => true

end Sys2Proof
end

