-- ==== Sys2Proof/Tests/Slice0.lean ====
section
/-! SUPPORT. Tests of the model on small states: malformed operands, the worked examples of the spec, and for each statement of
Certificates/Slice0 with hypotheses a state and operands that meet them. -/

namespace Sys2Proof.Tests

open Sys2Proof Sys2Proof.Machine

set_option Elab.async false

/-- Every domain on and ready, the muster window over, every listed page at work. -/
def up : State :=
  let s := State.reset
  (List.range 64).foldl (fun t p => if pageListed p then t.putBit (pgCtrl p) 0 true else t)
    { s with pwr := { s.pwr with on := 0xFFF#12, ready := 0xFFF#12, muster := false } }

theorem test_up : up.domOn 11 = true ∧ up.serves Reg.PWM_CFG = true ∧ up.live Pg.GD = true ∧ up.pageEn 0x28 = true := by decide +kernel

/-- A sender, and one that is no master. -/
def gw : Who := { master := 0x02#8, ctx := 4#8 }
def nobody : Who := { master := 0#8, ctx := 0#8 }

/-- One ill-formed command for each check of WellFormed.lean, and the limit of each. -/
theorem test_ill_formed : ∀ i ∈ [Instr.pageEnable nobody 0 1#32, .registerWrite gw (2 ^ 24) 0#32, .unitQuarantine gw 0 256 1#32,
    .hostClear gw 0 (some 256) 0#32, .qualificationWindowEnd 0 256, .leadFrameReceive (List.replicate 4097 0#8), .echoReceive 3601,
    .adcCOutput 0 (.bits (2 ^ 829)), .adcCOutput 7 (.pin 0), .adcCOutput 8 (.line []), .adcCOutput 8 (.pin 3600001),
    .adcMSample 0 5 0, .adcMSample 0 (-5) 0, .adcStuckClear { ch := 0, stuck := false, clk := false }, .cmpOccurrence 0 3600001,
    .sealSample 65537 0, .sealSample 0 65537,
    .genBFrame [] 4097, .lnkDown 33 true, .sbRead 4097, .xinSelect 0, .lpoCalStart (some nobody) 0#32, .lpoCalDone 0, .tempSample 2048,
    .nvmOpDone 24000001, .nvmRead gw 0x100000 3 0, .extest (some [true]), .channelOverload 0 65], i.wellFormed = false := by decide +kernel

theorem test_well_formed : ∀ i ∈ [Instr.pageEnable gw 0 1#32, .registerWrite gw (2 ^ 24 - 1) 0#32, .unitQuarantine gw 0 255 1#32,
    .hostClear gw 0 (some 255) 0#32, .qualificationWindowEnd 0 255, .leadFrameReceive (List.replicate 4096 0#8), .echoReceive 3600,
    .adcCOutput 0 (.bits (2 ^ 829 - 1)), .adcCOutput 7 (.line [(0, true)]), .adcCOutput 8 (.pin 3600000), .adcMSample 0 (-4) 1,
    .adcStuckClear { ch := 0, stuck := true, clk := false }, .cmpOccurrence 0 3600000, .sealSample 65536 65536, .genBFrame [] 4096,
    .lnkDown 32 true, .sbRead 4096, .xinSelect 1, .lpoCalStart none 0#32, .lpoCalDone 1, .tempSample (-2047), .nvmOpDone 24000000,
    .nvmRead gw 0x100000 4 0, .extest none, .extest (some (List.replicate 149 true)), .channelOverload 0 64], i.wellFormed = true := by
  decide +kernel

/-- The table gives no row bits. -/
theorem test_no_bits : decodeTableWord 0 0 = none ∧ decodeTableWord 32 0xFFFFFFFF = none := ⟨rfl, rfl⟩

/-- The state after a command, or the state itself. -/
def after (i : Instr) (s : State) : State := match exec i s with | .next u => u | _ => s

/-- `up` in the muster window, the SPI port of both kinds at work. -/
def upMuster : State :=
  let s := (up.putFlag F.HOST_CFG_GENAEN true).putFlag F.HOST_CFG_GENBEN true
  { s with now := 3 * ticksPerMs, pwr := { s.pwr with muster := true } }

/-- spec/20: the check value of the CRC-32C of the ports. -/
theorem test_crc32c_check : crc32c [0x31#8, 0x32#8, 0x33#8, 0x34#8, 0x35#8, 0x36#8, 0x37#8, 0x38#8, 0x39#8] = 0xE3069283#32 := by
  decide +kernel

/-- spec/20, step 5 of the example: a Gen-A read of CPS in the muster window returns zeros, HOST_ERR shows NOTREADY, page and index. -/
theorem test_genA_muster : (after (.genAFrame [0x8C#8, 0x15#8, 0#8, 0#8, 0#8, 0#8] false) upMuster).reg Reg.HOST_ERR = 0x00150C01#32 ∧
    (after (.genAFrame [0x8C#8, 0x15#8, 0#8, 0#8, 0#8, 0#8] false) upMuster).host.spiOut = [0#8, 0#8, 0#8, 0#8] := by decide +kernel

/-- spec/20, step 4 of the example: the same register over Gen-B. -/
theorem test_genB_muster : (after (.genBFrame (0x6C#8 :: [0x54#8, 0xC0#8, 0#8, 0#8, 4#8, 0x2A#8, 6#8, 0#8] ++
      wbytes (crc32c [0x54#8, 0xC0#8, 0#8, 0#8, 4#8, 0x2A#8, 6#8, 0#8])) 13) upMuster).host.spiOut.take 9 =
    [0x93#8, 0x01#8, 0x2A#8, 0#8, 0#8, 0#8, 0#8, 0#8, 0#8] := by decide +kernel

/-- spec/20, step 8 of the example: the answer to a PING with DISC ends in W3 = 0xB0E5_0410. -/
theorem test_ping_disc : ((after (.lnkPing ([7#8, 0#8, 0#8, 3#8, 0#8, 0#8, 0#8, 0#8, 1#8] ++ List.replicate 15 0#8 ++
      wbytes (crc32c ([7#8, 0#8, 0#8, 3#8, 0#8, 0#8, 0#8, 0#8, 1#8] ++ List.replicate 15 0#8))))
      ((up.put F.HOST_LNK_STAT_STATE 4).setReg Reg.HOST_LNK_CREDIT 1#32)).host.lnkSent.drop 20).take 4 = wbytes 0xB0E50410#32 := by
  decide +kernel

/-- spec/00 and R476: the check of the serial number of unit 1. -/
theorem test_serial_check : serialCheck 0x3F2A91C004B76E15#64 = 0x15#8 ∧
    serialCheck 0x3F2A91C004B76E15#64 = (0x3F2A91C004B76E15#64).extractLsb' 0 8 := by decide +kernel

/-! ### Witnesses: for each clause with hypotheses, operands and a state that meet them -/

theorem witness_EmptyQueueIdles : ∃ s : State, s.pending = [] := ⟨up, rfl⟩

theorem witness_FrontCommandRuns : ∃ (c : Instr) (rest : List Instr) (s : State), s.pending = c :: rest :=
  ⟨.bearingTick, [.blendEnd], { up with pending := [.bearingTick, .blendEnd] }, rfl⟩

theorem witness_SettleAtRest : (∃ u : State, u.AtRest) ∧
    ∃ u : State, u.review.evq = [] ∧ u.review.ctx.flight = [] ∧ u.review.ctx.results = [] ∧ u.pwr.kick = none ∧ u.ctl.tuneAt = none ∧
      u.flag F.SPEC_STAT_ELC = u.elcOn ∧ (∀ left, u.rly.pos ≠ .permit left) ∧ u.reg Reg.EVR_FAST_EN = 0#32 := by
  refine ⟨⟨State.reset, ?_⟩, ⟨up, ?_⟩⟩
  · exact ⟨rfl, rfl, rfl, rfl⟩
  · have h : up.rly.pos = .rest := by decide +kernel
    exact ⟨by decide +kernel, by decide +kernel, by decide +kernel, by decide +kernel, by decide +kernel, by decide +kernel,
      fun left => by simp [h], by decide +kernel⟩

theorem witness_KnownLevelsKept : ∃ s t : State, s.domReady 1 = true ∧ s.SeenLevels ∧ step s = .next t :=
  ⟨up.settle, up.settle.elapse 1, by decide +kernel, by unfold State.SeenLevels; decide +kernel, by
    simp [step, show up.settle.pending = [] by decide +kernel]⟩

theorem witness_BearingSourceKept : ∃ s t : State, s.domOn 3 = true ∧ s.SourceFollows ∧ step s = .next t :=
  ⟨up.settle, up.settle.elapse 1, by decide +kernel, by unfold State.SourceFollows; decide +kernel, by
    simp [step, show up.settle.pending = [] by decide +kernel]⟩

theorem witness_RefusedAccessHasNoEffect :
    (∃ a, inSram a = false ∧ inRegs a = false ∧ inWindows a = false ∧ inNvm a = false) ∧
    (∃ a, inRegs a = true ∧ pageListed (a / 0x1000) = false) ∧
    (∃ a n, n ∈ [1, 2, 4] ∧ inRegs a = true ∧ n ≠ 4) ∧ (∃ a n, n ∈ [1, 2, 4] ∧ inWindows a = true ∧ n ≠ 4) ∧
    (∃ a n, n ∈ [1, 2, 4] ∧ a % n ≠ 0 ∧ inSram a = true) ∧ (∃ a, a % 4 ≠ 0 ∧ inWindows a = true) ∧
    (∃ a, a % 4 ≠ 0 ∧ inRegs a = true ∧ pageListed (a / 0x1000) = true) ∧ (∃ a n, n ∈ [1, 2, 4] ∧ inNvm a = true ∧ a % n ≠ 0) ∧
    (∃ s : State, ∀ w, s.beat ≠ some (s.now, w)) ∧ (∃ (s : State) (w : Option Nat), s.beat = some (s.now, w)) :=
  ⟨⟨0xC0000, by decide⟩, ⟨0x3F000, by decide⟩, ⟨0x00000, 2, by decide⟩, ⟨0x40000, 1, by decide⟩, ⟨0xBFFFF, 2, by decide⟩,
   ⟨0x40001, by decide⟩, ⟨0x1A042, by decide⟩, ⟨0x17FFFE, 4, by decide⟩,
   ⟨State.reset, fun w => by simp [show State.reset.beat = none by decide +kernel]⟩, ⟨{ State.reset with beat := some (0, none) }, none, rfl⟩⟩

theorem witness_PlainWriteStores : ∃ (s : State) (a : Nat) (r : RegRow), plainReg a = true ∧ directReg a = true ∧
    regRow? a = some r ∧ s.serves a = true :=
  ⟨up, Reg.GD_FLT_HOLD, _, by decide +kernel, by decide +kernel, rfl, by decide +kernel⟩

theorem witness_RefusedWriteIsRecorded :
    (∃ (s : State) (a : Nat), inRegs a = true ∧ a % 4 = 0 ∧ pageListed (a / 0x1000) = true ∧ s.pageStatus (a / 0x1000) = .domainOff) ∧
    (∃ (s : State) (a : Nat), inRegs a = true ∧ a % 4 = 0 ∧ pageListed (a / 0x1000) = true ∧ s.pageStatus (a / 0x1000) = .notReady) ∧
    (∃ (s : State) (a : Nat), inRegs a = true ∧ a % 4 = 0 ∧ pageListed (a / 0x1000) = true ∧ s.pageStatus (a / 0x1000) = .ok ∧
      0x40 ≤ a % 0x1000 ∧ regRow? a = none) ∧
    (∃ (s : State) (a : Nat), inRegs a = true ∧ a % 4 = 0 ∧ pageListed (a / 0x1000) = true ∧ s.pageStatus (a / 0x1000) = .ok ∧
      0x40 ≤ a % 0x1000 ∧ (regRow? a).isSome = true ∧ s.inSrst (a / 0x1000) = true ∧ (ctlHolds a && s.ctl.run.isSome) = false) :=
  ⟨⟨State.reset, Reg.GD_CFG, by decide +kernel⟩, ⟨{ up with pwr := { up.pwr with ready := 0#12 } }, Reg.GD_CFG, by decide +kernel⟩,
   ⟨up, 0x1AFFC, by decide +kernel⟩, ⟨{ up with pwr := { up.pwr with srst := 1#64 <<< 0x1A } }, Reg.GD_CFG, by decide +kernel⟩⟩

theorem witness_SramReadsBack :
    (∃ (s : State) (a : Nat), inSram a = true ∧ a % 4 = 0 ∧ s.bankOn (bankOf a) = true ∧ bankOf a ≠ 2) ∧
    (∃ (s : State) (a : Nat), inSram a = true ∧ a % 4 = 0 ∧ s.bankOn (bankOf a) = false) :=
  ⟨⟨up, 0xBFFFC, by decide +kernel⟩, ⟨State.reset, 0x80000, by decide +kernel⟩⟩

theorem witness_EventOccurrence :
    (∃ (s : State) (p b n : Nat), s.domOn (pageDomain p) = true ∧ b < 32 ∧ p < 64 ∧ s.bitOf (pgEvtEn p) b = true ∧
      evtSource p b = some n ∧ s.live Pg.IRQC = true ∧ s.irqMsg n = false ∧ srcReserved n = false) ∧
    (∃ (s : State) (p b : Nat), s.domOn (pageDomain p) = true ∧ b < 32 ∧ p < 64 ∧ s.bitOf (pgEvtEn p) b = false) :=
  ⟨⟨up.putBit (pgEvtEn Pg.GD) 0 true, Pg.GD, 0, 56, by decide +kernel⟩, ⟨up, Pg.GD, 31, by decide +kernel⟩⟩

theorem witness_EventSetWrite : ∃ (s : State) (page : Fin 64) (val : Word), s.pageStatus page = .ok ∧
    ∃ b < 32, wbit val b = true ∧ (evtSource page b).isSome = true :=
  ⟨up, 0x1A, 1#32, by decide +kernel, 0, by decide +kernel⟩

theorem witness_PageControl :
    (∃ (s : State) (page : Fin 64) (val : Word), s.pageStatus page = .ok ∧
      (enFixed page || !s.enRefused page (wbit val 0)) = true ∧ wbit val 2 = false ∧
      ((s.granted (some (pgCtrl page))).countWrite page).pageQuar page = false) ∧
    (∃ (s : State) (page : Fin 64) (val : Word), s.pageStatus page = .ok ∧
      (enFixed page || !s.enRefused page (wbit val 0)) = true ∧
      ((s.granted (some (pgCtrl page))).countWrite page).pageQuar page = true) ∧
    (∃ (s : State) (page : Fin 64) (val : Word), s.pageStatus page = .ok ∧
      page.val ∈ [Pg.PINS, Pg.IRQC, Pg.EVR, Pg.SPEC, Pg.SAFE, Pg.NVM] ∧ s.enRefused page (wbit val 0) = false ∧ wbit val 2 = false) ∧
    (∃ (s : State) (page : Fin 64) (val : Word), s.pageStatus page = .ok ∧ page.val = Pg.CMP ∧ s.pageEn page = true ∧
      wbit val 0 = true ∧ s.pageQuar page = true ∧ s.cmpOn 15 = true) ∧
    (∃ (s : State) (page : Fin 64) (val : Word), s.pageStatus page = .ok ∧ enFixed page = false ∧
      s.enRefused page (wbit val 0) = true) :=
  ⟨⟨up, 0x12, 0#32, by decide +kernel⟩,
   ⟨(up.putFlag (F.CMP_CTRL_EN 15) true).putFlag (F.CMP_CTRL_QUAR 15) true, 0x12, 1#32, by decide +kernel⟩,
   ⟨up, 0x28, 0#32, by decide +kernel⟩,
   ⟨(up.putFlag (F.CMP_CTRL_EN 15) true).putFlag (F.CMP_CTRL_QUAR 15) true, 0x12, 1#32, by decide +kernel⟩,
   ⟨{ up with gd := { up.gd with armed := true } }, 0x1A, 0#32, by decide +kernel⟩⟩

theorem witness_SoftReset :
    (∃ (s : State) (page : Fin 64), s.pageStatus page = .ok ∧ s.srstRefused page = true) ∧
    (∃ (s : State) (page : Fin 64) (val : Word), s.pageStatus page = .ok ∧ s.srstRefused page = false ∧
      (enFixed page || !s.enRefused page (wbit val 0)) = true) ∧
    (∃ (s : State) (page : Fin 64), s.inSrst page = true) :=
  ⟨⟨up, 0x00, by decide +kernel⟩, ⟨up, 0x1A, 0#32, by decide +kernel⟩,
   ⟨{ up with pwr := { up.pwr with srst := 1#64 <<< 0x1A } }, 0x1A, by decide +kernel⟩⟩

theorem witness_UnitQuarantine : (∃ (s : State) (page : Fin 64) (n a b : Nat), unitField page n = some (a, b) ∧ s.serves a = true) ∧
    ∃ (s : State) (n : Nat) (val : Word), n < 7 ∧ n < s.gd.legs.length ∧ s.serves (Reg.GD_LEG_CTRL n) = true ∧ s.live Pg.GD = true ∧
      s.legEn n = true ∧ wbit val 0 = true ∧ wbit val 2 = false ∧ (s.gdLeg n).quar = true :=
  ⟨⟨up, 0x12, 15, Reg.CMP_CTRL 15, 1, by decide +kernel⟩,
   ⟨{ up.putBit (Reg.GD_LEG_CTRL 6) 0 true with gd := { up.gd with legs := List.replicate 7 { GdLeg.reset with quar := true } } },
    6, 1#32, by decide +kernel⟩⟩

theorem witness_WindowEndsWithoutPass :
    (∃ (s : State) (n : Nat), n < 16 ∧ s.clkStopped = false ∧ s.cmpOn n = true ∧ s.flag (F.CMP_CTRL_QUAR n) = true ∧
      s.cmpWindowEnd n < s.cmpPassAt n) ∧
    (∃ (s : State) (n : Nat), n < 16 ∧ s.dmaQuar n = true ∧ s.dmaOn n = true ∧ s.now ≤ (s.dmaCh n).qAt + s.dmaWindow + 1) ∧
    (∃ (s : State) (n : Nat) (e : Nat × Nat), n < 256 ∧ s.ctx.quar.find? (fun e => e.1 = n) = some e ∧ s.ctxQuar n = true ∧
      s.ctxOn n = true ∧ s.ctxPass n = false) ∧
    (∃ (s : State) (n : Nat), n < 8 ∧ s.adcOn n = true ∧ s.adcQuarBit n = true ∧ (s.adcCh n).held = false ∧
      (s.adcCh n).qPass = false ∧ 64 ≤ (s.adcCh n).qOut) ∧
    (∃ (s : State) (n : Nat), n < 7 ∧ s.live Pg.GD = true ∧ s.gd.armed = true ∧ s.legEn n = true ∧ (s.gdLeg n).quar = true ∧
      (s.gdLeg n).failed = false ∧ 4 ≤ (s.gdLeg n).cycles) ∧
    (∃ (s : State) (n : Nat), n < 2 ∧ s.hswOn n = true ∧ s.flag (F.HSW_CTRL_QUAR n) = true ∧ s.hswPassAt n = none) ∧
    (∃ s : State, s.qdlOn = true ∧ s.qdl.state = qdlHold ∧ s.cps.wrapPend = false ∧
      s.turnsGone s.qdl.winFrom (s.get F.QDL_CFG_QUALWIN) = true) := by
  refine ⟨⟨{ (up.putFlag (F.CMP_CTRL_EN 15) true).putFlag (F.CMP_CTRL_QUAR 15) true with
      cmp := { up.cmp with ch := List.replicate 16 { CmpCh.reset with changed := 2000000 } } }, 15, ?_⟩,
    ⟨(up.putFlag (F.DMA_CH_CTRL_EN 15) true).putFlag (F.DMA_CH_CTRL_QUAR 15) true, 15, ?_⟩,
    ⟨{ (up.setCtxReg 255 0x20 1#32).putBit (Reg.CTX_QUAR 7) 31 true with ctx := { up.ctx with quar := [(255, 0)] } }, 255, (255, 0), ?_⟩,
    ⟨((up.putBit (adcCtrl 7) 0 true).putBit (adcCtrl 7) 1 true).modAdc 7 (fun c => { c with qOut := 64 }), 7, ?_⟩,
    ⟨{ up.putBit (Reg.GD_LEG_CTRL 6) 0 true with
      gd := { up.gd with armed := true, legs := List.replicate 7 { GdLeg.reset with quar := true, cycles := 4 } } }, 6, ?_⟩,
    ⟨(up.putFlag (F.HSW_CTRL_EN 1) true).putFlag (F.HSW_CTRL_QUAR 1) true, 1, ?_⟩,
    ⟨up.modQdl (fun q => { q with state := qdlHold, winFrom := -(255 * (turn52 : Int)) }), ?_⟩⟩ <;> decide +kernel

/-- A lead frame's view, for states of the Quadrille. -/
def leadInfo : LeadInfo := { rank := 1, bearing := 0#32, rate := 0x218DEF41#32, formation := 3#8, shares := List.replicate 8 0 }

theorem witness_BearingEvents :
    (∃ s : State, s.domOn 3 = true ∧ s.cps.wrapPend = true) ∧
    (∃ s : State, s.domOn 3 = true ∧ s.cps.wrapPend = false ∧ s.cps.incAt ≠ some s.now) ∧
    (∃ s : State, s.domOn 3 = true ∧ s.cps.nextTick < s.carN ∧ (s.tb0On = false ∨ s.recross = none)) ∧
    (∃ (s : State) (t : Int) (k : Nat), s.domOn 3 = true ∧ s.tb0On = true ∧ s.recross = some (t, k)) ∧
    (∃ s : State, s.domOn 3 = true ∧ s.flag F.CPS_SRC_BLEND = true ∧ s.cps.rem ≠ 0 ∧ (s.elapse s.blendTicks).cps.rem = 0) ∧
    (∃ s : State, s.domOn 3 = true ∧ s.now ≤ (s.cps.lastUpd / 4000 + 1) * 4000) := by
  refine ⟨⟨{ up with cps := { up.cps with wrapPend := true } }, ?_⟩, ⟨up, ?_⟩,
    ⟨{ up.putFlag F.PWM_CFG_TB0EN false with cps := { up.cps with nextTick := up.carN - 1 } }, ?_⟩,
    ⟨{ up.putFlag F.PWM_CFG_TB0EN true with
        pwm := { up.pwm with tb0 := { up.pwm.tb0 with run := true } }, cps := { up.cps with nextTick := 3 } }, 14073749045248, 1, ?_⟩,
    ⟨{ up.putFlag F.CPS_SRC_BLEND true with cps := { up.cps with rem := 1048576 } }, ?_⟩,
    ⟨{ up with now := 4000 }, ?_⟩⟩ <;> decide +kernel

theorem witness_ChartWrites :
    (∃ (s : State) (n : Fin 64), s.domOn 3 = true ∧ s.live Pg.CHT = true ∧ s.wpArmed n = true ∧ s.cps.wrapPend = false ∧
      s.wpUsed n (s.wpCycle n) = true) ∧
    (∃ (s : State) (n : Fin 64), s.domOn 3 = true ∧ s.live Pg.CHT = true ∧ s.wpArmed n = true ∧ s.cps.wrapPend = false ∧
      s.wpUsed n (s.wpCycle n) = false ∧ (s.cps.bear + turn52 - s.wpAngle n * 1048576) % turn52 < s.cps.step) ∧
    (∃ (s : State) (n : Fin 64), s.serves (Reg.CHT_WP_ANGLE n) = true ∧ s.serves (Reg.CHT_WP_REP n) = true ∧
      s.serves Reg.CHT_CFG = true ∧ wbits 0#32 0 2 ≠ repOnce) :=
  ⟨⟨(up.put (F.CHT_WP_REP_MODE 63) 1).putBit (Reg.CHT_FIRED 1) 31 true, 63, by decide +kernel⟩,
   ⟨{ up.put (F.CHT_WP_REP_MODE 63) 1 with cps := { up.cps with step := 1 } }, 63, by decide +kernel⟩, ⟨up, 63, by decide +kernel⟩⟩

theorem witness_WaypointCrossing :
    (∃ (s : State) (n : Nat), n < 64 ∧ s.wpUsed n s.cycleNow = true) ∧
    (∃ (s : State) (n : Nat), n < 64 ∧ s.wpUsed n s.cycleNow = false ∧ s.wpDue n s.cycleNow = true ∧ s.wpMode n = repOnce ∧
      s.mastered (Reg.CHT_WP_REP n) = false) ∧
    (∃ (s : State) (n : Nat), n < 64 ∧ s.wpUsed n s.cycleNow = false ∧ s.wpDue n s.cycleNow = false) := by
  refine ⟨⟨up.putBit (Reg.CHT_FIRED 1) 31 true, 63, ?_⟩, ⟨up.put (F.CHT_WP_REP_MODE 63) repOnce, 63, ?_⟩,
    ⟨{ up.put (F.CHT_WP_REP_MODE 63) repEveryN with cht := { up.cht with last := List.replicate 64 (some 0#32) } }, 63, ?_⟩⟩ <;>
  decide +kernel

theorem witness_QuadrilleSends :
    (∃ s : State, s.qdlOn = true ∧ s.qdl.state = qdlLead ∧ s.qdl.leadSent = false ∧ s.bearing.toNat ≥ 0x02000000) ∧
    (∃ (s : State) (t : Nat) (l : LeadInfo), s.qdlOn = true ∧ qdlListen ≤ s.qdl.state ∧ s.qdl.state ≤ qdlFormed ∧
      s.qdl.slotDone = false ∧ s.qdl.edgeAt = some t ∧ s.qdl.lead = some l) ∧
    (∃ s : State, s.qdlOn = true ∧ s.qdl.state ≠ qdlOff ∧ s.qdl.state ≠ qdlLead ∧ s.qdl.pinged = true ∧ s.qdl.echoed = false ∧
      s.now ≤ s.qdl.frameAt + 2000) := by
  refine ⟨⟨{ up.modQdl (fun q => { q with state := qdlLead }) with cps := { up.cps with bear := 0x02000000 * 1048576 } }, ?_⟩,
    ⟨up.modQdl (fun q => { q with state := qdlFormed, slotDone := false, edgeAt := some 0, lead := some leadInfo }), 0, leadInfo, ?_⟩,
    ⟨{ up.modQdl (fun q => { q with state := qdlFormed, pinged := true }) with now := 2000 }, ?_⟩⟩ <;> decide +kernel

theorem witness_QuadrilleReceives :
    (∃ (s : State) (bs d : List Byte), s.qdlRuns = true ∧ frameData 48 bs = some d ∧ frameByte d 0 / 16 = 1 ∧
      s.qdl.state ≠ qdlLead ∧ frameByte d 0 % 8 ≠ s.qdl.rank) ∧
    (∃ (s : State) (bs : List Byte), s.qdlRuns = true ∧ frameData 48 bs = none ∧ s.qdl.state ≠ qdlFormed ∧ frameData 6 bs = none) ∧
    (∃ (s : State) (bs d : List Byte), s.qdlRuns = true ∧ frameData 6 bs = some d ∧ frameByte d 0 / 16 = 2 ∧
      frameByte d 0 % 8 ≠ s.qdl.rank ∧ s.qdl.state ≠ qdlLead) ∧
    (∃ (s : State) (r m : Nat), s.qdlRuns = true ∧ s.qdl.state = qdlLead ∧ s.qdl.echoOf = some r ∧ m ≤ 3600 ∧
      s.now ≤ s.qdl.frameAt + 3600) ∧
    (∃ (s : State) (l : LeadInfo), s.qdlRuns = true ∧ s.qdl.state ≠ qdlLead ∧ s.qdl.lead = some l) := by
  refine ⟨⟨up.modQdl (fun q => { q with state := qdlListen }), withCrc (0x17#8 :: List.replicate 47 0#8), 0x17#8 :: List.replicate 47 0#8, ?_⟩,
    ⟨up.modQdl (fun q => { q with state := qdlListen }), [], ?_⟩,
    ⟨up.modQdl (fun q => { q with state := qdlFormed }), withCrc (0x27#8 :: List.replicate 5 0#8), 0x27#8 :: List.replicate 5 0#8, ?_⟩,
    ⟨up.modQdl (fun q => { q with state := qdlLead, echoOf := some 7 }), 7, 3600, ?_⟩,
    ⟨up.modQdl (fun q => { q with state := qdlListen, lead := some leadInfo }), leadInfo, ?_⟩⟩ <;> decide +kernel

theorem witness_QuadrilleTimeouts :
    (∃ s : State, s.qdlOn = true ∧ s.qdl.state = qdlListen ∧ s.cps.wrapPend = false ∧ s.turnsGone s.qdl.silentAt 8 = true ∧
      s.flag F.QDL_CFG_LEADOK = true) ∧
    (∀ b : Bool, ∃ s : State, s.qdlOn = true ∧ s.domOn 3 = true ∧ s.claimDue ((s.cycleNow + 1) * (turn52 : Int)) = true ∧
      s.cps.wrapPend = b) ∧
    (∃ (s : State) (a : Int), s.qdlOn = true ∧ s.qdl.state = qdlFormed ∧ s.qdl.lostAt = some a ∧ s.cps.wrapPend = false ∧
      s.turnsGone a 2 = true ∧ s.qdl.takeover = false) ∧
    (∃ s : State, s.qdlOn = true ∧ s.domOn 3 = true ∧ s.qdlFollows = true ∧ s.qdl.leadGone = false ∧
      0x10000000 ≤ s.bearing.toNat ∧ s.bearing.toNat < 0x20000000 ∧ s.leadSilent = true) := by
  refine ⟨⟨(up.modQdl (fun q => { q with state := qdlListen, silentAt := -(8 * (turn52 : Int)) })).putFlag F.QDL_CFG_LEADOK true, ?_⟩,
    fun b => ⟨{ up.modQdl (fun q => { q with state := qdlClaim }) with cps := { up.cps with wrapPend := b } }, ?_⟩,
    ⟨up.modQdl (fun q => { q with state := qdlFormed, lostAt := some (-(2 * (turn52 : Int))) }), -(2 * (turn52 : Int)), ?_⟩,
    ⟨{ up.modQdl (fun q => { q with state := qdlFormed }) with cps := { up.cps with bear := 0x10000000 * 1048576 } }, ?_⟩⟩
  · decide +kernel
  · revert b; decide +kernel
  · decide +kernel
  · decide +kernel

/-- `up` with converter channels 7 (ADCX) and 17 (ADCI, M path too) running. -/
def upAdc : State := ((up.putBit (adcCtrl 7) 0 true).putBit (adcCtrl 17) 0 true).putBit (adcCtrl 17) 3 true

theorem witness_ConverterOutput :
    (∃ (s : State) (ch : Fin 18) (x : Stream) (p : Rat), s.adc.ch.length = 18 ∧ s.adcOn ch = true ∧ (s.adcCh ch).mark = none ∧
      s.bitOf (adcCtrl ch) 7 = false ∧ s.ctx.flight = [] ∧ (s.cWindow ch x).dens = some p) ∧
    (∃ (s : State) (ch : Fin 18) (b : Nat), s.adcMan ch = true ∧ b < 2 ^ (3 * s.cosr ch + 61)) ∧
    (∃ (s : State) (ch : Fin 18) (b : Nat), s.sdckDriven (ch / 4) = true ∧ b < 2 ^ (3 * s.cosr ch + 61)) ∧
    (∃ (s : State) (ch : Fin 18) (b : Nat), 8 ≤ ch.val ∧ b < 2 ^ (3 * s.cosr ch + 61)) ∧
    (∃ (s : State) (ch : Fin 18) (uV : Nat), 8 ≤ ch.val ∧ s.domOn 7 = true ∧ s.flag F.ADCI_CFG_REFEN = true ∧ uV ≤ 2500000) :=
  ⟨⟨upAdc, 17, .bits 1, _, by decide +kernel, by decide +kernel, by decide +kernel, by decide +kernel, by decide +kernel, rfl⟩,
   ⟨upAdc.putBit (adcCtrl 7) 2 true, 7, 0, by decide +kernel⟩,
   ⟨((up.putBit Reg.ADCX_CLK_CFG 9 true).setReg (Reg.PINS_FUNC 4) 1#32), 7, 0, by decide +kernel⟩,
   ⟨upAdc, 17, 0, by decide +kernel⟩, ⟨up.putFlag F.ADCI_CFG_REFEN true, 17, 2500000, by decide +kernel⟩⟩

theorem witness_ResamplerSample : ∃ (s : State) (ch : Fin 18), s.adc.ch.length = 18 ∧ s.adcOn ch = true ∧ s.adcMen ch = true ∧
    s.ctx.flight = [] := ⟨upAdc, 17, by decide +kernel⟩

theorem witness_ResultRead : ∃ (s : State) (who : Who),
    (∃ (ch : Fin 18) (m : Fin 2), let a := if m = 0 then adcCRes ch else adcMRes ch
      let c := wbits (s.reg (adcCtrl ch)) (10 + 2 * m) 2
      s.serves a = true ∧ (if c = 3 then 2 else c) = consumerOf who.master.toNat ∧ s.reg a = (s.granted none).regWas a) ∧
    (∃ (ch : Fin 18) (m : Fin 2), let c := wbits (s.reg (adcCtrl ch)) (10 + 2 * m) 2
      s.serves (if m = 0 then adcCRes ch else adcMRes ch) = true ∧ (if c = 3 then 2 else c) ≠ consumerOf who.master.toNat) ∧
    (∃ (ch : Fin 18) (m : Fin 2), let a := if m = 0 then adcCRes ch else adcMRes ch
      s.serves a = true ∧ s.reg a ≠ (s.granted none).regWas a) :=
  ⟨(up.setReg (adcCtrl 17) 0x2000#32).setReg (adcMRes 16) 1#32, { master := 0x20#8, ctx := 0xFF#8 }, ⟨17, 1, by decide +kernel⟩,
   ⟨0, 0, by decide +kernel⟩, ⟨16, 1, by decide +kernel⟩⟩

theorem witness_ConverterFlags :
    (∃ (s : State) (ch : Fin 18), s.adcOn ch = true ∧ s.bitOf (adcStat ch) 5 = false) ∧
    (∃ (s : State) (ch : Fin 18), s.adcOn ch = true ∧ s.bitOf (adcStat ch) 6 = false ∧ s.bitOf (adcCtrl ch) 2 = true ∧ ch.val < 8) ∧
    (∃ (s : State) (ch : Fin 18), s.adcStuck ch = true ∧ s.adcOn ch = true) ∧
    (∃ (s : State) (ch : Fin 18), s.bitOf (adcStat ch) 5 = true ∧ s.bitOf (adcStat ch) 6 = true) ∧
    (∃ (s : State) (t : Nat), s.adc.refAt = some t ∧ s.flag F.ADCI_CFG_REFRDY = false) :=
  ⟨⟨upAdc, 17, by decide +kernel⟩, ⟨upAdc.putBit (adcCtrl 7) 2 true, 7, by decide +kernel⟩,
   ⟨upAdc.putBit (adcStat 17) 5 true, 17, by decide +kernel⟩,
   ⟨(upAdc.putBit (adcStat 7) 5 true).putBit (adcStat 7) 6 true, 7, by decide +kernel⟩,
   ⟨{ up with adc := { up.adc with refAt := some 3 } }, 3, by decide +kernel⟩⟩

theorem witness_ConverterWrites :
    (∃ (s : State) (ch : Nat), s.serves (Reg.ADCX_TRIG 3) = true ∧ s.serves (Reg.ADCI_TRIG 3) = true ∧ ch < 8 ∧ s.adc.ch.length = 18 ∧
      s.adcOn ch = true ∧ (s.adcCh ch).mark = none) ∧
    (∃ s : State, s.serves (adcCtrl 17) = true ∧ ((s.granted (some (adcCtrl 17))).adcCtrlWrite 17 1#32).2 = false) ∧
    (∃ s : State, s.serves Reg.ADCX_CLK_CFG = true) :=
  ⟨⟨upAdc, 7, by decide +kernel⟩, ⟨up, by decide +kernel⟩, ⟨up, by decide +kernel⟩⟩

/-- `up` with comparator 15 enabled, both its edges selected. -/
def upCmp : State := (up.putFlag (F.CMP_CTRL_EN 15) true).put (F.CMP_CTRL_EDGE 15) 2

theorem witness_ComparatorInput :
    (∃ (s : State) (n : Fin 16), s.cmpOut n = s.cmpSync n ∧ s.reg Reg.EVR_FAST_EN = 0#32 ∧ n < s.cmp.ch.length) ∧
    (∀ b : Bool, ∃ (s : State) (n : Fin 16), ((((s.cmpSetInput n 5).cmpRawPair n).fastPair n).clkStopped) = b) ∧
    (∃ (s : State) (n : Fin 16), s.cmpOut n ≠ s.cmpSync n ∧ s.cmpOn n = true ∧ s.cmpMarked n = false ∧ s.domOn 8 = true ∧
      edgeTaken (s.get (F.CMP_CTRL_EDGE n)) (s.cmpOut n) = true) ∧
    (∃ (s : State) (n : Fin 16), s.cmpOut n ≠ s.cmpSync n ∧ (s.cmpOn n = false ∨ s.cmpMarked n = true)) := by
  refine ⟨⟨up, 15, by decide +kernel⟩, fun b => ⟨{ up with pwr := { up.pwr with on := if b then 0x101#12 else 0xFFF#12 } }, 15, ?_⟩,
    ⟨upCmp.putBit Reg.CMP_STAT 15 true, 15, by decide +kernel⟩, ⟨up.putBit Reg.CMP_STAT 15 true, 15, by decide +kernel⟩⟩
  revert b; decide +kernel

theorem witness_ComparatorHysteresis :
    (∃ (s : State) (n : Nat), s.cmpOn n = true ∧ 2500000 * s.get (F.CMP_THR_THR n) < 1024 * s.cmpInput n) ∧
    (∃ (s : State) (n : Nat), s.cmpOn n = true ∧
      1024 * s.cmpInput n + 1024 * cmpHyst (s.get (F.CMP_CTRL_HYST n)) < 2500000 * s.get (F.CMP_THR_THR n)) ∧
    (∃ (s : State) (n : Nat), s.cmpOn n = true ∧ 1024 * s.cmpInput n ≤ 2500000 * s.get (F.CMP_THR_THR n) ∧
      2500000 * s.get (F.CMP_THR_THR n) ≤ 1024 * s.cmpInput n + 1024 * cmpHyst (s.get (F.CMP_CTRL_HYST n))) :=
  ⟨⟨(upCmp.put (F.CMP_THR_THR 15) 0).cmpSetInput 15 1, 15, by decide +kernel⟩,
   ⟨upCmp.put (F.CMP_THR_THR 15) 1023, 15, by decide +kernel⟩, ⟨upCmp.put (F.CMP_THR_THR 15) 0, 15, by decide +kernel⟩⟩

theorem witness_RouterAndQualification :
    (∃ (s : State) (n : Fin 16), s.clkStopped = false ∧ s.cmpOn n = true ∧ s.cmpMarked n = true ∧ s.cmpPassAt n ≤ s.cmpWindowEnd n) ∧
    (∃ (s : State) (n : Fin 16) (val : Word), s.serves (Reg.CMP_CTRL n) = true ∧
      ((s.granted (some (Reg.CMP_CTRL n))).cmpCtrlWrite n val).2 = false ∧ s.serves Reg.EVR_SWEVT = true) ∧
    (∃ (s : State) (k : Fin 4) (t : Nat), k.val < s.cmp.out.length ∧
      (nth { level := false, until? := none } s.cmp.out k).until? = some t) :=
  ⟨⟨upCmp.putFlag (F.CMP_CTRL_QUAR 15) true, 15, by decide +kernel⟩, ⟨up, 15, 1#32, by decide +kernel⟩,
   ⟨{ up with cmp := { up.cmp with out := List.replicate 4 { level := true, until? := some 0 } } }, 3, 0, by decide +kernel⟩⟩

/-- A step of input 0 at tick 100, nothing judged, and a state whose engine runs it at entry `pc` with word `w` in its list. -/
def rec0 : StepRec :=
  { id := 0, input := 0, trig := 100, theta := 0#32,
    ck := { slots := List.replicate 96 1#32, lims := List.replicate 8 none, ramps := List.replicate 8 none, v := List.replicate 40 0#32 },
    vin := List.replicate 12 0#32, adv := 0, limit := 0, ls := List.replicate 8 0x3F800000#32, subst := 0#8, reck := false, rseq := 0, pred := List.replicate 8 none,
    delta := List.replicate 8 0, predK := List.replicate 8 none, dead := List.replicate 8 400, volt := List.replicate 8 0, qual := 0#8,
    used := 0#8, marked := 0#8, fix := List.replicate 8 none, judged := 0#8, missed := 0#8, fixOnly := false, retracted := false,
    ended := false, unfixed := false, resolved := false, aborted := false, retractAt := none, loaded := none, legs := List.replicate 7 none, horizon := none, out := [],
    sat := none, modlim := [false, false], mfig := [], states := [], fperr := false, absent := false }

def run0 : CtlRun := { kind := .step, step := 0, pc := 0, low := true, refused := false, fixes := false, waiting := [] }

def running (run : CtlRun) (r : StepRec) (w : Word) : State :=
  { up.setReg (Reg.CTL_STEPLIST run.pc) w with ctl := { up.ctl with run := some run, steps := [r] } }

theorem witness_EngineValues : ∀ op ∈ [0x09, 0x0A, 0x0B, 0x0C, 0x0D, 0x0E, 0x0F], ∃ (s : State) (run : CtlRun) (r : StepRec) (w : Word),
    s.entryNow = some (run, r, w) ∧ entryLegal w = true ∧ s.ctl.v.length = 64 ∧ run.pc < 63 ∧ ¬(run.low = true ∧ run.pc = 31) ∧
    entryOp w = op := by
  intro op h
  refine ⟨running { run0 with pc := 62, low := false } rec0 (BitVec.ofNat 32 (op * 0x8000000 + 63 * 0x200000)),
    { run0 with pc := 62, low := false }, rec0, BitVec.ofNat 32 (op * 0x8000000 + 63 * 0x200000), ?_⟩
  revert op; decide +kernel

theorem witness_EngineUnits :
    (∀ op ∈ [0x07, 0x08, 0x02, 0x03, 0x04], ∃ (s : State) (run : CtlRun) (r : StepRec) (w : Word), s.entryNow = some (run, r, w) ∧
      entryLegal w = true ∧ s.ctl.v.length = 64 ∧ s.ctl.lims.length = 8 ∧ s.ctl.ramps.length = 8 ∧ s.ctl.slots.length = 96 ∧
      run.pc < 63 ∧ ¬(run.low = true ∧ run.pc = 31) ∧ entryOp w = op ∧ F32.lt 0#32 (s.ctlVar (entryB w)).tame = false) ∧
    (∃ (s : State) (run : CtlRun) (r : StepRec) (w : Word), s.entryNow = some (run, r, w) ∧ entryLegal w = true ∧ entryOp w = 0x02 ∧
      wbit (s.reg (Reg.CTL_SLOT_CFG (wbits w 0 5))) 3 = true ∧ s.headroom = true) ∧
    ∀ fin : Bool, ∃ (s : State) (run : CtlRun) (r : StepRec) (w : Word), s.entryNow = some (run, r, w) ∧ entryLegal w = true ∧
      entryOp w = 0x02 ∧
      let k := wbits w 0 5
      let c (j : Nat) := s.reg (Reg.CTL_SLOT_COEF k j)
      let z (j : Nat) : F32 := nth 0#32 s.ctl.slots (3 * k + j)
      let e := (F32.sub (s.ctlVar (entryA w)).tame (s.ctlVar (entryB w)).tame).tame
      let yu := (F32.fma (c 0) e (z 0)).tame
      let y := F32.clamp yu (s.reg (Reg.CTL_SLOT_CLAMP k 0)) (s.reg (Reg.CTL_SLOT_CLAMP k 1))
      wbit (s.reg (Reg.CTL_SLOT_CFG k)) 3 = false ∧ wbit (s.reg (Reg.CTL_SLOT_CFG k)) 0 = false ∧ F32.lt y yu = false ∧
        F32.lt yu y = false ∧ e ≠ 0#32 ∧
        ((F32.fma (F32.neg (c 4)) yu (F32.fma (c 1) e (z 1))).finite && (F32.fma (F32.neg (c 5)) yu (F32.fma (c 2) e 0#32)).finite &&
          (z 2).finite) = fin := by
  refine ⟨fun op h => ?_, ?_, fun fin => ?_⟩
  · refine ⟨running { run0 with pc := 30 } rec0 (BitVec.ofNat 32 (op * 0x8000000 + 61 * 0x200000)), { run0 with pc := 30 }, rec0,
      BitVec.ofNat 32 (op * 0x8000000 + 61 * 0x200000), ?_⟩
    revert op; decide +kernel
  · exact ⟨((running run0 rec0 0x14E0001F#32).setReg (Reg.CTL_SLOT_CFG 31) 8#32).putFlag F.MODE_STAT_HEADROOM true, run0, rec0,
      0x14E0001F#32, by decide +kernel⟩
  · cases fin
    · exact ⟨(running run0 rec0 0x13EA801F#32).setReg (Reg.CTL_SLOT_COEF 31 1) 0x7F800000#32, run0, rec0, 0x13EA801F#32, by decide +kernel⟩
    · exact ⟨running run0 rec0 0x13EA801F#32, run0, rec0, 0x13EA801F#32, by decide +kernel⟩

/-- What every clause about an entry of a run assumes. -/
def AtEntry (s : State) (run : CtlRun) (r : StepRec) (w : Word) : Prop :=
  s.ctl.v.length = 64 ∧ s.ctl.held = [] ∧ run.pc < 63 ∧ ¬(run.low = true ∧ run.pc = 31) ∧ s.entryNow = some (run, r, w)

theorem witness_EngineOutputs :
    (∀ own : Bool, ∃ (s : State) (run : CtlRun) (r : StepRec) (w : Word), AtEntry s run r w ∧ entryLegal w = true ∧ entryOp w = 0x05 ∧
      run.kind ≠ .replay ∧ s.serves Reg.PWM_LOAD = true ∧ s.ownsShadow 0x30 (wbits w 0 3) = own) ∧
    (∀ ref : Bool, ∃ (s : State) (run : CtlRun) (r : StepRec) (w : Word), AtEntry s run r w ∧ entryLegal w = true ∧ entryOp w = 0x06 ∧
      run.kind ≠ .replay ∧ run.refused = ref ∧ s.serves Reg.PWM_LOAD = true ∧ r.loaded = none) ∧
    (∀ op ∈ [0x05, 0x06], ∃ (s : State) (run : CtlRun) (r : StepRec) (w : Word), AtEntry s run r w ∧ entryLegal w = true ∧
      entryOp w = op ∧ run.kind = .replay) ∧
    (∀ a : Bool, ∃ (s : State) (run : CtlRun) (r : StepRec) (w : Word), AtEntry s run r w ∧ entryLegal w = true ∧ entryOp w = 0x01 ∧
      wbits w 13 3 = 0 ∧ 8 ≤ wbits w 16 5 ∧ (s.latestC (wbits w 16 5 - 8)).isSome = a) ∧
    (∃ (s : State) (run : CtlRun) (r : StepRec) (w : Word) (p : Int), AtEntry s run r w ∧ entryLegal w = true ∧ entryOp w = 0x01 ∧
      wbits w 13 3 = 0 ∧ wbits w 16 5 < 8 ∧ predicted run r (wbits w 16 5) = true ∧ nth none r.pred (wbits w 16 5) = some p ∧
      r.judged.getLsbD (wbits w 16 5) = false) ∧
    (∃ (s : State) (run : CtlRun) (r : StepRec) (w : Word), AtEntry s run r w ∧ entryLegal w = true ∧ entryOp w = 0x01 ∧
      wbits w 13 3 = 0 ∧ wbits w 16 5 < 8 ∧ predicted run r (wbits w 16 5) = false ∧ r.subst.getLsbD (wbits w 16 5) = false ∧
      r.judged.getLsbD (wbits w 16 5) = false) ∧
    (∃ (s : State) (run : CtlRun) (r : StepRec) (w : Word), AtEntry s run r w ∧ entryLegal w = true ∧ entryOp w = 0x00 ∧
      r.used = 0#8 ∧ r.resolved = false ∧ s.redoes run.step = false) ∧
    (∃ (s : State) (run : CtlRun) (r : StepRec) (w : Word), AtEntry s run r w ∧ entryLegal w = false) ∧
    (∀ late : Bool, ∃ (s : State) (run : CtlRun) (r : StepRec) (w : Word), s.ctl.v.length = 64 ∧ s.ctl.held = [] ∧ run.pc < 63 ∧
      s.ctl.run = some { run with waiting := [wbits w 16 5] } ∧ s.stepRec run.step = some r ∧ w = s.reg (Reg.CTL_STEPLIST run.pc) ∧
      wbits w 13 3 = 0 ∧ wbits w 16 5 < 8 ∧ run.kind = .step ∧ predicted run r (wbits w 16 5) = false ∧
      r.subst.getLsbD (wbits w 16 5) = false ∧ r.judged.getLsbD (wbits w 16 5) = !late ∧
      (nth none r.fix (wbits w 16 5)).isSome = !late) := by
  unfold AtEntry
  refine ⟨fun own => ?_, fun ref => ?_, fun op h => ?_, fun a => ?_, ?_, ?_, ?_, ?_, fun late => ?_⟩
  · cases own
    · exact ⟨(running run0 rec0 0x28000006#32).put F.PWM_CFG_OWNER 2, run0, rec0, 0x28000006#32, by decide +kernel⟩
    · exact ⟨(running run0 rec0 0x28000006#32).put F.PWM_CFG_OWNER 1, run0, rec0, 0x28000006#32, by decide +kernel⟩
  · exact ⟨running { run0 with refused := ref } rec0 0x30000000#32, { run0 with refused := ref }, rec0, 0x30000000#32,
      by revert ref; decide +kernel⟩
  · refine ⟨running { run0 with kind := .replay } rec0 (BitVec.ofNat 32 (op * 0x8000000)), { run0 with kind := .replay }, rec0,
      BitVec.ofNat 32 (op * 0x8000000), ?_⟩
    revert op; decide +kernel
  · cases a
    · exact ⟨running run0 rec0 0x08F90000#32, run0, rec0, 0x08F90000#32, by decide +kernel⟩
    · exact ⟨(running run0 rec0 0x08F90000#32).modAdc 17 (fun c => { c with lastC := some (5, false, false) }), run0, rec0,
        0x08F90000#32, by decide +kernel⟩
  · exact ⟨running run0 { rec0 with qual := 0x80#8, pred := List.replicate 8 (some 3) } 0x08E70000#32, run0,
      { rec0 with qual := 0x80#8, pred := List.replicate 8 (some 3) }, 0x08E70000#32, 3, by decide +kernel⟩
  · exact ⟨running run0 rec0 0x08E70000#32, run0, rec0, 0x08E70000#32, by decide +kernel⟩
  · exact ⟨running run0 rec0 0#32, run0, rec0, 0#32, by decide +kernel⟩
  · exact ⟨running run0 rec0 0xFFFFFFFF#32, run0, rec0, 0xFFFFFFFF#32, by decide +kernel⟩
  · cases late
    · exact ⟨running { run0 with waiting := [7] } { rec0 with judged := 0x80#8, fix := List.replicate 8 (some 3) } 0x08E70000#32, run0,
        { rec0 with judged := 0x80#8, fix := List.replicate 8 (some 3) }, 0x08E70000#32, by decide +kernel⟩
    · exact ⟨running { run0 with waiting := [7] } rec0 0x08E70000#32, run0, rec0, 0x08E70000#32, by decide +kernel⟩

theorem witness_EngineRuns :
    (∀ full : Bool, ∃ (s : State) (val : Word) (i : Fin 4), s.serves Reg.CTL_CFG = true ∧ s.pageEn Pg.CTL = true ∧
      wbits val 8 4 = 0 ∧ wbit val i = true ∧ s.ctl.pend.length = 4 ∧ (nth none s.ctl.pend i).isSome = full) ∧
    (∃ (s : State) (i trig : Nat) (theta : Word), s.ctl.run = none ∧ s.ctl.withdraw = [] ∧ s.ctl.redo = [] ∧ s.ctl.tuneAt = none ∧ s.ctl.tuneDone = [] ∧
      s.ctl.v.length = 64 ∧ i < 4 ∧ nth none s.ctl.pend i = some (trig, theta) ∧ (∀ j < i, nth none s.ctl.pend j = none) ∧
      s.ctl.steps = []) ∧
    (∀ k ∈ [RunKind.recompute, RunKind.replay], ∃ (s : State) (id : Nat) (kind : RunKind) (fixes : Bool)
      (rest : List (Nat × RunKind × Bool)) (r : StepRec), s.ctl.run = none ∧ s.ctl.withdraw = [] ∧
      s.ctl.redo = (id, kind, fixes) :: rest ∧ s.ctl.tuneAt = none ∧ s.ctl.tuneDone = [] ∧ s.ctl.held = [] ∧ s.stepRec id = some r ∧
      s.reg (Reg.CTL_STEPLIST (if r.input < 2 then 0 else 32)) = 0#32 ∧ redoKind r kind = k ∧ fixes = true) ∧
    (∃ (s : State) (id : Nat) (rest : List (Nat × Bool)) (r : StepRec), s.ctl.run = none ∧ s.ctl.withdraw = (id, true) :: rest ∧ s.stepRec id = some r) ∧
    (∃ (s : State) (n t : Nat) (ws : List Word), n < 32 ∧ s.ctl.run = none ∧ s.ctl.tuneAt = some t ∧ s.ctl.tuneStart = false ∧ s.ctl.tuneDone = [] ∧
      s.ctl.tune = [{ slot := n, ok := true, words := ws, fperr := false }] ∧ s.flag (F.CTL_SLOT_CFG_BEARTUNE n) = true) ∧
    (∃ (s : State) (n : Fin 32), s.serves (Reg.CTL_SLOT_CFG n) = true ∧ s.pageEn Pg.CTL = true ∧
      s.flag (F.CTL_SLOT_CFG_BEARTUNE n) = false ∧ s.ctl.tuneAt = none ∧ s.serves Reg.CTL_LATMAX = true) := by
  refine ⟨fun full => ?_, ?_, fun k h => ?_, ?_, ?_, ⟨up, 31, by decide +kernel⟩⟩
  · cases full
    · exact ⟨up, 0x8#32, 3, by decide +kernel⟩
    · exact ⟨{ up with ctl := { up.ctl with pend := List.replicate 4 (some (0, 0#32)) } }, 0x8#32, 3, by decide +kernel⟩
  · exact ⟨{ up with ctl := { up.ctl with pend := [none, none, none, some (7, 5#32)] } }, 3, 7, 5#32, by decide +kernel⟩
  · rcases List.mem_cons.mp h with rfl | h
    · exact ⟨{ up with ctl := { up.ctl with redo := [(0, .step, true)], steps := [rec0] } }, 0, .step, true, [], rec0, by decide +kernel⟩
    · rw [List.mem_singleton.mp h]
      exact ⟨{ up with ctl := { up.ctl with redo := [(0, .step, true)], steps := [{ rec0 with horizon := some 0 }] } }, 0, .step, true, [],
        { rec0 with horizon := some 0 }, by decide +kernel⟩
  · exact ⟨{ up with ctl := { up.ctl with withdraw := [(0, true), (5, false)], steps := [rec0] } }, 0, [(5, false)], rec0, by decide +kernel⟩
  · exact ⟨{ up.putFlag (F.CTL_SLOT_CFG_BEARTUNE 31) true with
      ctl := { up.ctl with tuneAt := some 9, tune := [{ slot := 31, ok := true, words := [], fperr := false }] } }, 31, 9, [], by decide +kernel⟩

theorem witness_ReckoningLatches :
    (∃ s : State, s.serves Reg.SPEC_SUBST = true ∧
      let was := (s.granted (some Reg.SPEC_SUBST)).regWas Reg.SPEC_SUBST
      wbit was 27 = true ∧ wbit was 7 = true ∧ wbit was 15 = true ∧ s.substituted 7 = true ∧ s.fixLost 7 = true) ∧
    (∀ same : Bool, ∃ (s : State) (n : Fin 8) (val : Word), s.serves (Reg.SPEC_BAND n) = true ∧ s.spec.ch.length = 8 ∧
      decide (wbits (s.reg (Reg.SPEC_BAND n)) 24 8 = wbits val 24 8) = same) ∧
    (∀ used : Bool, ∃ (s : State) (r : StepRec) (n : Nat), n < 8 ∧ s.ctl.steps = [r] ∧ r.reck = true ∧ r.marked = 1#8 <<< n ∧
      r.judged = 0#8 ∧ r.used.getLsbD n = used ∧ r.resolved = false ∧ (used = false → r.used = 0#8)) ∧
    (∃ s : State, s.spec.tripPend = true ∧ s.pwm.tb0.run = true ∧ s.pwm.tb0.zero = (32 * s.now : Nat)) := by
  refine ⟨⟨let s := up.setReg Reg.SPEC_SUBST 0x08008080#32; { s with tick0 := s.regs }, by decide +kernel⟩, fun same => ?_, fun used => ?_, ?_⟩
  · cases same
    · exact ⟨up, 7, 0x11000000#32, by decide +kernel⟩
    · exact ⟨up.setReg (Reg.SPEC_BAND 7) 0x11000000#32, 7, 0x11000001#32, by decide +kernel⟩
  · refine ⟨{ up with ctl := { up.ctl with steps := [{ rec0 with reck := true, marked := 0x80#8, used := if used then 0x80#8 else 0#8 }] } },
      { rec0 with reck := true, marked := 0x80#8, used := if used then 0x80#8 else 0#8 }, 7, ?_⟩
    revert used; decide +kernel
  · exact ⟨{ up with spec := { up.spec with tripPend := true }, pwm := { up.pwm with tb0 := { up.pwm.tb0 with run := true } } },
      by decide +kernel⟩

/-- A device command of class 2, queued: the sweep of all strings. -/
def cmd0 : Cmd :=
  { uid := 0, ctx := 256, cls := 2, op := 0x22, tag := 0, fence := false, noevt := false, bad := false, dlVal := 0, dlUnit := 0,
    args := [3#32], fetchedAt := 0, cycles := 0, dueAt := none, st := .queued, items := 0, r0 := 0#32, r1 := 0#32, ops := [], notes := [],
    stop := none }

/-- `up` with the bridge ARMED. -/
def armed : State := { up with gd := { up.gd with armed := true } }

theorem witness_ModeAndTrackers :
    (∃ (s : State) (val : Word), s.serves Reg.MODE_REQ = true ∧ s.mode.blend.isSome = true ∧ wbits val 0 2 = 3) ∧
    (∃ (s : State) (val : Word), s.serves Reg.MODE_REQ = true ∧ s.mode.blend = none ∧
      (s.granted (some Reg.MODE_REQ)).reqRefused (wbits val 0 2) = true) ∧
    (∃ (s : State) (val : Word), s.serves Reg.MODE_REQ = true ∧ s.mode.blend = none ∧
      (s.granted (some Reg.MODE_REQ)).reqRefused (wbits val 0 2) = false ∧ s.gd.armed = false) ∧
    (∃ (s : State) (val : Word), s.serves Reg.MODE_REQ = true ∧ s.mode.blend = none ∧
      (s.granted (some Reg.MODE_REQ)).reqRefused (wbits val 0 2) = false ∧ s.gd.armed = true ∧
      s.live Pg.MODE = true ∧ s.mode.start = false ∧ s.modeActive ≠ s.reqMode (wbits val 0 2)) ∧
    (∃ (s : State) (r : List F32), s.mode.next = some r) ∧
    (∀ cur : Bool, ∃ (s : State) (k : Nat) (v i : Rat), k < 2 ∧ s.mode.trackers.length = 2 ∧
      (nth Tracker.reset s.mode.trackers k).due = some (v, i) ∧ (nth Tracker.reset s.mode.trackers (1 - k)).due = none ∧
      (nth Tracker.reset s.mode.trackers k).curtail = cur) ∧
    (∀ busy : Bool, ∃ (s : State) (t : Nat), s.live Pg.MODE = true ∧ s.sweepDue = some t ∧
      (s.ctx.flight.any (fun c => c.op = 0x22)) = busy ∧ (busy = false → s.devFlight < 8)) := by
  refine ⟨⟨{ up with mode := { up.mode with blend := some (1, 0) } }, 3#32, by decide +kernel⟩,
    ⟨up, 2#32, by decide +kernel⟩, ⟨up, 1#32, by decide +kernel⟩, ⟨armed, 1#32, by decide +kernel⟩,
    ⟨{ up with mode := { up.mode with next := some [] } }, [], by decide +kernel⟩, fun cur => ?_, fun busy => ?_⟩
  · refine ⟨{ armed with mode := { up.mode with trackers := [Tracker.reset, { Tracker.reset with curtail := cur, due := some (1, 1 / 2) }] } },
      1, 1, 1 / 2, ?_⟩
    revert cur; decide +kernel
  cases busy
  · exact ⟨up.put F.MODE_MPPT_CFG_SWEEP 1, 120000000000, by decide +kernel⟩
  · exact ⟨{ up.put F.MODE_MPPT_CFG_SWEEP 1 with ctx := { up.ctx with flight := [cmd0] } }, 120000000000, by decide +kernel⟩

/-- `up` with both timebases on and running. -/
def carrier : State :=
  let s := (up.putFlag F.PWM_CFG_TB0EN true).putFlag F.PWM_CFG_TB1EN true
  { s with pwm := { s.pwm with tb0 := { s.pwm.tb0 with run := true }, tb1 := { s.pwm.tb1 with run := true } } }

theorem witness_CarrierAndEdges :
    (∃ s : State, s.pwm.legs.length = 7 ∧ s.domOn 5 = true ∧ s.tb0On = true ∧ s.pwm.tb0.run = true ∧ s.pwm.tb0.down = false ∧
      s.get F.PWM_EVT_PRESC_P_TB0 ≤ s.pwm.tb0.nPeriod ∧ s.tb1On = true ∧ s.pwm.tb1.run = true ∧ s.pwm.tb1.down = false ∧
      s.get F.PWM_EVT_PRESC_P_TB1 ≤ s.pwm.tb1.nPeriod) ∧
    (∃ (s : State) (n : Fin 7) (x : Nat), let l := s.pwmLeg n; let t := s.tb (tbOf n)
      s.pwm.legs.length = 7 ∧ s.domOn 5 = true ∧ l.live = true ∧ l.refresh = none ∧ l.late = none ∧ l.point = none ∧ l.cmd = !t.down ∧
      s.cmpInstant n (s.effCmp n) l.edgeDone = some x ∧ l.bar ≤ x ∧ 4 ≤ n.val) ∧
    (∃ (s : State) (n : Fin 7) (x : Nat), let l := s.pwmLeg n; let t := s.tb (tbOf n)
      s.pwm.legs.length = 7 ∧ s.domOn 5 = true ∧ l.live = true ∧ l.refresh = none ∧ l.late = none ∧ l.point = none ∧ l.cmd = !t.down ∧
      s.cmpInstant n (s.effCmp n) l.edgeDone = some x ∧ l.bar ≤ x ∧ l.matchDone = true) ∧
    (∀ more : Bool, ∃ (s : State) (n : Fin 7) (x : Nat), s.pwm.legs.length = 7 ∧ s.domOn 5 = true ∧ (s.pwmLeg n).late = some x ∧
      (s.pwmLeg n).lateNext = more) ∧
    (∃ (s : State) (n : Fin 7) (x : Nat), s.pwm.legs.length = 7 ∧ s.domOn 5 = true ∧ (s.pwmLeg n).refresh = some x ∧
      (s.pwmLeg n).waitLoad = false ∧ (s.pwmLeg n).cmd = false) ∧
    (∃ s : State, s.domOn 5 = true ∧ s.serves Reg.PWM_LOAD = true ∧ s.ldMode 0 = 0 ∧ s.ldMode 1 = 0 ∧ s.serves Reg.PWM_CFG = true ∧
      s.gd.armed = false) ∧
    (∃ s : State, s.domOn 5 = true ∧ s.serves Reg.PWM_LOAD = true ∧ s.ldMode 0 ≠ 0 ∧ s.ldMode 1 ≠ 0) ∧
    (∃ (s : State) (val : Word), s.domOn 5 = true ∧ s.serves Reg.PWM_CFG = true ∧ s.gd.armed = true ∧
      decide (s.get F.PWM_CFG_OWNER = 3) ≠ decide (wbits val 0 2 = 3)) := by
  refine ⟨⟨carrier, ?_⟩,
    ⟨{ carrier.setReg (Reg.PWM_ACT_CMP 6) 1000#32 with
      pwm := { carrier.pwm with legs := List.replicate 7 { PwmLeg.reset with cmd := true, live := true, edgeDone := false } } }, 6, 1000, ?_⟩,
    ⟨{ carrier.setReg (Reg.PWM_ACT_CMP 0) 1000#32 with
      pwm := { carrier.pwm with legs := List.replicate 7 { PwmLeg.reset with
        cmd := true, live := true, edgeDone := false, matchDone := true } } }, 0, 1000, ?_⟩,
    fun more => ⟨{ up with pwm := { up.pwm with legs := List.replicate 7 { PwmLeg.reset with late := some 0, lateNext := more } } }, 6, 0, ?_⟩,
    ⟨{ up with pwm := { up.pwm with legs := List.replicate 7 { PwmLeg.reset with refresh := some 0 } } }, 6, 0, ?_⟩,
    ⟨(up.put F.PWM_CFG_LDMODE0 0).put F.PWM_CFG_LDMODE1 0, ?_⟩,
    ⟨(up.put F.PWM_CFG_LDMODE0 1).put F.PWM_CFG_LDMODE1 1, ?_⟩, ⟨armed, 3#32, ?_⟩⟩ <;> (try revert more) <;> decide +kernel

/-- `armed` with every leg's switches and timers as `l`, legs A to N and both boosts enabled. -/
def bridge (l : GdLeg) : State :=
  let s := (List.range 7).foldl (fun t n => t.putBit (Reg.GD_LEG_CTRL n) 0 true) armed
  { s with gd := { s.gd with legs := List.replicate 7 l } }

theorem witness_GateFaults :
    (∀ old : Bool, ∃ (s : State) (i : Fin 6) (pin : PinLevel), s.gd.legs.length = 7 ∧ s.gd.hold.length = 6 ∧ s.domOn 5 = true ∧
      s.live Pg.GD = true ∧ s.pageReady Pg.GD = true ∧ decide (wbits (s.reg Reg.GD_FLT_FILT) 0 7 + 2 ≤ pin.held) = old ∧
      (!pin.level && !s.bitOf Reg.GD_FLT_STAT i && s.bridgeOn && (faultLegs i).any s.legEn) = false) ∧
    (∀ side : Bool, ∃ (s : State) (i : Fin 6) (pin : PinLevel) (dt : Bool), s.gd.legs.length = 7 ∧ s.gd.hold.length = 6 ∧ s.domOn 5 = true ∧
      s.live Pg.GD = true ∧ s.pageReady Pg.GD = true ∧ wbits (s.reg Reg.GD_FLT_FILT) 0 7 + 2 ≤ pin.held ∧ pin.level = false ∧ i.val < 5 ∧ s.bitOf Reg.GD_FLT_STAT i = false ∧ s.bridgeOn = true ∧ s.legEn i = true ∧
      s.blameLeg i = (some side, dt) ∧ nth none s.gd.hold i = none ∧ s.GatesApart) ∧
    (∀ pol ∈ [0, 1, 2], ∃ (s : State) (i : Fin 6) (t : Nat), s.gd.legs.length = 7 ∧ s.gd.hold.length = 6 ∧ s.domOn 5 = true ∧
      nth none s.gd.hold i = some (t, pol) ∧ s.bridgeOn = true ∧ s.GatesApart) ∧
    (∃ (s : State) (t : Nat), s.domOn 5 = true ∧ s.gd.sdLow = some t) ∧
    (∃ (s : State) (val : Word), s.serves Reg.GD_CFG = true ∧ s.live Pg.GD = true ∧ s.bridgeOn = true ∧ wbit val 25 = false ∧
      s.gd.estop = false ∧ s.domReady 5 = true) ∧
    (∀ held : Bool, ∃ (s : State) (n : Fin 7) (val : Word), s.gd.hold.length = 6 ∧ s.serves (Reg.GD_LEG_CTRL n) = true ∧
      wbit val 0 = s.legEn n ∧ wbit val 1 = false ∧ (s.gdLeg n).quar = false ∧
      (s.bitOf Reg.GD_FLT_STAT (legInput n) || (nth none s.gd.hold (legInput n)).isSome) = held ∧ s.bridgeOn = true ∧
      s.legEn n = true) := by
  unfold State.GatesApart
  refine ⟨fun old => ⟨armed, 5, ⟨false, if old then 129 else 1⟩, by revert old; decide +kernel⟩, fun side => ?_, fun pol h => ?_, ⟨{ up with gd := { up.gd with sdLow := some 5 } }, 5,
    by decide +kernel⟩, ⟨armed, 0#32, by decide +kernel⟩, fun held => ?_⟩
  · refine ⟨bridge (if side then { GdLeg.reset with hi := { on := true, onAt := 0, offAt := none } }
      else { GdLeg.reset with lo := { on := true, onAt := 0, offAt := none } }), 4, ⟨false, 129⟩, false, ?_⟩
    revert side; decide +kernel
  · refine ⟨{ armed with gd := { armed.gd with hold := List.replicate 6 (some (9, pol)) } }, 5, 9, ?_⟩
    revert pol; decide +kernel
  · refine ⟨(bridge GdLeg.reset).putBit Reg.GD_FLT_STAT 5 held, 6, 1#32, ?_⟩
    revert held; decide +kernel

theorem witness_GateTimers :
    (∀ side : Bool, ∃ (s : State) (n : Fin 7) (t : Nat), s.gd.legs.length = 7 ∧ (s.gdLeg n).dt = some (side, t) ∧ s.GatesApart ∧
      s.gdCmd n = side ∧ s.mayTurnOn n side = true ∧ (s.gdLeg n).lo.on = false ∧ (s.gdLeg n).hi.on = false) ∧
    (∃ (s : State) (n : Fin 7) (t : Nat), s.gd.legs.length = 7 ∧ (s.gdLeg n).gminHi = some t ∧ (s.gdLeg n).gminLo = none) ∧
    (∃ (s : State) (n : Fin 7) (t : Nat), s.gd.legs.length = 7 ∧ (s.gdLeg n).gminHi = none ∧ (s.gdLeg n).gminLo = some t) ∧
    (∃ (s : State) (n : Fin 7) (t : Nat), s.gd.legs.length = 7 ∧ (s.gdLeg n).pulse = some t) ∧
    (∀ old : Bool, ∃ (s : State) (pin : PinLevel), s.gd.legs.length = 7 ∧ s.domReady 5 = true ∧
      decide (wbits (s.reg Reg.GD_ELC_CFG) 8 8 + 3 ≤ pin.held) = old) := by
  unfold State.GatesApart
  refine ⟨fun side => ?_, ⟨bridge { GdLeg.reset with gminHi := some 9 }, 6, 9, by decide +kernel⟩,
    ⟨bridge { GdLeg.reset with gminLo := some 9 }, 6, 9, by decide +kernel⟩, ⟨bridge { GdLeg.reset with pulse := some 9 }, 6, 9, by decide +kernel⟩,
    fun old => ⟨up, ⟨true, if old then 258 else 2⟩, by revert old; decide +kernel⟩⟩
  refine ⟨{ bridge { GdLeg.reset with dt := some (side, 9) } with
    pwm := { up.pwm with legs := List.replicate 7 { PwmLeg.reset with cmd := side } } }, 6, 9, ?_⟩
  revert side; decide +kernel

/-- `s` with the word `w` written at `a` of NVM. -/
def stamp (s : State) (a : Nat) (w : Word) : State :=
  let c := wbytes w
  let put (i : Nat) (m : List Host.Cell) : List Host.Cell := Sparse.set nvmDefault m (a + i) (nth 0#8 c i)
  { s with nvm := put 3 (put 2 (put 1 (put 0 s.nvm))) }

theorem nvmByte_stamp (s : State) {a b : Nat} {w : Word} (h : b < a ∨ a + 4 ≤ b) : (stamp s a w).nvmByte b = s.nvmByte b := by
  simp only [stamp, State.nvmByte, Sparse.get_set]
  repeat rw [if_neg (by omega)]

theorem nvmBytes_stamp (s : State) {a : Nat} {w : Word} (m : Nat) : ∀ b : Nat, (b + m ≤ a ∨ a + 4 ≤ b) →
    (stamp s a w).nvmBytes b m = s.nvmBytes b m := by
  induction m with
  | zero => intro b _; rfl
  | succ m ih =>
    intro b h
    simp only [State.nvmBytes]
    rw [nvmByte_stamp s (by omega), ih _ (by omega)]

theorem nvmWord_stamp_ne (s : State) {a b : Nat} {w : Word} (h : b + 4 ≤ a ∨ a + 4 ≤ b) : (stamp s a w).nvmWord b = s.nvmWord b := by
  simp only [State.nvmWord, nvmBytes_stamp s 4 b h]

theorem nvmWord_stamp (s : State) (a : Nat) (w : Word) : (stamp s a w).nvmWord a = w := by
  have key : ∀ c : Word, BitVec.ofNat 32 (bytesNat (wbytes c)) = c := by
    intro c
    apply BitVec.eq_of_toNat_eq
    simp only [wbytes, bytesNat, BitVec.toNat_ofNat, BitVec.extractLsb'_toNat, Nat.shiftRight_eq_div_pow]
    omega
  refine Eq.trans ?_ (key w)
  simp only [State.nvmWord, State.nvmBytes, stamp, State.nvmByte, Sparse.get_set, wbytes, nth]
  congr 1
  congr 1
  simp

/-- `s` with the CRC of the `n` bytes of NVM from `o` written at `a`. -/
def stampCrc (s : State) (o n a : Nat) : State := stamp s a (crc32c (s.nvmBytes o n))

theorem nvmBytes_stampCrc (s : State) {o n a : Nat} (m : Nat) (b : Nat) (h : b + m ≤ a ∨ a + 4 ≤ b) :
    (stampCrc s o n a).nvmBytes b m = s.nvmBytes b m := nvmBytes_stamp s m b h

theorem nvmWord_stampCrc_ne (s : State) {o n a b : Nat} (h : b + 4 ≤ a ∨ a + 4 ≤ b) : (stampCrc s o n a).nvmWord b = s.nvmWord b :=
  nvmWord_stamp_ne s h

theorem nvmWord_stampCrc (s : State) (o n a : Nat) : (stampCrc s o n a).nvmWord a = crc32c (s.nvmBytes o n) := nvmWord_stamp s a _

/-! A safety set in NVM: the checks of R487 are written as the CRC of what stands there, and not computed. -/

theorem stampCrc_frame (s : State) (o n a : Nat) : ((stampCrc s o n a).sealProfile = s.sealProfile ∧
    (stampCrc s o n a).groupOpen 0 = s.groupOpen 0) ∧ (∀ k, (stampCrc s o n a).clogRoom k = s.clogRoom k) ∧
    (stampCrc s o n a).windowOpen = s.windowOpen ∧ (stampCrc s o n a).sealS3 = s.sealS3 ∧ (stampCrc s o n a).gd = s.gd ∧
    (stampCrc s o n a).serves Reg.PROT_PROFILE = s.serves Reg.PROT_PROFILE :=
  by
    unfold stampCrc stamp
    exact ⟨⟨rfl, rfl⟩, fun _ => rfl, rfl, rfl, rfl, rfl⟩

/-- `s` with the checks of profile 0 and of place 0 written. -/
def oneSet (s : State) : State := stampCrc (stampCrc s 0x10040 0x90 0x100D0) 0x10000 0x7FC 0x107FC

theorem oneSet_place (s : State) : (oneSet s).placeValid 0 = true := by
  have e0 : placeOff 0 = 0x10000 := rfl
  rw [State.placeValid, e0, decide_eq_true_iff, oneSet, nvmBytes_stampCrc _ _ _ (by omega)]
  simp only [Nat.reduceAdd]
  rw [nvmWord_stampCrc]

theorem safetyPlace_one (s : State) (h0 : s.placeValid 0 = true) : s.safetyPlace 1 = some 0 := by
  rw [State.safetyPlace, h0]; rfl

theorem safetyPlace_same (s : State) (n : Nat) (hr : s.safetyPlace n = some 0)
    (hg : s.nvmWord (placeOff n) = s.nvmWord (placeOff 0)) : s.safetyPlace (n + 1) = some 0 := by
  rw [State.safetyPlace, hr]
  cases s.placeValid n
  · rfl
  · exact if_neg (by rw [hg]; exact Nat.lt_irrefl _)

theorem safetyPlace_first (s : State) (h0 : s.placeValid 0 = true) (g : Word) (m : Nat)
    (hg : ∀ k < m, s.nvmWord (placeOff k) = g) : ∀ n, n + 1 ≤ m → s.safetyPlace (n + 1) = some 0
  | 0, _ => safetyPlace_one s h0
  | n + 1, h => safetyPlace_same s (n + 1) (safetyPlace_first s h0 g m hg n (by omega)) ((hg _ (by omega)).trans (hg _ (by omega)).symm)

theorem profileWords_some (s : State) (p k o : Nat) (hs : s.safetySet = some k) (ho : placeOff k + 0x40 + 0x100 * p = o)
    (hc : crc32c (s.nvmBytes o 0x90) = s.nvmWord (o + 0x90)) : ∃ ws : List Word, ws.length = 36 ∧ s.profileWords p = some ws := by
  subst ho
  refine ⟨(List.range 36).map (fun i => s.nvmWord (placeOff k + 0x40 + 0x100 * p + 4 * i)), by rw [List.length_map, List.length_range], ?_⟩
  rw [State.profileWords, hs]
  simp only [hc, if_true]

theorem oneSet_profile (s : State) (hn : ∀ k < 8, s.nvmWord (placeOff k) = 0xFFFFFFFF#32) (hz : s.sealProfile = 0) :
    ∃ ws : List Word, ws.length = 36 ∧ (oneSet s).profileWords (oneSet s).sealProfile = some ws := by
  have gen : ∀ k < 8, (oneSet s).nvmWord (placeOff k) = 0xFFFFFFFF#32 := by
    intro k hk
    have e : placeOff k = 0x10000 + 0x800 * k := rfl
    rw [oneSet, nvmWord_stampCrc_ne _ (by omega), nvmWord_stampCrc_ne _ (by omega)]
    exact hn k hk
  have hs : (oneSet s).safetySet = some 0 := by
    rw [State.safetySet]; exact safetyPlace_first _ (oneSet_place s) _ 8 gen 7 (by omega)
  have hp : (oneSet s).sealProfile = 0 := by rw [oneSet, (stampCrc_frame ..).1.1, (stampCrc_frame ..).1.1, hz]
  rw [hp]
  refine profileWords_some _ 0 0 0x10040 hs (by decide) ?_
  rw [oneSet, nvmBytes_stampCrc _ _ _ (by omega), nvmWord_stampCrc_ne _ (by omega), nvmBytes_stampCrc _ _ _ (by omega),
    nvmWord_stampCrc]

theorem oneSet_accepts (s : State) (hn : ∀ k < 8, s.nvmWord (placeOff k) = 0xFFFFFFFF#32) (hz : s.sealProfile = 0)
    (room : ∀ n ≤ 37, s.clogRoom n = true) (hw : s.groupOpen 0 = true)
    (hl : (s.windowOpen && !s.sealS3 && !s.gd.armed) = true) : ((oneSet s).groupAccepts 0 1 && (oneSet s).loadAccepts) = true := by
  obtain ⟨ws, h1, h2⟩ := oneSet_profile s hn hz
  have hd : (oneSet s).profileDiff.length ≤ 36 := by
    rw [State.profileDiff, h2]
    refine Nat.le_trans (List.length_filter_le _ _) ?_
    simp [h1]
  obtain ⟨⟨-, f2⟩, f3, f4, f5, f6, -⟩ := stampCrc_frame (stampCrc s 0x10040 0x90 0x100D0) 0x10000 0x7FC 0x107FC
  obtain ⟨⟨-, g2⟩, g3, g4, g5, g6, -⟩ := stampCrc_frame s 0x10040 0x90 0x100D0
  simp only [Bool.and_eq_true] at hl
  simp only [State.groupAccepts, State.loadAccepts, Bool.and_eq_true]
  refine ⟨⟨?_, ?_⟩, ⟨⟨?_, ?_⟩, ?_⟩, ?_⟩
  · rw [oneSet, f2, g2, hw]
  · rw [oneSet, f3, g3, room 1 (by omega)]
  · rw [oneSet, f4, g4, hl.1.1]
  · rw [oneSet, f5, g5, hl.1.2]
  · rw [oneSet, f6, g6, hl.2]
  · have := room ((oneSet s).profileDiff.length + 1) (by omega)
    rw [← this, oneSet, f3, g3]

theorem granted_load (s : State) (ws : List Word) (hb : s.beat = none) (h : (s.groupAccepts 0 1 && s.loadAccepts) = true)
    (hw : s.profileWords s.sealProfile = some ws) (h35 : ∃ w, ws[35]? = some w) :
    let g := s.granted (some Reg.PROT_PROFILE)
    (g.groupAccepts 0 1 && g.loadAccepts) = true ∧ g.profileWords g.sealProfile = some ws ∧ ∃ w, ws[35]? = some w := by
  intro g
  refine ⟨?_, by rw [State.granted_sealProfile, State.granted_profileWords, hw], h35⟩
  have open' : g.groupOpen 0 = s.groupOpen 0 ∧ g.windowOpen = s.windowOpen ∧ g.sealS3 = s.sealS3 ∧ g.gd = s.gd ∧
      ∀ n, g.clogRoom n = s.clogRoom n := by
    rw [show g = _ from s.granted_free _ hb]
    exact ⟨rfl, rfl, rfl, rfl, fun _ => rfl⟩
  rw [← h, State.groupAccepts, State.groupAccepts, State.loadAccepts, State.loadAccepts, State.granted_profileDiff, open'.1, open'.2.1,
    open'.2.2.1, open'.2.2.2.1, open'.2.2.2.2, open'.2.2.2.2]

/-- A stage timer of PROT that is due. -/
def dueTimer : StageTimer := { on := true, count := 9, tripped := false, due := true }

/-- `up` with the unlock window open to tick 9. -/
def unlocked : State := { up with safe := { up.safe with window := some 9 } }

theorem witness_GridProtection :
    (∃ s : State, s.prot.stages.length = 12 ∧ s.domOn 5 = true ∧ (∀ i < 12, let g := nth dueTimer s.prot.stages i
      (g.on && g.due && !g.tripped) = false)) ∧
    (∃ s : State, s.prot.stages.length = 12 ∧ s.domOn 5 = true ∧ (∃ i < 12, let g := nth dueTimer s.prot.stages i
      g.on = true ∧ g.due = true ∧ g.tripped = false) ∧ s.prot.tripAt ≠ some s.now ∧ s.flag F.PROT_STAT_TRIPPED = true) ∧
    (∃ s : State, s.prot.stages.length = 12 ∧ s.protOn = true ∧ s.flag F.CPS_STAT_LOCKED = false ∧ s.freqMeasure = none ∧
      s.flag F.PROT_STAT_FRT = true ∧ ∃ i < 8, let g := nth dueTimer s.prot.stages i; g.on = true ∧ g.tripped = false) ∧
    (∃ s : State, s.prot.stages.length = 12 ∧ s.domOn 5 = true ∧ s.flag F.PROT_STAT_FRT = true ∧ max 1 (s.get F.PROT_FRT_K_POST) * s.carN + 1 ≤ s.prot.post) ∧
    (∃ s : State, s.prot.stages.length = 12 ∧ s.protOn = true ∧ 0 < s.prot.recon ∧
      wbits (s.reg Reg.PROT_RECON_WAIT) 0 24 * s.carN ≤ s.prot.recon ∧ s.flag F.PROT_STAT_RECONOK = false) ∧
    (∃ (s : State) (t : Nat), s.prot.stages.length = 12 ∧ s.domOn 5 = true ∧ s.prot.rampAt = some t) ∧
    (∃ s : State, s.domOn 5 = true ∧ s.serves Reg.PROT_PROFILE = true ∧
      let g := s.granted (some Reg.PROT_PROFILE)
      (g.groupAccepts 0 1 && g.loadAccepts) = false) ∧
    (∃ (s : State) (ws : List Word), s.serves Reg.PROT_PROFILE = true ∧
      let g := s.granted (some Reg.PROT_PROFILE)
      (g.groupAccepts 0 1 && g.loadAccepts) = true ∧ g.profileWords g.sealProfile = some ws ∧ ∃ w, ws[35]? = some w) := by
  refine ⟨⟨up, by decide +kernel⟩, ⟨{ up.putFlag F.PROT_STAT_TRIPPED true with
      prot := { up.prot with stages := List.replicate 12 dueTimer } }, by decide +kernel, by decide +kernel, ⟨11, by decide +kernel⟩,
      by decide +kernel⟩,
    ⟨{ up.putFlag F.PROT_STAT_FRT true with prot := { up.prot with stages := List.replicate 12 dueTimer } }, by decide +kernel,
      by decide +kernel, by decide +kernel, by decide +kernel, by decide +kernel, ⟨7, by decide +kernel⟩⟩,
    ⟨{ up.putFlag F.PROT_STAT_FRT true with prot := { up.prot with post := 100000 } }, by decide +kernel⟩,
    ⟨{ up with prot := { up.prot with recon := 6000000 } }, by decide +kernel⟩,
    ⟨{ up with prot := { up.prot with rampAt := some 9 } }, 9, by decide +kernel⟩, ⟨up, by decide +kernel⟩,
    ?_⟩
  have hn : ∀ k < 8, unlocked.nvmWord (placeOff k) = 0xFFFFFFFF#32 := by decide +kernel
  obtain ⟨ws, h1, h2⟩ := oneSet_profile unlocked hn (by decide +kernel)
  refine ⟨oneSet unlocked, ws, ?_, ?_⟩
  · have : unlocked.serves Reg.PROT_PROFILE = true := by decide +kernel
    rw [← this, oneSet, (stampCrc_frame ..).2.2.2.2.2, (stampCrc_frame ..).2.2.2.2.2]
  · exact granted_load _ _ rfl (oneSet_accepts unlocked hn (by decide +kernel) (by decide +kernel) (by decide +kernel)
      (by decide +kernel)) h2 ⟨ws[35], by rw [List.getElem?_eq_getElem]⟩

theorem witness_SafetyLock :
    (∃ (s : State) (addr : Nat), s.domOn 5 = true ∧ safetyGroup addr = none) ∧
    (∃ (s : State) (addr g : Nat), s.domOn 5 = true ∧ safetyGroup addr = some g ∧ s.serves addr = true ∧ (s.granted (some addr)).groupAccepts g 1 = false) ∧
    (∃ (s : State) (addr g : Nat), s.domOn 5 = true ∧ safetyGroup addr = some g ∧ s.serves addr = true ∧
      (s.granted (some addr)).groupAccepts g 1 = true ∧ addr ≠ Reg.PROT_PROFILE) ∧
    (∃ s : State, s.domOn 5 = true ∧ s.serves Reg.SAFE_UNLOCK = true ∧ (s.granted (some Reg.SAFE_UNLOCK)).lockedOut = true) ∧
    (∃ s : State, s.domOn 5 = true ∧ s.serves Reg.SAFE_UNLOCK = true ∧ (s.granted (some Reg.SAFE_UNLOCK)).lockedOut = false ∧ (s.safeEn && !s.safe.fault) = false) ∧
    (∀ good : Bool, ∃ s : State, s.domOn 5 = true ∧ s.serves Reg.SAFE_UNLOCK = true ∧ (s.granted (some Reg.SAFE_UNLOCK)).lockedOut = false ∧ s.safeEn = true ∧
      s.safe.fault = false ∧ decide (s.keyRegs = s.safe.key) = good ∧ s.safe.fail = 4) ∧
    (∃ s : State, s.domOn 5 = true ∧ s.serves Reg.SAFE_UNLOCK = true ∧ s.safeEn = true ∧
      ((s.granted (some Reg.SAFE_UNLOCK)).groupAccepts 0 1 && !decide (s.keyRegs = 0#64) && !decide (s.keyRegs = BitVec.allOnes 64)) = false) ∧
    (∃ s : State, s.domOn 5 = true ∧ s.serves Reg.SAFE_UNLOCK = true ∧ s.safeEn = true ∧ (s.granted (some Reg.SAFE_UNLOCK)).groupAccepts 0 1 = true ∧
      s.keyRegs ≠ 0#64 ∧ s.keyRegs ≠ BitVec.allOnes 64) ∧
    (∃ (s : State) (t : Nat), s.domOn 5 = true ∧ s.safe.window = some t) ∧
    (∃ (s : State) (k : Nat), s.domOn 5 = true ∧ s.safe.lockout = some k) ∧
    (∀ same : Bool, ∃ (s : State) (ra rb : Nat), s.domOn 5 = true ∧ s.safe.fault = false ∧ s.domReady 5 = true ∧ s.live Pg.RLY = true ∧
      decide (sealPair (sealCode ra) (sealCode rb) = some s.safe.code) = same) := by
  refine ⟨⟨up, 0x20084 - 8 + 0x100, by decide +kernel⟩, ⟨up, 0x200D0, 5, by decide +kernel⟩, ⟨unlocked, 0x200D0, 5, by decide +kernel⟩,
    ⟨{ up with safe := { up.safe with lockout := some 0 } }, by decide +kernel⟩,
    ⟨{ up with safe := { up.safe with fault := true } }, by decide +kernel⟩, fun good => ?_, ⟨up, by decide +kernel⟩,
    ⟨unlocked.setReg Reg.SAFE_KEY1 1#32, by decide +kernel⟩, ⟨unlocked, 9, by decide +kernel⟩,
    ⟨{ up with safe := { up.safe with lockout := some 0 } }, 0, by decide +kernel⟩, fun same => ?_⟩
  · refine ⟨{ up with safe := { up.safe with fail := 4, key := if good then 0#64 else 1#64 } }, ?_⟩
    revert good; decide +kernel
  · refine ⟨up, if same then 2048 else 6144, 63488, ?_⟩
    revert same; decide +kernel

/-- `up` with the relays as `r`. -/
def relays (r : RlySt) : State := { up with rly := r }

theorem witness_InterfaceRelays :
    (∃ s : State, s.rly.samp.length = 2 ∧ s.rly.est.length = 2 ∧ s.domReady 5 = true ∧ s.serves Reg.RLY_CTRL = true ∧
      s.live Pg.RLY = true ∧ (s.rly.closed || decide (s.rly.job ≠ .idle)) = true) ∧
    (∀ bar : Bool, ∃ s : State, s.domReady 5 = true ∧ s.serves Reg.RLY_CTRL = true ∧ s.live Pg.RLY = true ∧ s.rly.closed = false ∧
      s.rly.job = .idle ∧ (s.rlyLocked || decide (wbits (s.reg Reg.RLY_WELD) 0 3 ≠ 0) ||
        (!s.flag F.PROT_STAT_RECONOK && !(s.sealS4 && s.flag F.PROT_STAT_DEADBUS))) = bar) ∧
    (∀ any : Bool, ∃ s : State, s.domReady 5 = true ∧ s.serves Reg.RLY_CTRL = true ∧ s.live Pg.RLY = true ∧
      (s.rly.drive.any (fun d => d.1 || d.2) || decide (s.rly.job ≠ .idle)) = any ∧
      (any = true → s.rly.drive.any (fun d => d.1 && d.2) = true)) ∧
    (∃ s : State, s.domReady 5 = true ∧ s.serves Reg.RLY_CTRL = true ∧ s.live Pg.RLY = true ∧ s.rlyLocked = false ∧ s.rly.job = .idle ∧
      s.rly.closed = false ∧ s.rly.pos = .rest ∧ s.weldConds = true ∧ s.flag F.RLY_POLICY_WELDEN = true) ∧
    (∃ s : State, s.rly.samp.length = 2 ∧ s.live Pg.RLY = true ∧ s.rly.est = [some 1, some 1] ∧ s.rly.closed = true ∧ s.rly.pos = .rest ∧
      s.rly.drive = [(true, true), (true, true)] ∧ nth (0, 0) s.rly.samp 0 = ((2 : Fin 3).val, 3) ∧
      (s.rly.drop.filterMap id).min? = some 9 ∧ max s.now s.rly.nextFb ≤ 9) ∧
    (∃ (s : State) (ends : Nat), s.rly.samp.length = 2 ∧ s.rly.est.length = 2 ∧ s.domReady 5 = true ∧ s.live Pg.RLY = true ∧
      s.rly.closed = false ∧ s.rly.pos = .step 3 [0] ends ∧ nth (0, 0) s.rly.samp 0 = (1, 3) ∧ max s.now s.rly.nextFb ≤ ends ∧
      s.rly.drop.filterMap id = []) ∧
    (∀ ok : Bool, ∃ (s : State) (k ends : Nat) (relays : List Nat), s.domReady 5 = true ∧ s.rly.pos = .step k relays ends ∧ k < 3 ∧
      (∀ n ∈ relays, decide (nth none s.rly.est n = some (if k = 1 then 2 else 0)) = ok) ∧ s.live Pg.RLY = true ∧ s.rly.job = .proof) ∧
    (∃ (s : State) (ends : Nat), s.domReady 5 = true ∧ s.rly.pos = .step 0 [0, 1] ends ∧ s.rly.est = [some 0, some 0] ∧
      s.rly.job = .close ∧ s.rly.weldStage = none ∧ s.rly.stage = 1 ∧ s.flag F.RLY_STAT_WELDPEND = false) ∧
    (∀ go : Bool, ∃ (s : State) (ends : Nat), s.domReady 5 = true ∧ s.rly.pos = .step 2 [0] ends ∧ nth none s.rly.est 0 = some 0 ∧
      s.rly.job = .close ∧ s.rly.weldStage = none ∧ s.rly.stage = 4 ∧ s.closePermit = go) ∧
    (∃ (s : State) (ends : Nat) (relays : List Nat), s.domReady 5 = true ∧ s.rly.pos = .step 3 relays ends) ∧
    (∃ (s : State) (t : Nat), s.domReady 5 = true ∧ (s.rly.drop.filterMap id).min? = some t) ∧
    (∃ s : State, s.domReady 5 = true ∧ s.rly.pos = .permit 0) ∧ (∃ s : State, s.domReady 5 = true ∧ s.rly.pos = .weldWait 0) ∧
    (∃ s : State, s.domReady 5 = true ∧ s.rly.pos = .measure 0 0 0 0 false ∧ s.rly.job = .close ∧ s.rly.waitLeft = 0 ∧
      s.weldConds = false) := by
  refine ⟨⟨relays { RlySt.reset with closed := true }, by decide +kernel⟩, fun bar => ?_, fun any => ?_,
    ⟨{ (up.putFlag F.RLY_STAT_WELDPEND true).putFlag F.RLY_POLICY_WELDEN true with
      prot := { up.prot with grid2 := 1000, chanOk := true } }, ?_⟩,
    ⟨relays { RlySt.reset with
      closed := true, est := [some 1, some 1], drive := [(true, true), (true, true)], samp := [(2, 3), (1, 3)], drop := [none, some 9] },
      by decide +kernel⟩,
    ⟨relays { RlySt.reset with pos := .step 3 [0] 9, samp := [(1, 3), (0, 0)] }, 9, by decide +kernel⟩, fun ok => ?_,
    ⟨{ up.putFlag F.RLY_STAT_WELDPEND false with
      rly := { RlySt.reset with job := .close, stage := 1, pos := .step 0 [0, 1] 9, est := [some 0, some 0] } }, 9, by decide +kernel⟩,
    fun go => ⟨{ up.putFlag F.PROT_STAT_SYNCOK go with
      rly := { RlySt.reset with job := .close, stage := 4, pos := .step 2 [0] 9, est := [some 0, none] } }, 9, by revert go; decide +kernel⟩,
    ⟨relays { RlySt.reset with pos := .step 3 [0, 1] 9 }, 9, [0, 1], by decide +kernel⟩,
    ⟨relays { RlySt.reset with drop := [none, some 9] }, 9, by decide +kernel⟩,
    ⟨relays { RlySt.reset with pos := .permit 0 }, by decide +kernel⟩,
    ⟨relays { RlySt.reset with pos := .weldWait 0 }, by decide +kernel⟩,
    ⟨relays { RlySt.reset with job := .close, pos := .measure 0 0 0 0 false }, by decide +kernel⟩⟩
  · refine ⟨up.putFlag F.PROT_STAT_RECONOK (!bar), ?_⟩
    revert bar; decide +kernel
  · refine ⟨relays { RlySt.reset with drive := if any then [(true, true), (false, false)] else [(false, false), (false, false)] }, ?_⟩
    revert any; decide +kernel
  · decide +kernel
  · refine ⟨relays { RlySt.reset with job := .proof, pos := .step 2 [0, 1] 9, est := if ok then [some 0, some 0] else [some 1, none] },
      2, 9, [0, 1], ?_⟩
    revert ok; decide +kernel

/-- No timer of channel `n` has run out before what happens in tick `t`. -/
def InTime (s : State) (n : Fin 2) (t : Nat) : Prop :=
  (∀ d ∈ s.hsw64Due n, t < d.1) ∧ (∀ d, s.hswGateDue n = some d → t ≤ d) ∧ (∀ d, s.hswLimitDue n = some d → t ≤ d)

theorem inTime_of {s : State} {n : Fin 2} {t : Nat} (h : ((s.hsw64Due n).all (fun d => decide (t < d.1)) &&
    (s.hswGateDue n).all (fun d => decide (t ≤ d)) && (s.hswLimitDue n).all (fun d => decide (t ≤ d))) = true) : InTime s n t := by
  simp only [Bool.and_eq_true, List.all_eq_true, decide_eq_true_eq] at h
  refine ⟨h.1.1, fun d hd => ?_, fun d hd => ?_⟩
  · simpa [hd] using h.1.2
  · simpa [hd] using h.2

/-- The tick of the next sample of channel `n`. -/
def sampleTick (s : State) (n : Fin 2) : Nat := (max s.now ((s.hswCh n).sampleAt + 1) + (hswPeriod - 1)) / hswPeriod * hswPeriod

/-- Channel 1 in state `st`, its gate timer started and its limit begun in tick 0. -/
def hswAt (st : Nat) : State :=
  { (up.put (F.HSW_STAT_STATE 1) st).setReg (Reg.HSW_I2T 1) 0#32 with
    hsw := { ch := List.replicate 2 { HswCh.reset with pre := 9, gateFrom := some 0, limFrom := some 0, lowFrom := some 0 } } }

theorem witness_HotSwapChannels :
    (∀ st ∈ [hswLatched, hswOff, hswPrecheck, hswRamp, hswIsOn], ∃ (s : State) (n : Fin 2), s.hsw.ch.length = 2 ∧ s.domReady 10 = true ∧
      s.domOn 10 = true ∧ s.live Pg.HSW = true ∧ s.serves (Reg.HSW_CTRL n) = true ∧ s.hswState n = st ∧
      s.flag (F.HSW_CTRL_EN n) = false ∧ s.pwr.muster = false ∧ s.flag (F.HSW_STAT_LIMIT n) = false ∧ (s.hswCh n).pre = 9) ∧
    (∀ st ∈ [hswPrecheck, hswRamp, hswIsOn], ∃ (s : State) (n : Fin 2), s.hsw.ch.length = 2 ∧ s.live Pg.HSW = true ∧ s.domReady 10 = true ∧
      s.domOn 10 = true ∧ s.hswState n = st ∧ s.flag (F.HSW_STAT_LIMIT n) = false ∧ wbits (s.reg (Reg.HSW_I2T n)) 0 16 = 0 ∧
      (s.hswCh n).pre = 9 ∧ InTime s n (sampleTick s n) ∧ InTime s n s.now) ∧
    (∃ (s : State) (n : Fin 2) (t : Nat), s.live Pg.HSW = true ∧ s.hswGateDue n = some t) ∧
    (∃ (s : State) (n : Fin 2) (t : Nat), s.live Pg.HSW = true ∧ (s.hswCh n).limFrom = some t ∧ (s.hswCh n).retryAt = some t ∧
      (s.hswCh n).pgFrom = some t) ∧
    (∃ (s : State) (n : Fin 2) (t : Nat), s.live Pg.HSW = true ∧ s.hswPassAt n = some t ∧ t ≤ s.hswWindowEnd n ∧
      s.flag (F.HSW_CTRL_EN n) = true ∧ s.flag (F.HSW_CTRL_QUAR n) = true) := by
  refine ⟨fun st h => ?_, fun st h => ⟨hswAt st, 1, ?_⟩,
    ⟨{ up.put (F.HSW_STAT_STATE 1) hswRamp with hsw := { ch := List.replicate 2 { HswCh.reset with gateFrom := some 0 } } }, 1, 800000,
      by decide +kernel⟩,
    ⟨{ up with hsw := { ch := List.replicate 2 { HswCh.reset with limFrom := some 9, retryAt := some 9, pgFrom := some 9 } } }, 1, 9,
      by decide +kernel⟩,
    ⟨{ (up.putFlag (F.HSW_CTRL_EN 1) true).putFlag (F.HSW_CTRL_QUAR 1) true with
      hsw := { ch := List.replicate 2 { HswCh.reset with pgFrom := some 0 } } }, 1, 40000000, by decide +kernel⟩⟩
  rotate_left
  · refine ⟨?_, ?_, ?_, ?_, ?_, ?_, ?_, ?_, inTime_of ?_, inTime_of ?_⟩ <;> revert st <;> decide +kernel
  refine ⟨{ up.put (F.HSW_STAT_STATE 1) st with hsw := { ch := List.replicate 2 { HswCh.reset with pre := 9 } } }, 1, ?_⟩
  revert st; decide +kernel

/-- Channel 15 enabled, in state `st`, outside quarantine. -/
def reelAt (st : Nat) : State := (up.putFlag (F.DMA_CH_CTRL_EN 15) true).setDmaState 15 st

/-- Channel 15 about to run instruction `i`, its pointers 0 and 1 at words of bank B0. -/
def reel (i : BitVec 64) : State :=
  ((((reelAt dmaRun).setDmaPtr 15 0 0x80000).setDmaPtr 15 1 0x80010).setSramBytes 0x88000 (wbytes (i.extractLsb' 0 32))).setSramBytes
    0x88004 (wbytes (i.extractLsb' 32 32))

/-- A word with opcode `op` and low bits `x`. -/
def ins (op x : Nat) : BitVec 64 := BitVec.ofNat 64 (op * 2 ^ 60 + x)

/-- Channel `n` runs the word `i` next. -/
def AtReel (s : State) (n : Fin 16) (i : BitVec 64) : Prop :=
  s.dma.ch.length = 16 ∧ s.domOn 2 = true ∧ s.reelNext n = some i ∧ (s.dmaCh n).stale = false

/-- `reel i` with source 0 a message source, and context 255 enabled. -/
def reelMsg (i : BitVec 64) : State :=
  (((((reel i).setReg (Reg.IRQC_SENSE 0) 0xFFFFFFFF#32).setCtxReg 255 0x00 0xB0000#32).setCtxReg 255 0x04 1#32).setCtxReg 255 0x10
    0xB7FE0#32).setCtxReg 255 0x14 1#32 |>.setCtxReg 255 0x20 1#32

theorem witness_ReelControl :
    (∀ same : Bool, ∀ st ∈ [dmaIdle, dmaRun, dmaWait, dmaPause, dmaHalt], ∃ (s : State) (n : Fin 16) (val : Word), s.dma.ch.length = 16 ∧
      s.dmaState n = st ∧ s.serves (Reg.DMA_CH_CTRL n) = true ∧ wbits val 0 2 = 1 ∧ wbits val 3 4 % 8 = 0 ∧ wbit val 6 = false ∧
      wbits val 16 12 = s.get (F.DMA_CH_CTRL_START n) ∧ s.dmaOn n = true ∧ s.dmaQuar n = false ∧ s.pwr.muster = false ∧
      wbit val 2 = false ∧ decide ((s.dmaCh n).goAt = some (s.granted (some (Reg.DMA_CH_CTRL n))).now) = same) ∧
    (∃ (s : State) (n : Fin 16), s.dma.ch.length = 16 ∧ (s.dmaCh n).stopping = true) ∧
    (∀ k ∈ [(4, 0, 0, 0), (5, 0, 0, 1), (5, 1, 0, 0), (5, 1, 1, 0)], ∃ (s : State) (n : Fin 16) (i : BitVec 64) (t0 : Nat),
      s.dma.ch.length = 16 ∧ s.dmaState n = dmaWait ∧ (s.dmaCh n).cur = some i ∧ (s.dmaCh n).waitFrom = some t0 ∧ ibits i 57 3 = k.1 ∧
      ibits i 56 1 = k.2.1 ∧ ibits i 55 1 = k.2.2.1 ∧ s.get (F.DMA_CH_PRIO_DBCNT n) = k.2.2.2 ∧ s.get (F.DMA_CH_WAITTMO_UNIT n) = 0 ∧ (s.dmaCh n).seenAt = none) ∧
    (∃ (s : State) (n : Fin 16) (i : BitVec 64) (t0 : Nat), s.dma.ch.length = 16 ∧ s.dmaState n = dmaWait ∧ (s.dmaCh n).cur = some i ∧
      (s.dmaCh n).waitFrom = some t0 ∧ (s.dmaCh n).seenAt.isSome = true) ∧
    (∀ jump : Bool, ∃ (s : State) (n : Fin 16) (i : BitVec 64) (t0 : Nat), s.dma.ch.length = 16 ∧ s.dmaState n = dmaWait ∧
      (s.dmaCh n).cur = some i ∧ (s.dmaCh n).waitFrom = some t0 ∧ (s.dmaCh n).seenAt = none ∧ ibits i 57 3 = 5 ∧
      s.get (F.DMA_CH_PRIO_DBCNT n) = 0 ∧ ibits i 55 1 = jump.toNat ∧ (s.waitLimit n i).isSome = true) ∧
    (∀ l : Bool, ∃ (s : State) (n : Fin 16) (a : Nat), s.dma.ch.length = 16 ∧ s.dmaState n = dmaPause ∧ (s.dmaCh n).withheld = some a ∧
      s.beatReady a = true ∧ (s.dmaCh n).lost = l) := by
  refine ⟨fun same st h => ?_, ⟨up.modDma 15 (fun c => { c with stopping := true }), 15, by decide +kernel⟩, fun k h => ?_,
    ⟨(reelAt dmaWait).modDma 15 (fun (c : DmaCh) => { c with cur := some (ins 3 0), waitFrom := some 7, seenAt := some 8 }), 15, ins 3 0, 7,
      by decide +kernel⟩, fun jump => ?_, fun l => ?_⟩
  · refine ⟨(reelAt st).modDma 15 (fun (c : DmaCh) => { c with goAt := if same then some 0 else none }), 15, 1#32, ?_⟩
    revert same st; decide +kernel
  · refine ⟨((reelAt dmaWait).put (F.DMA_CH_PRIO_DBCNT 15) k.2.2.2).modDma 15 (fun c => { c with
      cur := some (ins 3 (k.1 * 2 ^ 57 + k.2.1 * 2 ^ 56 + k.2.2.1 * 2 ^ 55)), waitFrom := some 7 }), 15,
      ins 3 (k.1 * 2 ^ 57 + k.2.1 * 2 ^ 56 + k.2.2.1 * 2 ^ 55), 7, ?_⟩
    revert k; decide +kernel
  · refine ⟨((reelAt dmaWait).setReg (Reg.DMA_CH_WAITTMO 15) 0x00000064#32).modDma 15 (fun (c : DmaCh) => { c with
      cur := some (ins 3 (5 * 2 ^ 57 + 2 ^ 56 + jump.toNat * 2 ^ 55)), waitFrom := some 7, limAt := some 9, units := 100 }), 15,
      ins 3 (5 * 2 ^ 57 + 2 ^ 56 + jump.toNat * 2 ^ 55), 7, ?_⟩
    revert jump; decide +kernel
  · refine ⟨(reelAt dmaPause).modDma 15 (fun c => { c with withheld := some 0x80000, lost := l }), 15, 0x80000, ?_⟩
    revert l; decide +kernel

theorem witness_ReelInstructions :
    (∀ k ∈ [(ReelOp.nop, ins 0 0), (.moveWord, ins 1 0), (.moveRound, ins 1 (2 ^ 58 + 3 * 2 ^ 52)), (.moveFunnel, ins 1 (2 ^ 59 + 3 * 2 ^ 52)),
        (.loop, ins 2 0), (.loop, ins 2 (2 ^ 32)), (.wait, ins 3 (5 * 2 ^ 57)), (.sigEvent, ins 4 3), (.sigIrq, ins 4 (2 ^ 58 + 127)),
        (.sigContext, ins 4 (2 ^ 59 + 255)), (.sigChannel, ins 4 (3 * 2 ^ 58 + 14)), (.ptrSet, ins 5 0), (.ptrAdd, ins 5 (2 ^ 58)),
        (.ptrCopy, ins 5 (3 * 2 ^ 58)), (.endOp, ins 7 0), (.endOp, ins 7 (3 * 2 ^ 58)), (.illegal, ins 8 0)], ∃ (s : State) (n : Fin 16),
      AtReel s n k.2 ∧ reelOp k.2 = k.1 ∧
      (s.needsNav n k.2 && !s.domOn 3) = false ∧ ibits k.2 56 1 = 0 ∧ s.get (F.DMA_CH_PRIO_DBCNT n) = 0 ∧ s.dmaQuar n = false) ∧
    (∀ k ∈ [(ReelOp.moveWord, ins 1 (7 * 2 ^ 52 + 4)), (.moveRound, ins 1 (2 ^ 58 + 7 * 2 ^ 52 + 4)),
        (.moveFunnel, ins 1 (2 ^ 59 + 7 * 2 ^ 52 + 4))], ∃ (s : State) (n : Fin 16), AtReel s n k.2 ∧ reelOp k.2 = k.1 ∧
      let src := s.dmaPtr n (ibits k.2 56 2)
      let dst := s.dmaPtr n (ibits k.2 54 2)
      ibits k.2 0 24 = 4 ∧ (s.dmaCh n).midMove = false ∧ s.dmaQuar n = false ∧ inSram src = true ∧ inSram dst = true ∧ src % 4 = 0 ∧
        dst % 4 = 0 ∧ s.bankOn (bankOf src) = true ∧ s.bankOn (bankOf dst) = true ∧ bankOf src ≠ 3 ∧ bankOf dst ≠ 2 ∧
        ibits k.2 53 1 = 1 ∧ ibits k.2 52 1 = 1) ∧
    (∃ (s : State) (n : Fin 16) (i : BitVec 64), AtReel s n i ∧ reelOp i = .moveWord ∧ ibits i 0 24 ≠ 0 ∧ ibits i 0 24 % 4 ≠ 0) ∧
    (∃ (s : State) (n : Fin 16) (i : BitVec 64), AtReel s n i ∧ reelOp i = .wait ∧ s.needsNav n i = true ∧
      s.domOn 3 = false) ∧
    (∃ (s : State) (n : Fin 16) (i : BitVec 64), AtReel s n i ∧ reelOp i = .wait ∧ ibits i 57 3 = 5 ∧
      0 < s.get (F.DMA_CH_PRIO_DBCNT n)) ∧
    (∀ op ∈ [ReelOp.sigIrq, .sigContext], ∃ (s : State) (n : Fin 16) (i : BitVec 64), AtReel s n i ∧ reelOp i = op ∧
      s.dmaQuar n = false ∧ (((s.modDma n (fun (x : DmaCh) => { x with cur := some i })).elapse 1).busWrite (dmaWho n) (if op = .sigIrq then Reg.IRQC_DOORBELL else ctxA (ibits i 16 8) 0x08)
        (BitVec.ofNat 32 (if op = .sigIrq then ibits i 0 7 else ibits i 0 16))).2 = .ok) ∧
    (∃ (s : State) (n : Fin 16) (i : BitVec 64), AtReel s n i ∧ reelOp i = .sigChannel ∧ s.dmaQuar n = false ∧
      s.flag (F.DMA_CH_CTRL_SIGRING (ibits i 0 4)) = false ∧ s.dmaOn (ibits i 0 4) = true ∧ s.pwr.muster = false ∧
      s.dmaState (ibits i 0 4) = dmaIdle ∧ (s.dmaCh (ibits i 0 4)).goAt ≠ some (s.now + 1)) ∧
    (∃ (s : State) (n : Fin 16) (i : BitVec 64), AtReel s n i ∧ reelOp i = .sigIrq ∧ s.dmaQuar n = false ∧
      s.serves Reg.IRQC_DOORBELL = true ∧ s.live Pg.IRQC = true ∧ srcReserved (ibits i 0 7) = false ∧ s.irqMsg (ibits i 0 7) = true) ∧
    (∃ (s : State) (n : Fin 16) (i : BitVec 64), AtReel s n i ∧ reelOp i = .sigContext ∧ s.dmaQuar n = false ∧
      s.ctxEn (ibits i 16 8) = true ∧ s.ctxQuar (ibits i 16 8) = false ∧ s.cfgOk (ibits i 16 8) = true ∧
      ibits i 0 8 < 2 ^ s.sqLog (ibits i 16 8)) ∧
    (∀ x ∈ [0x80001, 0x80000], ∃ (s : State) (n : Fin 16) (i : BitVec 64), AtReel s n i ∧ reelOp i = .ptrLoad ∧
      ibits i 0 24 = x ∧ (x % 4 = 0 → inSram x = true ∧ s.bankOn (bankOf x) = true ∧ bankOf x ≠ 3)) ∧
    (∀ k ∈ [(0x80002, false), (0x80000, true), (0x80000, false)], ∃ (s : State) (n : Fin 16) (i : BitVec 64), AtReel s n i ∧
      reelOp i = .write ∧ s.dmaPtr n (ibits i 56 2) = k.1 ∧ s.dmaQuar n = k.2 ∧ s.bankOn (bankOf 0x80000) = true) := by
  unfold AtReel
  refine ⟨fun k h => ?_, fun k h => ?_, ⟨reel (ins 1 6), 15, ins 1 6, by decide +kernel⟩,
    ⟨{ reel (ins 3 (3 * 2 ^ 57)) with pwr := { up.pwr with on := 0xFF7#12 } }, 15, ins 3 (3 * 2 ^ 57), by decide +kernel⟩,
    ⟨(reel (ins 3 (5 * 2 ^ 57))).put (F.DMA_CH_PRIO_DBCNT 15) 1, 15, ins 3 (5 * 2 ^ 57), by decide +kernel⟩, fun op h => ?_,
    ⟨(reel (ins 4 (3 * 2 ^ 58 + 14))).putFlag (F.DMA_CH_CTRL_EN 14) true, 15, ins 4 (3 * 2 ^ 58 + 14), by decide +kernel⟩,
    ⟨reelMsg (ins 4 (2 ^ 58)), 15, ins 4 (2 ^ 58), by decide +kernel⟩,
    ⟨reelMsg (ins 4 (2 ^ 59 + 255 * 65536 + 1)), 15, ins 4 (2 ^ 59 + 255 * 65536 + 1), by decide +kernel⟩, fun x h => ?_,
    fun k h => ?_⟩
  · refine ⟨reel k.2, 15, ?_⟩
    revert k; decide +kernel
  · refine ⟨reel k.2, 15, ?_⟩
    revert k; decide +kernel
  · refine ⟨reel (ins 4 (if op = .sigIrq then 2 ^ 58 + 127 else 2 ^ 59)), 15, ins 4 (if op = .sigIrq then 2 ^ 58 + 127 else 2 ^ 59), ?_⟩
    revert op; decide +kernel
  · refine ⟨reel (ins 5 (2 ^ 59 + x)), 15, ins 5 (2 ^ 59 + x), ?_⟩
    revert x; decide +kernel
  · refine ⟨((reel (ins 6 0)).setDmaPtr 15 0 k.1).putFlag (F.DMA_CH_CTRL_QUAR 15) k.2, 15, ins 6 0, ?_⟩
    revert k; decide +kernel

theorem witness_Metering :
    (∀ sign ∈ [1, -1], ∃ (m : MetSt) (p t : Nat) (v : MetVals), p < 4 ∧ m.acc.length = 16 ∧ m.res.length = 16 ∧
      (if sign = 1 then 0 < v.p * t / 400000 / 3600 else v.p * t / 400000 / 3600 < 0)) ∧
    (∃ s : State, s.domOn 9 = true ∧ (s.metWorks && s.metReady) = false) ∧
    (∀ last clr : Bool, ∃ (s : State) (e t : Nat) (free : Bool) (rest : List (Nat × Nat × Bool)), s.domOn 9 = true ∧ s.metWorks = true ∧
      s.metReady = true ∧ s.met.ended = (e, t, free) :: rest ∧ s.live Pg.MET = true ∧
      decide ((if s.met.n = 0 then s.metLen (s.get F.MET_INTERVAL_LEN) else s.met.len) ≤ s.met.n + 1) = last ∧
      decide (s.met.clearAt = some (s.elapseTo s.metCloseAt).now) = clr) ∧
    (∃ (s : State) (at' w grp : Nat) (cyc : Word) (chs : List HrmCh) (noLock : Bool), s.domOn 9 = true ∧ s.live Pg.HRM = true ∧
      s.hrm.shown < 8 ∧ s.hrm.ready = some (at', chs, noLock, w, grp, cyc)) ∧
    (∃ s : State, s.domOn 9 = true ∧ s.serves Reg.MET_CFG = true) ∧
    (∀ k : Bool, ∃ s : State, s.domOn 9 = true ∧ s.domOn 3 = k) ∧
    (∀ at0 : Bool, ∃ (s : State) (a b : Rat), s.domOn 9 = true ∧ s.domOn 3 = false ∧ s.met.turned = at0 ∧ s.met.arg = some a ∧
      s.met.argPrev = some b) := by
  refine ⟨fun sign h => ?_, ⟨up, by decide +kernel⟩, fun last clr => ?_,
    ⟨{ up with hrm := { up.hrm with shown := 7, ready := some (0, [], false, 0, 0, 0#32) } }, 0, 0, 0, 0#32, [], false, by decide +kernel⟩,
    ⟨up, by decide +kernel⟩, fun k => ?_,
    fun at0 => ⟨{ up with pwr := { up.pwr with on := 0xFF7#12 }, met := { up.met with turned := at0, arg := some 0, argPrev := some 0 } }, 0, 0,
      by revert at0; decide +kernel⟩⟩
  · refine ⟨MetSt.reset, 3, 400000, { MetVals.zero with p := sign }, by decide, by decide, by decide, ?_⟩
    revert sign; decide +kernel
  · refine ⟨{ up with met := { up.met with
        ended := [(0, 0, false)], n := 8, len := if last then 9 else 10,
        clearAt := if clr then some ({ up with met := { up.met with ended := [(0, 0, false)] } } : State).metCloseAt else none } },
      0, 0, false, [], ?_⟩
    revert last clr; decide +kernel
  · refine ⟨{ up with pwr := { up.pwr with on := if k then 0xFFF#12 else 0xFF7#12 } }, ?_⟩
    revert k; decide +kernel

/-- `up` with both UARTs enabled, slot 255 a Gen-1 meter at address 254, map entry 15 at address 17, one word to BMS word 7. -/
def upBus : State :=
  let s := (((up.putFlag F.BUS_U1_CFG_EN true).putFlag F.BUS_U2_CFG_EN true).put (F.BUS_PLANT_MAP_ADDR 15) 17).put (F.BUS_PLANT_MAP_DEST 15) 11
  s.setSramBytes (0x90000 + 32 * 255) [0xFE#8, 0x01#8]

/-- A transaction sent for a READ of slot `n`, its request's last bit at tick 5. -/
def sent (n left : Nat) : UartRun := { job := { slot := n, kind := 1, cmd := none }, left := left, sent := some 5 }

theorem witness_TenantLedger :
    (∃ (s : State) (r : UartRun), s.u1On = true ∧ s.u1Next = some r ∧ s.slotProto r.job.slot = 1) ∧
    (∃ (s : State) (r : UartRun) (t : Nat) (bytes : List Byte) (delay : Nat), s.ldg.u1 = some r ∧ r.sent = some t ∧ s.u1On = true ∧
      delay ≤ s.respTmo 0 ∧ s.slotProto r.job.slot = 1 ∧ gen1Err (s.slotAddr r.job.slot) bytes = 0 ∧ r.job.kind = 1) ∧
    (∀ k : Fin 2, ∃ (s : State) (r : UartRun) (t : Nat), s.ldg.u1 = some r ∧ r.sent = some t ∧ r.left = k.val) ∧
    (∃ s : State, s.live Pg.LDG = true ∧ s.flag F.LDG_CFG_AUTOSWEEP = true ∧ s.get F.LDG_CFG_SWEEP = 0 ∧ s.ldg.sweep = none ∧
      s.ctx.flight = []) ∧
    (∀ due : Bool, ∃ s : State, s.intervalDue = due) ∧
    (∀ bar : Bool, ∃ (s : State), (s.live Pg.LDG && s.flag F.LDG_CFG_AUTOSHED && s.bus.fresh) = bar) ∧
    (∀ low : Bool, ∀ lv : Fin 8, ∃ (s : State) (t : Nat), (s.live Pg.LDG && s.flag F.LDG_CFG_AUTOSHED && s.bus.fresh) = true ∧ s.ldg.margin = some (low, t) ∧ s.get F.LDG_SHED_STAT_LEVEL = lv ∧
      s.ctx.flight = []) ∧
    (∀ on : Bool, ∃ s : State, s.bankOn 2 = on) ∧
    (∀ same : Bool, ∃ (s : State) (n : Fin 256) (val : Word), s.bankOn 2 = true ∧
      decide (wbits val 0 10 = wbits (s.slotW n 0) 0 10) = same) := by
  refine ⟨⟨{ upBus with ldg := { up.ldg with todo := [{ slot := 255, kind := 1, cmd := none }] } },
      { job := { slot := 255, kind := 1, cmd := none }, left := upBus.get F.BUS_U1_CFG_RETRY, sent := none }, by decide +kernel⟩,
    ⟨{ upBus with ldg := { up.ldg with u1 := some (sent 255 0) } }, sent 255 0, 5,
      [0x5A#8, 0xFE#8, 0#8, 0#8, 0#8, 0#8, 0#8, crc8 0#8 [0x5A#8, 0xFE#8, 0#8, 0#8, 0#8, 0#8, 0#8]], 40000000, by decide +kernel⟩,
    fun k => ⟨{ up with ldg := { up.ldg with u1 := some (sent 255 k) } }, sent 255 k, 5, rfl, rfl, rfl⟩,
    ⟨(up.putFlag F.LDG_CFG_AUTOSWEEP true).put F.LDG_CFG_SWEEP 0, by decide +kernel⟩, fun due => ?_, fun bar => ?_, fun low lv => ?_, fun on => ?_,
    fun same => ?_⟩
  · refine ⟨up.setReg Reg.SYS_RTC_SEC (if due then 3600#32 else 3599#32), ?_⟩
    revert due; decide +kernel
  · refine ⟨{ up.putFlag F.LDG_CFG_AUTOSHED true with bus := { up.bus with fresh := bar } }, ?_⟩
    revert bar; decide +kernel
  · refine ⟨{ (up.put F.LDG_SHED_STAT_LEVEL lv).putFlag F.LDG_CFG_AUTOSHED true with bus := { up.bus with fresh := true }, ldg := { up.ldg with margin := some (low, 9) } }, 9, ?_⟩
    revert low lv; decide +kernel
  · refine ⟨{ up with pwr := { up.pwr with on := if on then 0xFFF#12 else 1#12 } }, ?_⟩
    revert on; decide +kernel
  · refine ⟨up, 255, if same then 0#32 else 1#32, ?_⟩
    revert same; decide +kernel

theorem witness_PlantBus :
    (∀ busy : Bool, ∃ s : State, s.u2On = true ∧ s.bus.upd.isSome = busy) ∧
    (∃ (s : State) (e : Nat) (es : List Nat), s.u2On = true ∧ s.bus.u2 = none ∧ s.bus.upd = some (e :: es)) ∧
    (∃ (s : State) (r : UartRun) (t : Nat) (bytes : List Byte) (delay : Nat), s.u2On = true ∧ s.bus.u2 = some r ∧ r.sent = some t ∧
      delay ≤ s.respTmo 1 ∧ modbusErr (s.mapAddr r.job.slot) (if s.flag (F.BUS_PLANT_MAP_FC04 r.job.slot) then 4 else 3)
        (s.mapWords r.job.slot) bytes = 0 ∧ 4 ≤ s.mapDest r.job.slot ∧ s.mapDest r.job.slot ≤ 11 ∧ s.bus.bms.length = 8) ∧
    (∀ k : Fin 2, ∃ (s : State) (r : UartRun) (t : Nat), s.u2On = true ∧ s.bus.u2 = some r ∧ r.sent = some t ∧ r.left = k.val) ∧
    (∃ s : State, s.u2On = true ∧ s.bus.upd = some [] ∧ s.bus.u2 = none ∧ s.flag F.BUS_U2_CFG_GENSRC = false ∧
      nth none s.bus.bms 7 = none ∧ nth none s.bus.bms 0 = some 5) := by
  refine ⟨fun busy => ?_, ⟨{ upBus with bus := { up.bus with upd := some [15] } }, 15, [], by decide +kernel⟩,
    ⟨{ upBus with bus := { up.bus with u2 := some (sent 15 0) } }, sent 15 0, 5, withCrc16 [17#8, 3#8, 2#8, 1#8, 2#8], 20000000,
      by decide +kernel⟩, fun k => ?_,
    ⟨{ upBus.putFlag F.BUS_U2_CFG_GENSRC false with bus := { up.bus with upd := some [], bms := [some 5, none, none, none, none, none, none, none] } }, by decide +kernel⟩⟩
  · refine ⟨{ upBus with bus := { up.bus with upd := if busy then some [] else none } }, ?_⟩
    revert busy; decide +kernel
  · refine ⟨{ upBus with bus := { up.bus with u2 := some (sent 15 k) } }, sent 15 k, 5, ?_⟩
    revert k; decide +kernel

theorem witness_Doorbell :
    (∃ (s : State) (val : Word), s.serves Reg.IRQC_DOORBELL = true ∧ s.live Pg.IRQC = true ∧ srcReserved (wbits val 0 7) = false ∧
      s.irqMsg (wbits val 0 7) = true) ∧
    (∃ (s : State) (val : Word), s.serves Reg.IRQC_DOORBELL = true ∧ s.live Pg.IRQC = true ∧ s.irqMsg (wbits val 0 7) = false) ∧
    (∃ (s : State) (val : Word), s.serves Reg.IRQC_DOORBELL = true ∧ s.live Pg.IRQC = true ∧ srcReserved (wbits val 0 7) = true) :=
  ⟨⟨up.setReg (Reg.IRQC_SENSE 0) 0xFFFFFFFF#32, 0#32, by decide +kernel⟩, ⟨up, 0#32, by decide +kernel⟩, ⟨up, 111#32, by decide +kernel⟩⟩

theorem witness_InterruptController :
    (∃ (s : State) (k : Fin 4) (b : Nat), s.serves (Reg.IRQC_PEND_SET k) = true ∧ s.live Pg.IRQC = true ∧
      s.serves (Reg.IRQC_PEND k) = true ∧ b < 32 ∧ srcReserved (32 * k + b) = false) ∧
    (∀ some' : Bool, ∃ s : State, s.lnkState = 4 ∧ 0 < s.lnkCredit ∧ s.irqc.announce = true ∧ (s.irqBest 2 128 none).isSome = some') ∧
    (∃ s : State, s.irqAhead.irqc.announce = false) := by
  refine ⟨⟨up, 3, 0, by decide +kernel⟩, fun some' => ?_, ⟨up, by decide +kernel⟩⟩
  refine ⟨{ ((((up.put F.HOST_LNK_STAT_STATE 4).setReg Reg.HOST_LNK_CREDIT 15#32).setReg (Reg.IRQC_PEND 0) (if some' then 1#32 else 0#32)).setReg
    (Reg.IRQC_EN 0) 1#32).setReg (Reg.IRQC_TARGET 0) 2#32 with irqc := { announce := true, soon := [] } }, ?_⟩
  revert some'; decide +kernel

/-- A context 255 with rings of 2 entries at the ends of bank B6, enabled or not. -/
def upCtx (en : Bool) : State :=
  (((up.setCtxReg 255 0x00 0xB0000#32).setCtxReg 255 0x04 1#32).setCtxReg 255 0x10 0xB7FE0#32).setCtxReg 255 0x14 1#32 |>.setCtxReg 255 0x20
    (if en then 1#32 else 0#32)

/-- A context 255 with one entry to fetch, its turn next. -/
def upNext : State :=
  let s := (upCtx true).setCtxReg 255 0x08 1#32
  { s with ctx := { s.ctx with lastFetch := some 254 } }

theorem mayFetch_off (s : State) (n : Nat) (h : s.live Pg.CTX = false) : s.mayFetch n = false := by
  simp [State.mayFetch, State.ctxOn, h]

theorem no_turn (s : State) (k : Nat) (p : Option Nat) (h : s.live Pg.CTX = false) : nextInTurn k p s.mayFetch = none := by
  simp [nextInTurn, List.find?_eq_none, mayFetch_off s _ h]

theorem first_turn (s : State) (p : Nat) (hp : s.ctx.lastFetch = some p) (h : s.mayFetch ((p + 1) % 256) = true) :
    nextInTurn 256 s.ctx.lastFetch s.mayFetch = some ((p + 1) % 256) := by
  have h0 : List.range 256 = 0 :: List.map Nat.succ (List.range 255) := List.range_succ_eq_map
  simp only [nextInTurn, hp, h0, List.map_cons, Nat.add_zero, List.find?_cons, h]

theorem upCtx_logs : (upCtx true).sqLog (255 : Fin 256) = 1 ∧ (upCtx true).cqLog (255 : Fin 256) = 1 ∧
    (upCtx true).ctxEn (255 : Fin 256) = true ∧ (upCtx true).ctxQuar (255 : Fin 256) = false ∧
    (upCtx true).cfgOk (255 : Fin 256) = true := by decide +kernel

theorem places (k : Nat) (h : k = 1) : (∀ t ∈ [1, 2], decide (t < 2 ^ k) = decide (t = 1)) ∧
    ∀ b : Bool, decide (wbits (if b then 1#32 else 2#32) 0 8 < 2 ^ k) = b := by
  subst h; exact ⟨by decide +kernel, by decide +kernel⟩

theorem witness_ContextWindows :
    (∃ (s : State) (n : Fin 256), s.ctxEn n = false) ∧
    (∃ (s : State) (n : Fin 256), s.ctxEn n = true ∧ s.ctxQuar n = true) ∧
    (∃ (s : State) (n : Fin 256), s.ctxEn n = true ∧ s.ctxQuar n = false ∧ s.cfgOk n = false) ∧
    (∀ t ∈ [1, 2], ∃ (s : State) (n : Fin 256), s.ctxEn n = true ∧ s.ctxQuar n = false ∧ s.cfgOk n = true ∧
      decide (t < 2 ^ s.sqLog n) = decide (t = 1)) ∧
    (∃ (s : State) (n : Fin 256), s.live Pg.CTX = true ∧ s.ctxEn n = false ∧ s.pwr.muster = false) ∧
    (∀ b : Bool, ∃ (s : State) (n : Fin 256) (v : Word), decide (wbits v 0 8 < 2 ^ s.cqLog n) = b) ∧
    (∃ s : State, nextInTurn 256 s.ctx.lastFetch s.mayFetch = none) ∧
    (∃ (s : State) (m : Nat), nextInTurn 256 s.ctx.lastFetch s.mayFetch = some m) ∧
    (∀ pass : Bool, ∃ (s : State) (n : Fin 256), s.ctxPass n = pass) := by
  refine ⟨⟨up, 255, by decide +kernel⟩, ⟨(upCtx true).putBit (Reg.CTX_QUAR 7) 31 true, 255, by decide +kernel⟩,
    ⟨up.setCtxReg 255 0x20 1#32, 255, by decide +kernel⟩, fun t h => ⟨upCtx true, 255, upCtx_logs.2.2.1, upCtx_logs.2.2.2.1, upCtx_logs.2.2.2.2, ?_⟩,
    ⟨up, 255, by decide +kernel⟩, fun b => ⟨upCtx true, 255, if b then 1#32 else 2#32, ?_⟩, ⟨State.reset, no_turn _ _ _ (show State.reset.live Pg.CTX = false from by decide +kernel)⟩,
    ⟨upNext, _, first_turn upNext 254 (by decide +kernel) (by decide +kernel)⟩, fun pass => ⟨(upCtx true).putBit (Reg.CTX_QUAR 7) 31 pass, 255, ?_⟩⟩
  · exact (places _ upCtx_logs.1).1 t h
  · exact (places _ upCtx_logs.2.1).2 b
  · revert pass; decide +kernel

/-- The device command of opcode `op` with these arguments, queued, of class 2. -/
def cmdOp (op : Nat) (args : List Word) : Cmd := { cmd0 with op := op, args := args, dlUnit := 3 }

/-- `s` with one command in flight, its context the next in turn. -/
def one (s : State) (c : Cmd) : State := { s with ctx := { s.ctx with flight := [c], served := List.replicate 3 (some 255) } }

theorem snd_is {α β : Type} {x : α × β} {b : β} (h : x.2 = b) : ∃ m, x = (m, b) := ⟨x.1, by rw [← h]⟩

theorem snd_some {α β γ : Type} {x : α × Option (β × γ)} (h : x.2.isSome = true) : ∃ m b c, x = (m, some (b, c)) := by
  obtain ⟨a, _ | ⟨b, c⟩⟩ := x
  · cases h
  · exact ⟨a, b, c, rfl⟩

theorem last_is {α β γ : Type} {x : α × β × γ} {c : γ} (h : x.2.2 = c) : ∃ m b, x = (m, b, c) := ⟨x.1, x.2.1, by rw [← h]⟩

theorem mid_is {α β γ : Type} {x : α × β × γ} {b : β} (h : x.2.1 = b) : ∃ m c, x = (m, b, c) := ⟨x.1, x.2.2, by rw [← h]⟩

theorem list_is {α : Type} {l : List α} (h : l.isEmpty = false) : ∃ a t, l = a :: t := by
  cases l with
  | nil => cases h
  | cons a t => exact ⟨a, t, rfl⟩

/-- A first slice of an opcode, with its arguments, that meets `p`. -/
def Starts (op : Nat) (p : State → Cmd → Prop) : Prop :=
  ∃ (s : State) (k : Nat) (c : Cmd), s.starts k c ∧ c.op = op ∧ p (s.started k c) c

theorem starts_of {op : Nat} {p : State → Cmd → Prop} (s : State) (c : Cmd) (h : s.cmdNext = some (c.cls, c) ∧ c.st = CmdState.queued ∧
    (s.sliceTaken c.cls c).startBar c = stOk ∧ (s.sliceTaken c.cls c).dlReached c = false ∧ c.op = op)
    (hp : p (s.started c.cls c) c) : Starts op p := ⟨s, c.cls, c, ⟨h.1, h.2.1, h.2.2.1, h.2.2.2.1⟩, h.2.2.2.2, hp⟩

/-- `up` with image 1 valid and without entries. -/
def upNvm : State :=
  let img := ([0xE5C60410#32, 0x0000B001#32, 0x410#32, 1#32, 0#32].flatMap wbytes).zipIdx.map (fun e => (0x8000 + e.2, e.1)) ++
    (wbytes 0x8330225E#32).zipIdx.map (fun e => (0x803C + e.2, e.1))
  { up with nvm := img }

/-- `up` with an image 1 of two entries, its CRC not written, and slices of one item. -/
def upBare : State :=
  let img := ([0xE5C60410#32, 0x0000B001#32, 0x410#32, 1#32, 2#32].flatMap wbytes).zipIdx.map (fun e => (0x8000 + e.2, e.1)) ++
    ([0x30000000#32, 0#32, 0x30000000#32, 0#32].flatMap wbytes).zipIdx.map (fun e => (0x8040 + e.2, e.1))
  { up.put F.CTX_SLICE_US_SLICE_US 1 with nvm := img }

/-- A word of SRAM that reads and writes plainly. -/
def Plain (t : State) (a : Nat) : Prop := inSram a = true ∧ a % 4 = 0 ∧ t.bankOn (bankOf a) = true ∧ bankOf a ∈ [0, 1, 4, 5]

/-- The same image with its CRC. -/
def upNvm2 : State := stamp upBare 0x803C (crc32c (upBare.nvmBytes 0x8000 0x3C ++ upBare.nvmBytes 0x8040 16))

theorem nvmBytes_of {s t : State} (h : s.nvm = t.nvm) (o n : Nat) : s.nvmBytes o n = t.nvmBytes o n := by
  induction n generalizing o with
  | zero => rfl
  | succ n ih => rw [State.nvmBytes, State.nvmBytes, ih, State.nvmByte, State.nvmByte, h]

theorem nvmWord_of {s t : State} (h : s.nvm = t.nvm) (o : Nat) : s.nvmWord o = t.nvmWord o := by
  rw [State.nvmWord, State.nvmWord, nvmBytes_of h]

/-- An image of two entries whose CRC has been written is valid. -/
theorem stamped_image {s t : State} (ht : t.nvm = (stamp s 0x803C (crc32c (s.nvmBytes 0x8000 0x3C ++ s.nvmBytes 0x8040 16))).nvm)
    (h : s.nvmWord 0x8000 = 0xE5C60410#32 ∧ s.nvmByte 0x8004 = 1#8 ∧ s.nvmByte 0x8005 = 0xB0#8 ∧ s.nvmWord 0x8008 = 0x410#32 ∧
      s.nvmWord 0x8010 = 2#32) : t.imageCheck 1 = 0 ∧ t.nvmWord 0x8010 = 2#32 := by
  have w (o : Nat) (ho : o + 4 ≤ 0x803C) : t.nvmWord o = s.nvmWord o := by rw [nvmWord_of ht, nvmWord_stamp_ne s (.inl ho)]
  have b (o : Nat) (ho : o < 0x803C) : t.nvmByte o = s.nvmByte o := by
    rw [State.nvmByte, ht]
    exact nvmByte_stamp s (.inl ho)
  have e : imageBase 1 = 0x8000 := rfl
  have crc : t.nvmWord (0x8000 + 0x3C) = crc32c (t.nvmBytes 0x8000 0x3C ++ t.nvmBytes (0x8000 + 0x40) (8 * (2#32).toNat)) := by
    rw [nvmWord_of ht, nvmBytes_of ht, nvmBytes_of ht, nvmBytes_stamp s _ _ (.inl (by decide)), nvmBytes_stamp s _ _ (.inr (by decide))]
    exact nvmWord_stamp s _ _
  refine ⟨?_, (w _ (by decide)).trans h.2.2.2.2⟩
  rw [State.imageCheck, e]
  rw [w 0x8000 (by decide), w (0x8000 + 8) (by decide), w (0x8000 + 0x10) (by decide), b (0x8000 + 4) (by decide),
    b (0x8000 + 5) (by decide), h.1, show s.nvmByte (0x8000 + 4) = 1#8 from h.2.1, show s.nvmByte (0x8000 + 5) = 0xB0#8 from h.2.2.1,
    show s.nvmWord (0x8000 + 8) = 0x410#32 from h.2.2.2.1, show s.nvmWord (0x8000 + 0x10) = 2#32 from h.2.2.2.2, crc]
  simp

theorem loadEntries_items (es : List (Nat × Word)) (k : Nat) (s : State) (c : Cmd) : (s.loadEntries c es k).2.items ≤ c.items + k := by
  induction es generalizing k s c with
  | nil => cases k <;> simp [State.loadEntries]
  | cons e es ih =>
    cases k with
    | zero => simp [State.loadEntries]
    | succ k =>
      rw [State.loadEntries]
      split
      · exact Nat.le_add_right _ _
      · refine Nat.le_trans (ih k _ _) ?_
        show c.items + 1 + k ≤ c.items + (k + 1)
        omega

/-- What a CONFIG_LOAD begins with. -/
def loaded (t : State) : State := (t.setReg Reg.NVM_IMAGE (wput (t.reg Reg.NVM_IMAGE) 8 8 0)).imageValid

theorem load_short {t : State} {c : Cmd} {r : Word} (hn : t.nvmWord 0x8010 = 2#32) (hs : t.sliceItems 1 = 1) (ha : c.argN 0 = 1)
    (h0 : c.items = 0) : ((loaded t).loadEntries { c.going with r0 := r } ((loaded t).imageEntries (c.argN 0)) ((loaded t).sliceItems 1)).2.items <
      ((loaded t).imageEntries (c.argN 0)).length := by
  have slice : (loaded t).sliceItems 1 = 1 := by
    refine Eq.trans ?_ hs
    simp only [State.sliceItems, loaded, State.imageValid]
    rw [State.reg_setReg_ne _ _ (by decide), State.reg_setReg_ne _ _ (by decide)]
  have len : ((loaded t).imageEntries (c.argN 0)).length = 2 := by
    rw [ha, State.imageEntries, List.length_map, List.length_range, nvmWord_of (show (loaded t).nvm = t.nvm from rfl),
      show imageBase 1 + 0x10 = 0x8010 from rfl, hn]
    rfl
  rw [slice, len]
  refine Nat.lt_of_le_of_lt (loadEntries_items _ 1 _ _) ?_
  show c.items + 1 < 2
  rw [h0]
  decide

/-- A load of a valid image that does not end in its first slice. -/
def LoadsMore (t : State) (c : Cmd) : Prop :=
  c.items = 0 ∧ (t.gd.armed || t.opInFlight c.going 0x12) = false ∧ t.imageCheck (c.argN 0) = 0 ∧
    ((loaded t).loadEntries { c.going with r0 := (loaded t).imageCrc (c.argN 0) } ((loaded t).imageEntries (c.argN 0))
      ((loaded t).sliceItems 1)).2.items < ((loaded t).imageEntries (c.argN 0)).length

theorem loadsMore_of {t : State} {c : Cmd} (h : t.imageCheck 1 = 0 ∧ t.nvmWord 0x8010 = 2#32) (hs : t.sliceItems 1 = 1)
    (ha : c.argN 0 = 1) (h0 : c.items = 0) (hb : (t.gd.armed || t.opInFlight c.going 0x12) = false) : LoadsMore t c :=
  ⟨h0, hb, by rw [ha]; exact h.1, load_short h.2 hs ha h0⟩

theorem nvm_started (s : State) (k : Nat) (c : Cmd) : ((one s c).started k c).nvm = s.nvm := by
  simp only [State.started, State.sliceTaken, one]
  rfl

/-- `up` with its log scanned, 5 records in its ring, and slices of one item. -/
def upRing5 : State := ((up.putFlag F.LOG_STAT_SCANNED true).put F.CTX_SLICE_US_SLICE_US 1).put ⟨Reg.LOG_HEAD, 0, 13⟩ 5

theorem witness_MemoryCommands :
    Starts 0x01 (fun t c => c.argN 2 = 4 ∧ c.items = 0 ∧ ∃ m, t.moveWord c.going.who (c.argN 0) (c.argN 1) 0 = (m, none)) ∧
    Starts 0x01 (fun t c => c.argN 2 = 4 ∧ c.items = 0 ∧ ∃ m st a, t.moveWord c.going.who (c.argN 0) (c.argN 1) 0 = (m, some (st, a))) ∧
    Starts 0x01 (fun t c => c.argN 2 = 4 ∧ c.items = 0 ∧ Plain t (c.argN 0) ∧ Plain t (c.argN 1)) ∧
    Starts 0x02 (fun t c => c.argN 2 = 4 ∧ c.items = 0 ∧ c.going.ctlRange = false ∧ Plain t (c.argN 0) ∧ Plain t (c.argN 1)) ∧
    Starts 0x02 (fun t c => c.argN 2 = 4 ∧ c.items = 0 ∧ c.going.ctlRange = false ∧
      ∃ m, t.moveWord c.going.who (c.argN 0) (c.argN 1) 0 = (m, none)) ∧
    Starts 0x02 (fun t c => c.argN 2 = 4 ∧ c.items = 0 ∧ c.going.ctlRange = false ∧
      ∃ m st a, t.moveWord c.going.who (c.argN 0) (c.argN 1) 0 = (m, some (st, a))) ∧
    Starts 0x02 (fun t c => c.going.ctlRange = true ∧ t.ctl.run.isSome = true) ∧
    Starts 0x03 (fun t c => (ctlHolds (c.argN 0) && t.ctl.run.isSome) = true) ∧
    (∀ any : Bool, Starts 0x03 (fun t c => Plain t (c.argN 0) ∧ (wbit (c.arg 4) 0 = any ∧ (any = false ∨ t.sramWord (c.argN 0) = c.arg 3)))) ∧
    (∀ ok : Bool, Starts 0x03 (fun t c => (ctlHolds (c.argN 0) && t.ctl.run.isSome) = false ∧ decide ((t.busRead c.going.who (c.argN 0)).2.1 = .ok) = ok)) ∧
    (∀ b : Bool, Starts 0x03 (fun t c => (ctlHolds (c.argN 0) && t.ctl.run.isSome) = false ∧ (t.busRead c.going.who (c.argN 0)).2.1 = .ok ∧ wbit (c.arg 4) 0 = b ∧
      (t.busRead c.going.who (c.argN 0)).1 ≠ c.arg 3)) ∧
    Starts 0x03 (fun t c => (ctlHolds (c.argN 0) && t.ctl.run.isSome) = false ∧ (t.busRead c.going.who (c.argN 0)).2.1 = .ok ∧ wbit (c.arg 4) 0 = true ∧
      (t.busRead c.going.who (c.argN 0)).1 = c.arg 3) ∧
    Starts 0x10 (fun t c => c.items = 0 ∧ ∃ m ws, t.cmdWords c.going (c.argN 1) 64 = (m, ws, none)) ∧
    Starts 0x11 (fun _ c => c.items = 0) ∧
    Starts 0x14 (fun t c => c.items = 0 ∧ c.argN 1 = 4 ∧ (t.busRead c.going.who (0x100000 + c.argN 0)).2.1 = .ok) := by
  refine ⟨starts_of (one up (cmdOp 0x01 [0x80000#32, 0xB7FFC#32, 4#32])) (cmdOp 0x01 [0x80000#32, 0xB7FFC#32, 4#32]) (by decide +kernel)
      ⟨by decide +kernel, by decide +kernel, snd_is (by decide +kernel)⟩,
    starts_of (one up (cmdOp 0x01 [0x80000#32, 0xFFFFC#32, 4#32])) (cmdOp 0x01 [0x80000#32, 0xFFFFC#32, 4#32]) (by decide +kernel)
      ⟨by decide +kernel, by decide +kernel, snd_some (by decide +kernel)⟩,
    starts_of (one up (cmdOp 0x01 [0x80000#32, 0x80004#32, 4#32])) (cmdOp 0x01 [0x80000#32, 0x80004#32, 4#32]) (by decide +kernel)
      (by unfold Plain; decide +kernel),
    starts_of (one up (cmdOp 0x02 [0x80000#32, 0x80004#32, 4#32])) (cmdOp 0x02 [0x80000#32, 0x80004#32, 4#32]) (by decide +kernel)
      (by unfold Plain; decide +kernel),
    starts_of (one up (cmdOp 0x02 [0x80000#32, 0xB7FFC#32, 4#32])) (cmdOp 0x02 [0x80000#32, 0xB7FFC#32, 4#32]) (by decide +kernel)
      ⟨by decide +kernel, by decide +kernel, by decide +kernel, snd_is (by decide +kernel)⟩,
    starts_of (one up (cmdOp 0x02 [0x80000#32, 0x13FFC#32, 4#32])) (cmdOp 0x02 [0x80000#32, 0x13FFC#32, 4#32]) (by decide +kernel)
      ⟨by decide +kernel, by decide +kernel, by decide +kernel, snd_some (by decide +kernel)⟩,
    starts_of (one (running run0 rec0 0#32) (cmdOp 0x02 [0x80000#32, 0x14FFC#32, 4#32])) (cmdOp 0x02 [0x80000#32, 0x14FFC#32, 4#32])
      (by decide +kernel) ⟨by decide +kernel, by decide +kernel⟩,
    starts_of (one (running run0 rec0 0#32) (cmdOp 0x03 [0x14100#32])) (cmdOp 0x03 [0x14100#32]) (by decide +kernel) (by decide +kernel),
    fun any => ?_, fun ok => ?_, fun b => ?_,
    starts_of (one up (cmdOp 0x03 [0x80000#32, 1#32, 1#32, 0#32, 1#32])) (cmdOp 0x03 [0x80000#32, 1#32, 1#32, 0#32, 1#32])
      (by decide +kernel) (by decide +kernel),
    starts_of (one up (cmdOp 0x10 [0#32, 0x80000#32])) (cmdOp 0x10 [0#32, 0x80000#32]) (by decide +kernel)
      ⟨by decide +kernel, last_is (by decide +kernel)⟩,
    starts_of (one up (cmdOp 0x11 [0x7F000#32])) (cmdOp 0x11 [0x7F000#32]) (by decide +kernel) (by decide +kernel),
    starts_of (one up (cmdOp 0x14 [0x7FFFC#32, 4#32])) (cmdOp 0x14 [0x7FFFC#32, 4#32]) (by decide +kernel)
      ⟨by decide +kernel, by decide +kernel, by decide +kernel⟩⟩
  · cases any
    · exact starts_of (one up (cmdOp 0x03 [0x80000#32])) (cmdOp 0x03 [0x80000#32]) (by decide +kernel) (by unfold Plain; decide +kernel)
    · exact starts_of (one up (cmdOp 0x03 [0x80000#32, 1#32, 1#32, 0#32, 1#32])) (cmdOp 0x03 [0x80000#32, 1#32, 1#32, 0#32, 1#32])
        (by decide +kernel) (by unfold Plain; decide +kernel)
  · cases ok
    · exact starts_of (one up (cmdOp 0x03 [0xFFFFC#32])) (cmdOp 0x03 [0xFFFFC#32]) (by decide +kernel) (by decide +kernel)
    · exact starts_of (one up (cmdOp 0x03 [0x80000#32])) (cmdOp 0x03 [0x80000#32]) (by decide +kernel) (by decide +kernel)
  · cases b
    · exact starts_of (one up (cmdOp 0x03 [0x80000#32, 1#32, 1#32, 7#32])) (cmdOp 0x03 [0x80000#32, 1#32, 1#32, 7#32]) (by decide +kernel)
        (by decide +kernel)
    · exact starts_of (one up (cmdOp 0x03 [0x80000#32, 1#32, 1#32, 7#32, 1#32])) (cmdOp 0x03 [0x80000#32, 1#32, 1#32, 7#32, 1#32])
        (by decide +kernel) (by decide +kernel)

/-- `up` with its unlock window open and one pair at the start of SRAM: the register at `a`, value 0. -/
def upSafe (a : Nat) : State :=
  let s := up.setSramBytes 0x80000 (wbytes (BitVec.ofNat 32 a) ++ wbytes 0#32)
  { s with safe := { s.safe with window := some 1000000000 } }

theorem imageOps_some (u i : Nat) (bs : List Byte) : ∃ o r, imageOps u i bs = o :: r := list_is (by simp [imageOps])

theorem length_flatMap_le {α : Type} (f : α → List Nat) (n : Nat) (h : ∀ x, (f x).length ≤ n) (l : List α) :
    (l.flatMap f).length ≤ n * l.length := by
  induction l with
  | nil => exact Nat.zero_le _
  | cons x l ih =>
    have := h x
    rw [List.flatMap_cons, List.length_append, List.length_cons, Nat.mul_succ]
    omega

/-- A commit captures the five words of every context, and less than 1,011 registers a page. -/
theorem captureList_length : 1 < captureList.length ∧ captureList.length ≤ 101601 := by
  have hp (p : Nat) : (capturePage p).length ≤ 1010 := by
    have : (((List.range 0x3F0).map (fun i => 0x1000 * p + 0x40 + 4 * i)).filter (fun a => captureMask a ≠ 0#32)).length ≤ 1008 :=
      Nat.le_trans (List.length_filter_le _ _) (Nat.le_of_eq (by rw [List.length_map, List.length_range]))
    simp only [capturePage]
    split
    · rw [List.length_append]
      exact Nat.add_le_add_right this 2
    · exact Nat.le_trans this (by decide)
  have hn : capturedPages.length ≤ 64 := Nat.le_trans (List.length_filter_le _ _) (Nat.le_of_eq List.length_range)
  have ha := length_flatMap_le capturePage 1010 hp capturedPages
  have hc : ((List.range 256).flatMap (fun n => [0x00, 0x04, 0x10, 0x14, 0x20].map (ctxA n))).length = 1280 := by decide +kernel
  rw [captureList, List.length_append, hc]
  omega

/-- Without a deadline a slice captures as many registers as it has time for. -/
theorem captureRun_items (as : List Nat) (k : Nat) (s : State) (c : Cmd) (h : c.dlUnit = 3) :
    (s.captureRun c as k).2.items = c.items + min as.length k := by
  induction as generalizing k s c with
  | nil => cases k <;> simp [State.captureRun]
  | cons a as ih =>
    cases k with
    | zero => simp [State.captureRun]
    | succ k =>
      have hd : s.dlReached c = false := by simp [State.dlReached, Cmd.deadline, h]
      rw [State.captureRun, hd, if_neg (by decide)]
      refine Eq.trans (ih k _ _ h) ?_
      show c.items + 1 + min as.length k = c.items + min (as.length + 1) (k + 1)
      omega

theorem commit_items {s : State} {c : Cmd} {k : Nat} (h : c.dlUnit = 3) (h0 : c.items = 0) (hk : s.sliceItems 1 = k) :
    (s.captureRun c.going (captureList.drop c.items) (s.sliceItems 1)).2.items = min captureList.length k := by
  rw [captureRun_items _ _ _ c.going h, hk, h0, List.drop_zero, show c.going.items = c.items from rfl, h0, Nat.zero_add]

theorem commit_short {s : State} {c : Cmd} (h : c.dlUnit = 3) (h0 : c.items = 0) (hk : s.sliceItems 1 = 1) :
    (s.captureRun c.going (captureList.drop c.items) (s.sliceItems 1)).2.items < captureList.length := by
  rw [commit_items h h0 hk]
  exact Nat.lt_of_le_of_lt (Nat.min_le_right _ _) captureList_length.1

theorem commit_whole {s : State} {c : Cmd} (h : c.dlUnit = 3) (h0 : c.items = 0) (hk : s.sliceItems 1 = 101601) :
    captureList.length ≤ (s.captureRun c.going (captureList.drop c.items) (s.sliceItems 1)).2.items := by
  rw [commit_items h h0 hk]
  exact Nat.le_min.2 ⟨Nat.le_refl _, captureList_length.2⟩

/-- `up` with its log scanned and slices of `k` µs. -/
def upSlice (k : Nat) : State := let s := up.put F.CTX_SLICE_US_SLICE_US k; { s with log := { s.log with scanned := true } }

theorem witness_MemoryCommands_commit :
    Starts 0x12 (fun t c => c.items = 0 ∧ c.items ≤ captureList.length ∧ t.commitBar c.going ≠ stOk) ∧
    Starts 0x12 (fun t c => c.items ≤ captureList.length ∧ t.commitBar c.going = stOk ∧
      (t.captureRun c.going (captureList.drop c.items) (t.sliceItems 1)).2.items < captureList.length) ∧
    Starts 0x12 (fun t c => c.items ≤ captureList.length ∧ t.commitBar c.going = stOk ∧
      let x := t.captureRun c.going (captureList.drop c.items) (t.sliceItems 1)
      captureList.length ≤ x.2.items ∧ ∃ o rest, imageOps c.uid (c.argN 0)
        (imageBytes (BitVec.ofNat 32 x.1.nextGen) (x.1.reg Reg.SYS_RTC_SEC) x.2.capture) = o :: rest) := by
  exact ⟨starts_of (one { up with pwr := { up.pwr with on := 0x7FF#12 } } (cmdOp 0x12 [1#32])) (cmdOp 0x12 [1#32]) (by decide +kernel)
      ⟨by decide +kernel, Nat.zero_le _, by decide +kernel⟩,
    starts_of (one (upSlice 1) (cmdOp 0x12 [1#32])) (cmdOp 0x12 [1#32]) (by decide +kernel)
      ⟨Nat.zero_le _, by decide +kernel, commit_short rfl rfl (by decide +kernel)⟩,
    starts_of (one (upSlice 255) (cmdOp 0x12 [1#32])) (cmdOp 0x12 [1#32]) (by decide +kernel)
      ⟨Nat.zero_le _, by decide +kernel, commit_whole rfl rfl (by decide +kernel), imageOps_some _ _ _⟩⟩

theorem witness_MemoryCommands_images :
    (∀ busy : Bool, Starts 0x13 (fun t c => c.items = 0 ∧ (t.gd.armed || t.opInFlight c.going 0x12) = busy ∧
      (busy = false → t.imageCheck (c.argN 0) ≠ 0))) ∧
    Starts 0x13 (fun t c => c.items = 0 ∧ (t.gd.armed || t.opInFlight c.going 0x12) = false ∧ t.imageCheck (c.argN 0) = 0 ∧ c.r1 = 0#32 ∧
      ((t.setReg Reg.NVM_IMAGE (wput (t.reg Reg.NVM_IMAGE) 8 8 0)).imageValid).imageEntries (c.argN 0) = []) ∧
    Starts 0x13 LoadsMore ∧
    Starts 0x60 (fun t c => (t.busRead c.going.who Reg.IDENT_SERIAL_LO).2.1 = .ok ∧ c.argN 0 = 0 ∧ t.serves Reg.IDENT_SERIAL_LO = true) ∧
    Starts 0x60 (fun t c => (t.busRead c.going.who Reg.IDENT_SERIAL_LO).2.1 ≠ .ok) := by
  have two := stamped_image (s := upBare) (nvm_started upNvm2 (cmdOp 0x13 [1#32]).cls (cmdOp 0x13 [1#32])) (by decide +kernel)
  refine ⟨fun busy => ?_,
    starts_of (one upNvm (cmdOp 0x13 [1#32])) (cmdOp 0x13 [1#32]) (by decide +kernel) (by decide +kernel),
    starts_of (one upNvm2 (cmdOp 0x13 [1#32])) (cmdOp 0x13 [1#32]) (by decide +kernel)
      (loadsMore_of two (by decide +kernel) rfl rfl (by decide +kernel)),
    starts_of (one up (cmdOp 0x60 [])) (cmdOp 0x60 []) (by decide +kernel) (by decide +kernel),
    starts_of (one { up with pwr := { up.pwr with on := 0xFFE#12 } } (cmdOp 0x60 [])) (cmdOp 0x60 []) (by decide +kernel)
      (by decide +kernel)⟩
  cases busy
  · exact starts_of (one up (cmdOp 0x13 [1#32])) (cmdOp 0x13 [1#32]) (by decide +kernel) (by decide +kernel)
  · exact starts_of (one armed (cmdOp 0x13 [1#32])) (cmdOp 0x13 [1#32]) (by decide +kernel)
      ⟨by decide +kernel, by decide +kernel, fun h => absurd h (by decide)⟩

theorem witness_MemoryCommands_log :
    (∀ sc : Bool, Starts 0x40 (fun t c => c.notes = [] ∧ t.flag F.LOG_STAT_SCANNED = sc ∧
      (sc = true → t.logInRing (c.argN 0) = false))) ∧
    (∀ more : Bool, Starts 0x40 (fun t c => c.notes = [] ∧ t.flag F.LOG_STAT_SCANNED = true ∧ t.logInRing (c.argN 0) = true ∧
      let x := t.copyRecords { c.going with notes := [((t.logCopy (c.argN 0) (c.argN 2)).length : Rat)], r1 := BitVec.ofNat 32 (c.argN 0) }
        (t.sliceItems 8)
      x.2.2 = none ∧ decide (x.2.1.notes.headD 0 ≤ (x.2.1.items : Rat)) = !more ∧
        x.1.logInRing ((c.argN 0 + x.2.1.items) % 8192) = true)) ∧
    Starts 0x40 (fun t c => c.notes = [] ∧ t.flag F.LOG_STAT_SCANNED = true ∧ t.logInRing (c.argN 0) = true ∧
      (t.copyRecords { c.going with notes := [((t.logCopy (c.argN 0) (c.argN 2)).length : Rat)], r1 := BitVec.ofNat 32 (c.argN 0) }
        (t.sliceItems 8)).2.2.isSome = true) := by
  refine ⟨fun sc => ?_, fun more => ?_,
    starts_of (one upRing5 (cmdOp 0x40 [0#32, 0x200000#32, 3#32])) (cmdOp 0x40 [0#32, 0x200000#32, 3#32]) (by decide +kernel) (by decide +kernel)⟩
  · cases sc
    · exact starts_of (one up (cmdOp 0x40 [5#32])) (cmdOp 0x40 [5#32]) (by decide +kernel) (by decide +kernel)
    · exact starts_of (one (up.putFlag F.LOG_STAT_SCANNED true) (cmdOp 0x40 [5#32])) (cmdOp 0x40 [5#32]) (by decide +kernel) (by decide +kernel)
  · cases more
    · exact starts_of (one upRing5 (cmdOp 0x40 [0#32, 0x80000#32, 1#32])) (cmdOp 0x40 [0#32, 0x80000#32, 1#32]) (by decide +kernel)
        (by decide +kernel)
    · exact starts_of (one upRing5 (cmdOp 0x40 [0#32, 0x80000#32, 3#32])) (cmdOp 0x40 [0#32, 0x80000#32, 3#32]) (by decide +kernel)
        (by decide +kernel)

/-- The stored bytes of slot `i` that are not erased: the CRC of an entry all of whose other bytes are 0xFF. -/
def crcCells (i : Nat) : List Host.Cell :=
  [(0x1403C + 64 * i, 0xA8#8), (0x1403D + 64 * i, 0xB4#8), (0x1403E + 64 * i, 0x39#8), (0x1403F + 64 * i, 0x8A#8)]

theorem crcCells_low (is : List Nat) (m b : Nat) (hb : b < 0x3C) :
    Sparse.get nvmDefault (is.flatMap crcCells) (0x14000 + 64 * m + b) = 0xFF#8 := by
  induction is with
  | nil => rfl
  | cons i is ih =>
    simp only [List.flatMap_cons, crcCells, List.cons_append, List.nil_append, Sparse.get]
    rw [if_neg (by omega), if_neg (by omega), if_neg (by omega), if_neg (by omega)]
    exact ih

theorem crcCells_high (is : List Nat) (m : Nat) (h : m ∈ is) (k : Fin 4) :
    Sparse.get nvmDefault (is.flatMap crcCells) (0x1403C + 64 * m + k) = [0xA8#8, 0xB4#8, 0x39#8, 0x8A#8][k] := by
  induction is with
  | nil => cases h
  | cons i is ih =>
    simp only [List.flatMap_cons, crcCells, List.cons_append, List.nil_append, Sparse.get]
    by_cases e : m = i
    · subst e
      obtain ⟨k, hk⟩ := k
      rcases (by omega : k = 0 ∨ k = 1 ∨ k = 2 ∨ k = 3) with rfl | rfl | rfl | rfl <;> dsimp only <;> (repeat' split) <;>
        first | rfl | omega
    · have hk := k.isLt
      rw [if_neg (by omega), if_neg (by omega), if_neg (by omega), if_neg (by omega)]
      exact ih (by simpa [e] using h)

theorem nvmBytes_const (s : State) (v : Byte) (n o : Nat) (h : ∀ k < n, s.nvmByte (o + k) = v) : s.nvmBytes o n = List.replicate n v := by
  induction n generalizing o with
  | zero => rfl
  | succ n ih =>
    rw [State.nvmBytes, List.replicate_succ, ih (o + 1) (fun k hk => by
      rw [show o + 1 + k = o + (k + 1) by omega]; exact h _ (by omega))]
    exact congrArg (· :: _) (by simpa using h 0 (by omega))

/-- The slots of the change log's last sector. -/
def lastSlots : List Nat := List.range' 448 64

theorem clogSlot_last (s : State) (h : s.nvm = lastSlots.flatMap crcCells) (i : Nat) (hi : 448 ≤ i ∧ i < 512) :
    s.clogSlot i = some 0xFFFFFFFF := by
  have low : ∀ k < 0x3C, s.nvmByte (0x14000 + 64 * i + k) = 0xFF#8 := fun k hk => by
    rw [State.nvmByte, h]; exact crcCells_low _ _ _ hk
  have mem : i ∈ lastSlots := by simp only [lastSlots, List.mem_range'_1]; omega
  have high (k : Fin 4) : s.nvmByte (0x1403C + 64 * i + k) = [0xA8#8, 0xB4#8, 0x39#8, 0x8A#8][k] := by
    rw [State.nvmByte, h]; exact crcCells_high _ _ mem k
  have w : s.nvmBytes (0x14000 + 64 * i + 0x3C) 4 = [0xA8#8, 0xB4#8, 0x39#8, 0x8A#8] := by
    rw [show 0x14000 + 64 * i + 0x3C = 0x1403C + 64 * i by omega]
    simp only [State.nvmBytes]
    exact List.cons_eq_cons.2 ⟨high 0, List.cons_eq_cons.2 ⟨high 1, List.cons_eq_cons.2 ⟨high 2, List.cons_eq_cons.2 ⟨high 3, rfl⟩⟩⟩⟩
  simp only [State.clogSlot, State.nvmWord, nvmBytes_const s _ _ _ low, w,
    nvmBytes_const s 0xFF#8 4 (0x14000 + 64 * i) (fun k hk => low k (by omega))]
  decide +kernel

theorem archiveSectors_last (s : State) (h : s.nvm = lastSlots.flatMap crcCells) :
    ∃ n ns, s.archiveSectors 0xFFFFFFFF = n :: ns := by
  apply list_is
  have : 7 ∈ s.archiveSectors 0xFFFFFFFF := by
    simp only [State.archiveSectors, List.mem_filter, List.mem_range, List.all_eq_true]
    refine ⟨by omega, fun i hi => ?_⟩
    rw [clogSlot_last s h _ (by omega)]
    rfl
  cases e : s.archiveSectors 0xFFFFFFFF with
  | nil => rw [e] at this; cases this
  | cons _ _ => rfl

/-- `up` with the 64 slots of the change log's last sector holding entry 0xFFFFFFFF. -/
def upLog : State := { up with nvm := lastSlots.flatMap crcCells, safe := { up.safe with seq := 0x100000000 } }

/-- `up` with one entry in its change log, 0xFFFFFFFF in the last slot. -/
def upLogOne : State := { up with nvm := crcCells 511, safe := { up.safe with seq := 0x100000000 } }

theorem witness_MemoryCommands_archive :
    Starts 0x41 (fun t c => c.notes = [] ∧ t.archiveProven (c.argN 0) (c.arg 1) = false) ∧
    Starts 0x41 (fun t c => c.notes = [] ∧ t.archiveProven (c.argN 0) (c.arg 1) = true ∧ t.archiveSectors (c.argN 0) = []) ∧
    Starts 0x41 (fun t c => c.notes = [] ∧ t.archiveProven (c.argN 0) (c.arg 1) = true ∧ ∃ n ns, t.archiveSectors (c.argN 0) = n :: ns) :=
  ⟨starts_of (one up (cmdOp 0x41 [])) (cmdOp 0x41 []) (by decide +kernel) (by decide +kernel),
    starts_of (one upLogOne (cmdOp 0x41 [0xFFFFFFFF#32, 0x8A39B4A8#32])) (cmdOp 0x41 [0xFFFFFFFF#32, 0x8A39B4A8#32]) (by decide +kernel)
      (by decide +kernel),
    starts_of (one upLog (cmdOp 0x41 [0xFFFFFFFF#32, 0x8A39B4A8#32])) (cmdOp 0x41 [0xFFFFFFFF#32, 0x8A39B4A8#32]) (by decide +kernel)
      ⟨by decide +kernel, by decide +kernel, archiveSectors_last _ (by decide +kernel)⟩⟩

/-- What SAFE_CHANGE reads of its pairs. -/
def pairsRead (t : State) (c : Cmd) : State × List Word × Option Nat := t.cmdWords c.going (c.argN 1) (2 * (c.argN 0 % 32))

theorem witness_MemoryCommands_pairs : ∀ opn ok : Bool, Starts 0x42 (fun t c =>
    (pairsRead t c).2.2 = none ∧ ((pairsRead t c).1.pageStatus Pg.SAFE).cmd = stOk ∧
    (pairsRead t c).1.batchOpen (pairsOf (pairsRead t c).2.1) (wbit (c.arg 0) 8) = opn ∧
    (opn = true → (pairsOf (pairsRead t c).2.1).all pairOk = ok) ∧ wbit (c.arg 0) 8 = false ∧ c.argN 0 % 32 ≠ 0 ∧
    ∃ e, pairsOf (pairsRead t c).2.1 = [e] ∧ e.1 ≠ Reg.PROT_PROFILE) := by
  intro opn ok
  cases opn
  · exact starts_of (one up (cmdOp 0x42 [1#32, 0x80000#32])) (cmdOp 0x42 [1#32, 0x80000#32]) (by decide +kernel)
      ⟨by decide +kernel, by decide +kernel, by decide +kernel, fun h => absurd h (by decide), by decide +kernel, by decide +kernel, (0, 0#32),
        by decide +kernel⟩
  · cases ok
    · exact starts_of (one (upSafe 0) (cmdOp 0x42 [1#32, 0x80000#32])) (cmdOp 0x42 [1#32, 0x80000#32]) (by decide +kernel)
        ⟨by decide +kernel, by decide +kernel, by decide +kernel, by decide +kernel, by decide +kernel, by decide +kernel, (0, 0#32),
          by decide +kernel⟩
    · exact starts_of (one (upSafe 0x20044) (cmdOp 0x42 [1#32, 0x80000#32])) (cmdOp 0x42 [1#32, 0x80000#32]) (by decide +kernel)
        ⟨by decide +kernel, by decide +kernel, by decide +kernel, by decide +kernel, by decide +kernel, by decide +kernel, (0x20044, 0#32),
          by decide +kernel⟩

theorem starts_op {p : State → Cmd → Prop} (s : State) (op : Nat) (args : List Word)
    (h : (one s (cmdOp op args)).cmdNext = some (2, cmdOp op args) ∧ ((one s (cmdOp op args)).sliceTaken 2 (cmdOp op args)).startBar (cmdOp op args) = stOk ∧
      ((one s (cmdOp op args)).sliceTaken 2 (cmdOp op args)).dlReached (cmdOp op args) = false ∧
      p ((one s (cmdOp op args)).started 2 (cmdOp op args)) (cmdOp op args)) : Starts op p :=
  ⟨one s (cmdOp op args), 2, cmdOp op args, ⟨h.1, rfl, h.2.1, h.2.2.1⟩, rfl, h.2.2.2⟩

/-- `up` with the Harmony Bank and the Ledger off, and with the ADC, the trackers and the relays unready. -/
def down : State := { up with pwr := { up.pwr with on := 0x1FF#12, ready := 0x1FF#12 } }

/-- `up` with GPIO 9 in output function. -/
def gpio9 : State := (up.setReg (Reg.PINS_FUNC 9) 2#32).putBit Reg.PINS_GPIO_DIR 9 true

/-- `up` with every condition of an ARM met. -/
def ready : State :=
  { (((((up.put F.PWM_CFG_OWNER 1).putFlag F.PROT_STAT_RECONOK true).setReg (Reg.EVR_DEST 6) 0xB0#32).setReg (Reg.EVR_DEST 7) 0xB3#32).putFlag
    (F.HSW_STAT_PGQ 0) true).putFlag (F.HSW_STAT_PGQ 1) true with now := 10 * ticksPerSec }

/-- `up` with the domain of the comparators off. -/
def noCmp : State := { up with pwr := { up.pwr with on := 0xFFF#12 &&& ~~~(1#12 <<< pageDomain Pg.CMP) } }

theorem witness_BlockCommands :
    (∀ ok : Bool, Starts 0x20 (fun t _ => decide (t.blockStatus Pg.HRM = stOk) = ok)) ∧
    (∀ off : Bool, Starts 0x21 (fun t c => (!t.domReady 9 || (waveChans (c.argN 1)).any (fun ch => !t.domReady (waveDomain ch))) = off)) ∧
    (Starts 0x22 (fun t _ => (t.pageStatus Pg.MODE).cmd = stOk ∧ t.mode.sweep.isSome = true) ∧
      ∀ bar : Bool, Starts 0x22 (fun t c => (t.pageStatus Pg.MODE).cmd = stOk ∧ t.mode.sweep = none ∧ decide (t.sweepBar ≠ 0) = bar ∧
        wbit (c.arg 0) 0 = true)) ∧
    (Starts 0x23 (fun t _ => (t.pageStatus Pg.ADCI).cmd = stOk ∧ (t.gd.armed || decide (t.rlyState ≠ 0)) = true) ∧
      Starts 0x23 (fun t c => (t.pageStatus Pg.ADCI).cmd = stOk ∧ (t.gd.armed || decide (t.rlyState ≠ 0)) = false ∧ t.gpioOutput (wbits (c.arg 0) 0 5) = false) ∧
      ∀ v : Bool, Starts 0x23 (fun t c => (t.pageStatus Pg.ADCI).cmd = stOk ∧ (t.gd.armed || decide (t.rlyState ≠ 0)) = false ∧
        t.gpioOutput (wbits (c.arg 0) 0 5) = true ∧ decide (t.vpvPart < 1 / 10) = v)) ∧
    (∀ busy : Bool, Starts 0x24 (fun t c => t.blockStatus Pg.RLY = stOk ∧ (t.gd.armed || decide (t.rlyState ≠ 0)) = busy ∧
      wbit (c.arg 0) 0 = true)) ∧
    (Starts 0x25 (fun t _ => t.gd.armed = true) ∧
      Starts 0x25 (fun t c => t.gd.armed = false ∧ (if natBit (c.argN 0) 2 then (t.pageStatus Pg.CMP).cmd else stOk) ≠ stOk) ∧
      ∀ a ∈ [0, 2], Starts 0x25 (fun t c => t.gd.armed = false ∧ (if natBit (c.argN 0) 2 then (t.pageStatus Pg.CMP).cmd else stOk) = stOk ∧
        c.argN 0 = a)) ∧
    (∀ on : Bool, Starts 0x26 (fun t _ => t.blockStatus Pg.SPEC = stOk ∧ t.gd.armed = on)) := by
  refine ⟨fun ok => ?_, fun off => ?_, ⟨starts_op { up with mode := { up.mode with sweep := some { strings := [1], point := none, begun := false, sumV := 0, sumP := 0, n := 0, best := none } } } _ [] (by decide +kernel),
      fun bar => ?_⟩,
    ⟨starts_op armed _ [] (by decide +kernel), starts_op up _ [9#32] (by decide +kernel), fun v => ?_⟩, fun busy => ?_,
    ⟨starts_op armed _ [] (by decide +kernel), starts_op noCmp _ [4#32] (by decide +kernel), fun a h => ?_⟩, fun on => ?_⟩
  · cases ok
    · exact starts_op down _ [] (by decide +kernel)
    · exact starts_op up _ [] (by decide +kernel)
  · cases off
    · exact starts_op up _ [0#32, 0x3FFFF#32] (by decide +kernel)
    · exact starts_op down _ [0#32, 0x3FFFF#32] (by decide +kernel)
  · cases bar
    · exact starts_op armed _ [1#32] (by decide +kernel)
    · exact starts_op up _ [1#32] (by decide +kernel)
  · cases v
    · exact starts_op (gpio9.modAdc 9 (fun c => { c with lastC := some (838861, false, false) })) _ [9#32] (by decide +kernel)
    · exact starts_op (gpio9.modAdc 9 (fun c => { c with lastC := some (838860, false, false) })) _ [9#32] (by decide +kernel)
  · cases busy
    · exact starts_op up _ [1#32] (by decide +kernel)
    · exact starts_op armed _ [1#32] (by decide +kernel)
  · exact starts_op up _ [BitVec.ofNat 32 a] (by revert a; decide +kernel)
  · cases on
    · exact starts_op up _ [] (by decide +kernel)
    · exact starts_op armed _ [] (by decide +kernel)

theorem witness_BlockCommands_ledger :
    (∀ ok : Bool, Starts 0x30 (fun t _ => decide (t.blockStatus Pg.LDG = stOk) = ok)) ∧
    (∀ sw : Bool, Starts 0x31 (fun t _ => t.blockStatus Pg.LDG = stOk ∧ t.ldg.sweep.isSome = sw ∧
      (sw = false → (t.slotFrom 0 256).isSome = true))) ∧
    (∀ same : Bool, Starts 0x32 (fun t c => c.argN 0 = 7 ∧ t.blockStatus Pg.LDG = stOk ∧
      decide (t.get F.LDG_SHED_STAT_LEVEL = 8 - c.argN 0) = same)) ∧
    (∀ same : Bool, Starts 0x33 (fun t c => c.argN 0 = 7 ∧ t.blockStatus Pg.LDG = stOk ∧
      decide (t.get F.LDG_SHED_STAT_LEVEL = 7 - c.argN 0) = same)) := by
  refine ⟨fun ok => ?_, fun sw => ?_, fun same => ?_, fun same => ?_⟩
  · cases ok
    · exact starts_op down _ [] (by decide +kernel)
    · exact starts_op up _ [] (by decide +kernel)
  · cases sw
    · exact starts_op (up.setSramBytes 0x90000 [0xFE#8, 0x01#8]) _ [] (by decide +kernel)
    · exact starts_op { up with ldg := { up.ldg with sweep := some 0 } } _ [] (by decide +kernel)
  · cases same
    · exact starts_op up _ [7#32] (by decide +kernel)
    · exact starts_op (up.put F.LDG_SHED_STAT_LEVEL 1) _ [7#32] (by decide +kernel)
  · cases same
    · exact starts_op (up.put F.LDG_SHED_STAT_LEVEL 1) _ [7#32] (by decide +kernel)
    · exact starts_op up _ [7#32] (by decide +kernel)

/-- An ABORT of tag 5, of class 0, behind a command of that tag of its context. -/
def abort5 : Cmd := { cmdOp 0x7F [5#32] with uid := 1, cls := 0, ctx := 255 }

def tagged : Cmd := { cmdOp 0x22 [3#32] with tag := 5, ctx := 255 }

def aborting : State := { up with ctx := { up.ctx with flight := [tagged, abort5], served := List.replicate 3 (some 254) } }

/-- `up` with the domain of MODE off. -/
def noMode : State := { up with pwr := { up.pwr with on := 0xFFF#12 &&& ~~~(1#12 <<< pageDomain Pg.MODE) } }

theorem witness_BlockCommands_bridge :
    Starts 0x50 (fun t _ => t.gd.armed = true) ∧ (∀ bar : Bool, Starts 0x50 (fun t _ => t.gd.armed = false ∧ decide (t.armBars ≠ 0) = bar)) ∧
    (∀ on : Bool, Starts 0x51 (fun t _ => t.bridgeOn = on)) ∧
    Starts 0x52 (fun t c => (t.busWrite c.going.who Reg.MODE_REQ (c.arg 0)).2 ≠ .ok) ∧
    (∀ ref : Bool, Starts 0x52 (fun t c => (t.busWrite c.going.who Reg.MODE_REQ (c.arg 0)).2 = .ok ∧ t.serves Reg.MODE_REQ = true ∧
      (t.mode.blend.isNone && t.reqRefused (c.argN 0)) = ref ∧ c.argN 0 < 4 ∧ t.mode.blend = none)) ∧
    Starts 0x52 (fun t c => t.serves Reg.MODE_REQ = true ∧ (t.mode.blend.isNone && t.reqRefused (c.argN 0)) = false ∧ c.argN 0 < 4 ∧
      t.mode.blend.isSome = true) ∧
    Starts 0x7F (fun t c => (t.abortTargets c.going).filter (fun x => !t.timingOut x) = []) ∧
    (∃ (s : State) (c x : Cmd), s.starts 0 c ∧ c.op = 0x7F ∧
      ((s.started 0 c).abortTargets c.going).filter (fun y => !(s.started 0 c).timingOut y) = [x] ∧ x.st = .queued ∧ x.ctx ≠ devCtx) := by
  refine ⟨starts_op armed _ [] (by decide +kernel), fun bar => ?_, fun on => ?_, starts_op noMode _ [1#32] (by decide +kernel), fun ref => ?_,
    starts_op { up with mode := { up.mode with blend := some (1, 0) } } _ [2#32] (by decide +kernel),
    starts_op up _ [5#32] (by decide +kernel), ?_⟩
  · cases bar
    · exact starts_op ready _ [] (by decide +kernel)
    · exact starts_op up _ [] (by decide +kernel)
  · cases on
    · exact starts_op up _ [] (by decide +kernel)
    · exact starts_op armed _ [] (by decide +kernel)
  · cases ref
    · exact starts_op up _ [1#32] (by decide +kernel)
    · exact starts_op up _ [2#32] (by decide +kernel)
  · exact ⟨aborting, abort5, tagged, by unfold State.starts; decide +kernel⟩

/-- `s` with these commands in flight, the device context next in turn. -/
def flying (s : State) (cs : List Cmd) : State := { s with ctx := { s.ctx with flight := cs, served := List.replicate 3 (some 255) } }

def sweep0 : Cmd := cmdOp 0x22 []
def waiting0 : Cmd := { sweep0 with st := .waiting .sweep }
def second : Cmd := { sweep0 with uid := 1 }
def timed : Cmd := { sweep0 with dlUnit := 1, dlVal := 3 }
/-- A sweep of context 255, its deadline the tick of its fetch. -/
def late0 : Cmd := { cmdOp 0x22 [3#32] with ctx := 255, dlUnit := 0, dlVal := 0 }

/-- A malformed command of context 255, and one with 3 ms to go. -/
def bad0 : Cmd := { late0 with bad := true, dlUnit := 3 }

def timed0 : Cmd := { late0 with dlUnit := 1, dlVal := 3 }

/-- `up` with one command in flight, context 255 next in turn. -/
def turn255 (c : Cmd) : State := { up with ctx := { up.ctx with flight := [c], served := List.replicate 3 (some 254) } }

def isoWait : Cmd := { cmdOp 0x23 [9#32] with st := .waiting (.settle 7), notes := [1, 2, 3, 4, 5, 6] }
def armWait : Cmd := { cmdOp 0x50 [] with st := .waiting .bridge }

theorem witness_CommandEngine :
    (∃ s : State, s.cmdNext = none) ∧
    (∃ (s : State) (k : Nat) (c : Cmd), s.cmdNext = some (k, c) ∧ (s.sliceTaken k c).dlReached c = true) ∧
    (∃ (s : State) (k : Nat) (c : Cmd), s.cmdNext = some (k, c) ∧ (s.sliceTaken k c).dlReached c = false ∧ c.st = .queued ∧
      (s.sliceTaken k c).startBar c ≠ stOk) ∧
    (∀ past : Bool, ∃ (s : State) (k : Nat) (c : Cmd), s.cmdNext = some (k, c) ∧ c.st = .queued ∧ c.ctx ≠ devCtx ∧
      (if past then (s.sliceTaken k c).dlReached c = true else (s.sliceTaken k c).startBar c ≠ stOk)) ∧
    (∃ (s : State) (k : Nat) (c : Cmd), s.cmdNext = some (k, c) ∧ (s.sliceTaken k c).dlReached c = false ∧ c.st = .ready) ∧
    (∃ (s : State) (c : Cmd), s.live Pg.CTX = true ∧ s.ctx.flight = [c] ∧ c.stop = none ∧ s.dlReached c = true) ∧
    (∃ (s : State) (c : Cmd) (dl : Nat), s.live Pg.CTX = true ∧ s.ctx.flight = [c] ∧ c.stop = none ∧ s.dlReached c = false ∧
      s.mayRun c = true ∧ c.deadline = some dl ∧ c.st = .queued ∧ c.ctx ≠ devCtx) ∧
    (∃ (s : State) (c : Cmd) (dl : Nat), s.isoCmd = some c ∧ c.st = .waiting (.settle dl)) ∧
    (∃ (s : State) (c : Cmd), s.armCmd = some c ∧ (s.prechargeDone && decide (s.prechargeBars = 0)) = false) ∧
    (∃ (s : State) (c : Cmd), s.armCmd = some c ∧ s.prechargeDone = true ∧ s.prechargeBars = 0) := by
  refine ⟨⟨up, ?_⟩, ⟨flying up [cmd0], 2, cmd0, ?_⟩, ⟨flying up [waiting0, second], 2, second, ?_⟩,
    fun past => ⟨turn255 (if past then late0 else bad0), 2, if past then late0 else bad0, ?_⟩,
    ⟨flying up [{ sweep0 with st := .ready }], 2, { sweep0 with st := .ready }, ?_⟩, ⟨flying up [cmd0], cmd0, ?_⟩,
    ⟨flying up [timed0], timed0, 1200000, ?_⟩, ⟨flying up [isoWait], isoWait, 7, ?_⟩, ⟨flying up [armWait], armWait, ?_⟩,
    ⟨flying { ready with gd := { ready.gd with arming := true } } [armWait], armWait, ?_⟩⟩ <;> (try revert past) <;> decide +kernel

/-- `up` 1 s after its reset, a Gen-A and Gen-B port at work. -/
def upSpi : State := { ((up.putFlag F.HOST_CFG_GENAEN true).putFlag F.HOST_CFG_GENBEN true).putFlag F.HOST_GENB_CFG_DUPEN true with now := ticksPerSec }

/-- A Gen-B request of these bytes, its CRC behind them. -/
def genB (body : List Byte) : List Byte := 0x6C#8 :: body ++ wbytes (crc32c body)

/-- The CRC of a Gen-B request holds, its bytes are whole, a reserved bit is set, its address is a multiple of 4. -/
def genBJudged (bytes : List Byte) : Bool × Bool × Bool × Bool :=
  let l := (nth 0#8 bytes 4).toNat
  let f := nth 0#8 bytes 7
  let n := genBLength (l % 64) (f.getLsbD 0)
  (decide (crc32c ((bytes.drop 1).take (n - 5)) = BitVec.ofNat 32 (bytesNat ((bytes.drop (n - 4)).take 4))), decide (9 ≤ bytes.length ∧ n ≤ bytes.length),
    decide (64 ≤ l ∨ 8 ≤ f.toNat ∨ nth 0#8 bytes 8 ≠ 0#8), decide (bytesNat ((bytes.drop 1).take 3) % 4 = 0))

theorem witness_SerialPorts_spi :
    (∃ (s : State) (bytes : List Byte), s.spiKind bytes ≠ .genA ∧ s.spiKind bytes ≠ .genB ∧ s.spiKind bytes ≠ .reserved ∧
      s.spiKind bytes = .ignored) ∧
    (∃ (s : State) (bytes : List Byte), s.spiKind bytes = .reserved) ∧
    (∀ bytes ∈ [[0x8C#8], [0x0C#8, 0x15#8, 0#8, 0#8, 0#8]], ∃ s : State, s.spiKind bytes = .genA ∧
      bytes.length < (if (bytes.headD 0#8).getLsbD 7 then 2 else 6)) ∧
    (∃ (s : State) (bytes : List Byte), s.spiKind bytes = .genA ∧ (bytes.headD 0#8).getLsbD 7 = true ∧ 2 ≤ bytes.length) ∧
    (∃ (s : State) (bytes : List Byte), s.spiKind bytes = .genA ∧ (bytes.headD 0#8).getLsbD 7 = false ∧ 6 ≤ bytes.length) ∧
    (∃ (s : State) (bytes : List Byte), s.spiKind bytes = .genB ∧ bytes.length < 9) ∧
    (∃ (s : State) (bytes : List Byte), s.spiKind bytes = .genB ∧ (genBJudged bytes).1 = false ∧ (genBJudged bytes).2.1 = true) ∧
    (∀ rsvd aligned : Bool, ∃ (s : State) (bytes : List Byte), s.spiKind bytes = .genB ∧
      genBJudged bytes = (true, true, rsvd, aligned)) ∧
    (∀ wr dup : Bool, ∃ (s : State) (bytes : List Byte), s.spiKind bytes = .genB ∧ genBJudged bytes = (true, true, false, true) ∧
      (nth 0#8 bytes 7).getLsbD 0 = wr ∧ s.flag F.HOST_GENB_CFG_DUPEN = dup ∧ s.host.genbDup = none) ∧
    (∃ (s : State) (bytes : List Byte), s.spiKind bytes = .genB ∧ genBJudged bytes = (true, true, false, true) ∧
      (nth 0#8 bytes 7).getLsbD 0 = true ∧ s.flag F.HOST_GENB_CFG_DUPEN = true ∧
      s.host.genbDup = some (nth 0#8 bytes 6, BitVec.ofNat 32 (bytesNat ((bytes.drop 13).take 4)))) := by
  refine ⟨⟨upSpi, [0x40#8], by decide +kernel⟩, ⟨upSpi, [0xFF#8], by decide +kernel⟩, fun b h => ⟨upSpi, by revert b; decide +kernel⟩,
    ⟨upSpi, [0x8C#8, 0x15#8], by decide +kernel⟩, ⟨upSpi, [0x0C#8, 0x15#8, 0#8, 0#8, 0#8, 0#8], by decide +kernel⟩,
    ⟨upSpi, [0x6C#8], by decide +kernel⟩, ⟨upSpi, 0x6C#8 :: List.replicate 12 0#8, by decide +kernel⟩,
    fun rsvd al => ⟨upSpi, genB [if al then 0x54#8 else 0x55#8, 0xC0#8, 0#8, 0#8, 0#8, 0x2A#8, 0#8, if rsvd then 1#8 else 0#8], ?_⟩,
    fun wr dup => ⟨upSpi.putFlag F.HOST_GENB_CFG_DUPEN dup, if wr then genB [0#8, 0#8, 8#8, 0#8, 0#8, 0x2A#8, 1#8, 0#8, 1#8, 2#8, 3#8, 4#8] else
      genB [0#8, 0#8, 8#8, 0#8, 0#8, 0x2A#8, 0#8, 0#8], ?_⟩,
    ⟨{ upSpi with host := { upSpi.host with genbDup := some (0x2A#8, crc32c [0#8, 0#8, 8#8, 0#8, 0#8, 0x2A#8, 1#8, 0#8, 1#8, 2#8, 3#8, 4#8]) } },
      genB [0#8, 0#8, 8#8, 0#8, 0#8, 0x2A#8, 1#8, 0#8, 1#8, 2#8, 3#8, 4#8], by decide +kernel⟩⟩
  · revert rsvd al; decide +kernel
  · revert wr dup; decide +kernel

/-- A sideband transaction under way: a read or a write, its pointer, whether the pointer is still to come. -/
def sbAt (s : State) (read first : Bool) (ptr : Nat) : State :=
  { s with sb := { SbSt.reset with matched := true, read := read, first := first, ptr := ptr } }

theorem witness_SerialPorts_sideband :
    (∃ (s : State) (addr : BitVec 7), addr.toNat ≠ s.get F.HOST_SB_ADDR_ADDR) ∧
    (∃ (s : State) (addr : BitVec 7), addr.toNat = s.get F.HOST_SB_ADDR_ADDR ∧ s.sbReady = true ∧ s.powerState ≠ 5) ∧
    (∃ (s : State) (addr : BitVec 7), addr.toNat = s.get F.HOST_SB_ADDR_ADDR ∧ s.sbReady = false ∧
      s.flag F.HOST_SB_ADDR_NOSTRETCH = false) ∧
    (∃ (s : State) (addr : BitVec 7), addr.toNat = s.get F.HOST_SB_ADDR_ADDR ∧ s.flag F.HOST_SB_ADDR_NOSTRETCH = true) ∧
    (∃ (s : State) (addr : BitVec 7), addr.toNat = s.get F.HOST_SB_ADDR_ADDR ∧ s.wakeWatch = true ∧
      wbit (s.reg Reg.PWR_WAKE_EN) 0 = true ∧ s.powerState = 5 ∧ s.flag F.HOST_SB_ADDR_NOSTRETCH = false) ∧
    (∃ s : State, (s.sb.matched && !s.sb.read) = false ∧ (s.sb.matched && s.sb.read) = false) ∧
    (∀ listed : Bool, ∃ (s : State) (p : Byte), s.sb.matched = true ∧ s.sb.read = false ∧ s.sb.held = none ∧ s.sbReady = true ∧
      s.sb.first = true ∧ (sbReg p.toNat).isSome = listed) ∧
    (∃ s : State, s.sb.matched = true ∧ s.sb.read = false ∧ s.sb.held = none ∧ s.sbReady = false) ∧
    (∃ (s : State) (a : Nat), s.sb.matched = true ∧ s.sb.read = false ∧ s.sb.held = none ∧ s.sbReady = true ∧ s.sb.first = false ∧
      sbReg s.sb.ptr = some a ∧ sbWritable a = false) ∧
    (∃ (s : State) (a : Nat), s.sb.matched = true ∧ s.sb.read = false ∧ s.sb.held = none ∧ s.sbReady = true ∧ s.sb.first = false ∧
      sbReg s.sb.ptr = some a ∧ sbMailbox a = true ∧ s.mastered a = false ∧ s.serves a = true) ∧
    (∃ (s : State) (a : Nat), s.sb.matched = true ∧ s.sb.read = false ∧ s.sb.held = none ∧ s.sbReady = true ∧ s.sb.first = false ∧
      sbReg s.sb.ptr = some a ∧ sbMailbox a = true ∧ s.mastered a = true) ∧
    (∃ s : State, s.sb.matched = true ∧ s.sb.read = false ∧ s.sb.held = none ∧ s.sbReady = true ∧ s.sb.first = false ∧
      sbReg s.sb.ptr = some Reg.HOST_MBOX_STAT ∧ s.sb.ptr % 4 = 0 ∧ s.sb.buf = []) ∧
    (∃ (s : State) (a : Nat), s.sb.matched = true ∧ s.sb.read = false ∧ s.sb.held = none ∧ s.sbReady = true ∧ s.sb.first = false ∧
      sbReg s.sb.ptr = some a ∧ sbWritable a = true ∧ sbMailbox a = false ∧ a ≠ Reg.HOST_MBOX_STAT ∧ s.sb.ptr % 4 = 0 ∧
      s.sb.buf = []) ∧
    (∀ listed : Bool, ∃ s : State, s.sb.matched = true ∧ s.sb.read = true ∧ s.sb.held = none ∧ s.sbReady = true ∧
      (sbReg s.sb.ptr).isSome = listed) ∧
    (∃ s : State, s.sb.matched = true ∧ s.sb.read = true ∧ s.sb.held = none ∧ s.sbReady = false) ∧
    (∃ s : State, s.sb.held = none ∧ s.sb.matched = false) ∧
    (∀ r slept : Bool, ∃ (s : State) (t : Nat), s.sb.held = some t ∧ s.pwr.inReset = r ∧ decide (s.powerState = 5) = slept) ∧
    (∀ late : Bool, ∃ (s : State) (t : Nat), s.sb.held = some t ∧ s.pwr.inReset = false ∧ s.powerState ≠ 5 ∧
      decide (s.lpoLast (max s.now (t + 2 * ticksPerMs)) < s.pwr.released + ticksPerMs) = late) ∧
    (∀ on : Bool, ∃ s : State, s.sb.matched = true ∧ s.domOn 1 = on) := by
  refine ⟨⟨up, 0#7, by decide +kernel⟩, ⟨upSpi, BitVec.ofNat 7 (upSpi.get F.HOST_SB_ADDR_ADDR), by decide +kernel⟩,
    ⟨up, BitVec.ofNat 7 (up.get F.HOST_SB_ADDR_ADDR), by decide +kernel⟩,
    ⟨up.putFlag F.HOST_SB_ADDR_NOSTRETCH true, BitVec.ofNat 7 (up.get F.HOST_SB_ADDR_ADDR), by decide +kernel⟩,
    ⟨(up.put F.PWR_STATE_STATE 5).setReg Reg.PWR_WAKE_EN 1#32, BitVec.ofNat 7 (up.get F.HOST_SB_ADDR_ADDR), by decide +kernel⟩,
    ⟨up, by decide +kernel⟩,
    fun l => ⟨sbAt upSpi false true 0, if l then 0x7F#8 else 0x80#8, by revert l; decide +kernel⟩,
    ⟨sbAt up false false 0, by decide +kernel⟩, ⟨sbAt upSpi false false 0, Reg.IDENT_PART, by decide +kernel⟩,
    ⟨sbAt upSpi false false 0x7F, Reg.PWR_MBOX 15, by decide +kernel⟩,
    ⟨{ sbAt upSpi false false 0x40 with beat := some (upSpi.now, some (Reg.PWR_MBOX 0)) }, Reg.PWR_MBOX 0, by decide +kernel⟩,
    ⟨sbAt upSpi false false 0x34, by decide +kernel⟩, ⟨sbAt upSpi false false 0x20, Reg.PWR_STATE_REQ, by decide +kernel⟩,
    fun l => ⟨sbAt upSpi true false (if l then 0x7F else 0x80), by revert l; decide +kernel⟩, ⟨sbAt up true false 0, by decide +kernel⟩,
    ⟨up, by decide +kernel⟩,
    fun r p => ⟨let u := if p then up.put F.PWR_STATE_STATE 5 else up; { u with sb := { u.sb with held := some 5 }, pwr := { u.pwr with inReset := r } }, 5, by revert r p; decide +kernel⟩,
    fun l => ⟨{ up with sb := { up.sb with held := some 0 }, pwr := { up.pwr with released := if l then 10 * ticksPerMs else 0 } }, 0,
      by revert l; decide +kernel⟩,
    fun o => ⟨sbAt (if o then up else { up with pwr := { up.pwr with on := 0xFFD#12 } }) true false 0, by revert o; decide +kernel⟩⟩

/-- A packet of these bytes, its CRC behind them; one of TYPE `k`, LEN `len`, address 0x080000 or, unaligned, 0x080001. -/
def packet (bs : List Byte) : List Byte := bs ++ wbytes (crc32c bs)
def asks (k len : Nat) (even : Bool) : List Byte :=
  packet ([BitVec.ofNat 8 k, 0x2A#8, 0#8, BitVec.ofNat 8 len, if even then 0#8 else 1#8, 0#8, if k = 1 ∨ k = 2 then 8#8 else 0#8, 0#8] ++
    (if k = 1 ∨ k = 6 then [] else List.replicate (4 * (len + 1)) 0#8))
def ping (w0 : Word) (answer : Bool) : List Byte :=
  packet ([if answer then 0x87#8 else 7#8, 0x2A#8, 0#8, 3#8, 0#8, 0#8, 0#8, 0#8] ++ wbytes w0 ++ List.replicate 12 0#8)

/-- What R437 asks of a packet: its CRC and its form; no limit of the link has passed (R435). -/
def taken (s : State) (bytes : List Byte) : Bool :=
  decide (12 ≤ bytes.length ∧ crc32c (bytes.take (bytes.length - 4)) = BitVec.ofNat 32 (bytesNat (bytes.drop (bytes.length - 4)))) &&
    s.lnkFormOk bytes && s.lnkLimit.all (fun l => decide (s.now ≤ l))

/-- `up` with the link in state `k`, one host credit held. -/
def upLink (k : Nat) : State := (up.put F.HOST_LNK_STAT_STATE k).setReg Reg.HOST_LNK_CREDIT 1#32

def aReply : LnkReply := { head := List.replicate 7 0x81#8, payload := [] }

/-- `upLink 4` with context 255 enabled, its rings of 2 entries empty, or full. -/
def upRing (full : Bool) : State :=
  let s := ((((upLink 4).setCtxReg 0 0x00 0xB0000#32).setCtxReg 0 0x04 1#32).setCtxReg 0 0x10 0xB7FE0#32).setCtxReg 0 0x14 1#32
  (s.setCtxReg 0 0x20 1#32).setCtxReg 0 0x08 (if full then 1#32 else 0#32)

theorem witness_LersyLink_packets :
    (∀ k ∈ [1, 2, 3, 6, 7], ∃ (s : State) (bytes : List Byte), lnkType bytes = k ∧ s.lnkState < 3 ∧ s.lnkLimit = none) ∧
    (∀ k ∈ [1, 2, 3, 6, 7], ∀ going : Bool, ∃ (s : State) (bytes : List Byte) (l : Nat), lnkType bytes = k ∧ s.lnkLimit = some l ∧
      l < s.now ∧ decide (s.host.rate = .none) = !going) ∧
    (∀ bad : Bool, ∃ (s : State) (bytes : List Byte), lnkType bytes ∉ [1, 2, 3, 6, 7] ∧ 3 ≤ s.lnkState ∧ s.lnkLimit = none ∧
      decide (12 ≤ bytes.length ∧ crc32c (bytes.take (bytes.length - 4)) = BitVec.ofNat 32 (bytesNat (bytes.drop (bytes.length - 4)))) = !bad ∧
      s.lnkFormOk bytes = false) ∧
    (∀ k ∈ [1, 2, 3, 6, 7], ∃ (s : State) (bytes : List Byte), lnkType bytes = k ∧ 3 ≤ s.lnkState ∧ s.lnkLimit = none ∧ s.lnkFormOk bytes = false ∧
      bytes.length = 12 ∧ crc32c (bytes.take 8) = BitVec.ofNat 32 (bytesNat (bytes.drop 8))) ∧
    (∀ k ∈ [1, 2, 3, 6, 7], ∃ (s : State) (bytes : List Byte), lnkType bytes = k ∧ 3 ≤ s.lnkState ∧ s.lnkLimit = none ∧ bytes.length < 12) ∧
    (∀ k ∈ [1, 2, 3], ∃ (s : State) (bytes : List Byte), lnkType bytes = k ∧ 3 ≤ s.lnkState ∧ taken s bytes = true ∧
      lnkCredited (bytes.headD 0#8) = true ∧ 8 ≤ s.host.replies.length) ∧
    (∃ (s : State) (bytes : List Byte), lnkType bytes = 6 ∧ 3 ≤ s.lnkState ∧ taken s bytes = true) ∧
    (∀ k ∈ [1, 2, 3], ∀ st ∈ [3, 4], ∃ (s : State) (bytes : List Byte), lnkType bytes = k ∧ s.lnkState = st ∧ taken s bytes = true ∧
      s.host.replies.length < 8) ∧
    (∀ k ∈ [1, 2], ∀ even : Bool, ∃ (s : State) (bytes : List Byte), lnkType bytes = k ∧ s.lnkState = 4 ∧ taken s bytes = true ∧
      s.host.replies.length < 8 ∧ decide (bytesNat ((bytes.drop 4).take 3) % 4 = 0) = even) ∧
    (∀ dup same : Bool, ∃ (s : State) (bytes : List Byte), lnkType bytes = 2 ∧ s.lnkState = 4 ∧ taken s bytes = true ∧
      s.host.replies.length < 8 ∧ bytesNat ((bytes.drop 4).take 3) % 4 = 0 ∧ (s.lnkTake bytes).1.flag F.HOST_GENB_CFG_DUPEN = dup ∧
      decide (s.host.lnkDup = some (nth 0#8 bytes 1, BitVec.ofNat 32 (bytesNat (bytes.drop (bytes.length - 4))))) = same) ∧
    (∀ good full : Bool, ∃ (s : State) (bytes : List Byte), lnkType bytes = 3 ∧ s.lnkState = 4 ∧ taken s bytes = true ∧
      s.host.replies.length < 8 ∧ (let t := (s.lnkTake bytes).1
        nth 0#8 bytes 2 = 0#8 ∧ (t.ctxEn 0 && !t.ctxQuar 0 && t.cfgOk 0) = good ∧
        (good = true → decide ((t.sqTail 0 + 1) % 2 ^ t.sqLog 0 = t.sqHead 0) = full))) := by
  refine ⟨fun k h => ⟨up, asks k 0 true, ?_⟩,
    fun k h g => ⟨{ upLink 4 with now := 1000000000, host := { up.host with ackAt := some 0, rate := if g then .going 2 0 true else .none } },
      asks k 0 true, if g then ticksPerMs else (10 * ticksPerUs * max 1 (up.get F.HOST_LNK_CFG_ACKTMO)), ?_⟩,
    fun b => ⟨upLink 3, if b then [4#8] else asks 4 0 true, ?_⟩, fun k h => ⟨upLink 3, packet [BitVec.ofNat 8 k, 0#8, 0#8, 0xBF#8, 0#8, 0#8, 0#8, 0#8], ?_⟩,
    fun k h => ⟨upLink 3, [BitVec.ofNat 8 k], ?_⟩,
    fun k h => ⟨{ upLink 4 with host := { up.host with replies := List.replicate 8 aReply } }, asks k (if k = 3 then 7 else 0) true, ?_⟩,
    ⟨upLink 3, asks 6 0 true, by decide +kernel⟩, fun k h st h' => ⟨upLink st, asks k (if k = 3 then 7 else 0) true, ?_⟩,
    fun k h e => ⟨upLink 4, asks k 0 e, ?_⟩,
    fun d e => ⟨{ (upLink 4).putFlag F.HOST_GENB_CFG_DUPEN d with host := { up.host with
      lnkDup := if e then some (0x2A#8, BitVec.ofNat 32 (bytesNat ((asks 2 0 true).drop 12))) else none } }, asks 2 0 true, ?_⟩,
    fun g f => ⟨if g then upRing f else upLink 4, asks 3 7 true, ?_⟩⟩
  · revert k; decide +kernel
  · revert k g; decide +kernel
  · revert b; decide +kernel
  · revert k; decide +kernel
  · revert k; decide +kernel
  · revert k; decide +kernel
  · revert k st; decide +kernel
  · revert k e; decide +kernel
  · revert d e; decide +kernel
  · revert g f; decide +kernel

theorem witness_LersyLink_pings :
    (∃ (s : State) (bytes : List Byte), lnkType bytes = 7 ∧ s.lnkState = 4 ∧ taken s bytes = true ∧ s.host.rate = .none ∧
      bytesNat ((bytes.drop 8).take 4) % 4 ≠ 0 ∧ (bytes.headD 0#8).getLsbD 7 = false ∧ bytesNat ((bytes.drop 8).take 4) / 4 % 4 = 0) ∧
    (∀ answer : Bool, ∃ (s : State) (bytes : List Byte), lnkType bytes = 7 ∧ s.lnkState = 3 ∧ taken s bytes = true ∧
      (bytes.headD 0#8).getLsbD 7 = answer ∧ (s.host.answered || answer) = true) ∧
    (∃ (s : State) (bytes : List Byte) (r : Nat), lnkType bytes = 7 ∧ s.lnkState = 4 ∧ taken s bytes = true ∧ s.host.rate = .proposed r ∧
      bytesNat ((bytes.drop 8).take 4) / 8 % 2 = 1 ∧ satTo 2 (bytesNat ((bytes.drop 8).take 4) / 256 % 256) = r) ∧
    (∀ low : Bool, ∃ (s : State) (bytes : List Byte) (r : Nat), lnkType bytes = 7 ∧ s.lnkState = 4 ∧ taken s bytes = true ∧
      s.host.rate = .proposed r ∧ bytesNat ((bytes.drop 8).take 4) / 4 % 4 = 1 ∧
      satTo 2 (bytesNat ((bytes.drop 8).take 4) / 256 % 256) < r ∧
      decide (satTo 2 (bytesNat ((bytes.drop 8).take 4) / 256 % 256) ≤ s.get F.HOST_LNK_STAT_RATE) = low) ∧
    (∃ (s : State) (bytes : List Byte) (r g : Nat), lnkType bytes = 7 ∧ s.lnkState = 5 ∧ taken s bytes = true ∧
      s.host.rate = .going r g true ∧ r < 3) := by
  refine ⟨⟨upLink 4, ping 1#32 false, by decide +kernel⟩,
    fun a => ⟨{ upLink 3 with host := { up.host with answered := !a, ackAt := some 0 } }, ping 1#32 a, by revert a; decide +kernel⟩,
    ⟨{ upLink 4 with host := { up.host with rate := .proposed 2 } }, ping 0x208#32 false, 2, by decide +kernel⟩,
    fun l => ⟨{ upLink 4 with host := { up.host with rate := .proposed 2 } }, ping (if l then 4#32 else 0x104#32) false, 2, by revert l; decide +kernel⟩,
    ⟨{ upLink 5 with host := { up.host with rate := .going 2 0 true } }, ping 1#32 false, 2, 0, by decide +kernel⟩⟩

theorem witness_LersyLink_rows :
    (∃ s : State, s.lnkState = 4 ∧ 0 < s.lnkCredit ∧ s.host.wake = true) ∧
    (∃ (s : State) (r : LnkReply), s.lnkState = 4 ∧ 0 < s.lnkCredit ∧ s.host.wake = false ∧ s.host.replies = [r]) ∧
    (∃ s : State, s.lnkState = 4 ∧ 0 < s.host.owed ∧ s.host.replies = [] ∧ s.host.wake = false ∧ s.irqc.announce = false) ∧
    (∀ go : Bool, ∃ s : State, (decide (s.lnkState = 0) && s.flag F.HOST_CFG_LNKEN && s.domReady 1 && s.domReady 11) = go) ∧
    (∀ k : Fin 5, ∃ s : State, s.lnkState = k) ∧
    (∃ (s : State) (invalid : Nat) (aligned : Bool), 3 ≤ s.lnkState ∧ (4 < invalid ∨ aligned = false)) ∧
    (∃ (s : State) (invalid : Nat) (aligned : Bool), 3 ≤ s.lnkState ∧ invalid ≤ 4 ∧ aligned = true) ∧
    (∀ asked : Bool, ∃ s : State, s.host.rate = .none ∧ s.lnkState = 4 ∧ s.host.ackAt.isSome = asked) ∧
    (∃ (s : State) (r : Nat), s.lnkTarget = some r ∧ s.lnkState = 4 ∧ s.host.replies = [] ∧ s.host.rate = .none) ∧
    (∀ x : Bool, ∃ (s : State) (r t : Nat), s.host.rate = .going r t x ∧ r < 4) := by
  refine ⟨⟨{ upLink 4 with host := { up.host with wake := true } }, by decide +kernel⟩,
    ⟨{ upLink 4 with host := { up.host with replies := [aReply] } }, aReply, by decide +kernel⟩,
    ⟨{ upLink 4 with host := { up.host with owed := 16 } }, by decide +kernel⟩, fun go => ⟨up.putFlag F.HOST_CFG_LNKEN go, ?_⟩,
    fun k => ⟨upLink k, ?_⟩, ⟨upLink 3, 5, true, by decide +kernel⟩, ⟨upLink 3, 4, true, by decide +kernel⟩,
    fun a => ⟨{ upLink 4 with host := { up.host with ackAt := if a then some 0 else none } }, ?_⟩,
    ⟨(upLink 4).put F.HOST_LNK_RATE_HOSTMAX 2, 2, by decide +kernel⟩,
    fun x => ⟨{ up with host := { up.host with rate := .going 3 0 x } }, 3, 0, rfl, by decide⟩⟩
  · revert go; decide +kernel
  · revert k; decide +kernel
  · revert a; decide +kernel

/-- `up` in a transition to these domains. -/
def going (m : BitVec 12) : State := { up with pwr := { up.pwr with trans := some { target := 1, mask := m, wake := false } } }

/-- `up` with wake condition 7 enabled, in power state `k`. -/
def upPwr (k : Nat) : State := (up.put F.PWR_STATE_STATE k).setReg Reg.PWR_WAKE_EN 0x80#32

theorem witness_PowerTransitions_requests :
    (∃ (s : State) (t : Transition), s.serves Reg.PWR_STATE_REQ = true ∧ s.serves Reg.PWR_DOMAIN_EN = true ∧ s.pwr.trans = some t) ∧
    (∀ ref : Bool, ∃ (s : State) (val : Word), s.serves Reg.PWR_STATE_REQ = true ∧ s.pwr.trans = none ∧ 2 ≤ reqCode val ∧
      reqCode val ≠ s.get F.PWR_STATE_STATE ∧ ((s.granted (some Reg.PWR_STATE_REQ)).powerRefusal (s.stateMask (reqCode val)) (reqCode val)).isSome = ref) ∧
    (∀ ref : Bool, ∃ (s : State) (val : Word), s.serves Reg.PWR_DOMAIN_EN = true ∧ s.pwr.trans = none ∧ s.get F.PWR_STATE_STATE ≤ 1 ∧
      (BitVec.ofNat 12 (wbits val 0 12 ||| 3) : BitVec 12) ≠ s.pwr.on ∧
      ((s.granted (some Reg.PWR_DOMAIN_EN)).powerRefusal (BitVec.ofNat 12 (wbits val 0 12 ||| 3)) 1).isSome = ref) ∧
    (∃ (s : State) (val : Word), s.serves Reg.PWR_STATE_REQ = true ∧ s.pwr.trans = none ∧ 2 ≤ reqCode val ∧
      reqCode val = s.get F.PWR_STATE_STATE ∧ wbits val 0 3 = s.get F.PWR_STATE_STATE ∧ wbits val 0 3 ≤ 5) ∧
    (∃ (s : State) (val : Word), s.serves Reg.PWR_DOMAIN_EN = true ∧ s.pwr.trans = none ∧ 2 ≤ s.get F.PWR_STATE_STATE ∧
      (BitVec.ofNat 12 (wbits val 0 12 ||| 3) : BitVec 12) ≠ s.pwr.on) ∧
    (∃ (s : State) (val : Word), s.serves Reg.PWR_DOMAIN_EN = true ∧ s.pwr.trans = none ∧
      (BitVec.ofNat 12 (wbits val 0 12 ||| 3) : BitVec 12) = s.pwr.on) ∧
    (∀ awake armed : Bool, ∃ (s : State) (val : Word), s.serves Reg.PWR_STATE_REQ = true ∧ s.pwr.trans = none ∧ reqCode val = 1 ∧
      decide (s.get F.PWR_STATE_STATE ≤ 1) = awake ∧ s.gd.armed = armed) ∧
    (∃ (s : State) (val : Word), s.serves Reg.PWR_STATE_REQ = true ∧ s.pwr.trans = none ∧ wbits val 0 3 = 0 ∧ reqCode val = 0 ∧ s.get F.PWR_STATE_STATE ≤ 1) := by
  refine ⟨⟨going 0xFFF#12, { target := 1, mask := 0xFFF#12, wake := false }, by decide +kernel⟩,
    fun r => ⟨if r then upPwr 1 else up, 2#32, ?_⟩, fun r => ⟨if r then armed else up, 0x3#32, ?_⟩, ⟨upPwr 4, 4#32, by decide +kernel⟩, ⟨upPwr 4, 3#32, by decide +kernel⟩,
    ⟨up, 0xFFF#32, by decide +kernel⟩,
    fun w a => ⟨{ upPwr (if w then 1 else 2) with gd := { up.gd with armed := a } }, 7#32, ?_⟩, ⟨up, 0#32, by decide +kernel⟩⟩
  · revert r; decide +kernel
  · revert r; decide +kernel
  · revert w a; decide +kernel

theorem witness_PowerTransitions_domains :
    (∀ d ∈ [1, 2, 3, 11], ∃ s : State, s.nextOff = some d ∧ s.coreBusy = false) ∧ (∀ busy : Bool, ∃ s : State, s.nextOff = some 1 ∧ s.coreBusy = busy) ∧
    (∃ s : State, s.nextOff = none) ∧
    (∀ d ∈ [2, 11], ∃ s : State, s.nextOn = some d ∧ s.entriesOf d = []) ∧ (∃ s : State, s.nextOn = none) ∧
    (∃ s : State, s.pwr.trans = none) ∧ (∃ (s : State) (t : Transition), s.pwr.trans = some t ∧ (s.offLeft t.mask).isEmpty = false) ∧
    (∃ (s : State) (t : Transition), s.pwr.trans = some t ∧ (s.onLeft t.mask).isEmpty = false) ∧
    (∃ (s : State) (t : Transition), s.pwr.trans = some t ∧ t.mask.getLsbD 1 ≠ s.domReady 1) ∧
    (∃ (s : State) (t : Transition), s.pwr.trans = some t ∧ (s.offLeft t.mask).isEmpty = true ∧ (s.onLeft t.mask).isEmpty = true ∧
      t.mask.getLsbD 1 = s.domReady 1 ∧ s.pwr.held = none ∧ s.domOn 0 = true) ∧
    (∃ (s : State) (t : Transition) (h : HeldReq), s.pwr.trans = some t ∧ (s.offLeft t.mask).isEmpty = true ∧
      (s.onLeft t.mask).isEmpty = true ∧ t.mask.getLsbD 1 = s.domReady 1 ∧ s.pwr.held = some h) ∧
    (∀ k ∈ [4, 5], ∃ s : State, s.pwr.inReset = false ∧ s.pwr.trans = none ∧ s.get F.PWR_STATE_STATE = k ∧
      (State.wakeLatch s).pwr.wakeSeen ≠ 0#9) ∧
    (∃ s : State, s.pwr.inReset = false ∧ s.get F.PWR_STATE_STATE ≤ 1) ∧ (∃ s : State, s.pwr.inReset = true) ∧
    (∃ s : State, s.pwr.inReset = false ∧ s.pwr.trans = none ∧ 2 ≤ s.get F.PWR_STATE_STATE ∧ (State.wakeLatch s).pwr.wakeSeen = 0#9) ∧
    (∃ s : State, s.pwr.inReset = false ∧ s.pwr.trans = none ∧ 2 ≤ s.get F.PWR_STATE_STATE ∧ (State.wakeLatch s).pwr.wakeSeen = 0#9 ∧
      wbit (s.reg Reg.PWR_WAKE_EN) 1 = true ∧ s.domOn 11 = false) := by
  refine ⟨fun d h => ⟨going (0xFFF#12 &&& ~~~(1#12 <<< d)), ?_⟩,
    fun b => ⟨{ going 1#12 with
      pwr := { (going 1#12).pwr with on := 3#12, ready := 3#12 },
      nvmc := { up.nvmc with cur := if b then some { op := { erase := true, off := 0, data := [], owner := .elog }, at' := 0, left := 5 } else none } }, ?_⟩,
    ⟨up, by decide +kernel⟩,
    fun d h => ⟨{ going 0xFFF#12 with pwr := { (going 0xFFF#12).pwr with ready := 0xFFF#12 &&& ~~~(1#12 <<< d) } }, ?_⟩,
    ⟨up, by decide +kernel⟩, ⟨up, by decide +kernel⟩, ⟨going 3#12, { target := 1, mask := 3#12, wake := false }, by decide +kernel⟩,
    ⟨{ going 0xFFF#12 with pwr := { (going 0xFFF#12).pwr with ready := 3#12 } }, { target := 1, mask := 0xFFF#12, wake := false }, by decide +kernel⟩,
    ⟨going 1#12, { target := 1, mask := 1#12, wake := false }, by decide +kernel⟩,
    ⟨going 0xFFF#12, { target := 1, mask := 0xFFF#12, wake := false }, by decide +kernel⟩,
    ⟨{ going 0xFFF#12 with pwr := { (going 0xFFF#12).pwr with held := some { domainEn := false, value := 4#32 } } },
      { target := 1, mask := 0xFFF#12, wake := false }, { domainEn := false, value := 4#32 }, by decide +kernel⟩,
    fun k h => ⟨{ upPwr k with pwr := { up.pwr with wakeSeen := 0x100#9 } }, ?_⟩, ⟨up, by decide +kernel⟩,
    ⟨{ up with pwr := { up.pwr with inReset := true } }, by decide +kernel⟩, ⟨up.put F.PWR_STATE_STATE 4, by decide +kernel⟩,
    ⟨{ (up.put F.PWR_STATE_STATE 4).setReg Reg.PWR_WAKE_EN 2#32 with pwr := { up.pwr with on := 0x7FF#12 } }, by decide +kernel⟩⟩
  · revert d; decide +kernel
  · revert b; decide +kernel
  · revert d; decide +kernel
  · revert k; decide +kernel

/-- `up`, its watchdog started at LPO tick 0 with half its time as the window and a kick perhaps pending, at this LPO tick. -/
def upDog (kick : Option Nat) (lpo : Nat) : State :=
  { up.put F.SYS_WDT_CFG_WIN 8 with pwr := { up.pwr with wdtStart := some 0, wdtWarned := false, kick := kick, lpo := lpo } }

/-- A kick's tick after the limit, before the window, in it. -/
def dogKick (late early : Bool) : Nat := if late then up.wdtTicks 1 1 + 1 else if early then 1 else up.wdtTicks 1 1

/-- What a pending kick may be: after the limit, too early, in time. -/
def dogCases : List (Bool × Bool) := [(true, false), (false, true), (false, false)]

theorem witness_Resets :
    (∃ s : State, s.serves Reg.SYS_SWRESET = true) ∧ (∃ s : State, s.pwr.wdtStart = none) ∧
    (∀ key : Bool, ∃ val : Word, decide (wbits val 0 16 = 0xA5C3) = key) ∧
    (∃ (s : State) (k : Nat), s.pwr.wdtStart = some k ∧ s.pwr.kick = none) ∧
    (∀ c ∈ dogCases, ∃ (s : State) (k t : Nat), s.pwr.wdtStart = some k ∧ s.pwr.kick = some t ∧ t ≠ k ∧
      decide (k + s.wdtTicks 1 1 < t) = c.1 ∧ decide (t < k + s.wdtTicks (s.get F.SYS_WDT_CFG_WIN) 16) = c.2) ∧
    (∀ r : Bool, ∃ s : State, s.pwr.resetAt.isSome = r) ∧
    (∃ s : State, s.pwr.inReset = true ∧ s.pwr.holding = 0#6 ∧ s.pwr.lastCause ≤ 6) ∧
    (∀ h : Bool, ∃ s : State, s.pwr.inReset = h ∧ (h = true → s.pwr.holding ≠ 0#6)) ∧
    (∃ s : State, s.pwr.inReset = false ∧ s.pwr.muster = true) ∧ (∃ s : State, s.pwr.inReset = false ∧ s.pwr.muster = false) ∧
    (∀ late : Bool, ∃ (s : State) (val : Word), s.serves Reg.SYS_MUSTER_END = true ∧ s.pwr.muster = late ∧
      decide ((s.granted (some Reg.SYS_MUSTER_END)).now - s.pwr.released < clampNat 50 1000 (wbits val 0 11) * ticksPerMs) = !late) := by
  refine ⟨⟨up, by decide +kernel⟩, ⟨{ up with pwr := { up.pwr with wdtStart := none } }, rfl⟩,
    fun k => ⟨if k then 0xA5C3#32 else 0xA5C2#32, ?_⟩, ⟨upDog none 0, 0, rfl, rfl⟩, fun c h => ⟨upDog (some (dogKick c.1 c.2)) 0, 0, dogKick c.1 c.2, ?_⟩,
    fun r => ⟨{ up with pwr := { up.pwr with resetAt := if r then some (5, 9) else none } }, ?_⟩,
    ⟨{ up with pwr := { up.pwr with inReset := true, holding := 0#6, lastCause := 6 } }, by decide +kernel⟩,
    fun h => ⟨{ up with pwr := { up.pwr with inReset := h, holding := 4#6 } }, ?_⟩,
    ⟨{ up with pwr := { up.pwr with muster := true, inReset := false } }, rfl, rfl⟩,
    ⟨{ up with pwr := { up.pwr with muster := false, inReset := false } }, rfl, rfl⟩,
    fun l => ⟨{ up with now := if l then 50 * ticksPerMs else 50 * ticksPerMs - 1, pwr := { up.pwr with muster := l } }, 0#32, ?_⟩⟩
  · revert k; decide +kernel
  · revert c; decide +kernel
  · revert r; decide +kernel
  · revert h; decide +kernel
  · revert l; decide +kernel

/-- `up` before the XIN choice, or after it. -/
def upXin (boot done : Bool) : State := { up with pwr := { up.pwr with inReset := false, boot := boot, xinDone := done } }

theorem witness_ClocksAndMonitors :
    (∀ off : Bool, ∃ s : State, (s.pwr.inReset || s.pwr.xinDone || !s.pwr.boot) = off ∧ s.pwr.inReset = false) ∧
    (∃ hz k : Nat, xinSel hz = some k) ∧ (∃ hz : Nat, xinSel hz = none) ∧
    (∀ off : Bool, ∃ s : State, (s.pwr.inReset || !s.pwr.xinDone || decide (s.get F.SYS_CLK_CFG_XINSEL = 7)) = off) ∧
    (∀ l : Bool, ∃ s : State, s.domOn 1 = true ∧ s.flag F.SYS_PLL_STAT_LOCK = l) ∧
    (∀ b : Bool, ∃ s : State, s.serves Reg.SYS_LPO_CAL = true ∧ s.flag F.SYS_LPO_CAL_BUSY = b) ∧
    (∀ st : Bool, ∃ s : State, (decide (s.get F.SYS_LPO_CAL_AUTO = 0) || s.flag F.SYS_LPO_CAL_BUSY ||
      s.clkStopped) = st) ∧
    (∃ s : State, s.clkStopped = true ∧ s.get F.SYS_LPO_CAL_AUTO ≠ 0 ∧ s.flag F.SYS_LPO_CAL_BUSY = false) ∧
    (∀ m : Bool, ∃ s : State, State.mastered (s.elapseLpo (s.pwr.lpo + s.lpoTicks (2 ^ 32 - s.pwr.rtcSub))) Reg.SYS_RTC_SEC = m) ∧
    (∀ m : Bool, ∃ s : State, s.flag F.SYS_LPO_CAL_BUSY = true ∧
      State.mastered (s.elapseLpo (s.pwr.calLpo + 1024)) Reg.SYS_LPO_CAL = m) ∧
    (∀ key : Bool, ∃ (s : State) (val : Word) (k : Nat), s.serves Reg.SYS_WDT_KICK = true ∧ s.pwr.wdtStart = some k ∧
      decide (wbits val 0 16 = 0x4B1C) = key ∧ s.pwr.kick = none) ∧
    (∃ (s : State) (k t : Nat), s.serves Reg.SYS_WDT_KICK = true ∧ s.pwr.wdtStart = some k ∧ s.pwr.kick = some t ∧
      (s.granted (some Reg.SYS_WDT_KICK)).pwr.lpo < t) ∧
    (∀ c ∈ dogCases, ∃ (s : State) (k t : Nat), s.serves Reg.SYS_WDT_KICK = true ∧ s.pwr.wdtStart = some k ∧ s.pwr.kick = some t ∧
      t ≤ (s.granted (some Reg.SYS_WDT_KICK)).pwr.lpo ∧ decide (k + s.wdtTicks 1 1 < t) = c.1 ∧
      decide (t < k + s.wdtTicks (s.get F.SYS_WDT_CFG_WIN) 16) = c.2) ∧
    (∃ s : State, s.serves Reg.SYS_WDT_KICK = true ∧ s.pwr.wdtStart = none) ∧
    (∃ (s : State) (k : Nat), s.pwr.wdtStart = some k ∧ s.pwr.wdtWarned = false ∧ s.pwr.kick = none) ∧
    (∃ (s : State) (k t : Nat), s.pwr.wdtStart = some k ∧ s.pwr.wdtWarned = false ∧ s.pwr.kick = some t ∧ t ≤ k + s.wdtTicks 3 4 ∧
      t ≠ k ∧ t ≤ k + s.wdtTicks 1 1 ∧ k + s.wdtTicks (s.get F.SYS_WDT_CFG_WIN) 16 ≤ t) ∧
    (∃ s : State, s.pwr.wdtWarned = true) ∧
    (∀ r : Bool, ∃ s : State, s.domReady 1 = r) ∧
    (∃ (s : State) (raw : Int), s.domReady 1 = true ∧ -32768 ≤ raw ∧ raw < 32768 ∧ 16 * ((s.get F.SYS_TEMP_WARN : Nat) : Int) < raw) ∧
    (∃ (s : State) (raw : Int), s.domReady 1 = true ∧ -32768 ≤ raw ∧ raw ≤ 16 * ((s.get F.SYS_TEMP_WARN : Nat) : Int) - 80) ∧
    (∀ r : Bool, ∃ s : State, s.pwr.inReset = r ∧ s.flag F.PWR_BOR_CFG_VIOLOW = false ∧ s.flag F.PWR_VKEEP_LOWNOW = false) ∧
    (∃ s : State, s.pwr.inReset = false ∧ s.domOn 0 = true ∧ s.domReady 0 = false) := by
  refine ⟨fun o => ⟨upXin true o, ?_⟩, ⟨25000000, 4, ?_⟩, ⟨1, ?_⟩, fun o => ⟨(upXin true !o).put F.SYS_CLK_CFG_XINSEL 6, ?_⟩,
    fun l => ⟨up.putFlag F.SYS_PLL_STAT_LOCK l, ?_⟩, fun b => ⟨up.putFlag F.SYS_LPO_CAL_BUSY b, ?_⟩,
    fun b => ⟨up.put F.SYS_LPO_CAL_AUTO (if b then 0 else 1), ?_⟩,
    ⟨{ up.put F.SYS_LPO_CAL_AUTO 1 with pwr := { up.pwr with on := 1#12, trans := none } }, ?_⟩,
    fun m => ⟨{ up with beat := if m then some ((up.elapseLpo (up.pwr.lpo + up.lpoTicks (2 ^ 32 - up.pwr.rtcSub))).now, some Reg.SYS_RTC_SEC) else none }, ?_⟩,
    fun m => ⟨{ up.putFlag F.SYS_LPO_CAL_BUSY true with
      beat := if m then some ((up.elapseLpo (up.pwr.calLpo + 1024)).now, some Reg.SYS_LPO_CAL) else none }, ?_⟩,
    fun k => ⟨upDog none 0, if k then 0x4B1C#32 else 0x4B1D#32, 0, ?_⟩, ⟨upDog (some 2) 0, 0, 2, ?_⟩,
    fun c h => ⟨upDog (some (dogKick c.1 c.2)) (up.wdtTicks 1 1 + 1), 0, dogKick c.1 c.2, ?_⟩,
    ⟨up, ?_⟩, ⟨upDog none 0, 0, ?_⟩, ⟨upDog (some (up.wdtTicks 3 4)) 0, 0, up.wdtTicks 3 4, ?_⟩,
    ⟨{ up with pwr := { up.pwr with wdtWarned := true } }, rfl⟩,
    fun r => ⟨if r then up else State.reset, ?_⟩, ⟨up, 32767, ?_⟩, ⟨up, -32768, ?_⟩, fun r => ⟨{ up with pwr := { up.pwr with inReset := r } }, ?_⟩,
    ⟨{ up with pwr := { up.pwr with inReset := false, ready := 0#12 } }, ?_⟩⟩
  · revert o; decide +kernel
  · decide +kernel
  · decide +kernel
  · revert o; decide +kernel
  · revert l; decide +kernel
  · revert b; decide +kernel
  · revert b; decide +kernel
  · decide +kernel
  · revert m; decide +kernel
  · revert m; decide +kernel
  · revert k; decide +kernel
  · decide +kernel
  · revert c; decide +kernel
  · decide +kernel
  · decide +kernel
  · decide +kernel
  · revert r; decide +kernel
  · decide +kernel
  · decide +kernel
  · revert r; decide +kernel
  · decide +kernel

def eraseOp : NvmOp := { erase := true, off := 0x7FFFF, data := [], owner := .cmd 0 }
def logOp : NvmOp := { erase := false, off := 0x20000, data := [1#8], owner := .elog }

/-- `up` with an operation under way, one suspended, and a queue. -/
def upOps (cur susp : Option NvmOp) (queue : List NvmOp) : State :=
  { up with nvmc := { up.nvmc with cur := cur.map (fun o => { op := o, at' := 0, left := 5 }),
                                   susp := susp.map (fun o => { op := o, at' := 0, left := 5 }), queue := queue } }

/-- `up` with one record staged, the ring scanned. -/
def upRec (scanned : Bool) : State :=
  { up.putFlag F.LOG_STAT_SCANNED scanned with
    log := { up.log with scanned := scanned, staged := [{ code := 1, flags := 0, d0 := 0#32, d1 := 0#32, sec := 0#32, cyc := 0#32, tick := 0 }] } }

theorem witness_StoresPinsAndScan :
    (∃ s : State, s.domReady 1 = false) ∧
    (∀ o ∈ [eraseOp, logOp], ∃ s : State, s.domReady 1 = true ∧ s.logAsk.nvmc.cur = none ∧ s.logAsk.nvmc.susp = none ∧
      nvmPick s.logAsk.nvmc.queue = some (o, [])) ∧
    (∃ (s : State) (r : NvmRun), s.domReady 1 = true ∧ s.logAsk.nvmc.cur = some r ∧ r.op.erase = true ∧
      s.logAsk.nvmc.queue.any NvmOp.ahead = true ∧ nvmPick s.logAsk.nvmc.queue = some (logOp, [])) ∧
    (∃ (s : State) (r : NvmRun), s.domReady 1 = true ∧ s.logAsk.nvmc.cur = some r ∧
      (r.op.erase && s.logAsk.nvmc.queue.any NvmOp.ahead) = false) ∧
    (∀ wait : Bool, ∃ (s : State) (r : NvmRun), s.domReady 1 = true ∧ s.logAsk.nvmc.cur = none ∧ s.logAsk.nvmc.susp = some r ∧
      s.logAsk.nvmc.queue.any NvmOp.ahead = wait ∧ (wait = true → nvmPick s.logAsk.nvmc.queue = some (logOp, []))) ∧
    (∀ er : Bool, ∃ (s : State) (r : NvmRun), s.nvmc.cur = some r ∧ r.op.erase = er ∧ s.domOn 1 = true) ∧
    (∀ busy : Bool, ∀ width ∈ [1, 2, 4], ∃ (s : State) (addr : Nat), inNvm addr = true ∧ addr % width = 0 ∧
      s.nvmBusySector (nvmOff addr) = busy) ∧
    (∀ st : Bool, ∃ s : State, (s.flag F.LOG_STAT_SCANNED || !s.domReady 1 || decide (s.log.running ≠ 0)) = st) ∧
    (∃ (s : State) (val : Word) (r : LogRec), s.serves Reg.LOG_CFG = true ∧ s.log.running = 0 ∧ s.flag F.LOG_STAT_SCANNED = true ∧
      ((s.granted (some Reg.LOG_CFG)).plainStore Reg.LOG_CFG (wputBit val 0 true)).live Pg.LOG = true ∧ s.log.staged = [r]) ∧
    (∃ s : State, s.serves Reg.LOG_CFG = true ∧ s.log.running = 0 ∧ s.flag F.LOG_STAT_SCANNED = true ∧ s.log.staged = []) ∧
    (∀ scanned : Bool, ∃ s : State, s.serves Reg.LOG_CFG = true ∧ (s.log.running ≠ 0 ∨ s.flag F.LOG_STAT_SCANNED = false) ∧
      s.flag F.LOG_STAT_SCANNED = scanned) ∧
    (∃ s : State, s.logAsk.nvmc.cur = none ∧ s.logAsk.nvmc.susp = none ∧ s.logAsk.nvmc.queue = []) ∧ (∃ s : State, s.nvmc.cur = none) ∧
    (∀ ref : Bool, ∃ (s : State) (k : Fin 23) (val : Word), s.serves (Reg.PINS_FUNC k) = true ∧ s.funcRefused k val = ref) ∧
    (∀ a : Bool, ∃ s : State, s.domReady 1 = true ∧ s.gd.armed = a) := by
  refine ⟨⟨State.reset, by decide +kernel⟩, fun o h => ⟨upOps none none [o], ?_⟩,
    ⟨upOps (some eraseOp) none [logOp], { op := eraseOp, at' := 0, left := 5 }, by decide +kernel⟩,
    ⟨upOps (some eraseOp) none [], { op := eraseOp, at' := 0, left := 5 }, by decide +kernel⟩,
    fun w => ⟨upOps none (some eraseOp) (if w then [logOp] else []), { op := eraseOp, at' := 0, left := 5 }, ?_⟩,
    fun e => ⟨upOps (some (if e then eraseOp else logOp)) none [], { op := if e then eraseOp else logOp, at' := 0, left := 5 }, ?_⟩,
    fun b w h => ⟨upOps (if b then some eraseOp else none) none [], 0x17FFFC, ?_⟩, fun st => ⟨upRec st, ?_⟩,
    ⟨upRec true, 0xFFFFFFFF#32, { code := 1, flags := 0, d0 := 0#32, d1 := 0#32, sec := 0#32, cyc := 0#32, tick := 0 }, by decide +kernel⟩,
    ⟨{ upRec true with log := { (upRec true).log with staged := [] } }, by decide +kernel⟩,
    fun c => ⟨if c then { upRec true with log := { (upRec true).log with running := 1 } } else
      { upRec false with log := { (upRec false).log with scanned := true } }, ?_⟩,
    ⟨upOps none none [], by decide +kernel⟩, ⟨upOps none none [], by decide +kernel⟩,
    fun r => ⟨if r then armed else up, 22, 1#32, ?_⟩, fun a => ⟨if a then armed else up, ?_⟩⟩
  · revert o; decide +kernel
  · revert w; decide +kernel
  · revert e; decide +kernel
  · revert b w; decide +kernel
  · revert st; decide +kernel
  · revert c; decide +kernel
  · revert r; decide +kernel
  · revert a; decide +kernel

end Sys2Proof.Tests
end

section
/-! Idling: a step with an empty queue lets one tick pass, and time alone changes no register and no byte of memory. -/

namespace Sys2Proof.Machine

/-- The idle step (DESIGN CHOICE, log entry 1). -/
theorem step_of_pending_nil {s : State} (h : s.pending = []) : step s = .next (s.elapse 1) := by
  simp only [step, h]

@[simp] theorem State.elapse_now (s : State) (n : Nat) : (s.elapse n).now = s.now + n := rfl

/-- However many ticks pass, registers and the two byte memories stand. -/
theorem State.keeps_elapse (s : State) (n : Nat) (w : Nat → Prop) : s.Keeps (s.elapse n) w :=
  ⟨fun a _ => s.reg_elapse n a, s.elapse_sram n, s.elapse_nvm n⟩

/-- Settles O2: the step is `State.elapse 1`, whose frame gives the queue, the registers and the memories. -/
theorem emptyQueueIdles : Obligations.EmptyQueueIdles := by
  intro s hq
  have hpending : (s.elapse 1).pending = [] := by rw [s.elapse_pending, hq]
  exact ⟨s.elapse 1, step_of_pending_nil hq, rfl, s.elapse_now 1, hpending, s.keeps_elapse 1 _⟩

end Sys2Proof.Machine
end

section
/-! The bearing's active source (spec/03, R69 to R71). The choice of R69 and R70 reads few parts of the state; a change of the active
source writes none of them, and time, the delivery of events and the reviews after it leave them alone. -/

namespace Sys2Proof.Machine

/-- A view of the state that every step of a fold leaves alone is left alone by the fold. -/
theorem foldl_view {α β : Type} (view : State → β) {f : State → α → State} (h : ∀ s x, view (f s x) = view s) (l : List α)
    (s : State) : view (l.foldl f s) = view s :=
  foldl_inv (fun t => view t = view s) f (fun t x ht => (h t x).trans ht) l s rfl

/-! ### What the choice reads -/

/-- The registers that the choice of the source reads, apart from CPS_SRC. -/
def sourceRegs : List Nat := [pgCtrl Pg.CPS, pgCtrl Pg.QDL, Reg.CPS_STAT, Reg.CPS_BEAR_CYCLE, Reg.MODE_STAT]

/-- What the choice of the source reads is in `t` as in `s`. -/
structure State.SameChoice (s t : State) : Prop where
  regs : ∀ a ∈ sourceRegs, t.reg a = s.reg a
  req : t.get F.CPS_SRC_REQ = s.get F.CPS_SRC_REQ
  qdl : t.qdl = s.qdl
  on : t.pwr.on = s.pwr.on
  ready : t.pwr.ready = s.pwr.ready
  srst : t.pwr.srst = s.pwr.srst

theorem State.live_congr {s t : State} {p : Nat} (hr : t.reg (pgCtrl p) = s.reg (pgCtrl p)) (hon : t.pwr.on = s.pwr.on)
    (hready : t.pwr.ready = s.pwr.ready) (hsrst : t.pwr.srst = s.pwr.srst) : t.live p = s.live p := by
  simp only [State.live, State.domReady, State.pageEn, State.bitOf, hr, hon, hready, hsrst]

theorem State.domOn_congr {s t : State} (hon : t.pwr.on = s.pwr.on) (d : Nat) : t.domOn d = s.domOn d := by
  simp only [State.domOn, hon]

theorem State.source_congr {s t : State} (h : t.reg Reg.CPS_SRC = s.reg Reg.CPS_SRC) : t.source = s.source :=
  State.get_congr (f := F.CPS_SRC_ACTIVE) h

theorem State.qdlReports_congr {s t : State} (hq : t.qdl = s.qdl) (hl : t.live Pg.QDL = s.live Pg.QDL)
    (hc : t.reg Reg.CPS_BEAR_CYCLE = s.reg Reg.CPS_BEAR_CYCLE) : t.qdlReports = s.qdlReports := by
  simp only [State.qdlReports, State.leadValid, State.leadValidIn, State.qdlRuns, State.qdlOn, State.qdlFollows, hq, hl, hc]

namespace State.SameChoice

variable {s t : State}

theorem refl (s : State) : s.SameChoice s := ⟨fun _ _ => rfl, rfl, rfl, rfl, rfl, rfl⟩

theorem trans {u : State} (h : s.SameChoice t) (k : t.SameChoice u) : s.SameChoice u where
  regs a ha := (k.regs a ha).trans (h.regs a ha)
  req := k.req.trans h.req
  qdl := k.qdl.trans h.qdl
  on := k.on.trans h.on
  ready := k.ready.trans h.ready
  srst := k.srst.trans h.srst

theorem reg (h : s.SameChoice t) {a : Nat} (ha : a ∈ sourceRegs := by decide) : t.reg a = s.reg a := h.regs a ha

theorem live (h : s.SameChoice t) {p : Nat} (hp : pgCtrl p ∈ sourceRegs := by decide) : t.live p = s.live p :=
  State.live_congr (h.regs _ hp) h.on h.ready h.srst

theorem wantedSource (h : s.SameChoice t) : t.wantedSource = s.wantedSource := by
  have hlock : t.flag F.CPS_STAT_LOCKED = s.flag F.CPS_STAT_LOCKED := State.flag_congr h.reg
  have hmode : t.modeActive = s.modeActive := State.get_congr h.reg
  have hrep : t.qdlReports = s.qdlReports := State.qdlReports_congr h.qdl h.live h.reg
  simp only [State.wantedSource, State.autoSource, h.live (p := Pg.CPS), h.req, hlock, hmode, hrep]

/-- The source goes on following where neither it nor what the choice reads has changed. -/
theorem follows (h : s.SameChoice t) (hs : t.source = s.source) (hf : s.SourceFollows) : t.SourceFollows := by
  intro hon
  rw [hs, h.wantedSource]
  exact hf ((State.domOn_congr h.on 3).symm.trans hon)

theorem of_regs (hr : t.regs = s.regs) (hq : t.qdl = s.qdl) (hon : t.pwr.on = s.pwr.on) (hready : t.pwr.ready = s.pwr.ready)
    (hsrst : t.pwr.srst = s.pwr.srst) : s.SameChoice t :=
  ⟨fun a _ => State.reg_congr hr a, State.get_congr (State.reg_congr hr _), hq, hon, hready, hsrst⟩

end State.SameChoice

/-- With the registers, the Quadrille and the domains as they were, the source goes on following. -/
theorem State.SourceFollows.of_regs {s t : State} (hf : s.SourceFollows) (hr : t.regs = s.regs) (hq : t.qdl = s.qdl)
    (hon : t.pwr.on = s.pwr.on) (hready : t.pwr.ready = s.pwr.ready) (hsrst : t.pwr.srst = s.pwr.srst) : t.SourceFollows :=
  (State.SameChoice.of_regs hr hq hon hready hsrst).follows (State.get_congr (State.reg_congr hr _)) hf

theorem State.wantedSource_lt (s : State) : s.wantedSource < 4 := by
  unfold State.wantedSource State.autoSource
  (repeat' split) <;> decide

/-- QUADRILLE is chosen only while QDL reports a valid lead bearing (R69, R70). -/
theorem State.qdlReports_of_wantedSource {s : State} (h : s.wantedSource = srcQuadrille) : s.qdlReports = true := by
  cases hrep : s.qdlReports
  · have hauto : s.autoSource ≠ srcQuadrille := by
      simp only [State.autoSource, hrep, Bool.false_eq_true, if_false]; (repeat' split) <;> decide
    have hvirtual : srcVirtual ≠ srcQuadrille := by decide
    have hgrid : srcGrid ≠ srcQuadrille := by decide
    revert h
    simp only [State.wantedSource, hrep, Bool.false_eq_true, if_false]
    (repeat' split) <;> simp only [hauto, hvirtual, hgrid, false_implies]
  · rfl

/-! ### The Quadrille's registers -/

/-- The registers below those of the Quadrille's block stand when its registers are shown. -/
theorem State.reg_qdlShow_lt (s : State) {a : Nat} (h : a < Reg.QDL_CFG) : s.qdlShow.reg a = s.reg a := by
  have hunit (r : Nat) : a ≠ Reg.QDL_UNIT r := by simp only [Reg.QDL_CFG, Reg.QDL_UNIT] at h ⊢; omega
  have hrole : a ≠ Reg.QDL_ROLE := Nat.ne_of_lt (Nat.lt_trans h (by decide))
  have hstat : a ≠ Reg.QDL_STAT := Nat.ne_of_lt (Nat.lt_trans h (by decide))
  unfold State.qdlShow
  refine (foldl_view (fun t => t.reg a) (fun t r => t.reg_putFlag_ne _ (hunit r)) _ _).trans ?_
  rw [State.reg_putFlag_ne _ _ (hunit _), State.reg_putFlag_ne _ _ hstat, State.reg_putFlag_ne _ _ hrole,
    State.reg_putFlag_ne _ _ hrole, State.reg_put_ne _ _ hrole]

@[simp] theorem State.qdlShow_qdl (s : State) : s.qdlShow.qdl = s.qdl := by
  unfold State.qdlShow
  rw [foldl_view State.qdl fun _ _ => State.putFlag_qdl ..]
  simp
@[simp] theorem State.qdlShow_pwr (s : State) : s.qdlShow.pwr = s.pwr := by
  unfold State.qdlShow
  rw [foldl_view State.pwr fun _ _ => State.putFlag_pwr ..]
  simp
@[simp] theorem State.toHold_pwr (s : State) : s.toHold.pwr = s.pwr := by simp [State.toHold]
theorem State.toHold_qdl (s : State) : s.toHold.qdl = { s.qdl with state := qdlHold, winFrom := s.absBear } := by
  simp only [State.toHold, State.qdlShow_qdl, State.put_qdl, State.modQdl]

theorem State.reg_toHold_lt (s : State) {a : Nat} (h : a < Reg.QDL_CFG) : s.toHold.reg a = s.reg a := by
  have hstat : a ≠ Reg.QDL_STAT := Nat.ne_of_lt (Nat.lt_trans h (by decide))
  unfold State.toHold
  rw [State.reg_qdlShow_lt _ h, State.reg_put_ne _ _ hstat]
  exact State.reg_modQdl ..

theorem State.live_toHold (s : State) {p : Nat} (h : pgCtrl p < Reg.QDL_CFG) : s.toHold.live p = s.live p := by
  have hp := s.toHold_pwr
  exact State.live_congr (s.reg_toHold_lt h) (by rw [hp]) (by rw [hp]) (by rw [hp])

/-- A unit that leaves SLEW for HOLD goes on reporting its lead. -/
theorem State.qdlReports_toHold {s : State} (hs : s.qdl.state = qdlSlew) : s.toHold.qdlReports = s.qdlReports := by
  have hl : s.toHold.live Pg.QDL = s.live Pg.QDL := s.live_toHold (by decide)
  have hc : s.toHold.reg Reg.CPS_BEAR_CYCLE = s.reg Reg.CPS_BEAR_CYCLE := s.reg_toHold_lt (by decide)
  simp [State.qdlReports, State.leadValid, State.leadValidIn, State.qdlRuns, State.qdlOn, State.qdlFollows, hl, hc, s.toHold_qdl, hs,
    qdlSlew, qdlHold, qdlOff, qdlFormed]

/-- While QDL reports, the choice does not turn on the mode (R69). -/
theorem State.wantedSource_of_reports {s t : State} (hs : s.qdlReports = true) (ht : t.qdlReports = true)
    (hl : t.live Pg.CPS = s.live Pg.CPS) (hsrc : t.reg Reg.CPS_SRC = s.reg Reg.CPS_SRC)
    (hstat : t.reg Reg.CPS_STAT = s.reg Reg.CPS_STAT) : t.wantedSource = s.wantedSource := by
  have hreq : t.get F.CPS_SRC_REQ = s.get F.CPS_SRC_REQ := State.get_congr hsrc
  have hlock : t.flag F.CPS_STAT_LOCKED = s.flag F.CPS_STAT_LOCKED := State.flag_congr hstat
  simp only [State.wantedSource, State.autoSource, hs, ht, hl, hreq, hlock, if_true]

/-- The end of SLEW leaves the source as it is, and the choice. -/
theorem State.SourceFollows.slewEnd {s : State} (hf : s.SourceFollows) : s.slewEnd.SourceFollows := by
  unfold State.slewEnd
  split
  · rename_i h
    simp only [Bool.and_eq_true, decide_eq_true_eq] at h
    obtain ⟨⟨⟨-, hslew⟩, hsrc⟩, -⟩ := h
    have hsource : s.toHold.source = s.source := State.source_congr (s.reg_toHold_lt (by decide))
    intro hon
    have hfollows : s.source = s.wantedSource := hf ((State.domOn_congr (by rw [s.toHold_pwr]) 3).symm.trans hon)
    have hwant : s.wantedSource = srcQuadrille := hfollows.symm.trans hsrc
    have hrep : s.qdlReports = true := State.qdlReports_of_wantedSource hwant
    have hrep' : s.toHold.qdlReports = true := (State.qdlReports_toHold hslew).trans hrep
    rw [hsource, State.wantedSource_of_reports hrep hrep' (s.live_toHold (by decide))
      (s.reg_toHold_lt (by decide)) (s.reg_toHold_lt (by decide))]
    exact hfollows
  · exact hf

/-! ### A change of source -/

theorem State.SameChoice.setReg_other (s : State) {a : Nat} (v : Word) (ha : a ∉ sourceRegs) (hsrc : Reg.CPS_SRC ≠ a) :
    s.SameChoice (s.setReg a v) where
  regs _ hb := s.reg_setReg_ne v fun h => ha (h ▸ hb)
  req := State.get_congr (s.reg_setReg_ne v hsrc)
  qdl := rfl
  on := rfl
  ready := rfl
  srst := rfl

/-- Everything that the choice reads stands where CPS_SRC is written outside REQ. -/
theorem State.SameChoice.put_src (s : State) (f : Field) (v : Nat) (ha : f.addr = Reg.CPS_SRC) (hlo : 2 ≤ f.lo) :
    s.SameChoice (s.put f v) where
  regs a h := s.reg_put_ne v fun e => absurd (ha ▸ e ▸ h) (by decide)
  req := s.get_put_ne v (.inr (.inl hlo))
  qdl := rfl
  on := rfl
  ready := rfl
  srst := rfl

theorem State.SameChoice.setBlend (s : State) (d : Int) : s.SameChoice (s.setBlend d) := by
  unfold State.setBlend State.putFlag
  exact (State.SameChoice.of_regs (s := s) (t := { s with cps := { s.cps with rem := d } }) rfl rfl rfl rfl rfl).trans
    (State.SameChoice.put_src _ F.CPS_SRC_BLEND _ rfl (by decide))

theorem State.SameChoice.holdRate (s : State) (old : Nat) : s.SameChoice (s.holdRate old) := by
  unfold State.holdRate
  dsimp only
  split
  · exact .setReg_other s _ (by decide) (by decide)
  · exact .refl s

theorem State.SameChoice.note_cps (s : State) (b : Nat) : s.SameChoice (s.note Pg.CPS b) :=
  have hreg {a : Nat} (h : a ≠ pgEvt Pg.CPS) : (s.note Pg.CPS b).reg a = s.reg a := State.reg_note_ne s h
  ⟨fun _ ha => hreg fun e => absurd (e ▸ ha) (by decide), State.get_congr (hreg (by decide)), by simp, by simp, by simp, by simp⟩

theorem State.source_put_active (s : State) {v : Nat} (h : v < 4) : (s.put F.CPS_SRC_ACTIVE v).source = v :=
  (s.get_put_self _ v (by decide)).trans (Nat.mod_eq_of_lt h)

theorem State.source_setBlend (s : State) (d : Int) : (s.setBlend d).source = s.source :=
  State.get_put_ne _ _ (.inr (.inl (by decide)))

/-- After a review of the source it is the one that R69 and R70 choose. -/
theorem State.srcReview_follows (s : State) : s.srcReview.SourceFollows := by
  unfold State.srcReview
  split
  · unfold State.setSource
    dsimp only
    have hw := s.wantedSource_lt
    split
    · rename_i heq
      exact fun _ => heq.symm
    · split
      · have hput := (State.SameChoice.holdRate s s.source).trans
          (State.SameChoice.put_src _ F.CPS_SRC_ACTIVE s.wantedSource rfl (by decide))
        have hall := (hput.trans (State.SameChoice.setBlend _ 0)).trans (State.SameChoice.note_cps _ 5)
        intro _
        rw [hall.wantedSource]
        refine (State.get_congr (State.reg_note_ne _ (by decide))).trans ?_
        exact (State.source_setBlend _ 0).trans (State.source_put_active _ hw)
      · refine State.SourceFollows.slewEnd fun _ => ?_
        have hput := State.SameChoice.put_src s F.CPS_SRC_ACTIVE s.wantedSource rfl (by decide)
        rw [(hput.trans (State.SameChoice.setBlend _ _)).wantedSource, State.source_setBlend, State.source_put_active _ hw]
  · rename_i hoff
    exact fun hon => absurd hon hoff

/-! ### Time, events and reviews -/

theorem State.SourceFollows.elapse {s : State} (hf : s.SourceFollows) (n : Nat) : (s.elapse n).SourceFollows :=
  hf.of_regs rfl rfl rfl rfl rfl

theorem State.SourceFollows.wakeLatch {s : State} (hf : s.SourceFollows) : s.wakeLatch.SourceFollows := by
  unfold State.wakeLatch
  split
  · exact hf.of_regs rfl rfl rfl rfl rfl
  · exact hf

theorem State.SourceFollows.waitsSeen {s : State} (hf : s.SourceFollows) : s.waitsSeen.SourceFollows :=
  hf.of_regs rfl rfl rfl rfl rfl

theorem State.SourceFollows.gpioReview {s : State} (hf : s.SourceFollows) : s.gpioReview.SourceFollows := by
  unfold State.gpioReview
  split
  · exact hf
  · refine foldl_inv State.SourceFollows _ (fun t k ht => ?_) _ _ (hf.of_regs rfl rfl rfl rfl rfl)
    dsimp only
    split
    · exact ht.of_regs rfl rfl rfl rfl rfl
    · exact ht

/-- A review leaves the source following, whatever went before: no part of it after the source's own touches what is chosen from. -/
theorem State.review_follows (s : State) : s.review.SourceFollows :=
  (State.srcReview_follows _).slewEnd.wakeLatch.waitsSeen.gpioReview

theorem State.SourceFollows.toPulse {s : State} (hf : s.SourceFollows) : s.toPulse.SourceFollows := by
  unfold State.toPulse
  dsimp only
  split
  · exact hf.of_regs rfl rfl rfl rfl rfl
  · exact (hf.elapse (s.nextPulse - s.now)).of_regs rfl rfl rfl rfl rfl

theorem State.SourceFollows.wakeOn {s : State} (hf : s.SourceFollows) (es : List Nat) : (s.wakeOn es).SourceFollows :=
  foldl_inv State.SourceFollows (fun t e => (t.dmaEvent e).cmdEvent e) (fun _ _ ht => ht.of_regs rfl rfl rfl rfl rfl) es s hf

/-- A round of delivery ends with its wakings, or with a review. -/
theorem State.SourceFollows.deliver {s : State} (hf : s.SourceFollows) : s.deliver.SourceFollows := by
  unfold State.deliver
  dsimp only
  split
  · exact hf.toPulse.wakeOn _
  · exact State.review_follows _

theorem State.SourceFollows.route {s : State} (hf : s.SourceFollows) (n : Nat) : (s.route n).SourceFollows := by
  induction n generalizing s with
  | zero => exact hf
  | succ n ih =>
    unfold State.route
    split
    · exact hf
    · exact ih hf.deliver

theorem State.settle_follows (s : State) : s.settle.SourceFollows := by
  unfold State.settle
  dsimp only
  split
  · exact (State.review_follows s).route 16
  · exact (State.review_follows _).route 16

/-- Settles O6: every row ends in a review of the source, which nothing after it disturbs; an idle tick changes no part of the
choice. -/
theorem bearingSourceKept : Obligations.BearingSourceKept := by
  intro s t hf hstep
  unfold step at hstep
  split at hstep
  · cases hstep
    exact hf.elapse 1
  · rename_i c rest _
    obtain ⟨u, hu⟩ := exec_settles c { s with pending := rest }
    rw [hu] at hstep
    cases hstep
    exact u.settle_follows

end Sys2Proof.Machine
end

section
/-! Frames of the other blocks' operations (spec/03, R54 to R57). Those that a BEAR_CYCLE increment sets off leave the tick, the
Compass and the count of cycles alone (`State.Still`); those that bearing ticks, jumps and updates set off besides leave the
Compass alone. -/

namespace Sys2Proof.Machine

/-- BEAR_CYCLE among the registers `m`. -/
def cyclesIn (m : List (Nat × Word)) : Word := Sparse.get regDefault m Reg.CPS_BEAR_CYCLE

theorem State.cyclesIn_regs (s : State) : cyclesIn s.regs = s.reg Reg.CPS_BEAR_CYCLE := rfl

/-- The tick, the Compass and BEAR_CYCLE are in `t` as in `s`. -/
@[simp] abbrev State.Still (s t : State) : Prop := t.now = s.now ∧ t.cps = s.cps ∧ cyclesIn t.regs = cyclesIn s.regs

/-! ### Registers -/

variable (s : State)

@[simp] theorem State.cyclesIn_setReg {a : Nat} (v : Word) (h : ¬ a = Reg.CPS_BEAR_CYCLE) :
    cyclesIn (s.setReg a v).regs = cyclesIn s.regs := s.reg_setReg_ne v (Ne.symm h)

@[simp] theorem State.cyclesIn_put {f : Field} (v : Nat) (h : ¬ f.addr = Reg.CPS_BEAR_CYCLE) :
    cyclesIn (s.put f v).regs = cyclesIn s.regs := s.cyclesIn_setReg _ h

@[simp] theorem State.cyclesIn_putFlag {f : Field} (v : Bool) (h : ¬ f.addr = Reg.CPS_BEAR_CYCLE) :
    cyclesIn (s.putFlag f v).regs = cyclesIn s.regs := s.cyclesIn_setReg _ h

@[simp] theorem State.cyclesIn_putBit {a : Nat} (k : Nat) (v : Bool) (h : ¬ a = Reg.CPS_BEAR_CYCLE) :
    cyclesIn (s.putBit a k v).regs = cyclesIn s.regs := s.cyclesIn_setReg _ h

@[simp] theorem State.cyclesIn_setW1c {a : Nat} (k : Nat) (h : ¬ a = Reg.CPS_BEAR_CYCLE) :
    cyclesIn (s.setW1c a k).regs = cyclesIn s.regs := s.cyclesIn_setReg _ h

@[simp] theorem State.cyclesIn_setFlag {f : Field} (h : ¬ f.addr = Reg.CPS_BEAR_CYCLE) :
    cyclesIn (s.setFlag f).regs = cyclesIn s.regs := s.cyclesIn_setReg _ h

@[simp] theorem State.cyclesIn_note (p b : Nat) : cyclesIn (s.note p b).regs = cyclesIn s.regs :=
  s.reg_note_ne (by simp only [pgEvt, Reg.CPS_BEAR_CYCLE]; omega)

@[simp] theorem State.cyclesIn_logRec (c : Nat) (d0 d1 : Word) : cyclesIn (s.logRec c d0 d1).regs = cyclesIn s.regs :=
  s.reg_logRec_ne c d0 d1 (by decide)

@[simp] theorem State.cyclesIn_occurNext (p b : Nat) : cyclesIn (s.occurNext p b).regs = cyclesIn s.regs := by
  unfold State.occurNext; split <;> simp

theorem qdlUnit_ne_cycle (r : Nat) : ¬ Reg.QDL_UNIT r = Reg.CPS_BEAR_CYCLE := by
  simp only [Reg.QDL_UNIT, Reg.CPS_BEAR_CYCLE]; omega

@[simp] theorem State.cyclesIn_unitSeen (r : Nat) (v : Bool) :
    cyclesIn (s.putFlag (F.QDL_UNIT_SEEN r) v).regs = cyclesIn s.regs := s.cyclesIn_putFlag v (qdlUnit_ne_cycle r)

@[simp] theorem State.cyclesIn_unitInform (r : Nat) (v : Bool) :
    cyclesIn (s.putFlag (F.QDL_UNIT_INFORM r) v).regs = cyclesIn s.regs := s.cyclesIn_putFlag v (qdlUnit_ne_cycle r)

@[simp] theorem State.cyclesIn_mpptStat (k : Nat) (v : Word) :
    cyclesIn (s.setReg (Reg.MODE_MPPT_STAT k) v).regs = cyclesIn s.regs :=
  s.cyclesIn_setReg v (by simp only [Reg.MODE_MPPT_STAT, Reg.CPS_BEAR_CYCLE]; omega)

/-! ### Sequences of operations -/

theorem State.Still.refl : s.Still s := ⟨rfl, rfl, rfl⟩

theorem State.Still.trans {s t u : State} (h : s.Still t) (k : t.Still u) : s.Still u :=
  ⟨k.1.trans h.1, k.2.1.trans h.2.1, k.2.2.trans h.2.2⟩

theorem still_foldl {α : Type} {f : State → α → State} (h : ∀ (s : State) (x : α), s.Still (f s x)) (l : List α)
    (s : State) : s.Still (l.foldl f s) := foldl_inv s.Still f (fun t x ht => ht.trans (h t x)) l s (.refl s)

/-! ### Gate Drive (spec/10) -/

@[simp] theorem State.gateEdge_cps (n : Nat) (up : Bool) (t : Nat) : (s.gateEdge n up t).cps = s.cps := by
  unfold State.gateEdge; (repeat' split) <;> simp
@[simp] theorem State.dropAsk_cps : s.dropAsk.cps = s.cps := by
  unfold State.dropAsk; split <;> simp
@[simp] theorem State.elcEdges_cps (was : Nat → Bool) : (s.elcEdges was).cps = s.cps := by
  refine foldl_view State.cps (fun t n => ?_) _ s
  split <;> simp

/-! ### The PWM generator (spec/09) -/

@[simp] theorem State.edgeMoved_cps (n t : Nat) : (s.edgeMoved n t).cps = s.cps := by
  unfold State.edgeMoved; split <;> simp
@[simp] theorem State.pwmCmd_cps (n : Nat) (up : Bool) (t : Nat) : (s.pwmCmd n up t).cps = s.cps := by
  unfold State.pwmCmd; dsimp only; (repeat' split) <;> simp
@[simp] theorem State.pwmEdge_cps (n : Nat) (up : Bool) (t : Nat) : (s.pwmEdge n up t).cps = s.cps := by
  unfold State.pwmEdge; split <;> simp
@[simp] theorem State.lateFire_cps (n : Nat) (up : Bool) (t : Nat) : (s.lateFire n up t).cps = s.cps := by simp [State.lateFire]
@[simp] theorem State.prescaled_cps (b count limit : Nat) : (s.prescaled b count limit).2.cps = s.cps := by
  unfold State.prescaled; split <;> simp
@[simp] theorem State.zeroEvent_cps (k : Nat) : (s.zeroEvent k).cps = s.cps := by simp [State.zeroEvent]
@[simp] theorem State.reportEnd_cps (k : Nat) : (s.reportEnd k).cps = s.cps := by
  unfold State.reportEnd
  exact foldl_view State.cps (fun t n => by simp) _ s
@[simp] theorem State.halfEnd_cps (k : Nat) : (s.halfEnd k).cps = s.cps := by
  unfold State.halfEnd; split <;> simp
@[simp] theorem State.judgeLate_cps (n cmpNew : Nat) : (s.judgeLate n cmpNew).cps = s.cps := by
  unfold State.judgeLate; dsimp only; (repeat' split) <;> simp
@[simp] theorem State.copyLeg_cps (n : Nat) : (s.copyLeg n).cps = s.cps := by
  unfold State.copyLeg; split <;> simp
@[simp] theorem State.copyNow_cps (n : Nat) : (s.copyNow n).cps = s.cps := by
  unfold State.copyNow; (repeat' split) <;> simp
@[simp] theorem State.loadHorizon_cps (by' : Option Nat) : (s.loadHorizon by').cps = s.cps := by simp [State.loadHorizon]
@[simp] theorem State.loadCopies_cps : s.loadCopies.cps = s.cps := by
  have hcopy (t : State) (k : Nat) : ((tbLegs k).foldl State.copyNow t).cps = t.cps := foldl_view State.cps State.copyNow_cps _ t
  unfold State.loadCopies
  split
  · rfl
  · simp [apply_ite State.cps, hcopy]
@[simp] theorem State.loadAll_cps : s.loadAll.cps = s.cps := by
  unfold State.loadAll; (repeat' split) <;> simp
@[simp] theorem State.boundaryLoad_cps (k : Nat) (zero : Bool) : (s.boundaryLoad k zero).cps = s.cps := by
  unfold State.boundaryLoad
  dsimp only
  rw [apply_ite State.cps, State.putFlag_cps, foldl_view State.cps, ite_self]
  intro t n
  simp [apply_ite State.cps]
@[simp] theorem State.refreshAt_cps (n : Nat) : (s.refreshAt n).cps = s.cps := by
  unfold State.refreshAt; dsimp only; (repeat' split) <;> simp
@[simp] theorem State.startPulse_cps (n : Nat) : (s.startPulse n).cps = s.cps := by
  unfold State.startPulse; split <;> simp
@[simp] theorem State.readmitPass_cps (n : Nat) : (s.readmitPass n).cps = s.cps := by simp [State.readmitPass]
@[simp] theorem State.goLive_cps (n : Nat) : (s.goLive n).cps = s.cps := by simp [State.goLive]
@[simp] theorem State.legStage_cps (pre : Bool) (n : Nat) : (s.legStage pre n).cps = s.cps := by
  unfold State.legStage; dsimp only; (repeat' split) <;> simp
@[simp] theorem State.pointLevel_cps (n : Nat) (zero : Bool) : (s.pointLevel n zero).cps = s.cps := by
  unfold State.pointLevel; dsimp only; (repeat' split) <;> simp
@[simp] theorem State.prechStep_cps (k : Nat) : (s.prechStep k).cps = s.cps := by
  unfold State.prechStep; split <;> simp
@[simp] theorem State.tbZero_cps (k hp ck : Nat) : (s.tbZero k hp ck).cps = s.cps := by
  unfold State.tbZero
  dsimp only
  rw [State.zeroEvent_cps, foldl_view State.cps, foldl_view State.cps, State.boundaryLoad_cps, foldl_view State.cps]
  · simp
  · exact fun t n => t.refreshAt_cps n
  · exact fun t n => t.legStage_cps _ n
  · exact fun t n => by simp
@[simp] theorem State.tb0Start_cps : s.tb0Start.cps = s.cps := by simp [State.tb0Start]
@[simp] theorem State.tb0Zero_cps : s.tb0Zero.cps = s.cps := by
  unfold State.tb0Zero; dsimp only; (repeat' split) <;> simp
@[simp] theorem State.pwmJump_cps (crossed : Bool) : (s.pwmJump crossed).cps = s.cps := by
  unfold State.pwmJump
  split
  · rfl
  · dsimp only
    rw [apply_ite State.cps, State.zeroEvent_cps, foldl_view State.cps, ite_self]
    · simp
    · intro t n
      simp [apply_ite State.cps]
@[simp] theorem State.carApply_still : s.Still s.carApply := by simp [State.carApply]

/-! ### Relays (spec/13) -/

@[simp] theorem State.rlyOpen_still : s.Still s.rlyOpen := by
  unfold State.rlyOpen; dsimp only; (repeat' split) <;> simp (disch := decide)
@[simp] theorem State.relayOpen_still : s.Still s.relayOpen := by
  unfold State.relayOpen; split <;> simp
@[simp] theorem State.rlyFault_still (cause relays : Nat) : s.Still (s.rlyFault cause relays) := by simp (disch := decide) [State.rlyFault]
@[simp] theorem State.stepStart_still (k : Nat) (relays : List Nat) : s.Still (s.stepStart k relays) := by simp [State.stepStart]
@[simp] theorem State.weldStart_still : s.Still s.weldStart := by simp [State.weldStart]
@[simp] theorem State.permitStage_still : s.Still s.permitStage := by
  unfold State.permitStage; split <;> simp (disch := decide)
@[simp] theorem State.openWithin_still : s.Still s.openWithin := by simp (disch := decide) [State.openWithin]
@[simp] theorem State.openTested_still : s.Still s.openTested := by simp [State.openTested]
@[simp] theorem State.weldFound_still (bit : Nat) : s.Still (s.weldFound bit) := by simp (disch := decide) [State.weldFound]
@[simp] theorem State.rlyCycle_still : s.Still s.rlyCycle := by
  unfold State.rlyCycle; dsimp only; (repeat' split) <;> simp (disch := decide)

/-! ### Power-flow modes (spec/08) -/

@[simp] theorem State.setActive_cps (m : Nat) : (s.setActive m).cps = s.cps := by
  unfold State.setActive; (repeat' split) <;> simp
@[simp] theorem State.modeTrip_cps : s.modeTrip.cps = s.cps := by simp [State.modeTrip]
@[simp] theorem State.modeStart_cps : s.modeStart.cps = s.cps := by
  unfold State.modeStart; dsimp only; split <;> simp
@[simp] theorem State.gflTrigger_still : s.Still s.gflTrigger := by
  unfold State.gflTrigger; split <;> simp
@[simp] theorem State.modeIsland_still : s.Still s.modeIsland := by
  unfold State.modeIsland; split <;> simp
@[simp] theorem State.modeUnlock_cps (cause : Nat) : (s.modeUnlock cause).cps = s.cps := by
  unfold State.modeUnlock; (repeat' split) <;> simp
@[simp] theorem State.modeLock_cps : s.modeLock.cps = s.cps := by simp [State.modeLock]
@[simp] theorem State.setLimit_cps (w : Nat × Rat) : (s.setLimit w).cps = s.cps := by
  unfold State.setLimit; dsimp only; (repeat' split) <;> simp
@[simp] theorem State.setRamp_cps (n : Nat) (y : Rat) : (s.setRamp n y).cps = s.cps := by simp [State.setRamp]
@[simp] theorem State.rampStep_cps (n rate : Nat) (x : Rat) : (s.rampStep n rate x).cps = s.cps := by simp [State.rampStep]
@[simp] theorem State.rampsStep_cps : s.rampsStep.cps = s.cps := by simp [State.rampsStep]
@[simp] theorem State.emfStep_cps : s.emfStep.cps = s.cps := by simp [State.emfStep]
@[simp] theorem State.writeDroop_cps : s.writeDroop.cps = s.cps := by
  unfold State.writeDroop; split <;> simp
@[simp] theorem State.gflRun_cps : (s.gflRun).1.cps = s.cps := by
  unfold State.gflRun; dsimp only; split <;> simp
@[simp] theorem State.modeRun_cps (m : Nat) : (s.modeRun m).1.cps = s.cps := by
  unfold State.modeRun; (repeat' split) <;> simp
@[simp] theorem State.track_cps (m : Nat) (iOut : Cx) : (s.track m iOut).cps = s.cps := by
  unfold State.track; (repeat' split) <;> simp
@[simp] theorem State.clampE_cps : s.clampE.cps = s.cps := by
  unfold State.clampE; split <;> simp
@[simp] theorem State.incoming_cps (m : Nat) : (s.incoming m).1.cps = s.cps := by
  unfold State.incoming; (repeat' split) <;> simp
@[simp] theorem State.handoverRefused_cps (old : Nat) : (s.handoverRefused old).cps = s.cps := by
  unfold State.handoverRefused; dsimp only; split <;> simp
@[simp] theorem State.handoverDone_cps : s.handoverDone.cps = s.cps := by simp [State.handoverDone]
@[simp] theorem State.stayOut_cps (old : Nat) (out : ModeOut) : (s.stayOut old out).1.cps = s.cps := by simp [State.stayOut]
@[simp] theorem State.switchTo_cps (m : Nat) (out : ModeOut) : (s.switchTo m out).1.cps = s.cps := by
  unfold State.switchTo; dsimp only; (repeat' split) <;> simp
@[simp] theorem State.blendStep_cps (old ticks : Nat) : (s.blendStep old ticks).1.cps = s.cps := by
  unfold State.blendStep; dsimp only; (repeat' split) <;> simp
@[simp] theorem State.judgeAsk_cps : (s.judgeAsk).1.cps = s.cps := by
  unfold State.judgeAsk; (repeat' split) <;> simp
@[simp] theorem State.modeOutputs_cps : (s.modeOutputs).1.cps = s.cps := by
  unfold State.modeOutputs; dsimp only; (repeat' split) <;> simp
@[simp] theorem State.headroomStep_cps : s.headroomStep.cps = s.cps := by
  unfold State.headroomStep; dsimp only; (repeat' split) <;> simp
@[simp] theorem State.modeFilter_cps : s.modeFilter.cps = s.cps := by simp [State.modeFilter]
@[simp] theorem State.trackerSums_cps : s.trackerSums.cps = s.cps := by simp [State.trackerSums]
@[simp] theorem State.showTracker_still (k : Nat) : s.Still (s.showTracker k) := by
  unfold State.showTracker
  by_cases h : k = 0 <;> simp (disch := decide) [h]
@[simp] theorem State.sweepDrop_cps : s.sweepDrop.cps = s.cps := by
  unfold State.sweepDrop; split <;> simp
@[simp] theorem State.modeUpdate_cps : s.modeUpdate.cps = s.cps := by
  unfold State.modeUpdate; dsimp only; (repeat' split) <;> simp
@[simp] theorem State.trackerPeriod_still (k : Nat) : s.Still (s.trackerPeriod k) := by
  unfold State.trackerPeriod; split <;> simp
@[simp] theorem State.mpptPeriodEnd_still : s.Still s.mpptPeriodEnd := by simp [State.mpptPeriodEnd]
@[simp] theorem State.trackerCycle_still (k : Nat) : s.Still (s.trackerCycle k) := by
  unfold State.trackerCycle; split <;> simp
@[simp] theorem State.holdBoost_still (k : Nat) : s.Still (s.holdBoost k) := by simp [State.holdBoost]
@[simp] theorem State.sweepStringEnd_still (w : Sweep) (k : Nat) : s.Still (s.sweepStringEnd w k) := by
  unfold State.sweepStringEnd; split <;> simp
@[simp] theorem State.sweepGo_still (w : Sweep) (k j : Nat) (voc : Rat) : s.Still (s.sweepGo w k j voc) := by
  unfold State.sweepGo; split <;> simp
@[simp] theorem State.sweepPoint_still : s.Still s.sweepPoint := by
  unfold State.sweepPoint; (repeat' split) <;> simp
@[simp] theorem State.mpptCycle_still : s.Still s.mpptCycle := by
  unfold State.mpptCycle; split <;> simp

/-! ### Grid protection (spec/12) -/

@[simp] theorem State.protWarn_cps (i : Nat) : (s.protWarn i).cps = s.cps := by
  unfold State.protWarn; split <;> simp
@[simp] theorem State.takeMeasures_cps : s.takeMeasures.cps = s.cps := by
  unfold State.takeMeasures; dsimp only; split <;> simp
@[simp] theorem State.tripMerge_still (cause stage mask phases value : Nat) :
    s.Still (s.tripMerge cause stage mask phases value) := by
  unfold State.tripMerge; dsimp only; split <;> simp (disch := decide)
@[simp] theorem State.protTrip_still (cause stage mask phases value : Nat) :
    s.Still (s.protTrip cause stage mask phases value) := by
  unfold State.protTrip; dsimp only; (repeat' split) <;> simp (disch := decide)
theorem State.standing_cps (b : Nat) (now : Bool) {act : State → State} (h : ∀ t, (act t).cps = t.cps) :
    (s.standing b now act).cps = s.cps := by
  unfold State.standing
  dsimp only
  split
  · exact h _
  · rfl
@[simp] theorem State.standing_trip_cps (b : Nat) (now : Bool) (cause stage mask phases value : Nat) :
    (s.standing b now fun t => t.protTrip cause stage mask phases value).cps = s.cps :=
  s.standing_cps b now fun t => (t.protTrip_still cause stage mask phases value).2.1
@[simp] theorem State.standing_open_cps (b i : Nat) (now : Bool) :
    (s.standing b now fun t => t.relayOpen.protWarn i).cps = s.cps := s.standing_cps b now fun t => by simp
@[simp] theorem State.stageStep_cps (adv : Bool) (i : Nat) : (s.stageStep adv i).cps = s.cps := by simp [State.stageStep]
@[simp] theorem State.stagesStep_cps (adv : Bool) : (s.stagesStep adv).cps = s.cps :=
  foldl_view State.cps (fun t i => t.stageStep_cps adv i) _ s
@[simp] theorem State.stagesExpire_cps : s.stagesExpire.cps = s.cps := by
  unfold State.stagesExpire
  refine foldl_view State.cps (fun t i => ?_) _ s
  dsimp only
  split <;> simp
@[simp] theorem State.frtJudge_cps : s.frtJudge.cps = s.cps := by
  unfold State.frtJudge; dsimp only; split <;> simp
@[simp] theorem State.frtStep_cps (adv : Bool) : (s.frtStep adv).cps = s.cps := by
  unfold State.frtStep; dsimp only; (repeat' split) <;> simp
@[simp] theorem State.mcStep_cps (adv : Bool) : (s.mcStep adv).cps = s.cps := by
  unfold State.mcStep; dsimp only; (repeat' split) <;> simp
@[simp] theorem State.frtDemands_cps : s.frtDemands.cps = s.cps := by
  unfold State.frtDemands; (repeat' split) <;> simp
@[simp] theorem State.frtExit_cps : s.frtExit.cps = s.cps := by
  unfold State.frtExit; split <;> simp
@[simp] theorem State.reconClear_cps : s.reconClear.cps = s.cps := by simp [State.reconClear]
@[simp] theorem State.reconStep_cps : s.reconStep.cps = s.cps := by
  unfold State.reconStep; split <;> simp
@[simp] theorem State.reconReady_cps : s.reconReady.cps = s.cps := by
  unfold State.reconReady; split <;> simp
@[simp] theorem State.deadStep_cps : s.deadStep.cps = s.cps := by simp [State.deadStep]
@[simp] theorem State.uvWaitStep_cps (adv : Bool) : (s.uvWaitStep adv).cps = s.cps := by
  unfold State.uvWaitStep; split <;> simp
@[simp] theorem State.island_still : s.Still s.island := by
  unfold State.island; dsimp only; (repeat' split) <;> simp (disch := decide)
@[simp] theorem State.passiveAct_still (island : Bool) (cause value : Nat) : s.Still (s.passiveAct island cause value) := by
  unfold State.passiveAct; split <;> simp
@[simp] theorem State.rocofCycle_still (lock : Bool) : s.Still (s.rocofCycle lock) := by
  unfold State.rocofCycle; dsimp only; (repeat' split) <;> simp
@[simp] theorem State.vectorShift_cps (err : Rat) : (s.vectorShift err).cps = s.cps := by
  unfold State.vectorShift; dsimp only; (repeat' split) <;> simp
@[simp] theorem State.vectorGap_cps : s.vectorGap.cps = s.cps := by simp [State.vectorGap]
@[simp] theorem State.aiStop_still : s.Still s.aiStop := by
  unfold State.aiStop; split <;> simp (disch := decide)
@[simp] theorem State.aiCycle_still (cycle : Nat) : s.Still (s.aiCycle cycle) := by
  unfold State.aiCycle; dsimp only; (repeat' split) <;> simp (disch := decide)
@[simp] theorem State.syncSample_cps (j : Nat) : (s.syncSample j).cps = s.cps := by simp [State.syncSample]
@[simp] theorem State.syncCycle_still (lock : Bool) : s.Still (s.syncCycle lock) := by simp (disch := decide) [State.syncCycle]
@[simp] theorem State.clkfb_cps : s.clkfb.cps = s.cps := by
  unfold State.clkfb; dsimp only; split <;> simp
@[simp] theorem State.protJudge_cps (j : Nat) : (s.protJudge j).cps = s.cps := by
  unfold State.protJudge
  split
  · rfl
  · dsimp only
    split <;> simp
@[simp] theorem State.protUnlock_cps : s.protUnlock.cps = s.cps := by
  unfold State.protUnlock; split <;> simp
@[simp] theorem State.protLock_cps : s.protLock.cps = s.cps := by
  unfold State.protLock; split <;> simp

/-! ### Conversion (spec/05) -/

@[simp] theorem State.markStep_cps (g ch : Nat) : (s.markStep g ch).cps = s.cps := by
  unfold State.markStep; (repeat' split) <;> simp
@[simp] theorem State.adcTrigger_cps (g : Nat) : (s.adcTrigger g).cps = s.cps := by
  have hmark : ((s.groupMembers g).foldl (fun s ch => s.markStep g ch) s).cps = s.cps :=
    foldl_view State.cps (fun t ch => t.markStep_cps g ch) _ s
  unfold State.adcTrigger
  dsimp only
  split <;> simp [hmark]

/-! ### Dead reckoning (spec/07) -/

@[simp] theorem State.specShow_still : s.Still s.specShow := by simp (disch := decide) [State.specShow]
@[simp] theorem State.specHold_still : s.Still s.specHold := by
  unfold State.specHold
  refine State.Still.trans (still_foldl (fun t n => ?_) _ _) (State.specShow_still _)
  split <;> simp
@[simp] theorem State.specLearn_still (n : Nat) : s.Still (s.specLearn n) := by simp [State.specLearn]
@[simp] theorem State.specTrip_still (cause n : Nat) : s.Still (s.specTrip cause n) := by simp (disch := decide) [State.specTrip]
@[simp] theorem State.substitute_still (n : Nat) (possible : Bool) : s.Still (s.substitute n possible) := by
  unfold State.substitute; (repeat' split) <;> simp (disch := decide)
@[simp] theorem State.jumpVoid_cps : s.jumpVoid.cps = s.cps := by
  unfold State.jumpVoid; split <;> simp
@[simp] theorem State.voidCycle_still : s.Still s.voidCycle := by
  unfold State.voidCycle; dsimp only; (repeat' split) <;> simp (disch := decide)
@[simp] theorem State.setSuspect_still (n : Nat) : s.Still (s.setSuspect n) := by
  unfold State.setSuspect; dsimp only; split <;> simp (disch := decide)
@[simp] theorem State.classify_still (n : Nat) : s.Still (s.classify n) := by
  unfold State.classify; dsimp only; (repeat' split) <;> simp (disch := decide)
@[simp] theorem State.healthCycle_still (n : Nat) (judged sus : Bool) : s.Still (s.healthCycle n judged sus) := by
  unfold State.healthCycle; dsimp only; (repeat' split) <;> simp (disch := decide)
@[simp] theorem State.specCycle_still : s.Still s.specCycle := by
  have hhealth (t : State) (l : List (Nat × Bool × Bool)) : t.Still (l.foldl (fun s x => s.healthCycle x.1 x.2.1 x.2.2) t) :=
    still_foldl (fun t x => t.healthCycle_still x.1 x.2.1 x.2.2) l t
  unfold State.specCycle
  dsimp only
  split <;> simp [hhealth]

/-! ### The control engine (spec/06) -/

@[simp] theorem State.ctlShow_cps : s.ctlShow.cps = s.cps := by simp [State.ctlShow]
@[simp] theorem State.ctlTrigger_cps (i : Nat) : (s.ctlTrigger i).cps = s.cps := by
  unfold State.ctlTrigger; (repeat' split) <;> simp
@[simp] theorem State.tuneAdvance_still : s.Still s.tuneAdvance := by
  unfold State.tuneAdvance; (repeat' split) <;> simp
@[simp] theorem State.tuneBegin_still (k : Nat) : s.Still (s.tuneBegin k) := by
  unfold State.tuneBegin; dsimp only; (repeat' split) <;> simp

/-! ### DMA channels (spec/17) -/

@[simp] theorem State.setDmaState_cps (n st : Nat) : (s.setDmaState n st).cps = s.cps := by simp [State.setDmaState]
@[simp] theorem State.dmaQuarEnter_cps (n : Nat) : (s.dmaQuarEnter n).cps = s.cps := by simp [State.dmaQuarEnter]
@[simp] theorem State.dmaStartNow_cps (n : Nat) (cont : Bool) : (s.dmaStartNow n cont).cps = s.cps := by
  unfold State.dmaStartNow; dsimp only; (repeat' split) <;> simp
@[simp] theorem State.dmaStart_cps (n : Nat) (cont : Bool) : (s.dmaStart n cont).cps = s.cps := by
  unfold State.dmaStart; (repeat' split) <;> simp
@[simp] theorem State.dmaUnits_still (unit k : Nat) : s.Still (s.dmaUnits unit k) := by simp [State.dmaUnits]
@[simp] theorem State.dmaBackward_cps : s.dmaBackward.cps = s.cps := by simp [State.dmaBackward]

/-! ### The Chart (spec/04) -/

@[simp] theorem State.wpMark_cps (n : Nat) (cyc : Int) : (s.wpMark n cyc).cps = s.cps := by
  unfold State.wpMark; split <;> simp
@[simp] theorem State.wpQueue_cps (codes : List Nat) : (s.wpQueue codes).cps = s.cps := by simp [State.wpQueue]
@[simp] theorem State.wpOccur_cps (n : Nat) (cyc : Int) : (s.wpOccur n cyc).cps = s.cps := by
  unfold State.wpOccur; dsimp only; split <;> simp
@[simp] theorem State.wpLate_cps (n : Nat) (cyc : Int) : (s.wpLate n cyc).cps = s.cps := by simp [State.wpLate]
@[simp] theorem State.wpSkip_cps (n : Nat) (cyc : Int) : (s.wpSkip n cyc).cps = s.cps := by
  unfold State.wpSkip; split <;> simp
@[simp] theorem State.wpIssue_cps (code : Nat) : (s.wpIssue code).cps = s.cps := by
  unfold State.wpIssue; (repeat' split) <;> simp
@[simp] theorem State.wpIssueAll_cps : s.wpIssueAll.cps = s.cps := foldl_view State.cps State.wpIssue_cps _ _
@[simp] theorem State.chtStretch_cps (cyc lo hi fin : Int) : (s.chtStretch cyc lo hi fin).cps = s.cps := by
  unfold State.chtStretch
  split
  · rfl
  · exact foldl_view State.cps (fun t n => by simp [apply_ite State.cps]) _ s
@[simp] theorem State.chtRotate_still : s.Still s.chtRotate := by simp (disch := decide) [State.chtRotate]

/-! ### The Quadrille (spec/04) -/

@[simp] theorem State.qdlShow_still : s.Still s.qdlShow := by
  unfold State.qdlShow
  refine State.Still.trans ?_ (still_foldl (fun t r => by simp) _ _)
  simp (disch := decide)
@[simp] theorem State.noShare_cps : s.noShare.cps = s.cps := by simp [State.noShare]
@[simp] theorem State.toListen_cps : s.toListen.cps = s.cps := by simp [State.toListen]
@[simp] theorem State.toLead_still : s.Still s.toLead := by
  unfold State.toLead; (repeat' split) <;> simp (disch := decide)
@[simp] theorem State.slewStart_still : s.Still s.slewStart := by
  unfold State.slewStart; split <;> simp
@[simp] theorem State.lostJudge_still : s.Still s.lostJudge := by simp [State.lostJudge]
@[simp] theorem State.qdlCycle_still : s.Still s.qdlCycle := by
  unfold State.qdlCycle; dsimp only; (repeat' split) <;> simp (disch := decide)
@[simp] theorem State.qdlWake_cps : s.qdlWake.cps = s.cps := by
  unfold State.qdlWake; split <;> simp
@[simp] theorem State.qdlLocked_cps : s.qdlLocked.cps = s.cps := by
  unfold State.qdlLocked; split <;> simp

/-! ### The Sextant (spec/15) -/

@[simp] theorem State.metCycleEnd_still : s.Still s.metCycleEnd := by simp [State.metCycleEnd]

/-! ### What counts cycles and ticks, and a rate that is held (spec/03) -/

@[simp] theorem State.holdRate_cps (old : Nat) : (s.holdRate old).cps = s.cps := by
  unfold State.holdRate
  dsimp only
  split
  · exact State.setReg_cps ..
  · rfl
@[simp] theorem State.legsCycle_still : s.Still s.legsCycle := by
  unfold State.legsCycle; split <;> simp
@[simp] theorem State.ctxCycle_still : s.Still s.ctxCycle := by simp [State.ctxCycle]
@[simp] theorem State.legsTick_cps : s.legsTick.cps = s.cps := by
  unfold State.legsTick; split <;> simp

/-! ### Words of the Compass (spec/03) -/

@[simp] theorem State.showMag_cps : s.showMag.cps = s.cps := by simp [State.showMag]
@[simp] theorem State.takeRate_cps (before : Nat) (unlocked : Bool) : (s.takeRate before unlocked).cps = s.cps := by
  unfold State.takeRate; split <;> simp

end Sys2Proof.Machine
end

section
/-! The Compass's own operations (spec/03): what a BEAR_CYCLE increment, a bearing tick and the end of a blend do to it, and that an
update moves the tick of the last update nowhere else. -/

namespace Sys2Proof.Machine

section

variable (s : State)

/-! ### Cycles and bearing ticks (R55, R56) -/

theorem State.cycleIncrement_now : s.cycleIncrement.now = s.now := by
  unfold State.cycleIncrement; dsimp only; split <;> simp

/-- An increment counts one cycle: nothing it sets off writes BEAR_CYCLE again. -/
theorem State.reg_cycleIncrement : s.cycleIncrement.reg Reg.CPS_BEAR_CYCLE = s.reg Reg.CPS_BEAR_CYCLE + 1#32 := by
  have hset : cyclesIn (s.setReg Reg.CPS_BEAR_CYCLE (s.reg Reg.CPS_BEAR_CYCLE + 1#32)).regs = s.reg Reg.CPS_BEAR_CYCLE + 1#32 :=
    s.reg_setReg_self _ _
  refine (State.cyclesIn_regs _).symm.trans (Eq.trans ?_ hset)
  unfold State.cycleIncrement; dsimp only
  split <;> simp (disch := decide)

@[simp] theorem State.cycleIncrement_lastUpd : s.cycleIncrement.cps.lastUpd = s.cps.lastUpd := by
  unfold State.cycleIncrement; dsimp only; split <;> simp

@[simp] theorem State.catchUp_lastUpd : s.catchUp.cps.lastUpd = s.cps.lastUpd := by
  unfold State.catchUp; split <;> simp

/-- A bearing tick moves the Compass on to the next boundary, and no more. -/
@[simp] theorem State.bearingTick_cps (k : Nat) (jump : Bool) : (s.bearingTick k jump).cps = { s.cps with nextTick := k + 1 } := by
  unfold State.bearingTick; dsimp only; split <;> simp

/-! ### Blends (R71) -/

@[simp] theorem State.setBlend_cps (d : Int) : (s.setBlend d).cps = { s.cps with rem := d } := rfl
theorem State.flag_setBlend (d : Int) : (s.setBlend d).flag F.CPS_SRC_BLEND = decide (d ≠ 0) :=
  State.flag_putFlag_self _ _ _ (by decide) (by decide)

@[simp] theorem State.toHold_still : s.Still s.toHold := by simp (disch := decide) [State.toHold]
@[simp] theorem State.slewEnd_still : s.Still s.slewEnd := by unfold State.slewEnd; split <;> simp
theorem State.reg_slewEnd_lt {a : Nat} (h : a < Reg.QDL_CFG) : s.slewEnd.reg a = s.reg a := by
  unfold State.slewEnd; split
  · exact s.reg_toHold_lt h
  · rfl

@[simp] theorem State.setSource_lastUpd (new : Nat) : (s.setSource new).cps.lastUpd = s.cps.lastUpd := by
  unfold State.setSource; dsimp only; (repeat' split) <;> simp
@[simp] theorem State.srcReview_lastUpd : s.srcReview.cps.lastUpd = s.cps.lastUpd := by
  unfold State.srcReview; split <;> simp
@[simp] theorem State.blendClosed_lastUpd : s.blendClosed.cps.lastUpd = s.cps.lastUpd := by
  unfold State.blendClosed; split <;> simp

/-- A blend that has closed what it was set to. -/
theorem State.blendClosed_of_closed {s : State} (hb : s.flag F.CPS_SRC_BLEND = true) (hr : s.cps.rem = 0) :
    s.blendClosed = (s.setBlend s.sourceOffset).slewEnd := by
  simp [State.blendClosed, hb, hr]

/-! ### Jumps (R64) -/

@[simp] theorem State.jumpTicks_lastUpd (b : Int) : (s.jumpTicks b).cps.lastUpd = s.cps.lastUpd := by
  unfold State.jumpTicks
  refine foldl_view (fun t => t.cps.lastUpd) (fun t k => ?_) _ s
  split <;> simp

@[simp] theorem State.navJump_lastUpd (step : Int) : (s.navJump step).cps.lastUpd = s.cps.lastUpd := by
  unfold State.navJump; dsimp only
  (repeat' split) <;> simp

/-! ### The update (R57 to R66) -/

@[simp] theorem State.modCps_cps (f : CpsSt → CpsSt) : (s.modCps f).cps = f s.cps := rfl
@[simp] theorem State.mpathOff_lastUpd : s.mpathOff.cps.lastUpd = s.cps.lastUpd := by simp [State.mpathOff]
@[simp] theorem State.declareLock_lastUpd : s.declareLock.cps.lastUpd = s.cps.lastUpd := by simp [State.declareLock]
@[simp] theorem State.unlockCps_lastUpd (cause : Nat) : (s.unlockCps cause).cps.lastUpd = s.cps.lastUpd := by
  unfold State.unlockCps; dsimp only; split <;> simp
@[simp] theorem State.toSearch_lastUpd : s.toSearch.cps.lastUpd = s.cps.lastUpd := by simp [State.toSearch]
@[simp] theorem State.seqJudge_lastUpd : s.seqJudge.cps.lastUpd = s.cps.lastUpd := by
  unfold State.seqJudge; dsimp only; (repeat' split) <;> simp
@[simp] theorem State.mpathCheck_lastUpd : s.mpathCheck.cps.lastUpd = s.cps.lastUpd := by
  unfold State.mpathCheck; (repeat' split) <;> simp
@[simp] theorem State.judgeCycle_lastUpd : s.judgeCycle.1.cps.lastUpd = s.cps.lastUpd := by
  unfold State.judgeCycle; dsimp only; (repeat' split) <;> simp
@[simp] theorem CpsSt.newCycle_lastUpd (c : CpsSt) (fresh : Bool) : (c.newCycle fresh).lastUpd = c.lastUpd := rfl
@[simp] theorem State.cycleCheck_lastUpd : s.cycleCheck.1.cps.lastUpd = s.cps.lastUpd := by
  unfold State.cycleCheck; split <;> simp
@[simp] theorem State.cpsSeq_lastUpd (va vb vc : F32) : (s.cpsSeq va vb vc).1.cps.lastUpd = s.cps.lastUpd := by simp [State.cpsSeq]
@[simp] theorem State.cpsLoop_lastUpd (ap bp : F32) (jump : Option Int) : (s.cpsLoop ap bp jump).1.cps.lastUpd = s.cps.lastUpd := by
  simp [State.cpsLoop]
@[simp] theorem State.jumpDetect_lastUpd (err : F32) : (s.jumpDetect err).1.cps.lastUpd = s.cps.lastUpd := by
  unfold State.jumpDetect; dsimp only; (repeat' split) <;> simp
@[simp] theorem State.cpsStates_lastUpd (low : Bool) (mp : Rat) (loop : Option (F32 × F32)) (jump : Bool) :
    (s.cpsStates low mp loop jump).1.cps.lastUpd = s.cps.lastUpd := by
  unfold State.cpsStates; dsimp only; (repeat' split) <;> simp
@[simp] theorem CpsSt.tally_lastUpd (c : CpsSt) (rate : Nat) (low : Bool) (loop : Option (F32 × F32)) :
    (c.tally rate low loop).lastUpd = c.lastUpd := by unfold CpsSt.tally; dsimp only; split <;> rfl
@[simp] theorem State.cpsCompute_lastUpd (jump : Option Int) : (s.cpsCompute jump).1.cps.lastUpd = s.cps.lastUpd := by
  unfold State.cpsCompute; dsimp only; (repeat' split) <;> simp
@[simp] theorem State.applyJump_lastUpd (step : Int) : (s.applyJump step).cps.lastUpd = s.cps.lastUpd := by
  unfold State.applyJump; dsimp only; split <;> simp
@[simp] theorem State.clampJudge_lastUpd (en : Bool) : (s.clampJudge en).cps.lastUpd = s.cps.lastUpd := by
  unfold State.clampJudge; dsimp only; split <;> simp
@[simp] theorem State.cpsUpdateNow_lastUpd : s.cpsUpdateNow.cps.lastUpd = s.cps.lastUpd := by
  unfold State.cpsUpdateNow
  extract_lets en before jump jumped
  have hjumped : jumped.cps.lastUpd = s.cps.lastUpd := by cases h : jump <;> simp [jumped, h]
  clear_value jumped
  split
  rename_i computed causes err heq
  have hcomputed : computed.cps.lastUpd = s.cps.lastUpd := by
    rw [← hjumped, show computed = _ from (congrArg Prod.fst heq).symm]
    split <;> simp
  clear heq hjumped
  extract_lets cause wasLocked judged shifted reviewed rated blended
  have hjudged : judged.cps.lastUpd = s.cps.lastUpd := by cases h : cause <;> simp [judged, h, hcomputed]
  have hshifted : shifted.cps.lastUpd = judged.cps.lastUpd := by
    cases err with
    | none => simp [shifted]
    | some e => simp only [shifted]; split <;> simp
  have hrated : rated.cps.lastUpd = s.cps.lastUpd := by simp [rated, reviewed, hshifted, hjudged]
  have hblended : blended.cps.lastUpd = s.cps.lastUpd := by
    rw [← hrated]; simp only [blended]; split <;> simp
  split
  · exact hblended
  · exact hblended

@[simp] theorem State.elapse_lastUpd (n : Nat) : (s.elapse n).cps.lastUpd = s.cps.lastUpd := by
  simp only [State.elapse]; split <;> rfl
@[simp] theorem State.chtFlush_lastUpd : s.chtFlush.cps.lastUpd = s.cps.lastUpd := by
  unfold State.chtFlush; split <;> simp

/-! ### The rows -/

theorem State.elapseTo_now {t : Nat} (h : s.now ≤ t) : (s.elapseTo t).now = t := by
  rw [State.elapseTo, State.elapse_now]; omega

/-- A crossing of 0 that waits is counted at once; else the next is waited for (R55). -/
theorem State.bearCycle_of_pending {s : State} (hon : s.domOn 3 = true) (hw : s.cps.wrapPend = true) :
    s.bearCycle = s.cycleIncrement := by
  simp [State.bearCycle, hon, hw]

theorem State.bearCycle_of_waiting {s : State} (hon : s.domOn 3 = true) (hw : s.cps.wrapPend = false)
    (hinc : s.cps.incAt ≠ some s.now) :
    s.bearCycle = (s.elapseToAbs ((s.cycleNow + 1) * (turn52 : Int))).catchUp := by
  simp [State.bearCycle, hon, hw, hinc]

/-- The next boundary of the cycle is delivered where none is to be crossed again first (R56). -/
theorem State.nextBoundary_of_due {s : State} (hon : s.domOn 3 = true) (hk : s.cps.nextTick < s.carN)
    (hre : s.tb0On = false ∨ s.recross = none) :
    s.nextBoundary = (s.elapseToAbs (s.cycleNow * (turn52 : Int) +
      ((s.boundary s.cps.nextTick * 1048576 : Nat) : Int))).bearingTick s.cps.nextTick false := by
  have hnone : (if s.tb0On then s.recross else none) = none := by
    rcases hre with h | h <;> simp [h]
  unfold State.nextBoundary
  rw [hnone, hon]
  simp [Nat.not_le.2 hk]

/-- A boundary that is crossed again only starts a period of TB0 (R56, R198). -/
theorem State.nextBoundary_of_recross {s : State} (hon : s.domOn 3 = true) {t : Int} {k : Nat} (htb : s.tb0On = true)
    (hre : s.recross = some (t, k)) :
    s.nextBoundary = if (s.elapseToAbs t).tb0Uses k then (s.elapseToAbs t).tb0Zero else s.elapseToAbs t := by
  simp [State.nextBoundary, hon, htb, hre]

theorem State.blendEnd_of_blending {s : State} (hon : s.domOn 3 = true) (hb : s.flag F.CPS_SRC_BLEND = true)
    (hr : (s.elapse s.blendTicks).cps.rem = 0) :
    s.blendEnd = ((s.elapse s.blendTicks).setBlend (s.elapse s.blendTicks).sourceOffset).slewEnd := by
  have hb' : (s.elapse s.blendTicks).flag F.CPS_SRC_BLEND = true := hb
  rw [← State.blendClosed_of_closed hb' hr]
  simp [State.blendEnd, hon, hb]

/-- The Compass at the tick of its next update, before the update. -/
def State.atUpdate (s : State) : State :=
  let t := s.elapseTo ((s.cps.lastUpd / 4000 + 1) * 4000)
  t.modCps (fun c => { c with lastUpd := t.now })

theorem State.keeps_atUpdate : s.Keeps s.atUpdate (fun _ => False) :=
  s.keeps_elapse ((s.cps.lastUpd / 4000 + 1) * 4000 - s.now) _

theorem State.cpsUpdate_eq {s : State} (hon : s.domOn 3 = true) : s.cpsUpdate = s.atUpdate.blendClosed.cpsUpdateNow.chtFlush := by
  simp [State.cpsUpdate, State.atUpdate, hon]

end

/-- Settles O17: each row is the passage of time and one operation of the Compass; what the operation sets off in the other blocks
leaves the count, the next boundary and the tick of the update alone. -/
theorem bearingEvents : Obligations.BearingEvents := by
  intro s hon
  refine ⟨fun hw => ?_, fun hw hinc => ?_, fun hk hre => ?_, fun t k htb hre => ?_, fun hb hr => ?_, fun hnow => ?_⟩
  · exact ⟨_, by rw [exec_bearCycleIncrement, State.bearCycle_of_pending hon hw], rfl, s.reg_cycleIncrement,
      s.cycleIncrement_now⟩
  · rw [exec_bearCycleIncrement, State.bearCycle_of_waiting hon hw hinc]
  · exact ⟨_, by rw [exec_bearingTick, State.nextBoundary_of_due hon hk hre], rfl, by rw [State.bearingTick_cps]⟩
  · rw [exec_bearingTick, State.nextBoundary_of_recross hon htb hre]
  · let t := s.elapse s.blendTicks
    have hrem : (t.setBlend t.sourceOffset).slewEnd.cps.rem = t.sourceOffset := by simp
    refine ⟨_, by rw [exec_blendEnd, State.blendEnd_of_blending hon hb hr], hrem, ?_, (State.slewEnd_still _).1⟩
    rw [hrem]
    exact (State.flag_congr (State.reg_slewEnd_lt _ (by decide))).trans (State.flag_setBlend _ _)
  · have hat : s.atUpdate.now = (s.cps.lastUpd / 4000 + 1) * 4000 := s.elapseTo_now hnow
    refine ⟨s.atUpdate, hat, rfl, s.keeps_atUpdate, _, by rw [exec_cpsUpdate, State.cpsUpdate_eq hon], rfl, ?_⟩
    rw [State.chtFlush_lastUpd, State.cpsUpdateNow_lastUpd, State.blendClosed_lastUpd]
    rfl

end Sys2Proof.Machine
end

section
/-! Frames of the conversion channels' own operations (spec/05, R104, R105, R112 to R117): which registers overload, a lost stream,
settling, quarantine and a result's marks write, and what of a channel's record they leave alone. -/

namespace Sys2Proof.Machine

/-! ### What is kept, through one operation after another -/

section

variable {s t u : State} {w w' : Nat → Prop}

theorem State.Keeps.refl (s : State) (w : Nat → Prop) : s.Keeps s w := ⟨fun _ _ => rfl, rfl, rfl⟩

theorem State.Keeps.trans (h : s.Keeps t w) (k : t.Keeps u w) : s.Keeps u w :=
  ⟨fun a ha => (k.1 a ha).trans (h.1 a ha), k.2.1.trans h.2.1, k.2.2.trans h.2.2⟩

theorem State.Keeps.mono (h : s.Keeps t w) (hw : ∀ a, w a → w' a) : s.Keeps t w' :=
  ⟨fun a ha => h.1 a fun hwa => ha (hw a hwa), h.2⟩

/-- What is kept where the registers and the byte memories are the same. -/
theorem State.Keeps.of_eq (hr : t.regs = s.regs) (hs : t.sram = s.sram) (hn : t.nvm = s.nvm) : s.Keeps t w :=
  ⟨fun a _ => State.reg_congr hr a, hs, hn⟩

theorem State.Keeps.setReg {a : Nat} (s : State) (v : Word) (ha : w a) : s.Keeps (s.setReg a v) w :=
  ⟨fun _ hb => s.reg_setReg_ne v fun e => hb (e ▸ ha), rfl, rfl⟩

theorem State.Keeps.note {p : Nat} (s : State) (b : Nat) (hp : w (pgEvt p)) : s.Keeps (s.note p b) w :=
  ⟨fun _ hb => s.reg_note_ne fun e => hb (e ▸ hp), s.note_sram p b, s.note_nvm p b⟩

theorem State.Keeps.foldl {α : Type} {f : State → α → State} (l : List α) (h : ∀ (s : State), ∀ x ∈ l, s.Keeps (f s x) w)
    (s : State) : s.Keeps (l.foldl f s) w :=
  List.foldlRecOn l f (motive := fun t => s.Keeps t w) (.refl s w) fun t ht x hx => ht.trans (h t x hx)

end

theorem State.bitOf_setW1c (s : State) (a k b i : Nat) :
    (s.setW1c a k).bitOf b i = if b = a ∧ i = k ∧ i < 32 then true else s.bitOf b i := s.bitOf_putBit a k true b i

theorem State.bitOf_congr {s t : State} {a : Nat} (h : t.reg a = s.reg a) (b : Nat) : t.bitOf a b = s.bitOf a b := by
  rw [State.bitOf, h]; rfl

/-! ### The registers of a channel lie apart -/

theorem adcReg_ne {o o' : Nat} (ch : Nat) (h : o ≠ o') : adcReg o ch ≠ adcReg o' ch := by simp only [adcReg]; omega

theorem adcReg_ne_pgEvt {o : Nat} (ch : Nat) (h : 0x14 < o) : adcReg o ch ≠ pgEvt (adcPage ch) := by
  simp only [adcReg, pgEvt]; omega

theorem adcStat_ne_adcCtrl (ch : Nat) : adcStat ch ≠ adcCtrl ch := adcReg_ne ch (by decide)
theorem adcCtrl_ne_adcStat (ch : Nat) : adcCtrl ch ≠ adcStat ch := adcReg_ne ch (by decide)
theorem adcCRes_ne_adcStat (ch : Nat) : adcCRes ch ≠ adcStat ch := adcReg_ne ch (by decide)
theorem adcCRes_ne_adcCtrl (ch : Nat) : adcCRes ch ≠ adcCtrl ch := adcReg_ne ch (by decide)
theorem adcMRes_ne_adcStat (ch : Nat) : adcMRes ch ≠ adcStat ch := adcReg_ne ch (by decide)
theorem adcMRes_ne_adcCtrl (ch : Nat) : adcMRes ch ≠ adcCtrl ch := adcReg_ne ch (by decide)
theorem adcStat_ne_pgEvt (ch : Nat) : adcStat ch ≠ pgEvt (adcPage ch) := adcReg_ne_pgEvt ch (by decide)
theorem adcCtrl_ne_pgEvt (ch : Nat) : adcCtrl ch ≠ pgEvt (adcPage ch) := adcReg_ne_pgEvt ch (by decide)
theorem adcCRes_ne_pgEvt (ch : Nat) : adcCRes ch ≠ pgEvt (adcPage ch) := adcReg_ne_pgEvt ch (by decide)
theorem adcMRes_ne_pgEvt (ch : Nat) : adcMRes ch ≠ pgEvt (adcPage ch) := adcReg_ne_pgEvt ch (by decide)

/-! ### A channel's record -/

theorem modAt_length {α : Type} (f : α → α) (l : List α) (i : Nat) : (modAt i f l).length = l.length := by
  induction l generalizing i with
  | nil => simp [modAt]
  | cons x xs ih => cases i <;> simp [modAt, ih]

theorem modAt_nth_ne {α : Type} (d : α) (f : α → α) (l : List α) {i j : Nat} (h : j ≠ i) : nth d (modAt i f l) j = nth d l j := by
  induction l generalizing i j with
  | nil => simp [modAt]
  | cons x xs ih =>
    cases i <;> cases j
    · exact absurd rfl h
    · rfl
    · rfl
    · exact ih (by omega)

theorem modAt_of_le {α : Type} (f : α → α) (l : List α) {i : Nat} (h : l.length ≤ i) : modAt i f l = l := by
  induction l generalizing i with
  | nil => simp [modAt]
  | cons x xs ih =>
    cases i with
    | zero => simp at h
    | succ i => simp only [modAt, ih (Nat.le_of_succ_le_succ h)]

section

variable (s : State) (ch : Nat) (f : AdcCh → AdcCh)

@[simp] theorem State.modAdc_length : (s.modAdc ch f).adc.ch.length = s.adc.ch.length := modAt_length f s.adc.ch ch

theorem State.adcCh_modAdc_self (h : ch < s.adc.ch.length) : (s.modAdc ch f).adcCh ch = f (s.adcCh ch) :=
  modAt_nth AdcCh.reset f s.adc.ch ch h

theorem State.adcCh_modAdc_ne {c : Nat} (h : c ≠ ch) : (s.modAdc ch f).adcCh c = s.adcCh c :=
  modAt_nth_ne AdcCh.reset f s.adc.ch h

/-- A view of the record that a change leaves alone is left alone. -/
theorem State.adcCh_modAdc_view {α : Type} (view : AdcCh → α) (h : ∀ c, view (f c) = view c) (c : Nat) :
    view ((s.modAdc ch f).adcCh c) = view (s.adcCh c) := by
  by_cases hc : c = ch
  · subst hc
    by_cases hl : c < s.adc.ch.length
    · rw [s.adcCh_modAdc_self c f hl, h]
    · rw [State.adcCh, State.modAdc, modAt_of_le f _ (Nat.le_of_not_lt hl)]; rfl
  · rw [s.adcCh_modAdc_ne ch f hc]

theorem State.adcCh_congr {s t : State} (h : t.adc = s.adc) (c : Nat) : t.adcCh c = s.adcCh c := by rw [State.adcCh, h]; rfl

end

/-- What of a channel's record counts its results and holds its step mark (R107, R111, R112). -/
def AdcCh.counts (c : AdcCh) : Option StepMark × Nat × Nat × Int := (c.mark, c.seqC, c.seqM, c.nextI)

/-! ### The judgement of a channel -/

/-- From `s` to `t` channel `ch` has been judged, in no time: of the registers only those of `w` are written, of its CH_CTRL only
QUAR, of its CH_STAT not the index of its last M-path sample; its counts and its mark stand, and so do the commands. -/
structure State.Judged (s : State) (ch : Nat) (w : Nat → Prop) (t : State) : Prop where
  keeps : s.Keeps t w
  now : t.now = s.now
  ctx : t.ctx = s.ctx
  length : t.adc.ch.length = s.adc.ch.length
  counts : (t.adcCh ch).counts = (s.adcCh ch).counts
  ctrl : ∀ b, b ≠ 1 → t.bitOf (adcCtrl ch) b = s.bitOf (adcCtrl ch) b
  index : wbits (t.reg (adcStat ch)) 16 8 = wbits (s.reg (adcStat ch)) 16 8

namespace State.Judged

variable {s t u : State} {ch : Nat} {w w' : Nat → Prop}

theorem refl (s : State) (ch : Nat) (w : Nat → Prop) : s.Judged ch w s := ⟨.refl s w, rfl, rfl, rfl, rfl, fun _ _ => rfl, rfl⟩

theorem trans (h : s.Judged ch w t) (k : t.Judged ch w u) : s.Judged ch w u where
  keeps := h.keeps.trans k.keeps
  now := k.now.trans h.now
  ctx := k.ctx.trans h.ctx
  length := k.length.trans h.length
  counts := k.counts.trans h.counts
  ctrl b hb := (k.ctrl b hb).trans (h.ctrl b hb)
  index := k.index.trans h.index

theorem mono (h : s.Judged ch w t) (hw : ∀ a, w a → w' a) : s.Judged ch w' t := { h with keeps := h.keeps.mono hw }

/-- CH_STAT is written outside the index. -/
theorem setStat (s : State) {v : Word} (hi : wbits v 16 8 = wbits (s.reg (adcStat ch)) 16 8) (hw : w (adcStat ch)) :
    s.Judged ch w (s.setReg (adcStat ch) v) where
  keeps := .setReg s v hw
  now := rfl
  ctx := rfl
  length := rfl
  counts := rfl
  ctrl b _ := State.bitOf_congr (s.reg_setReg_ne v (adcCtrl_ne_adcStat ch)) b
  index := by rw [State.reg_setReg_self, hi]

theorem putStat (s : State) {b : Nat} (v : Bool) (hb : b < 16) (hw : w (adcStat ch)) : s.Judged ch w (s.putBit (adcStat ch) b v) :=
  setStat s (wbits_wput_apart _ _ _ _ _ _ (.inr hb)) hw

theorem setW1c (s : State) {b : Nat} (hb : b < 16) (hw : w (adcStat ch)) : s.Judged ch w (s.setW1c (adcStat ch) b) :=
  have h : s.Judged ch w (s.putBit (adcStat ch) b true) := putStat s true hb hw
  ⟨h.keeps, h.now, h.ctx, h.length, h.counts, h.ctrl, h.index⟩

theorem note (s : State) (b : Nat) (hw : w (pgEvt (adcPage ch))) : s.Judged ch w (s.note (adcPage ch) b) where
  keeps := .note s b hw
  now := State.note_now ..
  ctx := State.note_ctx ..
  length := by rw [State.note_adc]
  counts := by rw [State.adcCh_congr (State.note_adc ..)]
  ctrl c _ := State.bitOf_congr (s.reg_note_ne (adcCtrl_ne_pgEvt ch)) c
  index := by rw [s.reg_note_ne (adcStat_ne_pgEvt ch)]

theorem modAdc (s : State) {f : AdcCh → AdcCh} (hf : ∀ c, (f c).counts = c.counts := by intro; rfl) :
    s.Judged ch w (s.modAdc ch f) where
  keeps := .of_eq rfl rfl rfl
  now := rfl
  ctx := rfl
  length := s.modAdc_length ch f
  counts := s.adcCh_modAdc_view ch f AdcCh.counts hf ch
  ctrl _ _ := rfl
  index := rfl

theorem putQuar (s : State) (v : Bool) (hw : w (adcCtrl ch)) : s.Judged ch w (s.putBit (adcCtrl ch) 1 v) where
  keeps := .setReg s _ hw
  now := rfl
  ctx := rfl
  length := rfl
  counts := rfl
  ctrl b hb := by rw [State.bitOf_putBit, if_neg fun h => hb h.2.1]
  index := by rw [s.reg_putBit_ne 1 v (adcStat_ne_adcCtrl ch)]

end State.Judged

section

variable (s : State) (ch : Nat) {w : Nat → Prop}

/-! ### Settling and quarantine (R115 to R117) -/

theorem State.adcSettle_judged : s.Judged ch w (s.adcSettle ch) := .modAdc s

theorem State.adcQuar_judged (held : Bool) (hw : w (adcCtrl ch)) : s.Judged ch w (s.adcQuar ch held) :=
  ((State.Judged.putQuar s true hw).trans (State.adcSettle_judged _ ch)).trans (.modAdc _)

theorem State.adcClear_judged (hs : w (adcStat ch)) (hc : w (adcCtrl ch)) : s.Judged ch w (s.adcClear ch) := by
  have hquar : s.Judged ch w (s.putBit (adcCtrl ch) 1 false) := .putQuar s false hc
  have hindex : wbits (wput (s.reg (adcStat ch)) 12 4 0) 16 8 = wbits ((s.putBit (adcCtrl ch) 1 false).reg (adcStat ch)) 16 8 := by
    rw [wbits_wput_apart _ 12 4 0 16 8 (by decide), hquar.index]
  unfold State.adcClear
  exact (hquar.trans (.setStat _ hindex hs)).trans (.modAdc _)

theorem State.adcSettled_judged (hs : w (adcStat ch)) (hc : w (adcCtrl ch)) (he : w (pgEvt (adcPage ch))) :
    s.Judged ch w (s.adcSettled ch) := by
  unfold State.adcSettled
  dsimp only
  split
  · split
    · exact (s.adcClear_judged ch hs hc).trans (.note _ 3 he)
    · exact .refl s ch w
  · split
    · exact (State.Judged.modAdc s).trans (.note _ 3 he)
    · exact .refl s ch w

theorem State.adcTest_judged (before ovr : Bool) : s.Judged ch w (s.adcTest ch before ovr) := by
  unfold State.adcTest
  dsimp only
  split
  · exact .refl s ch w
  · exact .modAdc s

/-! ### Streams and overload (R104, R105) -/

/-- A loss that is not yet shown, on a channel that runs. -/
theorem State.adcLost_eq {b : Nat} (hon : s.adcOn ch = true) (hb : s.bitOf (adcStat ch) b = false) :
    s.adcLost ch b = (((s.putBit (adcStat ch) b true).setW1c (adcStat ch) 10).note (adcPage ch) 2).modAdc ch
      (fun c => { c with qOut := 0, qRun := 0, qPass := false }) := by
  simp [State.adcLost, hon, hb]

theorem State.adcLost_judged {b : Nat} (hb : b < 16) (hs : w (adcStat ch)) (he : w (pgEvt (adcPage ch))) :
    s.Judged ch w (s.adcLost ch b) := by
  unfold State.adcLost
  split
  · exact .refl s ch w
  · exact (((State.Judged.putStat s true hb hs).trans (.setW1c _ (by decide) hs)).trans (.note _ 2 he)).trans (.modAdc _)

theorem State.adcClkLoss_judged (hs : w (adcStat ch)) (he : w (pgEvt (adcPage ch))) : s.Judged ch w (s.adcClkLoss ch) := by
  unfold State.adcClkLoss
  split
  · exact s.adcLost_judged ch (by decide) hs he
  · exact .refl s ch w

/-- STUCK and CLKLOSS as a return to 0 leaves them, before the quarantine that it may bring on. -/
def State.lossBack (s : State) (ch : Nat) (stuck clk : Bool) : State :=
  let s := if stuck then s.putBit (adcStat ch) 5 false else s
  if clk then s.putBit (adcStat ch) 6 false else s

theorem State.adcStuckClear_eq (stuck clk : Bool) : s.adcStuckClear ch stuck clk =
    if s.adcStuck ch && !(s.lossBack ch stuck clk).adcStuck ch && (s.lossBack ch stuck clk).adcOn ch then
      (s.lossBack ch stuck clk).adcQuar ch (s.adcQuarBit ch && (s.adcCh ch).held)
    else s.lossBack ch stuck clk := rfl

theorem State.lossBack_judged (stuck clk : Bool) (hs : w (adcStat ch)) : s.Judged ch w (s.lossBack ch stuck clk) := by
  have hback (t : State) (b : Nat) (c : Bool) (hb : b < 16) :
      t.Judged ch w (if c then t.putBit (adcStat ch) b false else t) := by
    cases c
    · exact .refl t ch w
    · exact .putStat t false hb hs
  exact (hback s 5 stuck (by decide)).trans (hback _ 6 clk (by decide))

theorem State.adcStuckClear_judged (stuck clk : Bool) (hs : w (adcStat ch)) (hc : w (adcCtrl ch)) :
    s.Judged ch w (s.adcStuckClear ch stuck clk) := by
  rw [State.adcStuckClear_eq]
  split
  · exact (s.lossBack_judged ch stuck clk hs).trans (State.adcQuar_judged _ ch _ hc)
  · exact s.lossBack_judged ch stuck clk hs

theorem State.adcOvrSet_judged (live rose : Bool) (hs : w (adcStat ch)) (he : w (pgEvt (adcPage ch))) :
    s.Judged ch w (s.adcOvrSet ch live rose) := by
  have hput (t : State) (ht : s.Judged ch w t) : s.Judged ch w (if rose then
      ((t.putBit (adcStat ch) 4 live).setW1c (adcStat ch) 9).note (adcPage ch) 1 else t.putBit (adcStat ch) 4 live) := by
    have hlive : s.Judged ch w (t.putBit (adcStat ch) 4 live) := ht.trans (.putStat t live (by decide) hs)
    cases rose
    · exact hlive
    · exact (hlive.trans (.setW1c _ (by decide) hs)).trans (.note _ 1 he)
  unfold State.adcOvrSet
  dsimp only
  refine hput _ ?_
  split
  · exact .modAdc s
  · exact .refl s ch w

theorem State.streamJudge_judged (x : CWindow) (hs : w (adcStat ch)) (hc : w (adcCtrl ch)) (he : w (pgEvt (adcPage ch))) :
    s.Judged ch w (s.streamJudge ch x) := by
  unfold State.streamJudge
  extract_lets overload stuck lost
  have hovr : s.Judged ch w overload := s.adcOvrSet_judged ch x.live x.rose hs he
  have hstuck : s.Judged ch w stuck := by
    simp only [stuck]
    split
    · exact hovr.trans (overload.adcLost_judged ch (by decide) hs he)
    · exact hovr
  have hlost : s.Judged ch w lost := by
    simp only [lost]
    split
    · exact hstuck.trans (stuck.adcClkLoss_judged ch hs he)
    · exact hstuck
  split
  · exact hlost.trans (lost.adcStuckClear_judged ch true false hs hc)
  · exact hlost

/-! ### A result's marks (R113) -/

theorem State.markNew_judged {b : Nat} (hb : b < 2) (hs : w (adcStat ch)) (he : w (pgEvt (adcPage ch))) :
    s.Judged ch w (s.markNew ch b) := by
  unfold State.markNew
  dsimp only
  split
  · split
    · exact .refl s ch w
    · exact (State.Judged.setW1c s (by omega) hs).trans (.note _ 0 he)
  · exact .putStat s true (by omega) hs

end

end Sys2Proof.Machine
end

section
/-! The flags of a running channel and the isolated reference (spec/05, R102, R104, R105): what each row leaves in CH_STAT, and the
quarantine that a reference or a clock brings on. -/

namespace Sys2Proof.Machine

section

variable (s : State) (ch : Nat)

/-- A channel runs on where its page, its domain and its CH_CTRL are as they were. -/
theorem State.adcOn_congr {s t : State} {ch : Nat} (hc : t.reg (adcCtrl ch) = s.reg (adcCtrl ch))
    (hp : t.reg (pgCtrl (adcPage ch)) = s.reg (pgCtrl (adcPage ch))) (hpwr : t.pwr = s.pwr) : t.adcOn ch = s.adcOn ch := by
  have hlive : t.live (adcPage ch) = s.live (adcPage ch) := State.live_congr hp (by rw [hpwr]) (by rw [hpwr]) (by rw [hpwr])
  simp only [State.adcOn, hlive, State.bitOf, hc]

theorem adcReg_ne_pgCtrl {o : Nat} (ch p : Nat) (h : 0x40 ≤ o) (hc : ch < 18) (ho : o < 0x200) : adcReg o ch ≠ pgCtrl p := by
  simp only [adcReg, adcPage, pgCtrl, Pg.ADCX, Pg.ADCI]
  split <;> omega

/-! ### STUCK and CLKLOSS (R105) -/

theorem State.bitOf_adcLost {b : Nat} (hon : s.adcOn ch = true) (hb : s.bitOf (adcStat ch) b = false) (h : b < 32) :
    (s.adcLost ch b).bitOf (adcStat ch) b = true := by
  rw [s.adcLost_eq ch hon hb, State.bitOf_modAdc, State.bitOf_congr (State.reg_note_ne _ (adcStat_ne_pgEvt ch)),
    State.bitOf_setW1c, s.bitOf_putBit, if_pos (c := adcStat ch = adcStat ch ∧ b = b ∧ b < 32) ⟨rfl, rfl, h⟩, ite_self]

theorem State.adcClkLoss_man (h : s.adcMan ch = true) : s.adcClkLoss ch = s.adcLost ch 6 := by simp [State.adcClkLoss, h]

theorem State.bitOf_lossBack (stuck clk : Bool) (b : Nat) : (s.lossBack ch stuck clk).bitOf (adcStat ch) b =
    (s.bitOf (adcStat ch) b && !(stuck && decide (b = 5)) && !(clk && decide (b = 6))) := by
  have hput (t : State) (k : Nat) (hk : k < 32) :
      (t.putBit (adcStat ch) k false).bitOf (adcStat ch) b = (t.bitOf (adcStat ch) b && !decide (b = k)) := by
    rw [State.bitOf_putBit]
    by_cases hb : b = k
    · subst hb; simp [hk]
    · simp [hb]
  cases stuck <;> cases clk <;> simp [State.lossBack, hput]

theorem State.adcStuck_lossBack (stuck clk : Bool) : (s.lossBack ch stuck clk).adcStuck ch =
    (s.bitOf (adcStat ch) 5 && !stuck || s.bitOf (adcStat ch) 6 && !clk) := by
  simp [State.adcStuck, State.bitOf_lossBack]

@[simp] theorem State.lossBack_adc (stuck clk : Bool) : (s.lossBack ch stuck clk).adc = s.adc := by
  cases stuck <;> cases clk <;> rfl
@[simp] theorem State.lossBack_pwr (stuck clk : Bool) : (s.lossBack ch stuck clk).pwr = s.pwr := by
  cases stuck <;> cases clk <;> rfl

theorem State.adcOn_lossBack (stuck clk : Bool) (hc : ch < 18) : (s.lossBack ch stuck clk).adcOn ch = s.adcOn ch := by
  have hkeeps : s.Keeps (s.lossBack ch stuck clk) (fun a => a = adcStat ch) :=
    (s.lossBack_judged ch (w := fun a => a = adcStat ch) stuck clk rfl).keeps
  exact State.adcOn_congr (hkeeps.1 _ (adcCtrl_ne_adcStat ch))
    (hkeeps.1 _ (adcReg_ne_pgCtrl ch _ (by decide) hc (by decide)).symm) (s.lossBack_pwr ch stuck clk)

/-- Where no loss is left a running channel enters quarantine. -/
theorem State.adcStuckClear_both (hs : s.adcStuck ch = true) (hon : s.adcOn ch = true) (hc : ch < 18) :
    s.adcStuckClear ch true true = (s.lossBack ch true true).adcQuar ch (s.adcQuarBit ch && (s.adcCh ch).held) := by
  rw [State.adcStuckClear_eq, State.adcStuck_lossBack, State.adcOn_lossBack _ _ _ _ hc, hs, hon]
  simp

/-- Where one is left nothing follows. -/
theorem State.adcStuckClear_one (h6 : s.bitOf (adcStat ch) 6 = true) :
    s.adcStuckClear ch true false = s.lossBack ch true false := by
  rw [State.adcStuckClear_eq, State.adcStuck_lossBack, h6]
  simp

/-! ### Quarantine (R115) -/

theorem State.adcQuarBit_adcQuar (held : Bool) : (s.adcQuar ch held).adcQuarBit ch = true :=
  (s.bitOf_putBit (adcCtrl ch) 1 true (adcCtrl ch) 1).trans (if_pos ⟨rfl, rfl, by decide⟩)

theorem State.adcStuck_adcQuar (held : Bool) : (s.adcQuar ch held).adcStuck ch = s.adcStuck ch := by
  have hstat : (s.adcQuar ch held).reg (adcStat ch) = s.reg (adcStat ch) :=
    (s.adcQuar_judged ch held (w := fun a => a = adcCtrl ch) rfl).keeps.1 _ (adcStat_ne_adcCtrl ch)
  simp only [State.adcStuck, State.bitOf_congr hstat]

/-! ### Overload (R104) -/

theorem overloaded_eq (margin ones : Nat) : overloaded margin ones = decide (64 ≤ ones + margin ∨ ones ≤ margin) :=
  (Bool.decide_or _ _).symm

theorem State.bitOf_adcOvrSet (live rose : Bool) : (s.adcOvrSet ch live rose).bitOf (adcStat ch) 4 = live := by
  have hput (t : State) : (t.putBit (adcStat ch) 4 live).bitOf (adcStat ch) 4 = live :=
    (t.bitOf_putBit (adcStat ch) 4 live (adcStat ch) 4).trans (if_pos ⟨rfl, rfl, by decide⟩)
  unfold State.adcOvrSet
  dsimp only
  cases rose
  · exact hput _
  · rw [if_pos rfl, State.bitOf_congr (State.reg_note_ne _ (adcStat_ne_pgEvt ch)), State.bitOf_setW1c, if_neg (by omega), hput]

theorem State.adcOverload_eq (ones : Nat) (hon : s.adcOn ch = true) : s.adcOverload ch ones =
    s.adcOvrSet ch (overloaded (s.ovrm ch) ones) (overloaded (s.ovrm ch) ones && !s.bitOf (adcStat ch) 4) := by
  simp [State.adcOverload, hon]

/-! ### The reference (R102, R116) -/

/-- A running channel enters quarantine, held where it is held by a write already. -/
def State.adcRequar (s : State) (ch : Nat) : State :=
  if s.adcOn ch then s.adcQuar ch ((s.adcCh ch).held && s.adcQuarBit ch) else s

@[simp] theorem State.adcRequar_now : (s.adcRequar ch).now = s.now := by
  unfold State.adcRequar
  split
  · rfl
  · rfl

/-- Quarantine of some channels writes their CH_CTRL alone. -/
theorem State.keeps_adcRequar (l : List Nat) : s.Keeps (l.foldl State.adcRequar s) (fun a => ∃ n ∈ l, a = adcCtrl n) := by
  refine .foldl l (fun t n hn => ?_) s
  unfold State.adcRequar
  split
  · exact (t.adcQuar_judged n _ ⟨n, hn, rfl⟩).keeps
  · exact .refl t _

theorem State.adcRefReady_eq {t : Nat} (ht : s.adc.refAt = some t) (hr : s.flag F.ADCI_CFG_REFRDY = false) :
    s.adcRefReady = adciChans.foldl State.adcRequar ((s.elapseTo (t + Config.refTicks.val)).putFlag F.ADCI_CFG_REFRDY true) := by
  simp only [State.adcRefReady, ht, hr, Bool.false_eq_true, if_false]
  rfl

theorem State.elapseTo_now_max (t : Nat) : (s.elapseTo t).now = max s.now t := by
  rw [State.elapseTo, State.elapse_now]; omega

theorem State.keeps_elapseTo (t : Nat) (w : Nat → Prop) : s.Keeps (s.elapseTo t) w := s.keeps_elapse _ w

theorem adciCfg_ne_adcCtrl : ∀ n ∈ adciChans, Reg.ADCI_CFG ≠ adcCtrl n := by decide

theorem State.flag_adcRefReady {t : Nat} (ht : s.adc.refAt = some t) (hr : s.flag F.ADCI_CFG_REFRDY = false) :
    s.adcRefReady.flag F.ADCI_CFG_REFRDY = true := by
  rw [s.adcRefReady_eq ht hr, State.flag_congr ((State.keeps_adcRequar _ adciChans).1 Reg.ADCI_CFG
    fun ⟨n, hn, he⟩ => adciCfg_ne_adcCtrl n hn he)]
  exact State.flag_putFlag_self _ _ true (by decide) (by decide)

theorem State.adcRefReady_now {t : Nat} (ht : s.adc.refAt = some t) (hr : s.flag F.ADCI_CFG_REFRDY = false) :
    s.adcRefReady.now = max s.now (t + Config.refTicks.val) := by
  rw [s.adcRefReady_eq ht hr, foldl_view State.now State.adcRequar_now, State.putFlag_now, State.elapseTo_now_max]

theorem State.keeps_adcRefReady {t : Nat} (ht : s.adc.refAt = some t) (hr : s.flag F.ADCI_CFG_REFRDY = false) :
    s.Keeps s.adcRefReady (fun a => a = Reg.ADCI_CFG ∨ ∃ n ∈ adciChans, a = adcCtrl n) := by
  rw [s.adcRefReady_eq ht hr]
  exact ((s.keeps_elapseTo _ _).trans (.setReg _ _ (.inl rfl))).trans ((State.keeps_adcRequar _ adciChans).mono fun _ => .inr)

end

/-- Settles O26: each row is one judgement of the channel, which writes its CH_STAT, the quarantine it brings on its CH_CTRL. -/
theorem converterFlags : Obligations.ConverterFlags := by
  intro s ch
  refine ⟨fun hon hb => ?_, fun hon hb hman hch => ?_, fun hs hon => ?_, fun _ h6 => ?_, fun ones hon => ?_, fun t ht hr => ?_⟩
  · exact ⟨_, exec_adcStuck ch s, s.bitOf_adcLost ch hon hb (by decide),
      (s.adcLost_judged ch (by decide) (.inl rfl) (.inr rfl)).keeps⟩
  · have hloss : s.adcClkLoss ch = s.adcLost ch 6 := s.adcClkLoss_man ch (by simp [State.adcMan, hch, hman])
    exact ⟨_, by rw [exec_adcClkloss, hloss], s.bitOf_adcLost ch hon hb (by decide),
      (s.adcLost_judged ch (by decide) (.inl rfl) (.inr rfl)).keeps⟩
  · have hclear := s.adcStuckClear_both ch hs hon ch.isLt
    refine ⟨_, exec_adcStuckClear _ s, ?_, ?_, (s.adcStuckClear_judged ch true true (.inl rfl) (.inr rfl)).keeps⟩
    · rw [hclear, State.adcStuck_adcQuar, State.adcStuck_lossBack]
      simp
    · rw [hclear, State.adcQuarBit_adcQuar]
  · have hclear := s.adcStuckClear_one ch h6
    refine ⟨_, by rw [exec_adcStuckClear, hclear], ?_, ?_, s.lossBack_adc ch true false,
      (s.lossBack_judged ch (w := fun a => a = adcStat ch) true false rfl).keeps⟩
    · rw [State.bitOf_lossBack]; simp
    · rw [State.bitOf_lossBack, h6]; simp
  · refine ⟨_, by rw [exec_channelOverload, s.adcOverload_eq ch ones hon], ?_,
      (s.adcOvrSet_judged ch _ _ (.inl rfl) (.inr rfl)).keeps⟩
    rw [State.bitOf_adcOvrSet, overloaded_eq]
  · exact ⟨_, exec_adcRefReady s, s.flag_adcRefReady ht hr, s.adcRefReady_now ht hr, s.keeps_adcRefReady ht hr⟩

end Sys2Proof.Machine
end

section
/-! The M-path sample (spec/05, R110 to R112): time passes to the instant of the index and over the delay of the path, the result is
written, its marks and the end of settling follow, and the Sextant takes it. -/

namespace Sys2Proof.Machine

section

variable (s : State) (ch : Nat) (i : Int)

/-! ### The instant of an index (R111) -/

theorem State.runIndex_cases : s.runIndex i = s ∨ ∃ n, s.runIndex i = s.elapse n := by
  unfold State.runIndex
  dsimp only
  split
  · exact .inl rfl
  · split
    · exact .inr ⟨_, rfl⟩
    · split
      · exact .inr ⟨_, rfl⟩
      · exact .inl rfl

@[simp] theorem State.runIndex_regs : (s.runIndex i).regs = s.regs := by
  obtain h | ⟨n, h⟩ := s.runIndex_cases i <;> rw [h]
  exact s.elapse_regs n
@[simp] theorem State.runIndex_adc : (s.runIndex i).adc = s.adc := by
  obtain h | ⟨n, h⟩ := s.runIndex_cases i <;> rw [h]
  exact s.elapse_adc n
@[simp] theorem State.runIndex_ctx : (s.runIndex i).ctx = s.ctx := by
  obtain h | ⟨n, h⟩ := s.runIndex_cases i <;> rw [h]
  exact s.elapse_ctx n
theorem State.keeps_runIndex (w : Nat → Prop) : s.Keeps (s.runIndex i) w := by
  obtain h | ⟨n, h⟩ := s.runIndex_cases i <;> rw [h]
  · exact .refl s w
  · exact s.keeps_elapse n w

theorem State.mDelay_congr {s t : State} (h : t.regs = s.regs) (ch : Nat) : t.mDelay ch = s.mDelay ch := by
  simp only [State.mDelay, State.mosr, State.modClk, State.get, State.reg_congr h]

theorem State.resultData_congr {s t : State} (h : t.regs = s.regs) (ch : Nat) (raw : Rat) :
    t.resultData ch raw = s.resultData ch raw := by simp only [State.resultData, State.reg_congr h]

/-- The state in which the sample of index `i` is written. -/
def State.mInstant (s : State) (ch : Nat) (i : Int) : State :=
  (s.runIndex i).elapseTo (((s.runIndex i).indexAt i).1 + s.mDelay ch)

@[simp] theorem State.mInstant_regs : (s.mInstant ch i).regs = s.regs := s.runIndex_regs i
@[simp] theorem State.mInstant_adc : (s.mInstant ch i).adc = s.adc := s.runIndex_adc i
@[simp] theorem State.mInstant_ctx : (s.mInstant ch i).ctx = s.ctx := s.runIndex_ctx i
theorem State.keeps_mInstant (w : Nat → Prop) : s.Keeps (s.mInstant ch i) w :=
  (s.keeps_runIndex i w).trans (State.keeps_elapseTo _ _ w)

/-! ### The result (R112) -/

/-- The channel's record with a sample of index `i` more, absent where it is unqualified. -/
def AdcCh.withSample (c : AdcCh) (i : Int) (v : Option Int) : AdcCh :=
  let ms := if (i % 256).toNat = 0 then [v] else c.mNow ++ [v]
  { c with seqM := c.seqM + 1, nextI := i + 1, mNow := ms, mLast := if (i % 256).toNat = 255 then ms else c.mLast }

/-- The sample in the channel's record and in CH_STAT. -/
def State.mTaken (s : State) (ch : Nat) (i data : Int) (uns : Bool) : State :=
  (s.modAdc ch fun c => c.withSample i (if uns then none else some data)).setReg (adcStat ch)
    (wput (wputBit (s.reg (adcStat ch)) 8 uns) 16 8 (i % 256).toNat)

/-- The sample in its result register too. -/
def State.mStored (s : State) (ch : Nat) (i data : Int) (uns : Bool) : State :=
  let t := s.mTaken ch i data uns
  t.setReg (adcMRes ch) (resultWord data (t.mOvr ch) uns (t.adcCh ch).seqM)

variable (data : Int) (uns : Bool)

theorem State.keeps_mTaken : s.Keeps (s.mTaken ch i data uns) (fun a => a = adcStat ch) :=
  State.Keeps.trans (t := s.modAdc ch _) (.of_eq rfl rfl rfl) (.setReg _ _ rfl)

theorem State.mOvr_congr {s t : State} {ch : Nat} (h4 : t.bitOf (adcStat ch) 4 = s.bitOf (adcStat ch) 4)
    (ho : (t.adcCh ch).ovrAt = (s.adcCh ch).ovrAt) (hn : t.now = s.now) (hc : t.reg (adcCtrl ch) = s.reg (adcCtrl ch))
    (hk : t.reg Reg.ADCX_CLK_CFG = s.reg Reg.ADCX_CLK_CFG) : t.mOvr ch = s.mOvr ch := by
  have hm : t.mosr ch = s.mosr ch := by simp only [State.mosr, hc]
  have hclk : t.modClk ch = s.modClk ch := by simp only [State.modClk, State.get, hk]
  simp only [State.mOvr, h4, ho, hn, hm, hclk]

theorem clkCfg_ne_adcStat (hc : ch < 18) : Reg.ADCX_CLK_CFG ≠ adcStat ch := by
  simp only [adcStat, adcReg, adcPage, Reg.ADCX_CLK_CFG, Pg.ADCX, Pg.ADCI]
  split <;> omega

/-- Taking a sample does not change whether its window was overloaded. -/
theorem State.mOvr_mTaken (hc : ch < 18) : (s.mTaken ch i data uns).mOvr ch = s.mOvr ch := by
  have hkeeps := s.keeps_mTaken ch i data uns
  have hovr : ((s.mTaken ch i data uns).adcCh ch).ovrAt = (s.adcCh ch).ovrAt :=
    s.adcCh_modAdc_view ch (fun c => c.withSample i (if uns then none else some data)) AdcCh.ovrAt (fun _ => rfl) ch
  refine State.mOvr_congr ?_ hovr rfl (hkeeps.1 _ (adcCtrl_ne_adcStat ch)) (hkeeps.1 _ (clkCfg_ne_adcStat ch hc))
  rw [State.bitOf, State.mTaken, State.reg_setReg_self, getLsbD_wput, if_neg (by omega), getLsbD_wputBit, if_neg (by omega)]
  rfl

theorem State.reg_mStored (hc : ch < 18) (hl : ch < s.adc.ch.length) : (s.mStored ch i data uns).reg (adcMRes ch) =
    resultWord data (s.mOvr ch) uns ((s.adcCh ch).seqM + 1) := by
  have hseq : ((s.mTaken ch i data uns).adcCh ch).seqM = (s.adcCh ch).seqM + 1 := congrArg AdcCh.seqM (s.adcCh_modAdc_self ch _ hl)
  rw [State.mStored, State.reg_setReg_self, s.mOvr_mTaken ch i data uns hc, hseq]

theorem State.nextI_mStored (hl : ch < s.adc.ch.length) : ((s.mStored ch i data uns).adcCh ch).nextI = i + 1 :=
  congrArg AdcCh.nextI (s.adcCh_modAdc_self ch _ hl)

theorem State.index_mStored : wbits ((s.mStored ch i data uns).reg (adcStat ch)) 16 8 = (i % 256).toNat := by
  have hlt : (i % 256).toNat < 2 ^ 8 := by omega
  rw [State.mStored, State.reg_setReg_ne _ _ (adcMRes_ne_adcStat ch).symm, State.mTaken, State.reg_setReg_self,
    wbits_wput_self _ 16 8 _ (by decide), Nat.mod_eq_of_lt hlt]

theorem State.keeps_mStored : s.Keeps (s.mStored ch i data uns) (fun a => a = adcMRes ch ∨ a = adcStat ch) :=
  ((s.keeps_mTaken ch i data uns).mono fun _ => .inr).trans (.setReg _ _ (.inl rfl))

/-! ### The sample and what takes it -/

/-- CH_STAT, CH_CTRL and PG_EVT of the channel's page: what the judgement of a channel writes. -/
def adcJudgeRegs (ch a : Nat) : Prop := a = adcStat ch ∨ a = adcCtrl ch ∨ a = pgEvt (adcPage ch)

theorem adcMRes_not_judged : ¬ adcJudgeRegs ch (adcMRes ch) := by
  rintro (h | h | h)
  · exact adcMRes_ne_adcStat ch h
  · exact adcMRes_ne_adcCtrl ch h
  · exact adcMRes_ne_pgEvt ch h

/-- A stored sample, with the marks it leaves and the end of settling. -/
def State.mShown (s : State) (ch : Nat) : State := (s.markNew ch 1).adcSettled ch

theorem State.mShown_judged : s.Judged ch (adcJudgeRegs ch) (s.mShown ch) :=
  (s.markNew_judged ch (by decide) (.inl rfl) (.inr (.inr rfl))).trans
    (State.adcSettled_judged _ ch (.inl rfl) (.inr (.inl rfl)) (.inr (.inr rfl)))

/-- The sample of a running M path. -/
theorem State.mSample_eq (dens : Int) (hon : s.adcOn ch = true) (hmen : s.adcMen ch = true) (hi : (s.adcCh ch).nextI = i) :
    s.mSample ch dens = ((s.mInstant ch i).mStored ch i (s.resultData ch (rawCode ch ((dens : Rat) / 1099511627776)))
      ((s.mInstant ch i).unsM ch || ((s.runIndex i).indexAt i).2)).mShown ch := by
  have hdelay : (s.runIndex i).mDelay ch = s.mDelay ch := State.mDelay_congr (s.runIndex_regs i) ch
  have hdata := State.resultData_congr (s.mInstant_regs ch i) ch (rawCode ch ((dens : Rat) / 1099511627776))
  rw [← hdata, State.mSample, hon, hmen, hi]
  simp only [Bool.and_self, Bool.not_true, Bool.false_eq_true, if_false, hdelay]
  rfl

theorem State.metGot_view {α : Type} (view : State → α) (h : ∀ (t : State) m, view { t with met := m } = view t) :
    view (s.metGot ch) = view s := by
  unfold State.metGot
  split
  · rfl
  · split
    · exact h s _
    · rfl

/-- Whether the Sextant takes the sample or not, all but its own state is the sample's. -/
theorem State.mArrive_view {α : Type} (view : State → α) (h : ∀ (t : State) m, view { t with met := m } = view t) (dens : Int) :
    view (s.mArrive ch dens) = view (s.mSample ch dens) := by
  unfold State.mArrive
  dsimp only
  split
  · exact State.metGot_view _ ch view h
  · rfl

theorem State.mDeliver_of_idle {s : State} {ch : Nat} (dens : Int) (hon : s.adcOn ch = true) (hmen : s.adcMen ch = true)
    (h : (s.mArrive ch dens).ctx.flight = []) : s.mDeliver ch dens = s.mArrive ch dens := by
  simp only [State.mDeliver, hon, hmen, State.waveSample, h, List.find?_nil]
  rfl

end

/-- Settles O24: the sample is stored at its instant, and neither its marks nor those who take it change what is stored. -/
theorem resamplerSample : Obligations.ResamplerSample := by
  intro s ch whole part hl hon hmen hidle i t0 t
  have hch : ch.val < 18 := ch.isLt
  generalize hdens : whole * 1099511627776 + (part.val : Int) = dens
  have hinst : s.mInstant ch i = t := rfl
  let stored := t.mStored ch i (s.resultData ch (rawCode ch ((dens : Rat) / 1099511627776))) (t.unsM ch || (t0.indexAt i).2)
  have hsample : s.mSample ch dens = stored.mShown ch := s.mSample_eq ch i dens hon hmen rfl
  have hshown := stored.mShown_judged ch
  have hlen : ch.val < t.adc.ch.length := by rw [← hinst, State.mInstant_adc, hl]; exact hch
  have hseq : (t.adcCh ch).seqM = (s.adcCh ch).seqM := congrArg AdcCh.seqM (State.adcCh_congr (s.mInstant_adc ch i) ch)
  have hctx : (s.mArrive ch dens).ctx = s.ctx := by
    rw [s.mArrive_view ch State.ctx (fun _ _ => rfl), hsample, hshown.ctx]
    exact s.mInstant_ctx ch i
  have hreg (a : Nat) : (s.mArrive ch dens).reg a = (stored.mShown ch).reg a := by
    rw [s.mArrive_view ch (fun u => u.reg a) (fun _ _ => rfl), hsample]
  refine ⟨_, by rw [exec_adcMSample, hdens, State.mDeliver_of_idle dens hon hmen (by rw [hctx, hidle])], rfl, ?_, ?_, ?_, ?_, ?_⟩
  · rw [s.mArrive_view ch State.now (fun _ _ => rfl), hsample, hshown.now]
    rfl
  · rw [s.mArrive_view ch (fun u => (u.adcCh ch).nextI) (fun _ _ => rfl), hsample]
    exact (congrArg (fun c => c.2.2.2) hshown.counts).trans (t.nextI_mStored ch i _ _ hlen)
  · rw [hreg, hshown.index]
    exact t.index_mStored ch i _ _
  · rw [hreg, hshown.keeps.1 _ (adcMRes_not_judged ch), ← hseq]
    exact t.reg_mStored ch i _ _ hch hlen
  · have hkeeps : s.Keeps (stored.mShown ch) (fun a => a = adcMRes ch ∨ adcJudgeRegs ch a) :=
      ((s.keeps_mInstant ch i _).trans ((t.keeps_mStored ch i _ _).mono fun _ => Or.imp_right .inl)).trans
        (hshown.keeps.mono fun _ => .inr)
    rw [← hsample] at hkeeps
    exact ⟨fun a ha => (hreg a).trans (hsample ▸ hkeeps.1 a ha),
      (s.mArrive_view ch State.sram (fun _ _ => rfl) dens).trans hkeeps.2.1,
      (s.mArrive_view ch State.nvm (fun _ _ => rfl) dens).trans hkeeps.2.2⟩

end Sys2Proof.Machine
end

section
/-! The C-path output (spec/05, R100 to R106, R112): what stream reaches the filter, the judgement it brings, and the result word
with its marks. -/

namespace Sys2Proof.Machine

section

variable (s : State) (ch : Nat)

/-! ### The result (R106, R112) -/

/-- The channel's record with an output more, the next one due at `next`. -/
def AdcCh.withOutput (c : AdcCh) (data : Int) (ovr uns : Bool) (next : Nat) : AdcCh :=
  { c with lastC := some (data, ovr, uns), cSettle := c.cSettle - 1, nextOut := next }

/-- The output in the channel's record and in CH_STAT, and counted. -/
def State.cTaken (s : State) (ch : Nat) (data : Int) (ovr uns : Bool) (next : Nat) : State :=
  ((s.modAdc ch fun c => c.withOutput data ovr uns next).putBit (adcStat ch) 7 uns).modAdc ch fun c =>
    { c with seqC := c.seqC + 1 }

/-- The output in its result register too. -/
def State.cStored (s : State) (ch : Nat) (data : Int) (ovr uns : Bool) (next : Nat) : State :=
  let t := s.cTaken ch data ovr uns next
  t.setReg (adcCRes ch) (resultWord data ovr uns (t.adcCh ch).seqC)

/-- A stored output, with the marks it leaves, its part in the qualification test and the end of settling. -/
def State.cShown (s : State) (ch : Nat) (settled ovr : Bool) : State :=
  ((s.markNew ch 0).adcTest ch settled ovr).adcSettled ch

theorem State.cShown_judged (settled ovr : Bool) : s.Judged ch (adcJudgeRegs ch) (s.cShown ch settled ovr) :=
  ((s.markNew_judged ch (by decide) (.inl rfl) (.inr (.inr rfl))).trans (State.adcTest_judged _ ch settled ovr)).trans
    (State.adcSettled_judged _ ch (.inl rfl) (.inr (.inl rfl)) (.inr (.inr rfl)))

theorem adcCRes_not_judged : ¬ adcJudgeRegs ch (adcCRes ch) := by
  rintro (h | h | h)
  · exact adcCRes_ne_adcStat ch h
  · exact adcCRes_ne_adcCtrl ch h
  · exact adcCRes_ne_pgEvt ch h

variable (data : Int) (ovr uns : Bool) (next : Nat)

theorem State.seqC_cTaken (hl : ch < s.adc.ch.length) :
    ((s.cTaken ch data ovr uns next).adcCh ch).seqC = (s.adcCh ch).seqC + 1 := by
  let t := (s.modAdc ch fun c => c.withOutput data ovr uns next).putBit (adcStat ch) 7 uns
  have hlt : ch < t.adc.ch.length := Nat.lt_of_lt_of_eq hl (s.modAdc_length ch _).symm
  have htaken : (t.adcCh ch).seqC = (s.adcCh ch).seqC :=
    s.adcCh_modAdc_view ch (fun c => c.withOutput data ovr uns next) AdcCh.seqC (fun _ => rfl) ch
  rw [← htaken]
  exact congrArg AdcCh.seqC (t.adcCh_modAdc_self ch (fun c => { c with seqC := c.seqC + 1 }) hlt)

theorem State.reg_cStored (hl : ch < s.adc.ch.length) : (s.cStored ch data ovr uns next).reg (adcCRes ch) =
    resultWord data ovr uns ((s.adcCh ch).seqC + 1) := by
  rw [State.cStored, State.reg_setReg_self, s.seqC_cTaken ch data ovr uns next hl]

theorem State.keeps_cStored : s.Keeps (s.cStored ch data ovr uns next) (fun a => a = adcCRes ch ∨ a = adcStat ch) := by
  have hstat : s.Keeps (s.cTaken ch data ovr uns next) (fun a => a = adcStat ch) := .setReg s _ rfl
  exact (hstat.mono fun _ => .inr).trans (.setReg _ _ (.inl rfl))

/-! ### The output and what takes it -/

/-- The state in which an output is delivered: its time has come, and its stream has been judged. -/
def State.cInstant (s : State) (ch : Nat) (w : CWindow) : State := (s.elapseTo w.vis).streamJudge ch w

theorem State.cInstant_judged (w : CWindow) : (s.elapseTo w.vis).Judged ch (adcJudgeRegs ch) (s.cInstant ch w) :=
  State.streamJudge_judged _ ch w (.inl rfl) (.inr (.inl rfl)) (.inr (.inr rfl))

/-- The output of a channel with no step mark, whose stream gives a density. -/
theorem State.cOutput_eq {x : Stream} {w : CWindow} {t : State} {p : Rat} (hw : s.cWindow ch x = w) (ht : s.cInstant ch w = t)
    (hon : s.adcOn ch = true) (hp : w.dens = some p) (hm : (t.adcCh ch).mark = none) (h7 : t.bitOf (adcCtrl ch) 7 = false) :
    s.cOutput ch x = ((t.cStored ch (t.resultData ch (rawCode ch p)) w.ovr (t.unsC ch) (w.vis + t.cPeriod ch)).cShown ch
      (decide ((t.adcCh ch).cSettle = 0)) w.ovr, none) := by
  subst hw ht
  have hctrl (t : State) (v : Bool) : (t.putBit (adcStat ch) 7 v).bitOf (adcCtrl ch) 7 = t.bitOf (adcCtrl ch) 7 :=
    State.bitOf_congr (t.reg_putBit_ne 7 v (adcCtrl_ne_adcStat ch)) 7
  rw [State.cInstant] at hm h7
  simp only [State.cOutput, hon, hp, hm, h7, hctrl, State.bitOf_modAdc, Option.filter_none, Option.isSome_none, Bool.not_true,
    Bool.not_false, Bool.true_or, Bool.false_eq_true, if_false, if_true]
  rfl

theorem State.isoSample_of_idle {s : State} (h : s.ctx.flight = []) (ch : Nat) : s.isoSample ch = s := by
  simp [State.isoSample, State.isoCmd, h]

theorem State.cDeliver_of_noMark {s t : State} {ch : Nat} {x : Stream} (hon : s.adcOn ch = true) (ho : s.cOutput ch x = (t, none))
    (h : t.ctx.flight = []) : s.cDeliver ch x = t := by
  simp only [State.cDeliver, hon, ho, Bool.not_true, Bool.false_eq_true, if_false]
  exact State.isoSample_of_idle h ch

/-! ### What reaches the filter (R100 to R103) -/

/-- A stream of captured bits is the filter's window, where the channel's clock runs or its line carries it. -/
theorem State.cWindow_bits {b : Nat} (hcap : s.adcMan ch = true ∨ 8 ≤ ch ∨ s.sdckDriven (ch / 4) = true)
    (hb : b < 2 ^ (3 * s.cosr ch + 61)) : s.cWindow ch (.bits b) = s.bitWindow ch (s.adcCh ch).nextOut b := by
  have hmod : b % 2 ^ (3 * s.cosr ch + 61) = b := Nat.mod_eq_of_lt hb
  have hclk : s.adcMan ch = false → (decide (ch < 8) && !s.sdckDriven (ch / 4)) = false := by
    intro hman
    rcases hcap with h | h | h
    · rw [h] at hman; cases hman
    · simp [Nat.not_lt.2 h]
    · simp [h]
  cases hman : s.adcMan ch
  · simp only [State.cWindow, hman, hclk hman, hmod, Bool.false_eq_true, if_false]
  · simp only [State.cWindow, hman, hmod, if_true]

theorem State.vrefUv_driven (hd : s.domOn 7 = true) (hr : s.flag F.ADCI_CFG_REFEN = true) : s.vrefUv = 2500000 := by
  simp [State.vrefUv, hd, hr]

/-- The density of an AIN pin between VREFN and VREFP lies between 0.10 and 0.90. -/
theorem clampRat_pin {uV : Nat} (hu : uV ≤ 2500000) :
    clampRat 0 1 (1 / 10 + 8 / 10 * (uV : Rat) / 2500000) = 1 / 10 + 8 / 10 * (uV : Rat) / 2500000 := by
  have hle : (uV : Rat) ≤ 2500000 := Rat.natCast_le_natCast.2 hu
  have hnn : (0 : Rat) ≤ (uV : Rat) := Rat.natCast_nonneg
  have hlo : ¬ 1 / 10 + 8 / 10 * (uV : Rat) / 2500000 < 0 := by grind
  have hhi : ¬ 1 < 1 / 10 + 8 / 10 * (uV : Rat) / 2500000 := by grind
  rw [clampRat, if_neg hlo, if_neg hhi]

theorem State.cWindow_pin {uV : Nat} (h8 : 8 ≤ ch) (hd : s.domOn 7 = true) (hr : s.flag F.ADCI_CFG_REFEN = true)
    (hu : uV ≤ 2500000) : (s.cWindow ch (.pin uV)).dens = some (1 / 10 + 8 / 10 * (uV : Rat) / 2500000) := by
  have hv := s.vrefUv_driven hd hr
  simp only [State.cWindow, Nat.not_lt.2 h8, if_false, hv]
  exact congrArg some (clampRat_pin hu)

end

/-- Settles O23: the judgement of the stream leaves the mark, the count and CWR, so the output is stored, and neither its
marks nor the qualification test change what is stored. -/
theorem converterOutput : Obligations.ConverterOutput := by
  intro s ch
  refine ⟨?_, fun b hcap hb => ?_, fun uV h8 hd hr hu => ?_⟩
  · intro x p hl hon hmark h7 hidle hp w t
    have hjudged : (s.elapseTo w.vis).Judged ch (adcJudgeRegs ch) t := s.cInstant_judged ch w
    have hlen : ch.val < t.adc.ch.length := by rw [hjudged.length, State.elapseTo_adc, hl]; exact ch.isLt
    have hm : (t.adcCh ch).mark = none := (congrArg (fun c => c.1) hjudged.counts).trans hmark
    have hseq : (t.adcCh ch).seqC = (s.adcCh ch).seqC := congrArg (fun c => c.2.1) hjudged.counts
    have hctrl : t.bitOf (adcCtrl ch) 7 = false := (hjudged.ctrl 7 (by decide)).trans h7
    let stored := t.cStored ch (t.resultData ch (rawCode ch p)) w.ovr (t.unsC ch) (w.vis + t.cPeriod ch)
    have hshown := stored.cShown_judged ch (decide ((t.adcCh ch).cSettle = 0)) w.ovr
    have hflight : (stored.cShown ch (decide ((t.adcCh ch).cSettle = 0)) w.ovr).ctx.flight = [] := by
      rw [hshown.ctx]
      exact (congrArg CtxSt.flight hjudged.ctx).trans hidle
    refine ⟨_, by rw [exec_adcCOutput, State.cDeliver_of_noMark hon (s.cOutput_eq ch rfl rfl hon hp hm hctrl) hflight], ?_, ?_, ?_⟩
    · exact hshown.now.trans (hjudged.now.trans (s.elapseTo_now_max w.vis))
    · rw [← hseq]
      exact (hshown.keeps.1 _ (adcCRes_not_judged ch)).trans (t.reg_cStored ch _ _ _ _ hlen)
    · exact (((s.keeps_elapseTo w.vis _).trans (hjudged.keeps.mono fun _ => .inr)).trans
        ((t.keeps_cStored ch _ _ _ _).mono fun _ => Or.imp_right .inl)).trans (hshown.keeps.mono fun _ => .inr)
  · rw [s.cWindow_bits ch hcap hb]
    exact ⟨rfl, rfl, rfl⟩
  · exact s.cWindow_pin ch h8 hd hr hu

end Sys2Proof.Machine
end

section
/-! Writes to the converters' controls, clocks and triggers (spec/05, R107, R108, R116): a trigger marks each running member once; a
write of CH_CTRL stores EN whatever it starts; the clock register holds the rates written to it. -/

namespace Sys2Proof.Machine

section

variable (s : State) (ch : Nat)

/-! ### A trigger (R107, R108) -/

theorem adcCtrl_ne_adcStat_of_lt {c ch : Nat} (hc : c < 18) (hch : ch < 18) : adcCtrl ch ≠ adcStat c := by
  simp only [adcCtrl, adcStat, adcReg, adcPage, Pg.ADCX, Pg.ADCI]
  split <;> split <;> omega

/-- Channel `ch` runs and stands in `t` as in `s`, in the same tick. -/
structure State.SameChannel (s : State) (ch : Nat) (t : State) : Prop where
  on : t.adcOn ch = s.adcOn ch
  record : t.adcCh ch = s.adcCh ch
  now : t.now = s.now
  length : t.adc.ch.length = s.adc.ch.length

theorem State.SameChannel.trans {s t u : State} {ch : Nat} (h : s.SameChannel ch t) (k : t.SameChannel ch u) :
    s.SameChannel ch u :=
  ⟨k.on.trans h.on, k.record.trans h.record, k.now.trans h.now, k.length.trans h.length⟩

theorem State.SameChannel.modAdc {ch c : Nat} (f : AdcCh → AdcCh) (h : ch ≠ c) : s.SameChannel ch (s.modAdc c f) :=
  ⟨State.adcOn_congr rfl rfl rfl, s.adcCh_modAdc_ne c f h, rfl, s.modAdc_length c f⟩

theorem State.SameChannel.setStat {ch c : Nat} (v : Word) (hch : ch < 18) (hc : c < 18) :
    s.SameChannel ch (s.setReg (adcStat c) v) :=
  have hctrl : (s.setReg (adcStat c) v).reg (adcCtrl ch) = s.reg (adcCtrl ch) :=
    s.reg_setReg_ne v (adcCtrl_ne_adcStat_of_lt hc hch)
  have hpage : (s.setReg (adcStat c) v).reg (pgCtrl (adcPage ch)) = s.reg (pgCtrl (adcPage ch)) :=
    s.reg_setReg_ne v (adcReg_ne_pgCtrl c _ (by decide) hc (by decide)).symm
  ⟨State.adcOn_congr hctrl hpage rfl, rfl, rfl, rfl⟩

/-- A trigger that reaches one member leaves the others alone. -/
theorem State.markStep_sameChannel (g : Nat) {ch c : Nat} (hch : ch < 18) (hc : c < 18) (h : ch ≠ c) :
    s.SameChannel ch (s.markStep g c) := by
  unfold State.markStep
  split
  · exact ⟨rfl, rfl, rfl, rfl⟩
  · split
    · split
      · exact .modAdc s _ h
      · split
        · exact ⟨rfl, rfl, rfl, rfl⟩
        · exact (State.SameChannel.setStat s _ hch hc).trans (.modAdc _ _ h)
    · exact .modAdc s _ h

theorem State.markSteps_sameChannel (g : Nat) {ch : Nat} (hch : ch < 18) {l : List Nat} (hl : ∀ c ∈ l, c < 18) (h : ch ∉ l) :
    s.SameChannel ch (l.foldl (fun s c => s.markStep g c) s) :=
  List.foldlRecOn l _ (motive := s.SameChannel ch) ⟨rfl, rfl, rfl, rfl⟩ fun t ht c hc =>
    ht.trans (t.markStep_sameChannel g hch (hl c hc) fun e => h (e ▸ hc))

theorem State.mark_markStep (g : Nat) (hon : s.adcOn ch = true) (hm : (s.adcCh ch).mark = none) (hl : ch < s.adc.ch.length) :
    ((s.markStep g ch).adcCh ch).mark = some { tick := s.now, groups := 1#4 <<< g } := by
  simp only [State.markStep, hon, hm, Bool.not_true, Bool.false_eq_true, if_false]
  exact congrArg AdcCh.mark (s.adcCh_modAdc_self ch _ hl)

theorem State.groupMembers_lt {g c : Nat} (h : c ∈ s.groupMembers g) : c < 18 := List.mem_range.1 (List.mem_filter.1 h).1

theorem State.groupMembers_nodup (g : Nat) : (s.groupMembers g).Nodup := List.nodup_range.filter _

/-- A trigger of a group marks the step sample of a running member that has no mark pending. -/
theorem State.mark_adcTrigger {g : Nat} (hmem : ch ∈ s.groupMembers g) (hon : s.adcOn ch = true)
    (hm : (s.adcCh ch).mark = none) (hl : ch < s.adc.ch.length) :
    ((s.adcTrigger g).adcCh ch).mark = some { tick := s.now, groups := 1#4 <<< g } := by
  have hch : ch < 18 := s.groupMembers_lt hmem
  obtain ⟨before, after, hsplit⟩ := List.append_of_mem hmem
  have hnodup := s.groupMembers_nodup g
  rw [hsplit, List.nodup_append, List.nodup_cons] at hnodup
  obtain ⟨-, ⟨hafter, -⟩, hapart⟩ := hnodup
  have hbefore : ch ∉ before := fun h => hapart ch h ch (List.mem_cons_self ..) rfl
  have hlt (c : Nat) (hc : c ∈ before ++ ch :: after) : c < 18 := s.groupMembers_lt (hsplit ▸ hc)
  have hreach : (((s.groupMembers g).foldl (fun s c => s.markStep g c) s).adcCh ch).mark =
      some { tick := s.now, groups := 1#4 <<< g } := by
    rw [hsplit, List.foldl_append, List.foldl_cons]
    have hpre := s.markSteps_sameChannel g hch (fun c hc => hlt c (List.mem_append_left _ hc)) hbefore
    have hpost := State.markSteps_sameChannel ((before.foldl (fun s c => s.markStep g c) s).markStep g ch) g hch
      (fun c hc => hlt c (List.mem_append_right _ (List.mem_cons_of_mem _ hc))) hafter
    rw [hpost.record, State.mark_markStep _ ch g (hpre.on.trans hon) (hpre.record ▸ hm) (hpre.length ▸ hl), hpre.now]
  unfold State.adcTrigger
  dsimp only
  split
  · exact hreach
  · exact hreach

/-- The row of a group's register stores the members and clears nothing. -/
theorem adcxTrig_row : ∀ n < 4, (regRow? (Reg.ADCX_TRIG n)).map (fun r => (r.rw, r.w1c)) = some (255, 0) := by decide

/-- The members that a write to a group's register names. -/
theorem State.bitOf_storeTrig {n : Nat} (hn : n < 4) (v : Word) {b : Nat} (hb : b < 8) :
    (s.plainStore (Reg.ADCX_TRIG n) v).bitOf (Reg.ADCX_TRIG n) b = wbit v b := by
  obtain ⟨r, hr, hmask⟩ := Option.map_eq_some_iff.1 (adcxTrig_row n hn)
  obtain ⟨hrw, hw1c⟩ := Prod.mk.inj hmask
  have hbit : ∀ b < 8, (255#32).getLsbD b = true := by decide
  rw [State.bitOf, s.reg_plainStore_self v hr, RegRow.written, hrw, hw1c]
  have h32 : b < 32 := Nat.lt_trans hb (by decide)
  simp only [wbit, BitVec.getLsbD_and, BitVec.getLsbD_or, BitVec.getLsbD_not, BitVec.getLsbD_zero, hbit b hb, h32, decide_true,
    Bool.not_true, Bool.and_false, Bool.false_and, Bool.false_or, Bool.not_false, Bool.and_true]

theorem State.mem_groupMembers_storeTrig {n : Nat} (hn : n < 4) {v : Word} (hc : ch < 8) (hv : wbit v ch = true) :
    ch ∈ (s.plainStore (Reg.ADCX_TRIG n) v).groupMembers n := by
  refine List.mem_filter.2 ⟨List.mem_range.2 (Nat.lt_trans hc (by decide)), ?_⟩
  rw [if_pos hc, s.bitOf_storeTrig hn v hc, hv]

theorem State.adcOn_storeTrig {n : Nat} (v : Word) (hc : ch < 8) :
    (s.plainStore (Reg.ADCX_TRIG n) v).adcOn ch = s.adcOn ch := by
  refine State.adcOn_congr (s.reg_plainStore_ne v ?_) (s.reg_plainStore_ne v ?_) (s.plainStore_pwr _ v)
  · simp only [adcCtrl, adcReg, adcPage, if_pos hc, Reg.ADCX_TRIG, Pg.ADCX]; omega
  · simp only [adcPage, if_pos hc, pgCtrl, Reg.ADCX_TRIG, Pg.ADCX]; omega

theorem State.adcOn_granted (w : Option Nat) : (s.granted w).adcOn ch = s.adcOn ch := by simp [State.adcOn]
theorem State.adcCh_granted (w : Option Nat) : (s.granted w).adcCh ch = s.adcCh ch := State.adcCh_congr (s.granted_adc w) ch

/-! ### A write of CH_CTRL (R116, R120) -/

theorem adcCtrl_of_lt {ch : Nat} (h : ch < 8) : adcCtrl ch = Reg.ADCX_CH_CTRL ch := by
  simp [adcCtrl, adcReg, adcPage, h, Pg.ADCX]
theorem adcCtrl_of_le {ch : Nat} (h : 8 ≤ ch) : adcCtrl ch = Reg.ADCI_CH_CTRL (ch - 8) := by
  simp [adcCtrl, adcReg, adcPage, Nat.not_lt.2 h, Pg.ADCI]
theorem adcCtrl_ne_pgSeq (ch : Nat) : adcCtrl ch ≠ pgSeq (adcPage ch) := by
  simp only [adcCtrl, adcReg, pgSeq]; omega

/-- A served write that clears no quarantine is the channel's own answer, accepted. -/
theorem State.write_adcCtrl {ch : Nat} (who : Who) (v : Word) (hc : ch < 18) (hs : s.serves (adcCtrl ch) = true)
    (hclear : (s.adcCtrlWrite ch v).2 = false) :
    s.writeNow who (adcCtrl ch) v = (s.adcCtrlWrite ch v).1.accepted (adcPage ch) := by
  by_cases h8 : ch < 8
  · rw [adcCtrl_of_lt h8] at hs ⊢
    rw [s.write_adcxCtrl who v h8 hs, hclear, adcPage, if_pos h8, if_neg Bool.false_ne_true]
  · have hsub : 8 + (ch - 8) = ch := by omega
    rw [adcCtrl_of_le (Nat.le_of_not_lt h8)] at hs ⊢
    rw [s.write_adciCtrl who v (by omega) hs, hsub, hclear, adcPage, if_neg h8, if_neg Bool.false_ne_true]

/-- EN of a channel (bit 0 of CH_CTRL) is in `t` as in `s`. -/
theorem State.Judged.en {s t : State} {ch : Nat} {w : Nat → Prop} (h : s.Judged ch w t) :
    t.bitOf (adcCtrl ch) 0 = s.bitOf (adcCtrl ch) 0 := h.ctrl 0 (by decide)

theorem State.reg_groupsReady (gs : BitVec 4) (a : Nat) : (s.groupsReady gs).reg a = s.reg a := by
  unfold State.groupsReady
  refine foldl_view (fun t => t.reg a) (fun t g => ?_) _ s
  split
  · exact t.reg_pulseIn ..
  · rfl

theorem State.reg_dropMark (a : Nat) : (s.dropMark ch).reg a = s.reg a := by
  unfold State.dropMark
  split
  · exact State.reg_groupsReady ..
  · rfl

theorem State.en_adcStop : (s.adcStop ch).bitOf (adcCtrl ch) 0 = s.bitOf (adcCtrl ch) 0 := by
  unfold State.adcStop
  dsimp only
  rw [State.bitOf_congr (State.reg_dropMark ..), State.bitOf_modAdc, State.bitOf_putBit, if_neg fun h => absurd h.2.1 (by decide)]
  exact State.bitOf_congr (s.reg_setReg_ne _ (adcCtrl_ne_adcStat ch)) 0

theorem State.en_adcStart : (s.adcStart ch).bitOf (adcCtrl ch) 0 = s.bitOf (adcCtrl ch) 0 := by
  have hstat (v : Word) : (s.setReg (adcStat ch) v).bitOf (adcCtrl ch) 0 = s.bitOf (adcCtrl ch) 0 :=
    State.bitOf_congr (s.reg_setReg_ne v (adcCtrl_ne_adcStat ch)) 0
  unfold State.adcStart
  dsimp only
  split
  · exact hstat _
  · exact (State.adcQuar_judged _ ch false (w := adcJudgeRegs ch) (.inr (.inl rfl))).en.trans (hstat _)

theorem State.en_adcQuar (held : Bool) : (s.adcQuar ch held).bitOf (adcCtrl ch) 0 = s.bitOf (adcCtrl ch) 0 :=
  (s.adcQuar_judged ch held (w := adcJudgeRegs ch) (.inr (.inl rfl))).en

theorem State.en_adcClear : (s.adcClear ch).bitOf (adcCtrl ch) 0 = s.bitOf (adcCtrl ch) 0 :=
  (s.adcClear_judged ch (w := adcJudgeRegs ch) (.inl rfl) (.inr (.inl rfl))).en

theorem State.en_adcSettled : (s.adcSettled ch).bitOf (adcCtrl ch) 0 = s.bitOf (adcCtrl ch) 0 :=
  (s.adcSettled_judged ch (w := adcJudgeRegs ch) (.inl rfl) (.inr (.inl rfl)) (.inr (.inr rfl))).en

/-- EN is what was written, whatever the write starts, stops or quarantines. -/
theorem State.en_adcCtrlWrite (v : Word) : (s.adcCtrlWrite ch v).1.bitOf (adcCtrl ch) 0 = wbit v 0 := by
  unfold State.adcCtrlWrite
  extract_lets a was settled old cosr ovrm w₁ w₂ new diff stored on q change clear cleared done
  have hnew : new.getLsbD 0 = wbit v 0 := by
    simp only [new, w₂, w₁, getLsbD_wput, testBit_wbits]
    simp [wbit]
  have hstored : stored.bitOf a 0 = wbit v 0 := by rw [← hnew, State.bitOf, State.reg_setReg_self]
  have hcleared : cleared.bitOf a 0 = stored.bitOf a 0 := by
    simp only [cleared]
    split
    · exact State.en_adcClear ..
    · rfl
  show done.bitOf a 0 = _
  rw [← hstored]
  simp only [done]
  split
  · exact stored.en_adcStop ch
  · split
    · split
      · exact (State.en_adcQuar _ ch true).trans (stored.en_adcStart ch)
      · exact stored.en_adcStart ch
    · split
      · exact stored.en_adcQuar ch true
      · split
        · exact (cleared.en_adcQuar ch false).trans hcleared
        · split
          · exact (cleared.en_adcSettled ch).trans hcleared
          · exact hcleared

/-! ### A write of ADCX_CLK_CFG (R116) -/

theorem clkCfg_ne_adcCtrl (n : Nat) : Reg.ADCX_CLK_CFG ≠ adcCtrl n := by
  simp only [adcCtrl, adcReg, adcPage, Reg.ADCX_CLK_CFG, Pg.ADCX, Pg.ADCI]
  split <;> omega

/-- The word that a write of `v` leaves in ADCX_CLK_CFG where `old` stood. -/
def clkCfgWord (old v : Word) : Word :=
  wput (wput (wput (wput (wput (wput old 0 2 (wbits v 0 2)) 4 2 (wbits v 4 2)) 8 1 (wbits v 8 1)) 9 1 (wbits v 9 1))
    16 5 (wbits v 16 5)) 24 5 (wbits v 24 5)

/-- The quarantine that a changed clock brings on leaves the clock register alone. -/
theorem State.reg_clkCfgWrite (v : Word) : (s.clkCfgWrite v).reg Reg.ADCX_CLK_CFG = clkCfgWord (s.reg Reg.ADCX_CLK_CFG) v := by
  unfold State.clkCfgWrite
  extract_lets a old new diff upTo adc stored chs
  have hstored : stored.reg Reg.ADCX_CLK_CFG = clkCfgWord (s.reg Reg.ADCX_CLK_CFG) v := State.reg_setReg_self ..
  rw [← hstored]
  exact (stored.keeps_adcRequar chs).1 _ fun ⟨n, _, h⟩ => clkCfg_ne_adcCtrl n h

theorem wbits_clkCfgWord_ck0 (old v : Word) : wbits (clkCfgWord old v) 0 2 = wbits v 0 2 := by
  rw [clkCfgWord, wbits_wput_apart _ 24 5 _ 0 2 (by decide), wbits_wput_apart _ 16 5 _ 0 2 (by decide),
    wbits_wput_apart _ 9 1 _ 0 2 (by decide), wbits_wput_apart _ 8 1 _ 0 2 (by decide), wbits_wput_apart _ 4 2 _ 0 2 (by decide),
    wbits_wput_self _ 0 2 _ (by decide), Nat.mod_eq_of_lt (wbits_lt v 0 2)]

theorem wbits_clkCfgWord_ck1 (old v : Word) : wbits (clkCfgWord old v) 4 2 = wbits v 4 2 := by
  rw [clkCfgWord, wbits_wput_apart _ 24 5 _ 4 2 (by decide), wbits_wput_apart _ 16 5 _ 4 2 (by decide),
    wbits_wput_apart _ 9 1 _ 4 2 (by decide), wbits_wput_apart _ 8 1 _ 4 2 (by decide),
    wbits_wput_self _ 4 2 _ (by decide), Nat.mod_eq_of_lt (wbits_lt v 4 2)]

end

/-- Settles O27: each write is its register's own operation, in the tick of its grant; a trigger reaches each member once. -/
theorem converterWrites : Obligations.ConverterWrites := by
  intro s who val
  have hsw : wbit (wputBit val 31 true) 31 = true := wbit_wputBit_self val 31 true (by decide)
  refine ⟨?_, ?_, ?_, ?_⟩
  · intro gr hs g
    have hgs : g.serves (Reg.ADCX_TRIG gr) = true := (s.granted_serves _ _).trans hs
    have hwrite : s.accessWrite who (Reg.ADCX_TRIG gr) (wputBit val 31 true) =
        ((g.plainStore (Reg.ADCX_TRIG gr) (wputBit val 31 true)).adcTrigger gr).accepted Pg.ADCX :=
      g.write_adcxTrig who _ gr.isLt hgs hsw
    refine ⟨_, exec_adcSwtrig who false gr val s, hwrite, congrArg State.lastStatus hwrite, ?_⟩
    intro ch hch hlen hv hon hmark
    have hv' : wbit (wputBit val 31 true) ch = true := by rw [wbit_wputBit_ne val true (by omega), hv]
    have hon' : (g.plainStore (Reg.ADCX_TRIG gr) (wputBit val 31 true)).adcOn ch = true := by
      rw [State.adcOn_storeTrig _ ch _ hch, State.adcOn_granted, hon]
    have hrec : (g.plainStore (Reg.ADCX_TRIG gr) (wputBit val 31 true)).adcCh ch = s.adcCh ch :=
      (State.adcCh_congr (g.plainStore_adc _ _) ch).trans (s.adcCh_granted ch _)
    have hlen' : ch < (g.plainStore (Reg.ADCX_TRIG gr) (wputBit val 31 true)).adc.ch.length := by
      rw [g.plainStore_adc, s.granted_adc, hlen]; omega
    have hmarked := State.mark_adcTrigger _ ch (g.mem_groupMembers_storeTrig ch gr.isLt hch hv') hon' (hrec ▸ hmark) hlen'
    rw [g.plainStore_now] at hmarked
    exact (congrArg (fun u => (u.adcCh ch).mark) hwrite).trans hmarked
  · intro gr hs g
    have hgs : g.serves (Reg.ADCI_TRIG gr) = true := (s.granted_serves _ _).trans hs
    have hwrite : s.accessWrite who (Reg.ADCI_TRIG gr) (wputBit val 31 true) =
        ((g.plainStore (Reg.ADCI_TRIG gr) (wputBit val 31 true)).adcTrigger gr).accepted Pg.ADCI :=
      g.write_adciTrig who _ gr.isLt hgs hsw
    exact ⟨_, exec_adcSwtrig who true gr val s, hwrite, congrArg State.lastStatus hwrite⟩
  · intro ch hs g hclear
    have hgs : g.serves (adcCtrl ch) = true := (s.granted_serves _ _).trans hs
    have hwrite : s.accessWrite who (adcCtrl ch) val = (g.adcCtrlWrite ch val).1.accepted (adcPage ch) :=
      g.write_adcCtrl who val ch.isLt hgs hclear
    refine ⟨_, by rw [exec_adcChCtrlWrite, hwrite], rfl, ?_, rfl⟩
    rw [State.bitOf_accepted _ 0 (adcCtrl_ne_pgSeq ch), g.en_adcCtrlWrite ch val]
  · intro hs g
    have hgs : g.serves Reg.ADCX_CLK_CFG = true := (s.granted_serves _ _).trans hs
    have hwrite : s.accessWrite who Reg.ADCX_CLK_CFG val = (g.clkCfgWrite val).accepted Pg.ADCX := g.write_clkCfg who val hgs
    have hreg : ((g.clkCfgWrite val).accepted Pg.ADCX).reg Reg.ADCX_CLK_CFG = clkCfgWord (g.reg Reg.ADCX_CLK_CFG) val :=
      (State.reg_accepted_ne _ (by decide)).trans (g.reg_clkCfgWrite val)
    refine ⟨_, by rw [exec_adcxClkCfgWrite, hwrite], rfl, ?_, ?_, rfl⟩
    · rw [State.get, hreg, wbits_clkCfgWord_ck0]
    · rw [State.get, hreg, wbits_clkCfgWord_ck1]

end Sys2Proof.Machine
end

section
/-! Power-flow modes and trackers (spec/08, R170 to R172, R182, R187 to R189): what a request does to MODE's state and registers, the
judgement of a tracker's period, and the command that the sweep timer enters. -/

namespace Sys2Proof.Machine

section

variable (s : State)

/-! ### Frames -/

theorem State.Keeps.put {w : Nat → Prop} {f : Field} (v : Nat) (h : w f.addr) : s.Keeps (s.put f v) w := .setReg s _ h

theorem State.Keeps.putFlag {w : Nat → Prop} {f : Field} (v : Bool) (h : w f.addr) : s.Keeps (s.putFlag f v) w := .put s _ h

theorem State.keeps_granted (a : Option Nat) (w : Nat → Prop) : s.Keeps (s.granted a) w :=
  .of_eq (s.granted_regs a) (s.granted_sram a) (s.granted_nvm a)

theorem State.keeps_accepted (p : Nat) {w : Nat → Prop} (h : w (pgSeq p)) : s.Keeps (s.accepted p) w :=
  ⟨fun _ ha => s.reg_accepted_ne fun e => ha (e ▸ h), s.accepted_sram p, s.accepted_nvm p⟩

/-! ### A request (R172, R182) -/

/-- The registers of a request that is stored: REQ, and AUTO with it. -/
def State.storeReq (r : Nat) : State := (s.put F.MODE_REQ_REQ r).putFlag F.MODE_STAT_AUTO (decide (r = 3))

@[simp] theorem State.storeReq_mode (r : Nat) : (s.storeReq r).mode = s.mode := rfl
@[simp] theorem State.storeReq_gd (r : Nat) : (s.storeReq r).gd = s.gd := rfl

theorem State.reg_storeReq_ne {r a : Nat} (h1 : a ≠ Reg.MODE_REQ) (h2 : a ≠ Reg.MODE_STAT) : (s.storeReq r).reg a = s.reg a :=
  (State.reg_putFlag_ne _ _ h2).trans (s.reg_put_ne r h1)

theorem State.keeps_storeReq (r : Nat) : s.Keeps (s.storeReq r) (fun a => a = Reg.MODE_REQ ∨ a = Reg.MODE_STAT) :=
  .trans (.put s r (.inl rfl)) (.putFlag _ _ (.inr rfl))

theorem State.get_storeReq_req (r : Nat) : (s.storeReq r).get F.MODE_REQ_REQ = r % 4 :=
  (State.get_put_ne _ _ (.inl (by decide))).trans (s.get_put_self _ r (by decide))

theorem State.flag_storeReq_auto (r : Nat) : (s.storeReq r).flag F.MODE_STAT_AUTO = decide (r = 3) :=
  State.flag_putFlag_self _ _ _ (by decide) (by decide)

theorem State.get_storeReq_active (r : Nat) : (s.storeReq r).get F.MODE_STAT_ACTIVE = s.get F.MODE_STAT_ACTIVE :=
  (State.get_put_ne _ _ (.inr (.inl (by decide)))).trans (s.get_put_ne r (.inl (by decide)))

theorem State.live_storeReq (r : Nat) : (s.storeReq r).live Pg.MODE = s.live Pg.MODE :=
  State.live_congr (s.reg_storeReq_ne (by decide) (by decide)) rfl rfl rfl

/-- The mode a request stands for turns on LOCKED alone. -/
theorem State.reqMode_congr {s t : State} (h : t.reg Reg.CPS_STAT = s.reg Reg.CPS_STAT) (r : Nat) : t.reqMode r = s.reqMode r := by
  simp only [State.reqMode, State.flag_congr (f := F.CPS_STAT_LOCKED) h]

theorem State.modeRequest_held {r : Nat} (hb : s.mode.blend.isSome = true) :
    (s.modeRequest r).1 = { s with mode := { s.mode with ask := some (.request r), askRefused := false } } := by
  rw [State.modeRequest, if_pos hb]

theorem State.modeRequest_refused {r : Nat} (hb : s.mode.blend = none) (hr : s.reqRefused r = true) :
    (s.modeRequest r).1 = s.putFlag F.MODE_STAT_HOREF true := by
  rw [State.modeRequest, hb, if_neg (by decide), if_pos hr]

/-- What MODE has noted of a stored request: nothing where no update of a running bridge is to act on it, or where its mode is
ACTIVE already. -/
def State.noted (r : Nat) : ModeSt :=
  if !(s.gd.armed && s.live Pg.MODE) || s.mode.start then { s.mode with askRefused := false }
  else if s.modeActive = s.reqMode r then { s.mode with ask := none, askRefused := false }
  else { s.mode with ask := some (.request r), askRefused := false }

theorem State.noted_unarmed {r : Nat} (h : s.gd.armed = false) : s.noted r = { s.mode with askRefused := false } := by
  simp [State.noted, h]

theorem State.noted_asked {r : Nat} (ha : s.gd.armed = true) (hl : s.live Pg.MODE = true) (hs : s.mode.start = false)
    (hm : s.modeActive ≠ s.reqMode r) : s.noted r = { s.mode with ask := some (.request r), askRefused := false } := by
  simp [State.noted, ha, hl, hs, hm]

theorem State.modeRequest_stored {r : Nat} (hb : s.mode.blend = none) (hr : s.reqRefused r = false) :
    (s.modeRequest r).1 = { s.storeReq r with mode := s.noted r } := by
  have hactive : (s.storeReq r).modeActive = s.modeActive := s.get_storeReq_active r
  have hreq : (s.storeReq r).reqMode r = s.reqMode r := State.reqMode_congr (s.reg_storeReq_ne (by decide) (by decide)) r
  rw [State.modeRequest, hb, if_neg (by decide), hr, if_neg Bool.false_ne_true, State.noted]
  change Prod.fst (if !((s.storeReq r).gd.armed && (s.storeReq r).live Pg.MODE) || (s.storeReq r).mode.start then _
    else if (s.storeReq r).modeActive = (s.storeReq r).reqMode r then _ else _) = _
  rw [hactive, hreq, s.live_storeReq, s.storeReq_gd, s.storeReq_mode]
  split
  · rfl
  · split <;> rfl

/-- Of the registers, a request writes REQ and MODE's flags. -/
theorem State.keeps_modeRequest (r : Nat) :
    s.Keeps (s.modeRequest r).1 (fun a => a = Reg.MODE_REQ ∨ a = Reg.MODE_STAT) := by
  cases hb : s.mode.blend with
  | some b => rw [s.modeRequest_held (by rw [hb]; rfl)]; exact .of_eq rfl rfl rfl
  | none =>
    cases hr : s.reqRefused r with
    | true => rw [s.modeRequest_refused hb hr]; exact .putFlag s true (.inr rfl)
    | false => rw [s.modeRequest_stored hb hr]; exact (s.keeps_storeReq r).trans (.of_eq rfl rfl rfl)

/-! ### The update's end (R170) -/

theorem State.modeUpdateEnd_eq {refs : List F32} (h : s.mode.next = some refs) :
    s.modeUpdateEnd = { s.elapseTo s.mode.nextAt with mode := { s.mode with refs := refs, next := none } } := by
  rw [State.modeUpdateEnd, h]
  simp only [State.elapseTo_mode]

/-! ### A tracker's period (R187, R188) -/

/-- A value that is raised to `y` where it lies below it does not lie below it. -/
theorem le_raised (x y : Rat) : y ≤ if x < y then y else x := by
  split
  · exact Rat.le_refl
  · next h => exact Rat.not_lt.1 h

theorem State.floorV_le_clampVref (voc x : Rat) : s.floorV ≤ s.clampVref voc x := le_raised _ _

section

variable (t : Tracker) (v i : Rat)

@[simp] theorem State.trackerStep_due : (s.trackerStep t v i).due = none := by
  unfold State.trackerStep; dsimp only; (repeat' split) <;> rfl

@[simp] theorem State.trackerStep_prev : (s.trackerStep t v i).prev = some (v, i) := by
  unfold State.trackerStep; dsimp only; (repeat' split) <;> rfl

@[simp] theorem State.trackerStep_curtail : (s.trackerStep t v i).curtail = t.curtail := by
  unfold State.trackerStep; dsimp only; (repeat' split) <;> rfl

theorem State.vref_le_trackerStep (h : t.curtail = true) : t.vref ≤ (s.trackerStep t v i).vref := by
  rw [State.trackerStep, if_pos h]
  exact le_raised _ _

theorem State.floorV_le_trackerStep (h : t.curtail = false) : s.floorV ≤ (s.trackerStep t v i).vref := by
  rw [State.trackerStep, h, if_neg Bool.false_ne_true]
  cases t.prev <;> exact s.floorV_le_clampVref _ _

end

theorem State.keeps_showTracker (k : Nat) :
    s.Keeps (s.showTracker k) (fun a => a = Reg.MODE_STAT ∨ a = Reg.MODE_MPPT_STAT k) :=
  .trans (.put s _ (.inl (by split <;> rfl))) (.setReg _ _ (.inr rfl))

theorem State.trackerPeriod_of_due {k : Nat} {v i : Rat} (h : (nth Tracker.reset s.mode.trackers k).due = some (v, i)) :
    s.trackerPeriod k = (s.modTracker k (fun t => s.trackerStep t v i)).showTracker k := by
  rw [State.trackerPeriod, h]

theorem State.trackerPeriod_of_none {k : Nat} (h : (nth Tracker.reset s.mode.trackers k).due = none) : s.trackerPeriod k = s := by
  rw [State.trackerPeriod, h]

/-- A judgement replaces its own tracker. -/
theorem State.trackers_trackerPeriod {k : Nat} {v i : Rat} (h : (nth Tracker.reset s.mode.trackers k).due = some (v, i)) :
    (s.trackerPeriod k).mode.trackers = modAt k (fun t => s.trackerStep t v i) s.mode.trackers := by
  rw [s.trackerPeriod_of_due h]; rfl

theorem State.nth_trackerPeriod_ne {k j : Nat} (hj : j ≠ k) :
    nth Tracker.reset (s.trackerPeriod k).mode.trackers j = nth Tracker.reset s.mode.trackers j := by
  cases hd : (nth Tracker.reset s.mode.trackers k).due with
  | none => rw [s.trackerPeriod_of_none hd]
  | some x => rw [s.trackers_trackerPeriod hd, modAt_nth_ne _ _ _ hj]

theorem State.keeps_trackerPeriod (k : Nat) :
    s.Keeps (s.trackerPeriod k) (fun a => a = Reg.MODE_STAT ∨ a = Reg.MODE_MPPT_STAT k) := by
  cases hd : (nth Tracker.reset s.mode.trackers k).due with
  | none => rw [s.trackerPeriod_of_none hd]; exact .refl s _
  | some x => rw [s.trackerPeriod_of_due hd]; exact .trans (.of_eq rfl rfl rfl) (State.keeps_showTracker _ k)

/-- Where one tracker's period alone has ended, its judgement is all that happens. -/
theorem State.mpptPeriodEnd_eq {k : Nat} (hk : k < 2) (h : (nth Tracker.reset s.mode.trackers (1 - k)).due = none) :
    s.mpptPeriodEnd = s.trackerPeriod k := by
  obtain rfl | rfl : k = 0 ∨ k = 1 := by omega
  · exact State.trackerPeriod_of_none _ ((congrArg Tracker.due (s.nth_trackerPeriod_ne (by decide))).trans h)
  · rw [State.mpptPeriodEnd, s.trackerPeriod_of_none h]

/-! ### The sweep timer (R189, R415) -/

/-- The sweep of all strings as the timer enters it, in class 2. -/
def sweepCmd : DevCmd := { cls := 2, op := 0x22, args := [3#32], ops := [] }

theorem State.sweepTimer_busy {t : Nat} (hl : s.live Pg.MODE = true) (hd : s.sweepDue = some t)
    (hb : s.ctx.flight.any (fun c => c.op = 0x22) = true) : s.sweepTimer = s.elapseTo t := by
  simp only [State.sweepTimer, hl, hd, Bool.not_true, Bool.false_eq_true, if_false, State.elapseTo_ctx, hb, if_true]

theorem State.devFlight_elapseTo (t : Nat) : (s.elapseTo t).devFlight = s.devFlight := by
  simp only [State.devFlight, State.ctxFlight, State.elapseTo_ctx]

theorem State.sweepTimer_enters {t : Nat} (hl : s.live Pg.MODE = true) (hd : s.sweepDue = some t)
    (hb : s.ctx.flight.any (fun c => c.op = 0x22) = false) (h8 : s.devFlight < 8) :
    s.sweepTimer = (s.elapseTo t).devEnterNow sweepCmd := by
  simp only [State.sweepTimer, hl, hd, Bool.not_true, Bool.false_eq_true, if_false, State.elapseTo_ctx, hb]
  rw [State.devEnter, if_pos (by rw [s.devFlight_elapseTo]; exact h8), sweepCmd]

/-- A device command that enters joins the end of the flight, queued. -/
theorem State.flight_devEnterNow (d : DevCmd) : ∃ c : Cmd, (s.devEnterNow d).ctx.flight = s.ctx.flight ++ [c] ∧
    c.op = d.op ∧ c.cls = d.cls ∧ c.args = d.args ∧ c.ctx = devCtx ∧ c.st = .queued :=
  ⟨_, rfl, rfl, rfl, rfl, rfl, rfl⟩

end

/-- Settles O36: a request is MODE's own operation in the tick of its grant; the judgement of a period and the entry of a sweep
each change one thing. -/
theorem modeAndTrackers : Obligations.ModeAndTrackers := by
  intro s
  refine ⟨?_, ?_, ?_, ?_⟩
  · intro who val hs g
    have hwrite : s.accessWrite who Reg.MODE_REQ val = ((g.modeRequest (wbits val 0 2)).1).accepted Pg.MODE :=
      g.write_modeReq who val ((s.granted_serves _ _).trans hs)
    have hmode : g.mode = s.mode := s.granted_mode _
    have hgd : g.gd = s.gd := s.granted_gd _
    refine ⟨((g.modeRequest (wbits val 0 2)).1).accepted Pg.MODE, by rw [exec_modeReqWrite, hwrite], rfl, ?_, ?_, ?_, ?_⟩
    · intro hb
      rw [g.modeRequest_held (hmode ▸ hb), ← hmode]
      exact ⟨rfl, (State.reg_accepted_ne _ (by decide)).trans (s.granted_reg (some Reg.MODE_REQ) _)⟩
    · intro hb hr
      rw [g.modeRequest_refused (hmode ▸ hb) hr]
      refine ⟨?_, ?_, hmode⟩
      · rw [State.flag_accepted _ (by decide), State.flag_putFlag_self _ _ _ (by decide) (by decide)]
      · rw [State.reg_accepted_ne _ (by decide), State.reg_putFlag_ne _ _ (by decide), s.granted_reg]
    · intro hb hr
      rw [g.modeRequest_stored (hmode ▸ hb) hr]
      refine ⟨?_, ?_, ?_, ?_, ?_⟩
      · exact (State.get_accepted _ (by decide)).trans
          ((g.get_storeReq_req _).trans (Nat.mod_eq_of_lt (wbits_lt val 0 2)))
      · exact (State.flag_accepted _ (by decide)).trans (g.flag_storeReq_auto _)
      · exact (State.get_accepted _ (by decide)).trans ((g.get_storeReq_active _).trans (s.granted_get _ _))
      · intro ha
        exact (g.noted_unarmed (hgd ▸ ha)).trans (by rw [hmode])
      · intro ha hl hst hne
        have hactive : g.modeActive = s.modeActive := s.granted_get _ _
        have hreq : g.reqMode (wbits val 0 2) = s.reqMode (wbits val 0 2) := State.reqMode_congr (s.granted_reg _ _) _
        exact congrArg ModeSt.ask (g.noted_asked (hgd ▸ ha) ((s.granted_live _ _).trans hl) (hmode ▸ hst)
          (by rw [hactive, hreq]; exact hne))
    · exact (s.keeps_granted _ _).trans <| ((g.keeps_modeRequest _).mono fun a ha => ha.imp_right .inl).trans <|
        State.keeps_accepted _ _ (.inr (.inr rfl))
  · intro refs hn
    refine ⟨_, exec_modeUpdateEnd s, ?_⟩
    rw [s.modeUpdateEnd_eq hn]
    exact ⟨rfl, s.elapseTo_now_max _, (s.keeps_elapseTo s.mode.nextAt _).trans (.of_eq rfl rfl rfl)⟩
  · intro k v i hk hlen hdue hother t
    refine ⟨_, exec_mpptPeriodEnd s, ?_⟩
    rw [s.mpptPeriodEnd_eq hk hother, s.nth_trackerPeriod_ne (by omega : 1 - k ≠ k), s.trackers_trackerPeriod hdue,
      modAt_nth _ _ _ _ (by omega)]
    exact ⟨s.trackerStep_due t v i, s.trackerStep_prev t v i, s.trackerStep_curtail t v i, s.vref_le_trackerStep t v i,
      s.floorV_le_trackerStep t v i, rfl, s.keeps_trackerPeriod k⟩
  · intro t hl hd
    refine ⟨fun hb => ?_, fun hb h8 => ⟨_, exec_mpptSweepTimer s, ?_⟩⟩
    · rw [exec_mpptSweepTimer, s.sweepTimer_busy hl hd hb]
    · rw [s.sweepTimer_enters hl hd hb h8]
      obtain ⟨c, hflight, hc⟩ := (s.elapseTo t).flight_devEnterNow sweepCmd
      rw [State.elapseTo_ctx] at hflight
      exact ⟨(s.keeps_elapseTo t _).trans (.of_eq rfl rfl rfl), s.elapseTo_now_max t, c, hflight, hc⟩

end Sys2Proof.Machine
end
